-- ==== Sys2Proof/Word.lean ====
section
/-! DEFINITION. The chip's word and byte (R2, R5). -/

namespace Sys2Proof

/-- A register is 32 bits wide (R5). -/
abbrev Word := BitVec 32

/-- A byte of a packet, header or memory (R2). -/
abbrev Byte := BitVec 8

end Sys2Proof
end

