-- ==== Sys2Proof/Syntax.lean ====
section
/-! DEFINITION. The commands the block takes from outside: one constructor per row of the table of operations and
events. An opcode row carries its command packet (R83); a register row the access; an event row what the environment
decides: which unit it concerns and the data that arrive with it. Log entry 6 says what such an operand may be. -/

namespace Sys2Proof

/-- The route a command packet arrives by (R86): a ring, a towpath slot, or an Ethernet port. -/
inductive Route where
  | keeper
  | crew
  | towpath (slot : Fin 8)
  | ethernet (port : Fin 2)
deriving DecidableEq, Repr

/-- A command packet as received (R83): the header fields after OPCODE, and the parameter bytes. -/
structure Packet where
  route : Route
  tag : BitVec 16
  length : BitVec 16
  flags : BitVec 16
  session : BitVec 32
  check : BitVec 32
  params : List Byte
deriving DecidableEq, Repr

/-- Who makes a register access: BAR0, BAR2, the control firmware (R393), a barge channel (R398), or the debug port (R467,
R472). -/
inductive By where
  | keeper
  | crew
  | firmware
  | barge (ch : Fin 32)
  | debug
deriving DecidableEq, Repr

/-- What an encoder port receives (R242, R245): a pair of ADC samples of an analog port, two's complement, or the levels of A and B of a
digital one from this cycle on. -/
inductive EncInput where
  | sample (sin cos : BitVec 14)
  | levels (a b : Bool)
deriving DecidableEq, Repr

/-- Pulses that end (R238, R257, R303): of a compare unit, of a sensor's strobe, or of LINE_SYNC_OUT. -/
inductive PulseKind where
  | compare (unit : Fin 16)
  | strobe (sensor : Fin 16)
  | lineSync
deriving DecidableEq, Repr

/-- What a lane's receiver finds (R265 to R267, R279): sync headers in their order, the blocks by which the clocks have moved its elastic
buffer, a FILL that arrives, or per marker that the partner lane delivered whether this lane did so with a good CRC8. -/
inductive LaneNews where
  | headers (l : List (BitVec 2))
  | elastic (blocks : Int)
  | fill
  | markers (good : List Bool)
deriving DecidableEq, Repr

/-- A copy of an upstream message (R278, R287): whether it came on lane 2n + 1, the payload of its MSG block, and its data blocks. -/
structure MsgCopy where
  odd : Bool
  head : BitVec 64
  blocks : List (BitVec 64)
deriving DecidableEq, Repr

/-- How a command that completes outside the chip's own rules ended (R101). -/
inductive Outcome where
  | ok
  | fault
deriving DecidableEq, Repr


/-- The bar configuration record as boot step 9 reads it from flash (R68): the enabled channels, the configured sensors,
whether an inspection station is configured, the words of the "load" registers, the digest of the integrator's debug
key, and the record's bytes as measured (R76). -/
structure BarRecord where
  channels : BitVec 8
  sensors : BitVec 16
  inspection : Bool
  loads : List (Nat × Word)
  debugKey : List Byte
  safetyKey : List Byte
  bytes : List Byte
deriving DecidableEq, Repr

/-- What a boot step found or read (R68, R76): the image's manifest and control firmware (step 6), the bar record, none
where its check failed (step 9), the spare SRAM columns left and in all (step 4), the spare rows left (step 12), the
stack's temperature in °C as two's complement (step 10), and a failure code. -/
structure BootFound where
  manifest : List Byte := []
  firmware : List Byte := []
  record : Option BarRecord := none
  spares : BitVec 8 := 0
  sramLeft : BitVec 16 := 0
  sramTotal : BitVec 16 := 0
  stack : BitVec 8 := 0
  mirrorFails : Bool := false
  detail : BitVec 4 := 0
deriving DecidableEq, Repr

/-- How a read of the store ended (R176, R142): clean, with a corrected error, with an uncorrectable error, each at a
store byte address, or at a descriptor whose DCRC fails. -/
inductive MemRead where
  | ok
  | corrected (addr : BitVec 36)
  | uncorrectable (addr : BitVec 36)
  | badDescriptor
deriving DecidableEq, Repr

/-- Blocks with shadow sets (R34 to R41, R192, R225, R321, R382, R407). -/
inductive ShdBlk where
  | brg
  | arb
  | asm
  | fir
  | cam
deriving DecidableEq, Repr

/-- What an Announce message names, in the order in which the default best-master algorithm compares it (R411). -/
structure AnnounceSet where
  priority1 : BitVec 8
  clockClass : BitVec 8
  accuracy : BitVec 8
  variance : BitVec 16
  priority2 : BitVec 8
  identity : BitVec 64
  stepsRemoved : BitVec 16
  sender : BitVec 80
deriving DecidableEq, Repr

/-- The head of a received PTP message (R409, R411): VLAN tag, transport (0 Ethernet, 1 UDP over IPv4, 2 UDP over IPv6), domain,
sourcePortIdentity and sequenceId. -/
structure PtpHead where
  vlan : Option (BitVec 12)
  transport : Fin 3
  domain : BitVec 8
  sender : BitVec 80
  seq : BitVec 16
deriving DecidableEq, Repr

/-- What a transparent clock tells apart (R427): a Sync and whether a Follow_Up comes after it, a Follow_Up, another event message
and whether it is of the peer-delay mechanism, and a general message likewise. -/
inductive PtpKind where
  | sync (twoStep : Bool)
  | followUp
  | event (peer : Bool)
  | general (peer : Bool)
deriving DecidableEq, Repr

/-- How the ECC of a packet header checked (R297). -/
inductive EccResult where
  | good
  | corrected
  | failed
deriving DecidableEq, Repr

/-- One result of a CAMERA or ELECTRICAL run (R333, R343, R344), whose measurements the spec gives no formula. -/
inductive CalItem where
  /-- Bytes of a CAL table from an offset. -/
  | table (id : BitVec 16) (offset : Nat) (bytes : List Byte)
  | black (sensor : Fin 16) (value : BitVec 12)
  /-- The gain of an ADC (R343); the spec names the ADCs and gives them no register. -/
  | gain (adc : Nat) (value : Word)
deriving DecidableEq, Repr

/-- The commands of the block: one constructor per row of the table of operations and events. -/
inductive Instr where
  -- Opcodes of chapter 3's table (R105): each carries its command packet.
  | queryState (p : Packet)
  | getEvents (p : Packet)
  | setMode (p : Packet)
  | clearSafe (p : Packet)
  | resetCmd (p : Packet)
  | islandReset (p : Packet)
  | bootJournalRead (p : Packet)
  | bootJournalClear (p : Packet)
  | netKeySet (p : Packet)
  | startJob (p : Packet)
  | stopPrint (p : Packet)
  | jobDefine (p : Packet)
  | pageQueue (p : Packet)
  | pageReprint (p : Packet)
  | jobCancel (p : Packet)
  | jobStatus (p : Packet)
  | nozzleRead (p : Packet)
  | nozzleWrite (p : Packet)
  | nozzleSetState (p : Packet)
  | nozzleSummary (p : Packet)
  | calStart (p : Packet)
  | calAbort (p : Packet)
  | calTableWrite (p : Packet)
  | calTableRead (p : Packet)
  | calReferenceSet (p : Packet)
  | temperPolicy (p : Packet)
  | camDiscover (p : Packet)
  | camSettings (p : Packet)
  | insDefectsRead (p : Packet)
  | insConfig (p : Packet)
  | pwrStatus (p : Packet)
  | railSetpoint (p : Packet)
  | supplyBudget (p : Packet)
  | wearReport (p : Packet)
  | timeStatus (p : Packet)
  | timeAcceptJump (p : Packet)
  | timeConfig (p : Packet)
  | fireInhibit (p : Packet)
  | safetyStatus (p : Packet)
  | proofTest (p : Packet)
  | safetyParamLoad (p : Packet)
  | linkStatus (p : Packet)
  | laneRetrain (p : Packet)
  | prbsControl (p : Packet)
  | linkErrInject (p : Packet)
  | getAttestation (p : Packet)
  | getCertificate (p : Packet)
  | extendMeasurement (p : Packet)
  | ackMeasurement (p : Packet)
  | fwLoadBegin (p : Packet)
  | fwLoadData (p : Packet)
  | fwLoadEnd (p : Packet)
  /-- R101: the pending command of a ring with this TAG and SESSION ends; `outcome` and `data` where the end lies outside
  the chip's rules (a flash write, a proof test). -/
  | commandComplete (crew : Bool) (tag : BitVec 16) (session : BitVec 32) (outcome : Outcome) (data : List Byte)
  /-- R88: a write of a ring's SQ_TAIL; `slots` are the packets the host placed in the newly submitted slots. -/
  | sqTailDoorbell (crew : Bool) (tail : Word) (slots : List (List Byte))
  /-- R89: a write of a ring's CQ_HEAD. -/
  | cqHeadWrite (crew : Bool) (head : Word)
  /-- R111: a ring's fetch or reply write fails on PCIe. -/
  | ringFetchError (crew : Bool)
  /-- R92: a write of CMD_TP_DB_s; the packet stands in the slot. -/
  | towpathDoorbell (slot : Fin 8) (value : Word)
  /-- R95: a UDP datagram received on a port, with its source for the reply. -/
  | netDatagram (port : Fin 2) (vlan : Option (BitVec 12)) (udpPort : BitVec 16) (fragmented : Bool) (source : BitVec 128) (sourcePort : BitVec 16)
      (payload : List Byte)
  /-- R59: supply within limits and PORST_N released. -/
  | porstRelease
  /-- R64: PORST_N low for at least 10 µs. -/
  | porstAssert
  /-- R64: loss of supply. -/
  | supplyLoss
  /-- R68: the running boot step ends after `ms`, with what it read or found. -/
  | bootStepDone (ok : Bool) (ms : Nat) (found : BootFound)
  /-- R68: the running boot step exceeds its limit, after `ms`. -/
  | bootStepTimeout (ms : Nat)
  /-- R72: 10 ms after a mandatory step failed. -/
  | bootRestart
  /-- R64, R65: a write of SYS_RESET with KIND 1 and this KEY. -/
  | sysResetWarm (by_ : By) (key : BitVec 16)
  /-- R64, R65: a write of SYS_RESET with KIND 2 and this KEY. -/
  | sysResetCold (by_ : By) (key : BitVec 16)
  /-- R60: the mode change in progress completes. -/
  | modeChangeDone
  /-- R61: the warm-up timeout expires. -/
  | warmTimeout
  /-- R434: the cores of a CTL pair disagree. -/
  | lockstepMismatch
  /-- R27: an island's clock stops or deviates; row of R25. -/
  | clockFault (island : Fin 12)
  /-- R64, R66: PERST_N, hot reset, link down, FLR or D3hot; `down` where the link goes down with it. -/
  | hostLinkReset (down : Bool)
  /-- R458: the link trains, at a rate code and width. -/
  | linkTrained (speed : Fin 6) (width : BitVec 5)
  /-- R353: a power-good input falls for more than 10 µs. -/
  | powerGoodLoss (group : Fin 6)
  /-- R128: the parser of a queue takes the header at the head of its stream. -/
  | tileArrival (queue : Fin 8)
  /-- R132: the payload of a queue's landing tile has arrived and stands in the store. -/
  | tileLanded (queue : Fin 8)
  /-- R132: verification of a DEFLATE tile ends. -/
  | verifyDone (page : Word) (ch : Fin 8) (col : Fin 13) (band : BitVec 12) (mem : MemRead)
  | landingResume (queue : Fin 8)
  | compressStart (unit : Fin 32)
  /-- R139: 64 KiB more of input, or the tile's end, is reached. -/
  | compressTest (unit : Fin 32) (mem : MemRead)
  | compressDone (unit : Fin 32)
  | weirWaitTimeout (unit : Fin 32)
  | weirResume (unit : Fin 32)
  | queueEnable (by_ : By) (queue : Fin 8)
  | queueDisable (by_ : By) (queue : Fin 8)
  /-- R144: a write of ING_HCJ_TAIL; the descriptors the host placed in the newly offered entries. -/
  | hcjDoorbell (by_ : By) (tail : Word) (descs : List (List Byte))
  /-- R145: the oldest running host job ends; its input as read, or a PCIe error. -/
  | hcjDone (input : List Byte) (hostErr : Bool)
  | hcjDisable (by_ : By)
  /-- R162: an engine is free; how its store read ends. -/
  | decodeQuantum (engine : Fin 96) (mem : MemRead)
  /-- R177: patrol scrub reads a block. -/
  | scrubRead (block : BitVec 22) (mem : MemRead)
  | rpqPop (by_ : By)
  | rprRelease (by_ : By) (page : Word)
  /-- R36: a write of PREFIX_COMMIT_n with COMMIT, and DISCARD where `discard`; `same` where it completes in the cycle of a
  hand-over of the set, which then stands before it in the queue (R35). -/
  | shadowCommit (by_ : By) (blk : ShdBlk) (n : Fin 32) (discard : Bool) (same : Bool)
  /-- R38: a write of PREFIX_COMMIT_n with DISCARD alone. -/
  | shadowDiscard (by_ : By) (blk : ShdBlk) (n : Fin 32) (same : Bool)
  /-- R190: a write of ASM_NT_CMD with OP 1. -/
  | ntRead (by_ : By) (inc : Bool)
  /-- R191: a write of ASM_NT_CMD with OP 2. -/
  | ntStage (by_ : By) (inc : Bool)
  /-- R188: a write of ASM_NT_CMD with OP 3. -/
  | ntInit (by_ : By)
  /-- R195: a 32-byte entry reaches ASM_NT_WPORT, by a barge MOVE. -/
  | ntWportEntry (words : List Word)
  /-- R195: a barge MOVE reads 16 bytes of ASM_NT_RPORT. -/
  | ntRportRead
  /-- R30: the start of a channel's next line period, `dt` cycles after the command before it. `mem` are the record errors
  found in the nozzle table while the line is assembled (R189), with whether each could be corrected. -/
  | lineBoundary (ch : Fin 8) (dt : Nat) (ecc : List (Nat × Bool))
  /-- R214: compare unit 0 fires for the line clock. -/
  | reachAnchor (dt : Nat)
  /-- R216: the counter leaves the prediction by more than CLAMP_TOL. -/
  | forcedAnchor (dt : Nat)
  /-- R217: the fixing cycle of a channel's next line is reached. -/
  | lineFix (ch : Fin 8) (dt : Nat)
  /-- R222: the sending cycle of a carrier's next marker is reached. -/
  | markerSend (carrier : Fin 16) (dt : Nat)
  /-- R221, R284: the frame builder sends a carrier's frame for its next assembled line. -/
  | frameSend (carrier : Fin 16) (dt : Nat)
  /-- R231: an edge on a general input. -/
  | startTrigger (gpi : Fin 8) (rising : Bool) (dt : Nat)
  /-- R239: a pulse of `width` cycles on LINE_SYNC_IN, taken at its rising edge. -/
  | lineSyncPulse (width : Nat) (dt : Nat)
  /-- R242, R245, R250: what an encoder port receives, `dt` cycles after the command before it. -/
  | encoderMotion (port : Fin 4) (input : EncInput) (dt : Nat)
  /-- R246: a port crosses an index in the forward direction; `stable` are the cycles for which Z of a digital port has been high. -/
  | indexCrossing (port : Fin 4) (stable : Nat) (dt : Nat)
  /-- R252: a window of WIN_US ends on every port. -/
  | faultWindowEnd (dt : Nat)
  /-- R250: STALE_MS have passed without a motion event. -/
  | speedStale (dt : Nat)
  /-- R256: the high-water mark has reached a unit's target. -/
  | cmpFire (unit : Fin 16) (dt : Nat)
  /-- R256: DELAY cycles after a fire, its pulse starts. -/
  | cmpPulse (unit : Fin 16) (dt : Nat)
  /-- R258: a write of POS_CMP_n_CTL with LOAD; `same` where it arrives in a cycle in which the unit fires. -/
  | cmpLoad (by_ : By) (unit : Fin 16) (value : Word) (same : Bool)
  /-- R254: a write of POS_SEL with RESELECT. -/
  | encReselect (by_ : By) (value : Word)
  /-- R247: a write of POS_COUNT_LO and then POS_COUNT_HI. -/
  | posCountLoad (by_ : By) (count : BitVec 48)
  /-- R252: a write of POS_FAULT. -/
  | posFaultClear (by_ : By) (value : Word)
  /-- R243, R245: what a port receives as a transition that it cannot resolve. -/
  | illegalEdge (port : Fin 4) (input : EncInput) (dt : Nat)
  /-- R243: a sample of an analog port outside the amplitude window. -/
  | ampBad (port : Fin 4) (sin cos : BitVec 14) (dt : Nat)
  /-- R238, R257, R303: a pulse ends. -/
  | pulseEnd (pulse : PulseKind) (dt : Nat)
  /-- R273 to R275: a descrambled block of a lane in training, its sync header and payload; and what the chip's receiver makes of the
  signal: whether it has converged with 0.25 UI of eye opening, and which way it would have the far taps POST, MAIN and PRE move, 0 not
  at all, 1 up, 2 down. -/
  | trainBlock (lane : Fin 32) (header : BitVec 2) (payload : BitVec 64) (near : Bool) (wishes : List (Fin 3)) (dt : Nat)
  /-- R272: a lane exceeds the time limit of its training state. -/
  | laneTrainTimeout (lane : Fin 32) (dt : Nat)
  /-- R276: a descrambled block of a lane in ALIGN, detected in this cycle. -/
  | echoReply (lane : Fin 32) (header : BitVec 2) (payload : BitVec 64) (dt : Nat)
  /-- R279: what a lane's receiver finds, by which an ACTIVE or FROZEN lane may be lost. -/
  | laneLost (lane : Fin 32) (news : LaneNews) (dt : Nat)
  /-- R283: the check due every 1 ms; the largest difference of an adapted code from its value after training, and the transitions in the
  last 65,536 bits. -/
  | driftCheck (lane : Fin 32) (steps : BitVec 8) (transitions : BitVec 17) (dt : Nat)
  /-- R282: the automatic retrain of a lane is due, `dt` cycles after the command before it. -/
  | retrainStart (lane : Fin 32) (dt : Nat)
  /-- R282: a write of JGL_L_l_CTL with RETRAIN. -/
  | retrainWrite (by_ : By) (lane : Fin 32) (value : Word)
  /-- R289: the copies of a telemetry message that arrive, the first first. -/
  | telemetryRecord (carrier : Fin 16) (copies : List MsgCopy) (dt : Nat)
  /-- R290: more than 375 µs have passed since a carrier's record. -/
  | telemLate (carrier : Fin 16) (dt : Nat)
  /-- R236: no report of a die has arrived for 1 ms. -/
  | dieReportTimeout (ch : Fin 8) (die : Fin 52) (dt : Nat)
  /-- R287: the copies of an ACK that arrive, the first first. -/
  | msgAck (carrier : Fin 16) (copies : List MsgCopy) (dt : Nat)
  /-- R288: 100 µs have passed since a message was sent without an ACK. -/
  | msgRetry (carrier : Fin 16) (seq : BitVec 16) (dt : Nat)
  /-- R287: the copies of a LINK_TEST result that arrive, the first first. -/
  | linkTestResult (carrier : Fin 16) (copies : List MsgCopy) (dt : Nat)
  /-- R269: no marker has been sent to a carrier for ALIGN_KB × 1,024 blocks. -/
  | alignMarker (carrier : Fin 16) (dt : Nat)
  /-- R291: the bit errors a locked checker finds, each by its bit number since lock. -/
  | prbsLockLoss (lane : Fin 32) (errors : List Nat) (dt : Nat)
  /-- R292: a write of JGL_L_l_PRBS with INJ_ONE. -/
  | injOne (by_ : By) (lane : Fin 32) (value : Word)
  /-- R272: a lane's VERIFY has run over 4,194,304 blocks; whether the carrier met no invalid header in its direction. -/
  | laneVerifyPass (lane : Fin 32) (far : Bool) (dt : Nat)
  /-- R265: sync headers a lane's receiver sees, in their order. -/
  | blockLockGained (lane : Fin 32) (headers : List (BitVec 2)) (dt : Nat)
  /-- R291: bits a checker receives, in their order. -/
  | prbsCheckerLock (lane : Fin 32) (bits : List Bool) (dt : Nat)
  /-- R301: a pulse starts on a trigger output. -/
  | triggerPulse (output : Fin 16) (dt : Nat)
  /-- R307: EXP_DELAY after the trigger of a sensor's next numbered frame. -/
  | frameBoundary (sensor : Fin 16) (dt : Nat)
  /-- R303: STROBE_DELAY after the latest frame boundary of a sensor. -/
  | strobePulse (sensor : Fin 16) (dt : Nat)
  /-- R297, R302: an FS packet on a port and virtual channel, and how its header ECC checked. -/
  | frameStart (port : Fin 4) (vc : Fin 16) (ecc : EccResult) (dt : Nat)
  /-- R302: a packet of a line arrives: its data type, its pixels as sent, how its header ECC checked, whether its payload
  CRC holds, and the lines the pipeline has taken since the command before (R312). -/
  | frameLine (port : Fin 4) (vc : Fin 16) (dataType : BitVec 6) (pixels : List (BitVec 12)) (ecc : EccResult)
      (crcOk : Bool) (taken : Nat) (dt : Nat)
  /-- R302: an FE packet. -/
  | frameEnd (port : Fin 4) (vc : Fin 16) (ecc : EccResult) (dt : Nat)
  /-- R302: FS_TIMEOUT after the boundary of a sensor's oldest held frame. -/
  | fsTimeout (sensor : Fin 16) (dt : Nat)
  /-- R319, R320: the last line of a sensor's oldest ended frame leaves the pipeline; whether the host reports a PCIe error for its record. -/
  | frameRecord (sensor : Fin 16) (err : Bool)
  /-- R306: the boundary a sensor's oldest waiting request waits for has passed, and its bus is free. -/
  | settingsSend (sensor : Fin 16)
  /-- R306: the last write of the request has completed. -/
  | settingsWritesDone (sensor : Fin 16)
  /-- R306: the cycle after the boundary of frame E − 1. -/
  | settingsCommit (sensor : Fin 16)
  /-- R300: a write of CAM_BUS_CMD with GO. -/
  | busAccess (by_ : By) (value : Word)
  /-- R298, R300: an access ends after so many NACKs, three of which are a bus error: of CAM_BUS_CMD, or, with `settings`, a write of the
  sensor's settings request. -/
  | busAccessDone (sensor : Fin 16) (settings : Bool) (nacks : Fin 4) (value : Word)
  | inBandInterrupt (sensor : Fin 16)
  | hotJoin (bus : Fin 4)
  /-- R299: discovery of every named port is done: the sensors that answered, and the low 16 bits of each provisional ID
  that took an address on each bus, in the order in which it took it. -/
  | discoveryDone (answered : BitVec 16) (joined : List (Fin 4 × BitVec 16))
  /-- R217: the line boundary of the camera line. -/
  | cameraLineBoundary (dt : Nat)
  /-- R326: the analysis of a page ends. -/
  | pageAnalysisDone (page : Word) (dt : Nat)
  /-- R334: a run ends: with the RESULT the measurement gives, and what a CAMERA or ELECTRICAL run produced. -/
  | calRunEnd (result : BitVec 4) (results : List CalItem) (dt : Nat)
  /-- R346: once a second: the averaged readings of the chip's junction sensor and of the enabled sensors' registers, °C. -/
  | temperCheck (chip : BitVec 8) (sensors : List (BitVec 8)) (dt : Nat)
  /-- R347: the chip is idle in Warm with a quantity due. -/
  | temperRunStart
  /-- R359: the admission check due every 100 µs. -/
  | supplyAdmit
  /-- R356: the repeat of a carrier's rail command due every 100 ms. -/
  | railCmdRepeat (carrier : Fin 16)
  /-- R361: 2 s after ENABLE = 0 was sent to a carrier. -/
  | claimTimeout (carrier : Fin 16)
  /-- R369: the sensors are read: the twelve islands in the order of R25, and the stack, in °C as two's complement. -/
  | thermalRead (islands : List (BitVec 8)) (stack : BitVec 8)
  /-- R370, R371: a minute has passed; the largest oscillator slowing and the largest current total as the monitors read. -/
  | wearUpdate (rings : List (Nat × Nat)) (core sram : BitVec 24)
  /-- R372: the hourly mirror write. -/
  | wearMirror (ok : Bool)
  /-- R355: a write of PWR_ISL_CTL. -/
  | islEnWrite (by_ : By) (value : Word)
  /-- R378: a window boundary of an arbiter, `cycles` cycles of its island clock after its latest command. -/
  | arbWindow (arb : Fin 4) (cycles : Nat)
  /-- R377: a cycle of an arbiter, `cycles` after its latest command: the requests that arrive as (port, path), then the paths
  whose hold has ended. -/
  | arbGrant (arb : Fin 4) (cycles : Nat) (arrivals : List (Nat × Nat)) (free : BitVec 32)
  /-- R380: the tin hold of a path reaches TIN_HOLD; cut at a beat boundary. -/
  | tinCut (arb : Fin 4) (path : Fin 32)
  /-- R390: a write of ARB_HL_REQ with OP 1. -/
  | hlAcquire (by_ : By) (value : Word)
  /-- R390: a write of ARB_HL_REQ with OP 2. -/
  | hlRelease (by_ : By) (value : Word)
  /-- R390: a write of ARB_HL_REQ with OP 3. -/
  | hlRepaired (by_ : By) (value : Word)
  /-- R387: a waiter's wait reaches WAIT_US, or a further WAIT_US. -/
  | lockWaitTimeout
  /-- R396: a write of BRG_CH_n_CTL with CMD 1. -/
  | brgStart (by_ : By) (ch : Fin 32) (value : Word)
  /-- R396: a write of BRG_CH_n_CTL with CMD 2. -/
  | brgResume (by_ : By) (ch : Fin 32) (value : Word)
  /-- R396: a write of BRG_CH_n_CTL with CMD 3. -/
  | brgStop (by_ : By) (ch : Fin 32) (value : Word)
  /-- R402: a write of BRG_CH_n_SEM_ADD. -/
  | semAdd (by_ : By) (ch : Fin 32) (value : Word)
  /-- R397: a channel in RUN executes the instruction at its PC, a NOP. -/
  | bargeNop (ch : Fin 32)
  /-- R401: a channel executes a MOVE: its checks are made and it begins. -/
  | bargeMove (ch : Fin 32)
  /-- R401, R405: the MOVE of a channel ends; the bytes read where its source is the host, the lowest beat a host read
  failed. -/
  | moveDone (ch : Fin 32) (data : List Byte) (hostFail : Option (BitVec 19))
  | bargeLoop (ch : Fin 32)
  | bargeEndloop (ch : Fin 32)
  | bargeWait (ch : Fin 32)
  /-- R402: a test of the condition of a channel in WAIT, `dt` cycles after the command before it. -/
  | waitSatisfied (ch : Fin 32) (dt : Nat)
  /-- R402: the WAIT has lasted WAIT_MS. -/
  | waitTimeout (ch : Fin 32)
  | bargeSignal (ch : Fin 32)
  | bargeEnd (ch : Fin 32)
  /-- R414, R426: a Sync, with its Follow_Up if two-step, received `dt` cycles after the command before it: the sender's time of
  sending with the correction fields added, in 2^-16 ns, and logSyncInterval. -/
  | syncSample (port : Fin 2) (head : PtpHead) (sent : Int) (logInterval : Int) (dt : Nat)
  /-- R411, R414: the answer to the port's latest request, received `dt` cycles after the command before it, in 2^-16 ns: of a
  Delay_Resp the receive stamp less its correction field; of a Pdelay_Resp (with its Follow_Up if two-step) the peer's turnaround
  with the correction fields; and logMessageInterval. -/
  | delayResp (port : Fin 2) (head : PtpHead) (remote : Int) (logInterval : Int) (dt : Nat)
  /-- R411: an Announce, with its logMessageInterval. -/
  | announce (port : Fin 2) (head : PtpHead) (set : AnnounceSet) (logInterval : Int) (dt : Nat)
  /-- R411, R418: no Announce of a port's best master for three of its intervals. -/
  | announceTimeout (port : Fin 2)
  /-- R411: a Pdelay_Req received, with its correctionField; the answer leaves `dt` cycles later. -/
  | pdelayReq (port : Fin 2) (head : PtpHead) (correction : Int) (dt : Nat)
  /-- R411: the port's next request is due. -/
  | delayReqSend (port : Fin 2)
  /-- R427: a PTP message received on a port, with its correctionField in 2^-16 ns; it leaves the other port `dt` cycles
  later. -/
  | ptpForward (port : Fin 2) (head : PtpHead) (kind : PtpKind) (correction : Int) (dt : Nat)
  | ethLinkChange (port : Fin 2) (up : Bool)
  /-- R410: an address query, with the MAC address of the asker, which the answer goes to. -/
  | arpRequest (port : Fin 2) (vlan : Option (BitVec 12)) (sender : BitVec 48) (target : BitVec 32)
  | neighbourSolicitation (port : Fin 2) (vlan : Option (BitVec 12)) (sender : BitVec 48) (target : BitVec 128)
  /-- R428: a write of TIM_CONV_HI. -/
  | timConv (by_ : By) (value : Word)
  /-- R441: an ESTOP input has been low for ESTOP_FILT µs; input 0 is A and 1 is B. -/
  | estopDemand (input : Fin 2)
  /-- R441: an ESTOP input has been high for ESTOP_FILT µs. -/
  | estopRelease (input : Fin 2)
  /-- R442: the filtered inputs have differed for more than DISC_MS. -/
  | estopDisc
  /-- R437: the compare due every 10 µs; whether the channels' readings, flags, commands and readbacks agree, and the
  levels read back at the two balls. -/
  | crossCompare (agree : Bool) (rbA : Bool) (rbB : Bool)
  /-- R440: EDM_MS after FIRE_EN_x went low or high; the feedback level at the input, before POL_x. -/
  | edmCheck (channel : Fin 2) (level : Bool)
  /-- R434, R444: a dangerous condition reaches SAF, with its SOURCE number of SAF_LAST, carrier and local die. -/
  | safetyCondition (source : Fin 14) (carrier : Fin 16) (die : Fin 32)
  /-- R444: GRACE_US after the condition arrived. -/
  | graceExpiry
  /-- R444: 2 s after ENABLE = 0 was sent. -/
  | safeWaitTimeout
  /-- R446: a phase of the start test ends: the level read back at the ball of the channel under test, and its feedback level at
  the input, before POL_x. -/
  | startTestPhase (readback : Bool) (feedback : Bool)
  /-- R434: the SAF watchdog has not been served for WD_US. -/
  | watchdogExpiry
  /-- R447: the check of the parameter set due every 5 ms; whether the set is intact. -/
  | paramCheck (intact : Bool)
  /-- R443: STALE_US have passed without a valid reading of a die (31: without a valid record of the carrier). -/
  | telemStale (carrier : Fin 16) (die : Fin 32)
  /-- R451: one more hour of operation. -/
  | proofHoursTick
  /-- R449: an island's clock has been within limits for 1 ms. -/
  | clockWithinLimits (island : Fin 12)
  /-- R464: a write of EVT_RAISE. -/
  | evtRaise (by_ : By) (value : Word)
  /-- R461: a write of EVT_MASK_g. -/
  | evtMaskClear (by_ : By) (group : Fin 8) (value : Word)
  /-- R461: MSI-X Enable is set to 1. -/
  | msixEnable
  /-- R461: an MSI-X entry's mask, or with none the Function Mask, is cleared. -/
  | msixUnmask (entry : Option (BitVec 8))
  /-- R462: the hold-off of a vector ends. -/
  | holdoffEnd (vector : BitVec 8)
  /-- R457: a BAR read is not answered within 4 µs. -/
  | barReadTimeout (by_ : By) (off : BitVec 25)
  /-- R455: a configuration read of a function at an offset, or a write there with its byte enables. -/
  | configRequest (function : BitVec 8) (off : BitVec 12) (write : Option (Word × BitVec 4))
  /-- R9: a write to a register. `be` are the byte enables, `hw` the W1C bits hardware sets in the same cycle (R10),
  `same` whether the write completes in the cycle of a hand-over of its set (R35). `bar4` addresses the towpath. -/
  | registerWrite (by_ : By) (bar4 : Bool) (off : BitVec 25) (value : Word) (be : BitVec 4) (hw : Word) (same : Bool)
  /-- TAP instructions (R465). -/
  | tapReset
  | bypass
  | idcode
  | samplePreload (shifted : List Bool)
  | extest
  | clamp
  | highz
  /-- R466: the TAP leaves EXTEST, CLAMP or HIGHZ. -/
  | scanExitReset
  /-- R467: Update-DR of the 64-bit DBG_ACCESS register. -/
  | dbgAccess (dr : BitVec 64)
  /-- R468: a write of DBG_CTL with LOCK. -/
  | dbgLock
  /-- R469: a write of DBG_CTL with NEW_CHAL. -/
  | newChal
  /-- R469: a write of DBG_CTL with SUBMIT, LEVEL and KEY_SEL. -/
  | submit (level : BitVec 2) (keySel : Bool)
  /-- R469: 10 s have passed since NEW_CHAL. -/
  | challengeExpiry
  /-- R472: DBG_CORE_p_CTL HALT; the pc of the boundary reached. -/
  | coreHalt (pair : Fin 2) (pc : Word)
  | coreResume (pair : Fin 2)
  /-- R472: DBG_CORE_p_CTL STEP; the pc after the instruction. -/
  | coreStep (pair : Fin 2) (pc : Word)
  | breakpointHit (pair : Fin 2) (index : Fin 8)
  /-- R472: an access of a watched byte, by its address; the pc after it. -/
  | watchpointHit (pair : Fin 2) (index : Fin 4) (write : Bool) (addr : Word) (pc : Word)
  /-- R472: DBG_MEM_CMD with GO; `word` is what the core's address space holds at DBG_MEM_ADDR and `mapped` whether it is
  mapped. -/
  | dbgMemAccess (command : Word) (word : Word) (mapped : Bool)
  /-- R6: a host or barge read of a register. -/
  | registerRead (by_ : By) (bar4 : Bool) (off : BitVec 25)
deriving DecidableEq, Repr

end Sys2Proof
end

