-- ==== Sys2Proof/Config.lean ====
section
/-! DEFINITION. What one chip or implementation fixes and the spec leaves open: the free values, the fused identity, the
public-key operations, and the compressor's choices. Every constant here is opaque: no proof can see its value
(log entries 1 to 5, 12 and 22). -/

namespace Sys2Proof.Config

/-- The n-th free value of a run (log entry 1, DESIGN CHOICE): a value the spec leaves open, drawn once and never constrained. -/
opaque freeValue : Nat → BitVec 64

/-- Device serial number, from fuses (R473; log entry 2, DESIGN CHOICE). -/
opaque serial : BitVec 64

/-- MAC address of Ethernet port p, from fuses (R432; log entry 2, DESIGN CHOICE). -/
opaque macAddress : Nat → BitVec 48

/-- Numbers of the words of configuration space where the PCI Express and the MSI-X capability begin (R454 names what they hold; log
entry 2, DESIGN CHOICE). -/
opaque pcieCapability : Fin 1022
opaque msixCapability : Fin 1022

/-- Firmware minor and patch version bytes of the VERSION word (R78; log entry 2, DESIGN CHOICE). -/
opaque firmwareVersion : BitVec 16

/-- Signed manifest, control firmware and version bytes of a firmware image as loaded: the spec does not lay an image out (R76, R78,
R105; log entry 2, DESIGN CHOICE). -/
opaque imageManifest : List Byte → List Byte
opaque imageFirmware : List Byte → List Byte
opaque imageVersion : List Byte → BitVec 16

/-- Numbers of the status codes of R103, by their place in its table; the spec gives none (log entry 8, DESIGN CHOICE). -/
opaque statusCode : Nat → BitVec 16

/-- Boot ROM version word and fused lifecycle state, as bytes (R76 slot 0; log entry 2, DESIGN CHOICE). -/
opaque bootRomBytes : List Byte

/-- Certificate INDEX of the attestation chain in DER (R78, R105; log entry 2, DESIGN CHOICE). An absent index has none. -/
opaque certificate : Nat → Option (List Byte)

/-- Byte i of the 96-byte ECDSA P-384 signature the attestation key makes over a message (R78; log entry 3, DESIGN CHOICE). -/
opaque attestationByte : List Byte → Nat → Byte

/-- Whether a 96-byte signature over a message verifies under the public key of a 48-byte digest (R469, R105, R450;
log entry 3, DESIGN CHOICE). -/
opaque verifies : List Byte → List Byte → List Byte → Bool

/-- Bytes of the factory bar configuration record, the digest of its safety key, and its load fields but for those the spec gives
(R68, R450; log entry 2, DESIGN CHOICE). -/
opaque factoryRecord : List Byte
opaque factorySafetyKey : List Byte
opaque factoryLoad : Nat → BitVec 32

/-- Digest of the fused Wilxis debug key (R469; log entry 3, DESIGN CHOICE). -/
opaque wilxisKeyDigest : List Byte

/-- The compressors' hash of three bytes (R137 gives its domain and its 32,768 heads; log entry 4, DESIGN CHOICE). -/
opaque hash3 : Byte → Byte → Byte → Nat

/-- Code lengths of a dynamic block's code for the frequencies of its symbols, under a limit (log entry 4, DESIGN CHOICE). -/
opaque codeLengths : List Nat → Nat → List Nat

/-- The code-length symbols, as (symbol, extra), of a dynamic block's header (log entry 4, DESIGN CHOICE). -/
opaque lengthRuns : List Nat → List (Nat × Nat)

/-- Design budget of the core grid, 0, and the SRAM grid, 1, in minutes at I_design and 95 °C (R371; log entry 5, DESIGN CHOICE). -/
opaque emBudget : Nat → Nat

/-- The DRAM row that holds a store byte address (R178 names rows and gives no geometry; log entry 12, DESIGN CHOICE). -/
opaque dramRow : Nat → Nat

/-- Whether the camera stages round a quotient up where their formulas give it no rounding, by stage (R314, R319; log entry 22, DESIGN CHOICE). -/
opaque roundUp : Nat → Bool

/-- A colour at a pixel that has no pixel of that colour next to it, in a frame of one line (R314, stage 5): colour, column and line
(log entry 22, DESIGN CHOICE). -/
opaque noColour : Nat → Nat → Nat → BitVec 12

/-- Share of luminance a level of a channel leaves on paper, in 2^-16, where INK_Y gives no paper value: channel and level (R324, R339;
log entry 138, DESIGN CHOICE). -/
opaque inkRatio : Nat → Nat → Nat

/-- Deficit in 2^-16 level step of a luminance where two neighbouring levels have one expected luminance (R324; log entry 138, DESIGN
CHOICE). -/
opaque openDeficit : Nat → Nat → Nat → Int

end Sys2Proof.Config
end

