-- ==== Sys2Proof/Machine/Crypto.lean ====
section
/-! DEFINITION. Byte packing (R2) and the standard functions the spec names: CRC-32C (R84), SHA-256 and HMAC-SHA-256
(R95), SHA-384 (R76). All are structural recursion over lists, so the kernel can evaluate them. -/

namespace Sys2Proof.Machine

/-- The `n` bytes of a number, least significant first (R2). -/
def leBytes : Nat → Nat → List Byte
  | 0, _ => []
  | n + 1, v => BitVec.ofNat 8 v :: leBytes n (v / 256)

/-- The number a list of bytes holds, least significant first (R2). -/
def ofLe : List Byte → Nat
  | [] => 0
  | b :: t => b.toNat + 256 * ofLe t

/-- The `n` bytes of a number, most significant first. -/
def beBytes (n v : Nat) : List Byte := (leBytes n v).reverse

/-- The number a list of bytes holds, most significant first. -/
def ofBe (l : List Byte) : Nat := ofLe l.reverse

/-- The number in the `n` bytes at offset `off` (bytes past the end read 0). -/
def field (l : List Byte) (off n : Nat) : Nat := ofLe ((l.drop off).take n)

/-- One bit step of the reflected CRC-32C register (R84). -/
def crcBit (c : BitVec 32) : BitVec 32 :=
  if c.getLsbD 0 then (c >>> 1) ^^^ 0x82F63B78#32 else c >>> 1

/-- One byte step of the CRC-32C register. -/
def crcByte (c : BitVec 32) (b : Byte) : BitVec 32 :=
  crcBit (crcBit (crcBit (crcBit (crcBit (crcBit (crcBit (crcBit (c ^^^ b.setWidth 32))))))))

/-- CRC-32C, reflected, initial value and final XOR 0xFFFF_FFFF (R84). -/
def crc32c (l : List Byte) : BitVec 32 := ~~~ (l.foldl crcByte 0xFFFFFFFF#32)

/-- The constants of SHA-256. -/
def sha256K : List (BitVec 32) := [
  0x428A2F98, 0x71374491, 0xB5C0FBCF, 0xE9B5DBA5, 0x3956C25B, 0x59F111F1, 0x923F82A4, 0xAB1C5ED5,
  0xD807AA98, 0x12835B01, 0x243185BE, 0x550C7DC3, 0x72BE5D74, 0x80DEB1FE, 0x9BDC06A7, 0xC19BF174,
  0xE49B69C1, 0xEFBE4786, 0x0FC19DC6, 0x240CA1CC, 0x2DE92C6F, 0x4A7484AA, 0x5CB0A9DC, 0x76F988DA,
  0x983E5152, 0xA831C66D, 0xB00327C8, 0xBF597FC7, 0xC6E00BF3, 0xD5A79147, 0x06CA6351, 0x14292967,
  0x27B70A85, 0x2E1B2138, 0x4D2C6DFC, 0x53380D13, 0x650A7354, 0x766A0ABB, 0x81C2C92E, 0x92722C85,
  0xA2BFE8A1, 0xA81A664B, 0xC24B8B70, 0xC76C51A3, 0xD192E819, 0xD6990624, 0xF40E3585, 0x106AA070,
  0x19A4C116, 0x1E376C08, 0x2748774C, 0x34B0BCB5, 0x391C0CB3, 0x4ED8AA4A, 0x5B9CCA4F, 0x682E6FF3,
  0x748F82EE, 0x78A5636F, 0x84C87814, 0x8CC70208, 0x90BEFFFA, 0xA4506CEB, 0xBEF9A3F7, 0xC67178F2]

/-- The constants of SHA-512 and SHA-384, in two halves. -/
def sha512KLow : List (BitVec 64) := [
  0x428A2F98D728AE22, 0x7137449123EF65CD, 0xB5C0FBCFEC4D3B2F, 0xE9B5DBA58189DBBC, 0x3956C25BF348B538,
  0x59F111F1B605D019, 0x923F82A4AF194F9B, 0xAB1C5ED5DA6D8118, 0xD807AA98A3030242, 0x12835B0145706FBE,
  0x243185BE4EE4B28C, 0x550C7DC3D5FFB4E2, 0x72BE5D74F27B896F, 0x80DEB1FE3B1696B1, 0x9BDC06A725C71235,
  0xC19BF174CF692694, 0xE49B69C19EF14AD2, 0xEFBE4786384F25E3, 0x0FC19DC68B8CD5B5, 0x240CA1CC77AC9C65,
  0x2DE92C6F592B0275, 0x4A7484AA6EA6E483, 0x5CB0A9DCBD41FBD4, 0x76F988DA831153B5, 0x983E5152EE66DFAB,
  0xA831C66D2DB43210, 0xB00327C898FB213F, 0xBF597FC7BEEF0EE4, 0xC6E00BF33DA88FC2, 0xD5A79147930AA725,
  0x06CA6351E003826F, 0x142929670A0E6E70, 0x27B70A8546D22FFC, 0x2E1B21385C26C926, 0x4D2C6DFC5AC42AED,
  0x53380D139D95B3DF, 0x650A73548BAF63DE, 0x766A0ABB3C77B2A8, 0x81C2C92E47EDAEE6, 0x92722C851482353B]

/-- The second half. -/
def sha512KHigh : List (BitVec 64) := [
  0xA2BFE8A14CF10364, 0xA81A664BBC423001, 0xC24B8B70D0F89791, 0xC76C51A30654BE30, 0xD192E819D6EF5218,
  0xD69906245565A910, 0xF40E35855771202A, 0x106AA07032BBD1B8, 0x19A4C116B8D2D0C8, 0x1E376C085141AB53,
  0x2748774CDF8EEB99, 0x34B0BCB5E19B48A8, 0x391C0CB3C5C95A63, 0x4ED8AA4AE3418ACB, 0x5B9CCA4F7763E373,
  0x682E6FF3D6B2B8A3, 0x748F82EE5DEFB2FC, 0x78A5636F43172F60, 0x84C87814A1F0AB72, 0x8CC702081A6439EC,
  0x90BEFFFA23631E28, 0xA4506CEBDE82BDE9, 0xBEF9A3F7B2C67915, 0xC67178F2E372532B, 0xCA273ECEEA26619C,
  0xD186B8C721C0C207, 0xEADA7DD6CDE0EB1E, 0xF57D4F7FEE6ED178, 0x06F067AA72176FBA, 0x0A637DC5A2C898A6,
  0x113F9804BEF90DAE, 0x1B710B35131C471B, 0x28DB77F523047D84, 0x32CAAB7B40C72493, 0x3C9EBE0A15C9BEBC,
  0x431D67C49C100D4C, 0x4CC5D4BECB3E42B6, 0x597F299CFC657E2A, 0x5FCB6FAB3AD6FAEC, 0x6C44198C4A475817]

/-- Padding of a message to whole blocks of `block` bytes with a length field of `lenBytes` bytes. -/
def shaPad (block lenBytes : Nat) (m : List Byte) : List Byte :=
  m ++ [0x80#8] ++ List.replicate ((2 * block - 1 - lenBytes - m.length % block) % block) 0#8
    ++ beBytes lenBytes (8 * m.length)

/-- Cut a list into pieces of `n`, with fuel. -/
def pieces (n : Nat) : Nat → List Byte → List (List Byte)
  | 0, _ => []
  | f + 1, l => if l.isEmpty then [] else l.take n :: pieces n f (l.drop n)

/-- Extend the newest-first message schedule by one word from the four it needs. -/
def sha256Next (w : List (BitVec 32)) : BitVec 32 :=
  let w15 := w.getD 14 0; let w2 := w.getD 1 0
  let s0 := w15.rotateRight 7 ^^^ w15.rotateRight 18 ^^^ (w15 >>> 3)
  let s1 := w2.rotateRight 17 ^^^ w2.rotateRight 19 ^^^ (w2 >>> 10)
  w.getD 15 0 + s0 + w.getD 6 0 + s1

/-- The message schedule, newest first. -/
def sha256Sched : Nat → List (BitVec 32) → List (BitVec 32)
  | 0, w => w
  | n + 1, w => sha256Sched n (sha256Next w :: w)

/-- The eight working words of SHA-2. -/
structure Sha2 (n : Nat) where
  a : BitVec n
  b : BitVec n
  c : BitVec n
  d : BitVec n
  e : BitVec n
  f : BitVec n
  g : BitVec n
  h : BitVec n

/-- One round of SHA-2 with the rotation amounts of the word size. -/
def Sha2.round {n : Nat} (r1 r2 r3 r4 r5 r6 : Nat) (x : Sha2 n) (kw : BitVec n × BitVec n) : Sha2 n :=
  let s1 := x.e.rotateRight r1 ^^^ x.e.rotateRight r2 ^^^ x.e.rotateRight r3
  let ch := (x.e &&& x.f) ^^^ (~~~ x.e &&& x.g)
  let t1 := x.h + s1 + ch + kw.1 + kw.2
  let s0 := x.a.rotateRight r4 ^^^ x.a.rotateRight r5 ^^^ x.a.rotateRight r6
  let mj := (x.a &&& x.b) ^^^ (x.a &&& x.c) ^^^ (x.b &&& x.c)
  ⟨t1 + (s0 + mj), x.a, x.b, x.c, x.d + t1, x.e, x.f, x.g⟩

/-- Add the working words of a block to the chaining value. -/
def Sha2.add {n : Nat} (x y : Sha2 n) : Sha2 n :=
  ⟨x.a + y.a, x.b + y.b, x.c + y.c, x.d + y.d, x.e + y.e, x.f + y.f, x.g + y.g, x.h + y.h⟩

/-- One block of SHA-256. -/
def sha256Block (x : Sha2 32) (blk : List Byte) : Sha2 32 :=
  let w0 := (pieces 4 16 blk).map fun p => BitVec.ofNat 32 (ofBe p)
  let w := (sha256Sched 48 w0.reverse).reverse
  x.add ((sha256K.zip w).foldl (Sha2.round 6 11 25 2 13 22) x)

/-- SHA-256. -/
def sha256 (m : List Byte) : List Byte :=
  let p := shaPad 64 8 m
  let r := (pieces 64 p.length p).foldl sha256Block
    ⟨0x6A09E667, 0xBB67AE85, 0x3C6EF372, 0xA54FF53A, 0x510E527F, 0x9B05688C, 0x1F83D9AB, 0x5BE0CD19⟩
  [r.a, r.b, r.c, r.d, r.e, r.f, r.g, r.h].flatMap fun x => beBytes 4 x.toNat

/-- HMAC-SHA-256 under a key of at most 64 bytes (R95). -/
def hmacSha256 (key msg : List Byte) : List Byte :=
  let k := key ++ List.replicate (64 - key.length) 0#8
  sha256 (k.map (· ^^^ 0x5C#8) ++ sha256 (k.map (· ^^^ 0x36#8) ++ msg))

/-- Extend the newest-first message schedule of SHA-512 by one word. -/
def sha512Next (w : List (BitVec 64)) : BitVec 64 :=
  let w15 := w.getD 14 0; let w2 := w.getD 1 0
  let s0 := w15.rotateRight 1 ^^^ w15.rotateRight 8 ^^^ (w15 >>> 7)
  let s1 := w2.rotateRight 19 ^^^ w2.rotateRight 61 ^^^ (w2 >>> 6)
  w.getD 15 0 + s0 + w.getD 6 0 + s1

/-- The message schedule of SHA-512, newest first. -/
def sha512Sched : Nat → List (BitVec 64) → List (BitVec 64)
  | 0, w => w
  | n + 1, w => sha512Sched n (sha512Next w :: w)

/-- One block of SHA-512. -/
def sha512Block (x : Sha2 64) (blk : List Byte) : Sha2 64 :=
  let w0 := (pieces 8 16 blk).map fun p => BitVec.ofNat 64 (ofBe p)
  let w := (sha512Sched 64 w0.reverse).reverse
  x.add (((sha512KLow ++ sha512KHigh).zip w).foldl (Sha2.round 14 18 41 28 34 39) x)

/-- SHA-384 (R76): 48 bytes. -/
def sha384 (m : List Byte) : List Byte :=
  let p := shaPad 128 16 m
  let r := (pieces 128 p.length p).foldl sha512Block
    ⟨0xCBBB9D5DC1059ED8, 0x629A292A367CD507, 0x9159015A3070DD17, 0x152FECD8F70E5939,
     0x67332667FFC00B31, 0x8EB44A8768581511, 0xDB0C2E0D64F98FA7, 0x47B5481DBEFA4FA4⟩
  [r.a, r.b, r.c, r.d, r.e, r.f].flatMap fun x => beBytes 8 x.toNat

end Sys2Proof.Machine
end

