-- ==== Sys2Proof/Machine/RegMap.lean ====
section
/-! DEFINITION. The register map of the keeper view: every register of spec/ by name and keeper offset (R46), every
field by bit range, and one row per register or register array with its access masks, view, reset value and the bits
marked "load". The rows are transcribed from the register tables of R81, R82, R112, R147, R179, R209, R240, R260, R294,
R322, R349, R350, R374, R392, R408, R432, R453, R473 to R476 and from R41 and R45. -/

namespace Sys2Proof.Machine

/-- A field NAME[hi:lo] of the register at a keeper offset (R13): its lowest bit and its width. -/
structure Fld where
  addr : Nat
  lo : Nat
  width : Nat
deriving DecidableEq, Repr

/-- The View column (R11): K, K+C, or the per-channel view of the BRG block (R408). -/
inductive View where
  | k
  | kc
  | brg
deriving DecidableEq, Repr

/-- One register or register array (R5, R9): `n1` copies `s1` bytes apart, each of `n2` copies `s2` bytes apart, with
the bits a write replaces, the bits a written 1 clears, the bits that act on a write, the bits boot loads (R8), the
reset value of the other bits and the bits a warm reset keeps. -/
structure RegRow where
  base : Nat
  n1 : Nat
  s1 : Nat
  n2 : Nat
  s2 : Nat
  view : View
  rw : Nat
  w1c : Nat
  wo : Nat
  load : Nat
  reset : Nat
  rws : Nat
deriving DecidableEq, Repr

/-! ## SYS (R473, R81) -/

abbrev SYS_ID : Nat := 0x0
abbrev SYS_ID_PART : Fld := ⟨SYS_ID, 16, 16⟩
abbrev SYS_ID_STEPPING : Fld := ⟨SYS_ID, 8, 8⟩
abbrev SYS_SERIAL_LO : Nat := 0x8
abbrev SYS_SERIAL_LO_SERIAL : Fld := ⟨SYS_SERIAL_LO, 0, 32⟩
abbrev SYS_SERIAL_HI : Nat := 0xC
abbrev SYS_SERIAL_HI_SERIAL : Fld := ⟨SYS_SERIAL_HI, 0, 32⟩
abbrev SYS_MODE : Nat := 0x100
abbrev SYS_MODE_TRANSITION : Fld := ⟨SYS_MODE, 31, 1⟩
abbrev SYS_MODE_TARGET : Fld := ⟨SYS_MODE, 24, 4⟩
abbrev SYS_MODE_PREVIOUS : Fld := ⟨SYS_MODE, 20, 4⟩
abbrev SYS_MODE_CAUSE : Fld := ⟨SYS_MODE, 8, 8⟩
abbrev SYS_MODE_MODE : Fld := ⟨SYS_MODE, 0, 4⟩
abbrev SYS_CH_MODE : Nat := 0x104
abbrev SYS_CH_MODE_CH_7 : Fld := ⟨SYS_CH_MODE, 28, 4⟩
abbrev SYS_CH_MODE_CH_6 : Fld := ⟨SYS_CH_MODE, 24, 4⟩
abbrev SYS_CH_MODE_CH_5 : Fld := ⟨SYS_CH_MODE, 20, 4⟩
abbrev SYS_CH_MODE_CH_4 : Fld := ⟨SYS_CH_MODE, 16, 4⟩
abbrev SYS_CH_MODE_CH_3 : Fld := ⟨SYS_CH_MODE, 12, 4⟩
abbrev SYS_CH_MODE_CH_2 : Fld := ⟨SYS_CH_MODE, 8, 4⟩
abbrev SYS_CH_MODE_CH_1 : Fld := ⟨SYS_CH_MODE, 4, 4⟩
abbrev SYS_CH_MODE_CH_0 : Fld := ⟨SYS_CH_MODE, 0, 4⟩
abbrev SYS_SAFE_CAUSE : Nat := 0x108
abbrev SYS_SAFE_CAUSE_PRESENT : Fld := ⟨SYS_SAFE_CAUSE, 0, 8⟩
abbrev SYS_RESET : Nat := 0x10C
abbrev SYS_RESET_KEY : Fld := ⟨SYS_RESET, 16, 16⟩
abbrev SYS_RESET_KIND : Fld := ⟨SYS_RESET, 0, 2⟩
abbrev SYS_BOOT_STAT : Nat := 0x110
abbrev SYS_BOOT_STAT_ACKED : Fld := ⟨SYS_BOOT_STAT, 31, 1⟩
abbrev SYS_BOOT_STAT_ALT_USED : Fld := ⟨SYS_BOOT_STAT, 30, 1⟩
abbrev SYS_BOOT_STAT_SKIP_USED : Fld := ⟨SYS_BOOT_STAT, 29, 1⟩
abbrev SYS_BOOT_STAT_LAST_STEP : Fld := ⟨SYS_BOOT_STAT, 16, 8⟩
abbrev SYS_BOOT_STAT_BOOT_COUNT : Fld := ⟨SYS_BOOT_STAT, 0, 16⟩
abbrev SYS_DEGRADE : Nat := 0x114
abbrev SYS_DEGRADE_LANE_CH : Fld := ⟨SYS_DEGRADE, 4, 8⟩
abbrev SYS_DEGRADE_RAIL_REDUCED : Fld := ⟨SYS_DEGRADE, 3, 1⟩
abbrev SYS_DEGRADE_CAMERA_LOST : Fld := ⟨SYS_DEGRADE, 2, 1⟩
abbrev SYS_DEGRADE_LANE_SINGLE : Fld := ⟨SYS_DEGRADE, 1, 1⟩
abbrev SYS_DEGRADE_ENC_BACKUP : Fld := ⟨SYS_DEGRADE, 0, 1⟩
abbrev SYS_RESET_REJ : Nat := 0x118
abbrev SYS_RESET_REJ_COUNT : Fld := ⟨SYS_RESET_REJ, 0, 32⟩
abbrev SYS_MEAS (s : Nat) (w : Nat) : Nat := 0x200 + 0x30 * s + 0x4 * w
abbrev SYS_MEAS_DIGEST (s : Nat) (w : Nat) : Fld := ⟨(SYS_MEAS s w), 0, 32⟩

/-! ## CMD (R112) -/

abbrev CMD_K_SQ_BASE_LO : Nat := 0x10000
abbrev CMD_K_SQ_BASE_LO_ADDR : Fld := ⟨CMD_K_SQ_BASE_LO, 12, 20⟩
abbrev CMD_K_SQ_BASE_HI : Nat := 0x10004
abbrev CMD_K_SQ_BASE_HI_ADDR : Fld := ⟨CMD_K_SQ_BASE_HI, 0, 32⟩
abbrev CMD_K_CQ_BASE_LO : Nat := 0x10008
abbrev CMD_K_CQ_BASE_LO_ADDR : Fld := ⟨CMD_K_CQ_BASE_LO, 12, 20⟩
abbrev CMD_K_CQ_BASE_HI : Nat := 0x1000C
abbrev CMD_K_CQ_BASE_HI_ADDR : Fld := ⟨CMD_K_CQ_BASE_HI, 0, 32⟩
abbrev CMD_K_RING_CTL : Nat := 0x10010
abbrev CMD_K_RING_CTL_ENABLE : Fld := ⟨CMD_K_RING_CTL, 31, 1⟩
abbrev CMD_K_RING_CTL_FETCH_ERR : Fld := ⟨CMD_K_RING_CTL, 30, 1⟩
abbrev CMD_K_RING_CTL_LOG2_SIZE : Fld := ⟨CMD_K_RING_CTL, 0, 4⟩
abbrev CMD_K_SQ_TAIL : Nat := 0x10014
abbrev CMD_K_SQ_TAIL_INDEX : Fld := ⟨CMD_K_SQ_TAIL, 0, 8⟩
abbrev CMD_K_SQ_HEAD : Nat := 0x10018
abbrev CMD_K_SQ_HEAD_INDEX : Fld := ⟨CMD_K_SQ_HEAD, 0, 8⟩
abbrev CMD_K_CQ_TAIL : Nat := 0x1001C
abbrev CMD_K_CQ_TAIL_INDEX : Fld := ⟨CMD_K_CQ_TAIL, 0, 8⟩
abbrev CMD_K_CQ_HEAD : Nat := 0x10020
abbrev CMD_K_CQ_HEAD_INDEX : Fld := ⟨CMD_K_CQ_HEAD, 0, 8⟩
abbrev CMD_C_SQ_BASE_LO : Nat := 0x10100
abbrev CMD_C_SQ_BASE_LO_ADDR : Fld := ⟨CMD_C_SQ_BASE_LO, 12, 20⟩
abbrev CMD_C_SQ_BASE_HI : Nat := 0x10104
abbrev CMD_C_SQ_BASE_HI_ADDR : Fld := ⟨CMD_C_SQ_BASE_HI, 0, 32⟩
abbrev CMD_C_CQ_BASE_LO : Nat := 0x10108
abbrev CMD_C_CQ_BASE_LO_ADDR : Fld := ⟨CMD_C_CQ_BASE_LO, 12, 20⟩
abbrev CMD_C_CQ_BASE_HI : Nat := 0x1010C
abbrev CMD_C_CQ_BASE_HI_ADDR : Fld := ⟨CMD_C_CQ_BASE_HI, 0, 32⟩
abbrev CMD_C_RING_CTL : Nat := 0x10110
abbrev CMD_C_RING_CTL_ENABLE : Fld := ⟨CMD_C_RING_CTL, 31, 1⟩
abbrev CMD_C_RING_CTL_FETCH_ERR : Fld := ⟨CMD_C_RING_CTL, 30, 1⟩
abbrev CMD_C_RING_CTL_LOG2_SIZE : Fld := ⟨CMD_C_RING_CTL, 0, 4⟩
abbrev CMD_C_SQ_TAIL : Nat := 0x10114
abbrev CMD_C_SQ_TAIL_INDEX : Fld := ⟨CMD_C_SQ_TAIL, 0, 8⟩
abbrev CMD_C_SQ_HEAD : Nat := 0x10118
abbrev CMD_C_SQ_HEAD_INDEX : Fld := ⟨CMD_C_SQ_HEAD, 0, 8⟩
abbrev CMD_C_CQ_TAIL : Nat := 0x1011C
abbrev CMD_C_CQ_TAIL_INDEX : Fld := ⟨CMD_C_CQ_TAIL, 0, 8⟩
abbrev CMD_C_CQ_HEAD : Nat := 0x10120
abbrev CMD_C_CQ_HEAD_INDEX : Fld := ⟨CMD_C_CQ_HEAD, 0, 8⟩
abbrev CMD_CREW_CTL : Nat := 0x10200
abbrev CMD_CREW_CTL_CLASS_LOCK : Fld := ⟨CMD_CREW_CTL, 1, 10⟩
abbrev CMD_CREW_DENY : Nat := 0x10204
abbrev CMD_CREW_DENY_COUNT : Fld := ⟨CMD_CREW_DENY, 0, 32⟩
abbrev CMD_CREW_DENY_ADDR : Nat := 0x10208
abbrev CMD_CREW_DENY_ADDR_OFFSET : Fld := ⟨CMD_CREW_DENY_ADDR, 0, 25⟩
abbrev CMD_TP_CTL : Nat := 0x10300
abbrev CMD_TP_CTL_RADDR_EN : Fld := ⟨CMD_TP_CTL, 1, 1⟩
abbrev CMD_TP_CTL_ENABLE : Fld := ⟨CMD_TP_CTL, 0, 1⟩
abbrev CMD_TP_RADDR_LO : Nat := 0x10304
abbrev CMD_TP_RADDR_LO_ADDR : Fld := ⟨CMD_TP_RADDR_LO, 10, 22⟩
abbrev CMD_TP_RADDR_HI : Nat := 0x10308
abbrev CMD_TP_RADDR_HI_ADDR : Fld := ⟨CMD_TP_RADDR_HI, 0, 32⟩
abbrev CMD_TP_STAT : Nat := 0x1030C
abbrev CMD_TP_STAT_OVERRUN : Fld := ⟨CMD_TP_STAT, 16, 16⟩
abbrev CMD_TP_STAT_DONE : Fld := ⟨CMD_TP_STAT, 0, 16⟩
abbrev CMD_NET_CTL : Nat := 0x10400
abbrev CMD_NET_CTL_UDP_PORT : Fld := ⟨CMD_NET_CTL, 16, 16⟩
abbrev CMD_NET_CTL_PORT_1 : Fld := ⟨CMD_NET_CTL, 1, 1⟩
abbrev CMD_NET_CTL_PORT_0 : Fld := ⟨CMD_NET_CTL, 0, 1⟩
abbrev CMD_NET_STAT : Nat := 0x10404
abbrev CMD_NET_STAT_AUTH_FAIL : Fld := ⟨CMD_NET_STAT, 16, 16⟩
abbrev CMD_NET_STAT_REPLAY : Fld := ⟨CMD_NET_STAT, 0, 16⟩

/-! ## EVT (R475) -/

abbrev EVT_PEND (i : Nat) : Nat := 0x20000 + 0x4 * i
abbrev EVT_PEND_PEND (i : Nat) : Fld := ⟨(EVT_PEND i), 0, 32⟩
abbrev EVT_MASK (i : Nat) : Nat := 0x20020 + 0x4 * i
abbrev EVT_MASK_MASK (i : Nat) : Fld := ⟨(EVT_MASK i), 0, 32⟩
abbrev EVT_HOLD (i : Nat) : Nat := 0x20040 + 0x4 * i
abbrev EVT_HOLD_HOLDOFF_US (i : Nat) : Fld := ⟨(EVT_HOLD i), 0, 16⟩
abbrev EVT_LOG_STAT : Nat := 0x20060
abbrev EVT_LOG_STAT_LOST : Fld := ⟨EVT_LOG_STAT, 16, 16⟩
abbrev EVT_LOG_STAT_COUNT : Fld := ⟨EVT_LOG_STAT, 0, 13⟩
abbrev EVT_RAISE : Nat := 0x20064
abbrev EVT_RAISE_GO : Fld := ⟨EVT_RAISE, 8, 1⟩
abbrev EVT_RAISE_VECTOR : Fld := ⟨EVT_RAISE, 0, 8⟩

/-! ## HST (R474) -/

abbrev HST_LINK : Nat := 0x40000
abbrev HST_LINK_UP : Fld := ⟨HST_LINK, 31, 1⟩
abbrev HST_LINK_SPEED : Fld := ⟨HST_LINK, 20, 4⟩
abbrev HST_LINK_WIDTH : Fld := ⟨HST_LINK, 8, 5⟩
abbrev HST_ACC_ERR_1 : Nat := 0x40004
abbrev HST_ACC_ERR_1_RESET_ISL : Fld := ⟨HST_ACC_ERR_1, 16, 16⟩
abbrev HST_ACC_ERR_1_UNMAPPED : Fld := ⟨HST_ACC_ERR_1, 0, 16⟩
abbrev HST_ACC_ERR_2 : Nat := 0x40008
abbrev HST_ACC_ERR_2_TIMEOUT : Fld := ⟨HST_ACC_ERR_2, 16, 16⟩
abbrev HST_ACC_ERR_2_PARTIAL : Fld := ⟨HST_ACC_ERR_2, 0, 16⟩
abbrev HST_ACC_ADDR : Nat := 0x4000C
abbrev HST_ACC_ADDR_BAR2 : Fld := ⟨HST_ACC_ADDR, 31, 1⟩
abbrev HST_ACC_ADDR_OFFSET : Fld := ⟨HST_ACC_ADDR, 0, 25⟩

/-! ## BRG (R408) -/

abbrev BRG_RUNNING : Nat := 0x80000
abbrev BRG_RUNNING_CH : Fld := ⟨BRG_RUNNING, 0, 32⟩
abbrev BRG_ERRORS : Nat := 0x80004
abbrev BRG_ERRORS_CH : Fld := ⟨BRG_ERRORS, 0, 32⟩
abbrev BRG_FW_DENY : Nat := 0x80008
abbrev BRG_FW_DENY_COUNT : Fld := ⟨BRG_FW_DENY, 0, 32⟩
abbrev BRG_CH_CTL (n : Nat) : Nat := 0x80100 + 0x40 * n
abbrev BRG_CH_CTL_CMD (n : Nat) : Fld := ⟨(BRG_CH_CTL n), 30, 2⟩
abbrev BRG_CH_CTL_PC (n : Nat) : Fld := ⟨(BRG_CH_CTL n), 0, 8⟩
abbrev BRG_CH_CFG (n : Nat) : Nat := 0x80104 + 0x40 * n
abbrev BRG_CH_CFG_WAIT_MS (n : Nat) : Fld := ⟨(BRG_CH_CFG n), 16, 16⟩
abbrev BRG_CH_CFG_PAGE_CH (n : Nat) : Fld := ⟨(BRG_CH_CFG n), 8, 3⟩
abbrev BRG_CH_CFG_OUTSTANDING (n : Nat) : Fld := ⟨(BRG_CH_CFG n), 0, 7⟩
abbrev BRG_CH_STAT (n : Nat) : Nat := 0x80108 + 0x40 * n
abbrev BRG_CH_STAT_STATE (n : Nat) : Fld := ⟨(BRG_CH_STAT n), 29, 3⟩
abbrev BRG_CH_STAT_RIGHTS (n : Nat) : Fld := ⟨(BRG_CH_STAT n), 28, 1⟩
abbrev BRG_CH_STAT_CAUSE (n : Nat) : Fld := ⟨(BRG_CH_STAT n), 24, 4⟩
abbrev BRG_CH_STAT_CMD_REJ (n : Nat) : Fld := ⟨(BRG_CH_STAT n), 23, 1⟩
abbrev BRG_CH_STAT_DEPTH (n : Nat) : Fld := ⟨(BRG_CH_STAT n), 16, 3⟩
abbrev BRG_CH_STAT_PC (n : Nat) : Fld := ⟨(BRG_CH_STAT n), 0, 8⟩
abbrev BRG_CH_ENTRY (n : Nat) : Nat := 0x8010C + 0x40 * n
abbrev BRG_CH_ENTRY_PC (n : Nat) : Fld := ⟨(BRG_CH_ENTRY n), 0, 8⟩
abbrev BRG_CH_HOST_HI (n : Nat) : Nat := 0x80110 + 0x40 * n
abbrev BRG_CH_HOST_HI_ADDR (n : Nat) : Fld := ⟨(BRG_CH_HOST_HI n), 0, 16⟩
abbrev BRG_CH_SEM (n : Nat) : Nat := 0x80114 + 0x40 * n
abbrev BRG_CH_SEM_COUNT (n : Nat) : Fld := ⟨(BRG_CH_SEM n), 0, 32⟩
abbrev BRG_CH_SEM_ADD (n : Nat) : Nat := 0x80118 + 0x40 * n
abbrev BRG_CH_SEM_ADD_ADD (n : Nat) : Fld := ⟨(BRG_CH_SEM_ADD n), 0, 32⟩
abbrev BRG_CH_REMAIN (n : Nat) : Nat := 0x8011C + 0x40 * n
abbrev BRG_CH_REMAIN_BYTES (n : Nat) : Fld := ⟨(BRG_CH_REMAIN n), 0, 24⟩
abbrev BRG_CH_ERR_ADDR_LO (n : Nat) : Nat := 0x80120 + 0x40 * n
abbrev BRG_CH_ERR_ADDR_LO_ADDR (n : Nat) : Fld := ⟨(BRG_CH_ERR_ADDR_LO n), 0, 32⟩
abbrev BRG_CH_ERR_ADDR_HI (n : Nat) : Nat := 0x80124 + 0x40 * n
abbrev BRG_CH_ERR_ADDR_HI_SPACE (n : Nat) : Fld := ⟨(BRG_CH_ERR_ADDR_HI n), 31, 1⟩
abbrev BRG_CH_ERR_ADDR_HI_SIDE (n : Nat) : Fld := ⟨(BRG_CH_ERR_ADDR_HI n), 30, 1⟩
abbrev BRG_CH_ERR_ADDR_HI_ADDR (n : Nat) : Fld := ⟨(BRG_CH_ERR_ADDR_HI n), 0, 16⟩
abbrev BRG_CH_ERR_INFO (n : Nat) : Nat := 0x80128 + 0x40 * n
abbrev BRG_CH_ERR_INFO_PC (n : Nat) : Fld := ⟨(BRG_CH_ERR_INFO n), 24, 8⟩
abbrev BRG_CH_ERR_INFO_BEAT (n : Nat) : Fld := ⟨(BRG_CH_ERR_INFO n), 0, 19⟩
abbrev BRG_CH_LOOP (n : Nat) (i : Nat) : Nat := 0x8012C + 0x40 * n + 0x4 * i
abbrev BRG_CH_LOOP_START (n : Nat) (i : Nat) : Fld := ⟨(BRG_CH_LOOP n i), 24, 8⟩
abbrev BRG_CH_LOOP_IDX (n : Nat) (i : Nat) : Fld := ⟨(BRG_CH_LOOP n i), 0, 24⟩
abbrev BRG_CH_BYTES (n : Nat) : Nat := 0x8013C + 0x40 * n
abbrev BRG_CH_BYTES_COUNT (n : Nat) : Fld := ⟨(BRG_CH_BYTES n), 0, 32⟩
abbrev BRG_SHD_STAT (n : Nat) : Nat := 0x80C00 + 0x10 * n
abbrev BRG_SHD_STAT_PENDING (n : Nat) : Fld := ⟨(BRG_SHD_STAT n), 31, 1⟩
abbrev BRG_SHD_STAT_LATE (n : Nat) : Fld := ⟨(BRG_SHD_STAT n), 30, 1⟩
abbrev BRG_SHD_STAT_SUPERSEDED (n : Nat) : Fld := ⟨(BRG_SHD_STAT n), 29, 1⟩
abbrev BRG_SHD_STAT_REFUSED (n : Nat) : Fld := ⟨(BRG_SHD_STAT n), 28, 1⟩
abbrev BRG_SHD_STAT_BY_IDLE (n : Nat) : Fld := ⟨(BRG_SHD_STAT n), 27, 1⟩
abbrev BRG_SHD_STAT_KIND (n : Nat) : Fld := ⟨(BRG_SHD_STAT n), 24, 3⟩
abbrev BRG_SHD_STAT_HANDOVERS (n : Nat) : Fld := ⟨(BRG_SHD_STAT n), 0, 16⟩
abbrev BRG_SHD_ID (n : Nat) : Nat := 0x80C04 + 0x10 * n
abbrev BRG_SHD_ID_ID (n : Nat) : Fld := ⟨(BRG_SHD_ID n), 0, 32⟩
abbrev BRG_COMMIT (n : Nat) : Nat := 0x80C08 + 0x10 * n
abbrev BRG_COMMIT_DISCARD (n : Nat) : Fld := ⟨(BRG_COMMIT n), 1, 1⟩
abbrev BRG_COMMIT_COMMIT (n : Nat) : Fld := ⟨(BRG_COMMIT n), 0, 1⟩
abbrev BRG_RB_SEL : Nat := 0x80E00
abbrev BRG_RB_SEL_ENTRY : Fld := ⟨BRG_RB_SEL, 15, 1⟩
abbrev BRG_RB_SEL_CH : Fld := ⟨BRG_RB_SEL, 10, 5⟩
abbrev BRG_RB_SEL_INSTR : Fld := ⟨BRG_RB_SEL, 2, 8⟩
abbrev BRG_RB_SEL_WORD : Fld := ⟨BRG_RB_SEL, 0, 2⟩
abbrev BRG_RB_DATA : Nat := 0x80E04
abbrev BRG_RB_DATA_VALUE : Fld := ⟨BRG_RB_DATA, 0, 32⟩

/-! ## ARB (R392) -/

abbrev ARB_CTL : Nat := 0xC0000
abbrev ARB_CTL_WAIT_US : Fld := ⟨ARB_CTL, 0, 10⟩
abbrev ARB_LOCK_STAT : Nat := 0xC0004
abbrev ARB_LOCK_STAT_ORDER : Fld := ⟨ARB_LOCK_STAT, 24, 8⟩
abbrev ARB_LOCK_STAT_ABORT : Fld := ⟨ARB_LOCK_STAT, 16, 8⟩
abbrev ARB_LOCK_STAT_BROKEN : Fld := ⟨ARB_LOCK_STAT, 8, 8⟩
abbrev ARB_LOCK_STAT_HELD : Fld := ⟨ARB_LOCK_STAT, 0, 8⟩
abbrev ARB_HL_REQ : Nat := 0xC0010
abbrev ARB_HL_REQ_OP : Fld := ⟨ARB_HL_REQ, 8, 2⟩
abbrev ARB_HL_REQ_OWNER : Fld := ⟨ARB_HL_REQ, 4, 4⟩
abbrev ARB_HL_REQ_LOCK : Fld := ⟨ARB_HL_REQ, 0, 4⟩
abbrev ARB_HL_OWN (i : Nat) : Nat := 0xC0040 + 0x4 * i
abbrev ARB_HL_OWN_HELD (i : Nat) : Fld := ⟨(ARB_HL_OWN i), 16, 16⟩
abbrev ARB_HL_OWN_WAITING (i : Nat) : Fld := ⟨(ARB_HL_OWN i), 15, 1⟩
abbrev ARB_HL_OWN_AWAIT (i : Nat) : Fld := ⟨(ARB_HL_OWN i), 8, 4⟩
abbrev ARB_HL_OWN_RESULT (i : Nat) : Fld := ⟨(ARB_HL_OWN i), 0, 4⟩
abbrev ARB_LK_STAT (i : Nat) : Nat := 0xC0080 + 0x4 * i
abbrev ARB_LK_STAT_HELD (i : Nat) : Fld := ⟨(ARB_LK_STAT i), 31, 1⟩
abbrev ARB_LK_STAT_BROKEN (i : Nat) : Fld := ⟨(ARB_LK_STAT i), 30, 1⟩
abbrev ARB_LK_STAT_ARBITER (i : Nat) : Fld := ⟨(ARB_LK_STAT i), 28, 2⟩
abbrev ARB_LK_STAT_RANK (i : Nat) : Fld := ⟨(ARB_LK_STAT i), 24, 4⟩
abbrev ARB_LK_STAT_ISLAND (i : Nat) : Fld := ⟨(ARB_LK_STAT i), 20, 4⟩
abbrev ARB_LK_STAT_REQ_ID (i : Nat) : Fld := ⟨(ARB_LK_STAT i), 12, 8⟩
abbrev ARB_LK_STAT_WAITERS (i : Nat) : Fld := ⟨(ARB_LK_STAT i), 0, 8⟩
abbrev ARB_A_CTL (a : Nat) : Nat := 0xC1000 + 0x1000 * a
abbrev ARB_A_CTL_WINDOW_LOG2 (a : Nat) : Fld := ⟨(ARB_A_CTL a), 16, 4⟩
abbrev ARB_A_CTL_TIN_HOLD (a : Nat) : Fld := ⟨(ARB_A_CTL a), 0, 11⟩
abbrev ARB_A_STAT (a : Nat) : Nat := 0xC1004 + 0x1000 * a
abbrev ARB_A_STAT_LW_EVERY (a : Nat) : Fld := ⟨(ARB_A_STAT a), 16, 5⟩
abbrev ARB_A_STAT_PENDING (a : Nat) : Fld := ⟨(ARB_A_STAT a), 0, 16⟩
abbrev ARB_A_IRON_WORST (a : Nat) : Nat := 0xC100C + 0x1000 * a
abbrev ARB_A_IRON_WORST_CYCLES (a : Nat) : Fld := ⟨(ARB_A_IRON_WORST a), 0, 16⟩
abbrev ARB_SHD_STAT (n : Nat) : Nat := 0xC1010 + 0x1000 * n
abbrev ARB_SHD_STAT_PENDING (n : Nat) : Fld := ⟨(ARB_SHD_STAT n), 31, 1⟩
abbrev ARB_SHD_STAT_LATE (n : Nat) : Fld := ⟨(ARB_SHD_STAT n), 30, 1⟩
abbrev ARB_SHD_STAT_SUPERSEDED (n : Nat) : Fld := ⟨(ARB_SHD_STAT n), 29, 1⟩
abbrev ARB_SHD_STAT_REFUSED (n : Nat) : Fld := ⟨(ARB_SHD_STAT n), 28, 1⟩
abbrev ARB_SHD_STAT_BY_IDLE (n : Nat) : Fld := ⟨(ARB_SHD_STAT n), 27, 1⟩
abbrev ARB_SHD_STAT_KIND (n : Nat) : Fld := ⟨(ARB_SHD_STAT n), 24, 3⟩
abbrev ARB_SHD_STAT_HANDOVERS (n : Nat) : Fld := ⟨(ARB_SHD_STAT n), 0, 16⟩
abbrev ARB_SHD_ID (n : Nat) : Nat := 0xC1014 + 0x1000 * n
abbrev ARB_SHD_ID_ID (n : Nat) : Fld := ⟨(ARB_SHD_ID n), 0, 32⟩
abbrev ARB_COMMIT (n : Nat) : Nat := 0xC1018 + 0x1000 * n
abbrev ARB_COMMIT_DISCARD (n : Nat) : Fld := ⟨(ARB_COMMIT n), 1, 1⟩
abbrev ARB_COMMIT_COMMIT (n : Nat) : Fld := ⟨(ARB_COMMIT n), 0, 1⟩
abbrev ARB_PORT_CFG (a : Nat) (p : Nat) : Nat := 0xC1100 + 0x1000 * a + 0x4 * p
abbrev ARB_PORT_CFG_CUT (a : Nat) (p : Nat) : Fld := ⟨(ARB_PORT_CFG a p), 31, 1⟩
abbrev ARB_PORT_CFG_MASKED (a : Nat) (p : Nat) : Fld := ⟨(ARB_PORT_CFG a p), 30, 1⟩
abbrev ARB_PORT_CFG_CLASS (a : Nat) (p : Nat) : Fld := ⟨(ARB_PORT_CFG a p), 28, 2⟩
abbrev ARB_PORT_CFG_SHARE (a : Nat) (p : Nat) : Fld := ⟨(ARB_PORT_CFG a p), 0, 16⟩
abbrev ARB_A_STB_SEQ (a : Nat) : Nat := 0xC1800 + 0x1000 * a
abbrev ARB_A_STB_SEQ_SEQ (a : Nat) : Fld := ⟨(ARB_A_STB_SEQ a), 0, 32⟩
abbrev ARB_A_STB_ID (a : Nat) : Nat := 0xC1804 + 0x1000 * a
abbrev ARB_A_STB_ID_ID (a : Nat) : Fld := ⟨(ARB_A_STB_ID a), 0, 32⟩
abbrev ARB_A_STB_INFO (a : Nat) : Nat := 0xC1808 + 0x1000 * a
abbrev ARB_A_STB_INFO_SAT (a : Nat) : Fld := ⟨(ARB_A_STB_INFO a), 31, 1⟩
abbrev ARB_A_STB_INFO_PARTIAL (a : Nat) : Fld := ⟨(ARB_A_STB_INFO a), 30, 1⟩
abbrev ARB_A_STB_INFO_KIND (a : Nat) : Fld := ⟨(ARB_A_STB_INFO a), 27, 3⟩
abbrev ARB_A_STB_INFO_SPILL (a : Nat) : Fld := ⟨(ARB_A_STB_INFO a), 26, 1⟩
abbrev ARB_A_STB_INFO_SUB (a : Nat) : Fld := ⟨(ARB_A_STB_INFO a), 0, 16⟩
abbrev ARB_A_STB_GRANT_IRON (a : Nat) : Nat := 0xC180C + 0x1000 * a
abbrev ARB_A_STB_GRANT_IRON_COUNT (a : Nat) : Fld := ⟨(ARB_A_STB_GRANT_IRON a), 0, 32⟩
abbrev ARB_A_STB_GRANT_COPPER (a : Nat) : Nat := 0xC1810 + 0x1000 * a
abbrev ARB_A_STB_GRANT_COPPER_COUNT (a : Nat) : Fld := ⟨(ARB_A_STB_GRANT_COPPER a), 0, 32⟩
abbrev ARB_A_STB_GRANT_TIN (a : Nat) : Nat := 0xC1814 + 0x1000 * a
abbrev ARB_A_STB_GRANT_TIN_COUNT (a : Nat) : Fld := ⟨(ARB_A_STB_GRANT_TIN a), 0, 32⟩
abbrev ARB_A_STB_GRANT_LW (a : Nat) : Nat := 0xC1818 + 0x1000 * a
abbrev ARB_A_STB_GRANT_LW_COUNT (a : Nat) : Fld := ⟨(ARB_A_STB_GRANT_LW a), 0, 32⟩
abbrev ARB_A_STB_COPPER_MASKED (a : Nat) : Nat := 0xC181C + 0x1000 * a
abbrev ARB_A_STB_COPPER_MASKED_COUNT (a : Nat) : Fld := ⟨(ARB_A_STB_COPPER_MASKED a), 0, 32⟩
abbrev ARB_A_STB_TIN_CUT (a : Nat) : Nat := 0xC1820 + 0x1000 * a
abbrev ARB_A_STB_TIN_CUT_COUNT (a : Nat) : Fld := ⟨(ARB_A_STB_TIN_CUT a), 0, 32⟩
abbrev ARB_A_STB_IRON_WAIT_MAX (a : Nat) : Nat := 0xC1824 + 0x1000 * a
abbrev ARB_A_STB_IRON_WAIT_MAX_COUNT (a : Nat) : Fld := ⟨(ARB_A_STB_IRON_WAIT_MAX a), 0, 32⟩

/-! ## ING (R147) -/

abbrev ING_CTL : Nat := 0x100000
abbrev ING_CTL_OVERFLOW_RAW : Fld := ⟨ING_CTL, 15, 1⟩
abbrev ING_CTL_STAT_CH : Fld := ⟨ING_CTL, 8, 3⟩
abbrev ING_CTL_Q_EN : Fld := ⟨ING_CTL, 0, 8⟩
abbrev ING_STAT : Nat := 0x100004
abbrev ING_STAT_CMP_BUSY : Fld := ⟨ING_STAT, 24, 6⟩
abbrev ING_STAT_Q_RESYNC : Fld := ⟨ING_STAT, 16, 8⟩
abbrev ING_STAT_Q_STALL : Fld := ⟨ING_STAT, 8, 8⟩
abbrev ING_STAT_Q_ACTIVE : Fld := ⟨ING_STAT, 0, 8⟩
abbrev ING_CMP_CTL : Nat := 0x100010
abbrev ING_CMP_CTL_KEEP : Fld := ⟨ING_CMP_CTL, 27, 5⟩
abbrev ING_CMP_CTL_BLOCK : Fld := ⟨ING_CMP_CTL, 25, 2⟩
abbrev ING_CMP_CTL_LAZY : Fld := ⟨ING_CMP_CTL, 24, 1⟩
abbrev ING_CMP_CTL_NICE_LEN : Fld := ⟨ING_CMP_CTL, 15, 9⟩
abbrev ING_CMP_CTL_CHAIN_DEPTH : Fld := ⟨ING_CMP_CTL, 0, 7⟩
abbrev ING_WEIR_WAIT : Nat := 0x100014
abbrev ING_WEIR_WAIT_WAIT_US : Fld := ⟨ING_WEIR_WAIT, 0, 16⟩
abbrev ING_ERR_LOG_0 : Nat := 0x100020
abbrev ING_ERR_LOG_0_CAUSE : Fld := ⟨ING_ERR_LOG_0, 24, 8⟩
abbrev ING_ERR_LOG_0_QUEUE : Fld := ⟨ING_ERR_LOG_0, 16, 3⟩
abbrev ING_ERR_LOG_0_TILE_COL : Fld := ⟨ING_ERR_LOG_0, 8, 4⟩
abbrev ING_ERR_LOG_0_CHANNEL : Fld := ⟨ING_ERR_LOG_0, 0, 3⟩
abbrev ING_ERR_LOG_1 : Nat := 0x100024
abbrev ING_ERR_LOG_1_JOB_ID : Fld := ⟨ING_ERR_LOG_1, 16, 16⟩
abbrev ING_ERR_LOG_1_BAND : Fld := ⟨ING_ERR_LOG_1, 0, 12⟩
abbrev ING_ERR_LOG_2 : Nat := 0x100028
abbrev ING_ERR_LOG_2_PAGE_ID : Fld := ⟨ING_ERR_LOG_2, 0, 32⟩
abbrev ING_ERR_LOG_3 : Nat := 0x10002C
abbrev ING_ERR_LOG_3_OFFSET : Fld := ⟨ING_ERR_LOG_3, 0, 32⟩
abbrev ING_Q_PROD (n : Nat) : Nat := 0x100100 + 0x10 * n
abbrev ING_Q_PROD_OFFSET (n : Nat) : Fld := ⟨(ING_Q_PROD n), 0, 32⟩
abbrev ING_Q_CONS (n : Nat) : Nat := 0x100104 + 0x10 * n
abbrev ING_Q_CONS_OFFSET (n : Nat) : Fld := ⟨(ING_Q_CONS n), 0, 32⟩
abbrev ING_Q_STAT (n : Nat) : Nat := 0x100108 + 0x10 * n
abbrev ING_Q_STAT_RESYNC_SKIPS (n : Nat) : Fld := ⟨(ING_Q_STAT n), 16, 16⟩
abbrev ING_Q_STAT_TILES (n : Nat) : Fld := ⟨(ING_Q_STAT n), 0, 16⟩
abbrev ING_HCJ_BASE_LO : Nat := 0x100400
abbrev ING_HCJ_BASE_LO_ADDR : Fld := ⟨ING_HCJ_BASE_LO, 12, 20⟩
abbrev ING_HCJ_BASE_HI : Nat := 0x100404
abbrev ING_HCJ_BASE_HI_ADDR : Fld := ⟨ING_HCJ_BASE_HI, 0, 32⟩
abbrev ING_HCJ_CTL : Nat := 0x100408
abbrev ING_HCJ_CTL_ENABLE : Fld := ⟨ING_HCJ_CTL, 31, 1⟩
abbrev ING_HCJ_CTL_ERR : Fld := ⟨ING_HCJ_CTL, 30, 1⟩
abbrev ING_HCJ_CTL_LOG2_SIZE : Fld := ⟨ING_HCJ_CTL, 0, 4⟩
abbrev ING_HCJ_TAIL : Nat := 0x10040C
abbrev ING_HCJ_TAIL_INDEX : Fld := ⟨ING_HCJ_TAIL, 0, 10⟩
abbrev ING_HCJ_HEAD : Nat := 0x100410
abbrev ING_HCJ_HEAD_INDEX : Fld := ⟨ING_HCJ_HEAD, 0, 10⟩
abbrev ING_STB_SEQ : Nat := 0x100800
abbrev ING_STB_SEQ_SEQ : Fld := ⟨ING_STB_SEQ, 0, 32⟩
abbrev ING_STB_ID : Nat := 0x100804
abbrev ING_STB_ID_ID : Fld := ⟨ING_STB_ID, 0, 32⟩
abbrev ING_STB_INFO : Nat := 0x100808
abbrev ING_STB_INFO_SAT : Fld := ⟨ING_STB_INFO, 31, 1⟩
abbrev ING_STB_INFO_PARTIAL : Fld := ⟨ING_STB_INFO, 30, 1⟩
abbrev ING_STB_INFO_KIND : Fld := ⟨ING_STB_INFO, 27, 3⟩
abbrev ING_STB_INFO_SPILL : Fld := ⟨ING_STB_INFO, 26, 1⟩
abbrev ING_STB_INFO_SUB : Fld := ⟨ING_STB_INFO, 0, 16⟩
abbrev ING_STB_TILES_IN : Nat := 0x10080C
abbrev ING_STB_TILES_IN_COUNT : Fld := ⟨ING_STB_TILES_IN, 0, 32⟩
abbrev ING_STB_TILES_COMPRESSED : Nat := 0x100810
abbrev ING_STB_TILES_COMPRESSED_COUNT : Fld := ⟨ING_STB_TILES_COMPRESSED, 0, 32⟩
abbrev ING_STB_TILES_RAW : Nat := 0x100814
abbrev ING_STB_TILES_RAW_COUNT : Fld := ⟨ING_STB_TILES_RAW, 0, 32⟩
abbrev ING_STB_TILES_VERIFIED : Nat := 0x100818
abbrev ING_STB_TILES_VERIFIED_COUNT : Fld := ⟨ING_STB_TILES_VERIFIED, 0, 32⟩
abbrev ING_STB_TILES_BLANK : Nat := 0x10081C
abbrev ING_STB_TILES_BLANK_COUNT : Fld := ⟨ING_STB_TILES_BLANK, 0, 32⟩
abbrev ING_STB_TILES_REJECTED : Nat := 0x100820
abbrev ING_STB_TILES_REJECTED_COUNT : Fld := ⟨ING_STB_TILES_REJECTED, 0, 32⟩
abbrev ING_STB_EXPANDS : Nat := 0x100824
abbrev ING_STB_EXPANDS_COUNT : Fld := ⟨ING_STB_EXPANDS, 0, 32⟩
abbrev ING_STB_NO_GAIN : Nat := 0x100828
abbrev ING_STB_NO_GAIN_COUNT : Fld := ⟨ING_STB_NO_GAIN, 0, 32⟩
abbrev ING_STB_WEIR_EMPTY : Nat := 0x10082C
abbrev ING_STB_WEIR_EMPTY_COUNT : Fld := ⟨ING_STB_WEIR_EMPTY, 0, 32⟩
abbrev ING_STB_HCJ_DONE : Nat := 0x100830
abbrev ING_STB_HCJ_DONE_COUNT : Fld := ⟨ING_STB_HCJ_DONE, 0, 32⟩
abbrev ING_STB_BYTES_IN_LO : Nat := 0x100834
abbrev ING_STB_BYTES_IN_LO_BYTES : Fld := ⟨ING_STB_BYTES_IN_LO, 0, 32⟩
abbrev ING_STB_BYTES_IN_HI : Nat := 0x100838
abbrev ING_STB_BYTES_IN_HI_BYTES : Fld := ⟨ING_STB_BYTES_IN_HI, 0, 32⟩
abbrev ING_STB_BYTES_OUT_LO : Nat := 0x10083C
abbrev ING_STB_BYTES_OUT_LO_BYTES : Fld := ⟨ING_STB_BYTES_OUT_LO, 0, 32⟩
abbrev ING_STB_BYTES_OUT_HI : Nat := 0x100840
abbrev ING_STB_BYTES_OUT_HI_BYTES : Fld := ⟨ING_STB_BYTES_OUT_HI, 0, 32⟩

/-! ## PND (R179) -/

abbrev PND_CTL : Nat := 0x140000
abbrev PND_CTL_GUARD : Fld := ⟨PND_CTL, 16, 8⟩
abbrev PND_CTL_REF_GUARD : Fld := ⟨PND_CTL, 8, 8⟩
abbrev PND_CTL_STAT_CH : Fld := ⟨PND_CTL, 0, 3⟩
abbrev PND_RESERVE : Nat := 0x140004
abbrev PND_RESERVE_WEIR_RSV : Fld := ⟨PND_RESERVE, 16, 16⟩
abbrev PND_RESERVE_LOW_WATER : Fld := ⟨PND_RESERVE, 0, 16⟩
abbrev PND_RPR_QUOTA : Nat := 0x140008
abbrev PND_RPR_QUOTA_BLOCKS : Fld := ⟨PND_RPR_QUOTA, 0, 22⟩
abbrev PND_SCRUB : Nat := 0x14000C
abbrev PND_SCRUB_EN : Fld := ⟨PND_SCRUB, 31, 1⟩
abbrev PND_SCRUB_HOURS : Fld := ⟨PND_SCRUB, 0, 8⟩
abbrev PND_POOL : Nat := 0x140010
abbrev PND_POOL_BLOCKS : Fld := ⟨PND_POOL, 0, 22⟩
abbrev PND_FREE : Nat := 0x140014
abbrev PND_FREE_LOW : Fld := ⟨PND_FREE, 31, 1⟩
abbrev PND_FREE_BLOCKS : Fld := ⟨PND_FREE, 0, 22⟩
abbrev PND_USE_POUND : Nat := 0x140020
abbrev PND_USE_POUND_BLOCKS : Fld := ⟨PND_USE_POUND, 0, 22⟩
abbrev PND_USE_INSPECT : Nat := 0x140024
abbrev PND_USE_INSPECT_BLOCKS : Fld := ⟨PND_USE_INSPECT, 0, 22⟩
abbrev PND_USE_REPRINT : Nat := 0x140028
abbrev PND_USE_REPRINT_BLOCKS : Fld := ⟨PND_USE_REPRINT, 0, 22⟩
abbrev PND_USE_LANDING : Nat := 0x14002C
abbrev PND_USE_LANDING_BLOCKS : Fld := ⟨PND_USE_LANDING, 0, 22⟩
abbrev PND_USE_WEIR : Nat := 0x140030
abbrev PND_USE_WEIR_BLOCKS : Fld := ⟨PND_USE_WEIR, 0, 22⟩
abbrev PND_USE_TABLE : Nat := 0x140034
abbrev PND_USE_TABLE_BLOCKS : Fld := ⟨PND_USE_TABLE, 0, 22⟩
abbrev PND_DEC_STAT : Nat := 0x140040
abbrev PND_DEC_STAT_ENGINES : Fld := ⟨PND_DEC_STAT, 24, 7⟩
abbrev PND_DEC_STAT_VERIFY : Fld := ⟨PND_DEC_STAT, 16, 8⟩
abbrev PND_DEC_STAT_REFERENCE : Fld := ⟨PND_DEC_STAT, 8, 8⟩
abbrev PND_DEC_STAT_FIRING : Fld := ⟨PND_DEC_STAT, 0, 8⟩
abbrev PND_ERR_LOG_0 : Nat := 0x140050
abbrev PND_ERR_LOG_0_CAUSE : Fld := ⟨PND_ERR_LOG_0, 24, 8⟩
abbrev PND_ERR_LOG_0_TILE_COL : Fld := ⟨PND_ERR_LOG_0, 16, 4⟩
abbrev PND_ERR_LOG_0_CHANNEL : Fld := ⟨PND_ERR_LOG_0, 0, 3⟩
abbrev PND_ERR_LOG_1 : Nat := 0x140054
abbrev PND_ERR_LOG_1_BAND : Fld := ⟨PND_ERR_LOG_1, 20, 12⟩
abbrev PND_ERR_LOG_1_LINE : Fld := ⟨PND_ERR_LOG_1, 0, 9⟩
abbrev PND_ERR_LOG_2 : Nat := 0x140058
abbrev PND_ERR_LOG_2_PAGE_ID : Fld := ⟨PND_ERR_LOG_2, 0, 32⟩
abbrev PND_ERR_LOG_3 : Nat := 0x14005C
abbrev PND_ERR_LOG_3_JOB_ID : Fld := ⟨PND_ERR_LOG_3, 16, 16⟩
abbrev PND_ERR_LOG_3_PASS : Fld := ⟨PND_ERR_LOG_3, 0, 8⟩
abbrev PND_RPQ_STAT : Nat := 0x140060
abbrev PND_RPQ_STAT_OVERFLOW : Fld := ⟨PND_RPQ_STAT, 16, 16⟩
abbrev PND_RPQ_STAT_COUNT : Fld := ⟨PND_RPQ_STAT, 0, 9⟩
abbrev PND_RPQ_0 : Nat := 0x140064
abbrev PND_RPQ_0_PAGE_ID : Fld := ⟨PND_RPQ_0, 0, 32⟩
abbrev PND_RPQ_1 : Nat := 0x140068
abbrev PND_RPQ_1_JOB_ID : Fld := ⟨PND_RPQ_1, 16, 16⟩
abbrev PND_RPQ_1_PASS : Fld := ⟨PND_RPQ_1, 8, 8⟩
abbrev PND_RPQ_1_CAUSE : Fld := ⟨PND_RPQ_1, 0, 8⟩
abbrev PND_RPQ_2 : Nat := 0x14006C
abbrev PND_RPQ_2_HELD : Fld := ⟨PND_RPQ_2, 31, 1⟩
abbrev PND_RPQ_2_MULTI : Fld := ⟨PND_RPQ_2, 30, 1⟩
abbrev PND_RPQ_2_NEEDS : Fld := ⟨PND_RPQ_2, 8, 8⟩
abbrev PND_RPQ_2_CH : Fld := ⟨PND_RPQ_2, 0, 8⟩
abbrev PND_RPQ_POP : Nat := 0x140070
abbrev PND_RPQ_POP_VALUE : Fld := ⟨PND_RPQ_POP, 0, 32⟩
abbrev PND_RPR_RELEASE : Nat := 0x140074
abbrev PND_RPR_RELEASE_VALUE : Fld := ⟨PND_RPR_RELEASE, 0, 32⟩
abbrev PND_MEM_CE : Nat := 0x140080
abbrev PND_MEM_CE_COUNT : Fld := ⟨PND_MEM_CE, 0, 32⟩
abbrev PND_MEM_UE : Nat := 0x140084
abbrev PND_MEM_UE_COUNT : Fld := ⟨PND_MEM_UE, 0, 32⟩
abbrev PND_MEM_ADDR_LO : Nat := 0x140088
abbrev PND_MEM_ADDR_LO_ADDR : Fld := ⟨PND_MEM_ADDR_LO, 0, 32⟩
abbrev PND_MEM_ADDR_HI : Nat := 0x14008C
abbrev PND_MEM_ADDR_HI_UE : Fld := ⟨PND_MEM_ADDR_HI, 31, 1⟩
abbrev PND_MEM_ADDR_HI_ADDR : Fld := ⟨PND_MEM_ADDR_HI, 0, 4⟩
abbrev PND_MEM_REPAIR : Nat := 0x140090
abbrev PND_MEM_REPAIR_SPARES_LEFT : Fld := ⟨PND_MEM_REPAIR, 24, 8⟩
abbrev PND_MEM_REPAIR_PENDING : Fld := ⟨PND_MEM_REPAIR, 16, 8⟩
abbrev PND_MEM_REPAIR_RETIRED : Fld := ⟨PND_MEM_REPAIR, 0, 16⟩
abbrev PND_STB_SEQ : Nat := 0x140800
abbrev PND_STB_SEQ_SEQ : Fld := ⟨PND_STB_SEQ, 0, 32⟩
abbrev PND_STB_ID : Nat := 0x140804
abbrev PND_STB_ID_ID : Fld := ⟨PND_STB_ID, 0, 32⟩
abbrev PND_STB_INFO : Nat := 0x140808
abbrev PND_STB_INFO_SAT : Fld := ⟨PND_STB_INFO, 31, 1⟩
abbrev PND_STB_INFO_PARTIAL : Fld := ⟨PND_STB_INFO, 30, 1⟩
abbrev PND_STB_INFO_KIND : Fld := ⟨PND_STB_INFO, 27, 3⟩
abbrev PND_STB_INFO_SPILL : Fld := ⟨PND_STB_INFO, 26, 1⟩
abbrev PND_STB_INFO_SUB : Fld := ⟨PND_STB_INFO, 0, 16⟩
abbrev PND_STB_DEADLINE_MISS : Nat := 0x14080C
abbrev PND_STB_DEADLINE_MISS_COUNT : Fld := ⟨PND_STB_DEADLINE_MISS, 0, 32⟩
abbrev PND_STB_EXPANSION : Nat := 0x140810
abbrev PND_STB_EXPANSION_COUNT : Fld := ⟨PND_STB_EXPANSION, 0, 32⟩
abbrev PND_STB_CRC_FAIL : Nat := 0x140814
abbrev PND_STB_CRC_FAIL_COUNT : Fld := ⟨PND_STB_CRC_FAIL, 0, 32⟩
abbrev PND_STB_BAD_STREAM : Nat := 0x140818
abbrev PND_STB_BAD_STREAM_COUNT : Fld := ⟨PND_STB_BAD_STREAM, 0, 32⟩
abbrev PND_STB_MEMORY : Nat := 0x14081C
abbrev PND_STB_MEMORY_COUNT : Fld := ⟨PND_STB_MEMORY, 0, 32⟩
abbrev PND_STB_BLANK_LINES : Nat := 0x140820
abbrev PND_STB_BLANK_LINES_COUNT : Fld := ⟨PND_STB_BLANK_LINES, 0, 32⟩
abbrev PND_STB_REF_MISS : Nat := 0x140824
abbrev PND_STB_REF_MISS_COUNT : Fld := ⟨PND_STB_REF_MISS, 0, 32⟩
abbrev PND_STB_REPRINT_QUEUED : Nat := 0x140828
abbrev PND_STB_REPRINT_QUEUED_COUNT : Fld := ⟨PND_STB_REPRINT_QUEUED, 0, 32⟩
abbrev PND_STB_EVICTED : Nat := 0x14082C
abbrev PND_STB_EVICTED_COUNT : Fld := ⟨PND_STB_EVICTED, 0, 32⟩
abbrev PND_STB_CE : Nat := 0x140830
abbrev PND_STB_CE_COUNT : Fld := ⟨PND_STB_CE, 0, 32⟩
abbrev PND_STB_UE : Nat := 0x140834
abbrev PND_STB_UE_COUNT : Fld := ⟨PND_STB_UE, 0, 32⟩
abbrev PND_STB_FREE_MIN : Nat := 0x140838
abbrev PND_STB_FREE_MIN_COUNT : Fld := ⟨PND_STB_FREE_MIN, 0, 32⟩
abbrev PND_STB_DEC_BYTES_LO : Nat := 0x14083C
abbrev PND_STB_DEC_BYTES_LO_BYTES : Fld := ⟨PND_STB_DEC_BYTES_LO, 0, 32⟩
abbrev PND_STB_DEC_BYTES_HI : Nat := 0x140840
abbrev PND_STB_DEC_BYTES_HI_BYTES : Fld := ⟨PND_STB_DEC_BYTES_HI, 0, 32⟩

/-! ## ASM (R209) -/

abbrev ASM_CTL : Nat := 0x180000
abbrev ASM_CTL_STAT_CH : Fld := ⟨ASM_CTL, 8, 3⟩
abbrev ASM_STAT : Nat := 0x180004
abbrev ASM_STAT_CAPPED : Fld := ⟨ASM_STAT, 16, 8⟩
abbrev ASM_STAT_UNCOVERED : Fld := ⟨ASM_STAT, 8, 8⟩
abbrev ASM_STAT_ASSEMBLING : Fld := ⟨ASM_STAT, 0, 8⟩
abbrev ASM_NT_INDEX : Nat := 0x180010
abbrev ASM_NT_INDEX_INDEX : Fld := ⟨ASM_NT_INDEX, 0, 22⟩
abbrev ASM_NT_MASK : Nat := 0x180014
abbrev ASM_NT_MASK_FIELDS : Fld := ⟨ASM_NT_MASK, 0, 12⟩
abbrev ASM_NT_CMD : Nat := 0x180018
abbrev ASM_NT_CMD_INC : Fld := ⟨ASM_NT_CMD, 8, 1⟩
abbrev ASM_NT_CMD_OP : Fld := ⟨ASM_NT_CMD, 0, 2⟩
abbrev ASM_NT_STAT : Nat := 0x18001C
abbrev ASM_NT_STAT_BUSY : Fld := ⟨ASM_NT_STAT, 31, 1⟩
abbrev ASM_NT_STAT_ERR : Fld := ⟨ASM_NT_STAT, 30, 1⟩
abbrev ASM_NT_STAT_ERR_CAUSE : Fld := ⟨ASM_NT_STAT, 28, 2⟩
abbrev ASM_NT_STAT_FULL : Fld := ⟨ASM_NT_STAT, 27, 1⟩
abbrev ASM_NT_STAT_INIT_DONE : Fld := ⟨ASM_NT_STAT, 26, 1⟩
abbrev ASM_NT_STAT_DROPPED : Fld := ⟨ASM_NT_STAT, 17, 9⟩
abbrev ASM_NT_STAT_BUF_USED : Fld := ⟨ASM_NT_STAT, 0, 17⟩
abbrev ASM_NT_WDATA (i : Nat) : Nat := 0x180020 + 0x4 * i
abbrev ASM_NT_WDATA_DATA (i : Nat) : Fld := ⟨(ASM_NT_WDATA i), 0, 32⟩
abbrev ASM_NT_RDATA (i : Nat) : Nat := 0x180030 + 0x4 * i
abbrev ASM_NT_RDATA_DATA (i : Nat) : Fld := ⟨(ASM_NT_RDATA i), 0, 32⟩
abbrev ASM_NT_RP_START : Nat := 0x180040
abbrev ASM_NT_RP_START_INDEX : Fld := ⟨ASM_NT_RP_START, 0, 22⟩
abbrev ASM_NT_ECC : Nat := 0x180044
abbrev ASM_NT_ECC_CE : Fld := ⟨ASM_NT_ECC, 16, 16⟩
abbrev ASM_NT_ECC_UE : Fld := ⟨ASM_NT_ECC, 0, 16⟩
abbrev ASM_NT_ECC_IDX : Nat := 0x180048
abbrev ASM_NT_ECC_IDX_UE : Fld := ⟨ASM_NT_ECC_IDX, 31, 1⟩
abbrev ASM_NT_ECC_IDX_INDEX : Fld := ⟨ASM_NT_ECC_IDX, 0, 22⟩
abbrev ASM_CH_CFG (c : Nat) : Nat := 0x180100 + 0x20 * c
abbrev ASM_CH_CFG_CAP_EN (c : Nat) : Fld := ⟨(ASM_CH_CFG c), 10, 1⟩
abbrev ASM_CH_CFG_FLANK_EN (c : Nat) : Fld := ⟨(ASM_CH_CFG c), 9, 1⟩
abbrev ASM_CH_CFG_TRIM_EN (c : Nat) : Fld := ⟨(ASM_CH_CFG c), 8, 1⟩
abbrev ASM_CH_CFG_D (c : Nat) : Fld := ⟨(ASM_CH_CFG c), 0, 3⟩
abbrev ASM_CH_LEVEL_E (c : Nat) : Nat := 0x180104 + 0x20 * c
abbrev ASM_CH_LEVEL_E_E_3 (c : Nat) : Fld := ⟨(ASM_CH_LEVEL_E c), 16, 8⟩
abbrev ASM_CH_LEVEL_E_E_2 (c : Nat) : Fld := ⟨(ASM_CH_LEVEL_E c), 8, 8⟩
abbrev ASM_CH_LEVEL_E_E_1 (c : Nat) : Fld := ⟨(ASM_CH_LEVEL_E c), 0, 8⟩
abbrev ASM_CH_ECAP (c : Nat) : Nat := 0x180108 + 0x20 * c
abbrev ASM_CH_ECAP_ECAP (c : Nat) : Fld := ⟨(ASM_CH_ECAP c), 0, 20⟩
abbrev ASM_CH_THERM (c : Nat) : Nat := 0x18010C + 0x20 * c
abbrev ASM_CH_THERM_WARN (c : Nat) : Fld := ⟨(ASM_CH_THERM c), 8, 8⟩
abbrev ASM_CH_THERM_DERATE (c : Nat) : Fld := ⟨(ASM_CH_THERM c), 0, 6⟩
abbrev ASM_CH_STITCH_LO (c : Nat) : Nat := 0x180110 + 0x20 * c
abbrev ASM_CH_STITCH_LO_CODE (c : Nat) : Fld := ⟨(ASM_CH_STITCH_LO c), 0, 32⟩
abbrev ASM_CH_STITCH_HI (c : Nat) : Nat := 0x180114 + 0x20 * c
abbrev ASM_CH_STITCH_HI_CODE (c : Nat) : Fld := ⟨(ASM_CH_STITCH_HI c), 0, 32⟩
abbrev ASM_ROT_LO : Nat := 0x180200
abbrev ASM_ROT_LO_STEP : Fld := ⟨ASM_ROT_LO, 0, 32⟩
abbrev ASM_ROT_HI : Nat := 0x180204
abbrev ASM_ROT_HI_STEP : Fld := ⟨ASM_ROT_HI, 0, 32⟩
abbrev ASM_SHD_STAT (n : Nat) : Nat := 0x180300 + 0x10 * n
abbrev ASM_SHD_STAT_PENDING (n : Nat) : Fld := ⟨(ASM_SHD_STAT n), 31, 1⟩
abbrev ASM_SHD_STAT_LATE (n : Nat) : Fld := ⟨(ASM_SHD_STAT n), 30, 1⟩
abbrev ASM_SHD_STAT_SUPERSEDED (n : Nat) : Fld := ⟨(ASM_SHD_STAT n), 29, 1⟩
abbrev ASM_SHD_STAT_REFUSED (n : Nat) : Fld := ⟨(ASM_SHD_STAT n), 28, 1⟩
abbrev ASM_SHD_STAT_BY_IDLE (n : Nat) : Fld := ⟨(ASM_SHD_STAT n), 27, 1⟩
abbrev ASM_SHD_STAT_KIND (n : Nat) : Fld := ⟨(ASM_SHD_STAT n), 24, 3⟩
abbrev ASM_SHD_STAT_HANDOVERS (n : Nat) : Fld := ⟨(ASM_SHD_STAT n), 0, 16⟩
abbrev ASM_SHD_ID (n : Nat) : Nat := 0x180304 + 0x10 * n
abbrev ASM_SHD_ID_ID (n : Nat) : Fld := ⟨(ASM_SHD_ID n), 0, 32⟩
abbrev ASM_COMMIT (n : Nat) : Nat := 0x180308 + 0x10 * n
abbrev ASM_COMMIT_DISCARD (n : Nat) : Fld := ⟨(ASM_COMMIT n), 1, 1⟩
abbrev ASM_COMMIT_COMMIT (n : Nat) : Fld := ⟨(ASM_COMMIT n), 0, 1⟩
abbrev ASM_RB_SEL : Nat := 0x1803A0
abbrev ASM_RB_SEL_OFFSET : Fld := ⟨ASM_RB_SEL, 0, 12⟩
abbrev ASM_RB_DATA : Nat := 0x1803A4
abbrev ASM_RB_DATA_VALUE : Fld := ⟨ASM_RB_DATA, 0, 32⟩
abbrev ASM_STB_SEQ : Nat := 0x180800
abbrev ASM_STB_SEQ_SEQ : Fld := ⟨ASM_STB_SEQ, 0, 32⟩
abbrev ASM_STB_ID : Nat := 0x180804
abbrev ASM_STB_ID_ID : Fld := ⟨ASM_STB_ID, 0, 32⟩
abbrev ASM_STB_INFO : Nat := 0x180808
abbrev ASM_STB_INFO_SAT : Fld := ⟨ASM_STB_INFO, 31, 1⟩
abbrev ASM_STB_INFO_PARTIAL : Fld := ⟨ASM_STB_INFO, 30, 1⟩
abbrev ASM_STB_INFO_KIND : Fld := ⟨ASM_STB_INFO, 27, 3⟩
abbrev ASM_STB_INFO_SPILL : Fld := ⟨ASM_STB_INFO, 26, 1⟩
abbrev ASM_STB_INFO_SUB : Fld := ⟨ASM_STB_INFO, 0, 16⟩
abbrev ASM_STB_DEFICIENT : Nat := 0x18080C
abbrev ASM_STB_DEFICIENT_COUNT : Fld := ⟨ASM_STB_DEFICIENT, 0, 32⟩
abbrev ASM_STB_FLANK_PROMOTE : Nat := 0x180810
abbrev ASM_STB_FLANK_PROMOTE_COUNT : Fld := ⟨ASM_STB_FLANK_PROMOTE, 0, 32⟩
abbrev ASM_STB_FLANK_LOST : Nat := 0x180814
abbrev ASM_STB_FLANK_LOST_COUNT : Fld := ⟨ASM_STB_FLANK_LOST, 0, 32⟩
abbrev ASM_STB_TRIM_PROMOTE : Nat := 0x180818
abbrev ASM_STB_TRIM_PROMOTE_COUNT : Fld := ⟨ASM_STB_TRIM_PROMOTE, 0, 32⟩
abbrev ASM_STB_TRIM_DEMOTE : Nat := 0x18081C
abbrev ASM_STB_TRIM_DEMOTE_COUNT : Fld := ⟨ASM_STB_TRIM_DEMOTE, 0, 32⟩
abbrev ASM_STB_CAP_DEMOTE : Nat := 0x180820
abbrev ASM_STB_CAP_DEMOTE_COUNT : Fld := ⟨ASM_STB_CAP_DEMOTE, 0, 32⟩
abbrev ASM_STB_SHAPE_DEMOTE : Nat := 0x180824
abbrev ASM_STB_SHAPE_DEMOTE_COUNT : Fld := ⟨ASM_STB_SHAPE_DEMOTE, 0, 32⟩
abbrev ASM_STB_SEAM_SKIP : Nat := 0x180828
abbrev ASM_STB_SEAM_SKIP_COUNT : Fld := ⟨ASM_STB_SEAM_SKIP, 0, 32⟩
abbrev ASM_STB_ROT_LIMITED : Nat := 0x18082C
abbrev ASM_STB_ROT_LIMITED_COUNT : Fld := ⟨ASM_STB_ROT_LIMITED, 0, 32⟩
abbrev ASM_STB_UNCOVERED : Nat := 0x180830
abbrev ASM_STB_UNCOVERED_COUNT : Fld := ⟨ASM_STB_UNCOVERED, 0, 32⟩

/-! ## FIR (R240) -/

abbrev FIR_CTL : Nat := 0x1C0000
abbrev FIR_CTL_STAT_CH : Fld := ⟨FIR_CTL, 12, 3⟩
abbrev FIR_CTL_TANDEM : Fld := ⟨FIR_CTL, 10, 2⟩
abbrev FIR_CTL_START_MODE : Fld := ⟨FIR_CTL, 8, 2⟩
abbrev FIR_CTL_START_EDGE : Fld := ⟨FIR_CTL, 7, 1⟩
abbrev FIR_CTL_START_GPI : Fld := ⟨FIR_CTL, 4, 3⟩
abbrev FIR_CTL_REACH_LOG2 : Fld := ⟨FIR_CTL, 0, 4⟩
abbrev FIR_STAT : Nat := 0x1C0004
abbrev FIR_STAT_RUNNING : Fld := ⟨FIR_STAT, 31, 1⟩
abbrev FIR_STAT_WAIT_TRIGGER : Fld := ⟨FIR_STAT, 30, 1⟩
abbrev FIR_STAT_START_MOVED : Fld := ⟨FIR_STAT, 29, 1⟩
abbrev FIR_STAT_Q_RANGE : Fld := ⟨FIR_STAT, 28, 1⟩
abbrev FIR_STAT_OVERRUN : Fld := ⟨FIR_STAT, 27, 1⟩
abbrev FIR_STAT_OVERSPEED : Fld := ⟨FIR_STAT, 16, 8⟩
abbrev FIR_STAT_HOT : Fld := ⟨FIR_STAT, 8, 8⟩
abbrev FIR_STAT_RAMPING : Fld := ⟨FIR_STAT, 0, 8⟩
abbrev FIR_CPL_LO : Nat := 0x1C0008
abbrev FIR_CPL_LO_FRAC : Fld := ⟨FIR_CPL_LO, 0, 32⟩
abbrev FIR_CPL_HI : Nat := 0x1C000C
abbrev FIR_CPL_HI_INT : Fld := ⟨FIR_CPL_HI, 0, 16⟩
abbrev FIR_START_DIST_LO : Nat := 0x1C0010
abbrev FIR_START_DIST_LO_COUNTS : Fld := ⟨FIR_START_DIST_LO, 0, 32⟩
abbrev FIR_START_DIST_HI : Nat := 0x1C0014
abbrev FIR_START_DIST_HI_COUNTS : Fld := ⟨FIR_START_DIST_HI, 0, 16⟩
abbrev FIR_TIMING : Nat := 0x1C0018
abbrev FIR_TIMING_CLAMP_TOL : Fld := ⟨FIR_TIMING, 24, 8⟩
abbrev FIR_TIMING_ACC_EN : Fld := ⟨FIR_TIMING, 12, 1⟩
abbrev FIR_TIMING_LEAD : Fld := ⟨FIR_TIMING, 0, 12⟩
abbrev FIR_REACH : Nat := 0x1C001C
abbrev FIR_REACH_REACH : Fld := ⟨FIR_REACH, 0, 32⟩
abbrev FIR_PERIOD : Nat := 0x1C0020
abbrev FIR_PERIOD_PERIOD : Fld := ⟨FIR_PERIOD, 0, 32⟩
abbrev FIR_W0_LO : Nat := 0x1C0024
abbrev FIR_W0_LO_COUNTS : Fld := ⟨FIR_W0_LO, 0, 32⟩
abbrev FIR_W0_HI : Nat := 0x1C0028
abbrev FIR_W0_HI_COUNTS : Fld := ⟨FIR_W0_HI, 0, 16⟩
abbrev FIR_INS_OFFSET_LO : Nat := 0x1C002C
abbrev FIR_INS_OFFSET_LO_COUNTS : Fld := ⟨FIR_INS_OFFSET_LO, 0, 32⟩
abbrev FIR_INS_OFFSET_HI : Nat := 0x1C0030
abbrev FIR_INS_OFFSET_HI_COUNTS : Fld := ⟨FIR_INS_OFFSET_HI, 0, 16⟩
abbrev FIR_SYNC_CTL : Nat := 0x1C0034
abbrev FIR_SYNC_CTL_SYNC_TOL : Fld := ⟨FIR_SYNC_CTL, 16, 16⟩
abbrev FIR_SYNC_DEV : Nat := 0x1C0038
abbrev FIR_SYNC_DEV_DEV : Fld := ⟨FIR_SYNC_DEV, 0, 32⟩
abbrev FIR_CH_OFFSET_LO (c : Nat) : Nat := 0x1C0100 + 0x40 * c
abbrev FIR_CH_OFFSET_LO_COUNTS (c : Nat) : Fld := ⟨(FIR_CH_OFFSET_LO c), 0, 32⟩
abbrev FIR_CH_OFFSET_HI (c : Nat) : Nat := 0x1C0104 + 0x40 * c
abbrev FIR_CH_OFFSET_HI_COUNTS (c : Nat) : Fld := ⟨(FIR_CH_OFFSET_HI c), 0, 16⟩
abbrev FIR_CH_FLIGHT (c : Nat) : Nat := 0x1C0108 + 0x40 * c
abbrev FIR_CH_FLIGHT_CYCLES (c : Nat) : Fld := ⟨(FIR_CH_FLIGHT c), 0, 20⟩
abbrev FIR_CH_STROBE (c : Nat) : Nat := 0x1C010C + 0x40 * c
abbrev FIR_CH_STROBE_EJ (c : Nat) : Fld := ⟨(FIR_CH_STROBE c), 24, 8⟩
abbrev FIR_CH_STROBE_W_NOM (c : Nat) : Fld := ⟨(FIR_CH_STROBE c), 12, 11⟩
abbrev FIR_CH_STROBE_W_MIN (c : Nat) : Fld := ⟨(FIR_CH_STROBE c), 0, 11⟩
abbrev FIR_CH_STROBE_T (c : Nat) : Nat := 0x1C0110 + 0x40 * c
abbrev FIR_CH_STROBE_T_PRE (c : Nat) : Fld := ⟨(FIR_CH_STROBE_T c), 24, 8⟩
abbrev FIR_CH_STROBE_T_T_REF (c : Nat) : Fld := ⟨(FIR_CH_STROBE_T c), 8, 8⟩
abbrev FIR_CH_STROBE_T_TCW (c : Nat) : Fld := ⟨(FIR_CH_STROBE_T c), 0, 8⟩
abbrev FIR_CH_FDIE (c : Nat) : Nat := 0x1C0114 + 0x40 * c
abbrev FIR_CH_FDIE_KHZ (c : Nat) : Fld := ⟨(FIR_CH_FDIE c), 0, 7⟩
abbrev FIR_CH_HOT (c : Nat) : Nat := 0x1C0118 + 0x40 * c
abbrev FIR_CH_HOT_LIMIT (c : Nat) : Fld := ⟨(FIR_CH_HOT c), 8, 8⟩
abbrev FIR_CH_HOT_RESUME (c : Nat) : Fld := ⟨(FIR_CH_HOT c), 0, 8⟩
abbrev FIR_CH_LINE (c : Nat) : Nat := 0x1C011C + 0x40 * c
abbrev FIR_CH_LINE_LINE (c : Nat) : Fld := ⟨(FIR_CH_LINE c), 0, 32⟩
abbrev FIR_CH_ROWPOS (c : Nat) (i : Nat) : Nat := 0x1C0120 + 0x40 * c + 0x4 * i
abbrev FIR_CH_ROWPOS_COUNTS (c : Nat) (i : Nat) : Fld := ⟨(FIR_CH_ROWPOS c i), 0, 32⟩
abbrev FIR_CH_HOT_LO (c : Nat) : Nat := 0x1C0138 + 0x40 * c
abbrev FIR_CH_HOT_LO_DIES (c : Nat) : Fld := ⟨(FIR_CH_HOT_LO c), 0, 32⟩
abbrev FIR_CH_HOT_HI (c : Nat) : Nat := 0x1C013C + 0x40 * c
abbrev FIR_CH_HOT_HI_DIES (c : Nat) : Fld := ⟨(FIR_CH_HOT_HI c), 0, 20⟩
abbrev FIR_SHD_STAT (n : Nat) : Nat := 0x1C0300 + 0x10 * n
abbrev FIR_SHD_STAT_PENDING (n : Nat) : Fld := ⟨(FIR_SHD_STAT n), 31, 1⟩
abbrev FIR_SHD_STAT_LATE (n : Nat) : Fld := ⟨(FIR_SHD_STAT n), 30, 1⟩
abbrev FIR_SHD_STAT_SUPERSEDED (n : Nat) : Fld := ⟨(FIR_SHD_STAT n), 29, 1⟩
abbrev FIR_SHD_STAT_REFUSED (n : Nat) : Fld := ⟨(FIR_SHD_STAT n), 28, 1⟩
abbrev FIR_SHD_STAT_BY_IDLE (n : Nat) : Fld := ⟨(FIR_SHD_STAT n), 27, 1⟩
abbrev FIR_SHD_STAT_KIND (n : Nat) : Fld := ⟨(FIR_SHD_STAT n), 24, 3⟩
abbrev FIR_SHD_STAT_HANDOVERS (n : Nat) : Fld := ⟨(FIR_SHD_STAT n), 0, 16⟩
abbrev FIR_SHD_ID (n : Nat) : Nat := 0x1C0304 + 0x10 * n
abbrev FIR_SHD_ID_ID (n : Nat) : Fld := ⟨(FIR_SHD_ID n), 0, 32⟩
abbrev FIR_COMMIT (n : Nat) : Nat := 0x1C0308 + 0x10 * n
abbrev FIR_COMMIT_DISCARD (n : Nat) : Fld := ⟨(FIR_COMMIT n), 1, 1⟩
abbrev FIR_COMMIT_COMMIT (n : Nat) : Fld := ⟨(FIR_COMMIT n), 0, 1⟩
abbrev FIR_RB_SEL : Nat := 0x1C0380
abbrev FIR_RB_SEL_OFFSET : Fld := ⟨FIR_RB_SEL, 0, 13⟩
abbrev FIR_RB_DATA : Nat := 0x1C0384
abbrev FIR_RB_DATA_VALUE : Fld := ⟨FIR_RB_DATA, 0, 32⟩
abbrev FIR_STB_SEQ : Nat := 0x1C0800
abbrev FIR_STB_SEQ_SEQ : Fld := ⟨FIR_STB_SEQ, 0, 32⟩
abbrev FIR_STB_ID : Nat := 0x1C0804
abbrev FIR_STB_ID_ID : Fld := ⟨FIR_STB_ID, 0, 32⟩
abbrev FIR_STB_INFO : Nat := 0x1C0808
abbrev FIR_STB_INFO_SAT : Fld := ⟨FIR_STB_INFO, 31, 1⟩
abbrev FIR_STB_INFO_PARTIAL : Fld := ⟨FIR_STB_INFO, 30, 1⟩
abbrev FIR_STB_INFO_KIND : Fld := ⟨FIR_STB_INFO, 27, 3⟩
abbrev FIR_STB_INFO_SPILL : Fld := ⟨FIR_STB_INFO, 26, 1⟩
abbrev FIR_STB_INFO_SUB : Fld := ⟨FIR_STB_INFO, 0, 16⟩
abbrev FIR_STB_LINES : Nat := 0x1C080C
abbrev FIR_STB_LINES_COUNT : Fld := ⟨FIR_STB_LINES, 0, 32⟩
abbrev FIR_STB_ANCHOR_FORCED : Nat := 0x1C0810
abbrev FIR_STB_ANCHOR_FORCED_COUNT : Fld := ⟨FIR_STB_ANCHOR_FORCED, 0, 32⟩
abbrev FIR_STB_PERIOD_STEP : Nat := 0x1C0814
abbrev FIR_STB_PERIOD_STEP_COUNT : Fld := ⟨FIR_STB_PERIOD_STEP, 0, 32⟩
abbrev FIR_STB_FRAME_LATE : Nat := 0x1C0818
abbrev FIR_STB_FRAME_LATE_COUNT : Fld := ⟨FIR_STB_FRAME_LATE, 0, 32⟩
abbrev FIR_STB_OVERSPEED_LINES : Nat := 0x1C081C
abbrev FIR_STB_OVERSPEED_LINES_COUNT : Fld := ⟨FIR_STB_OVERSPEED_LINES, 0, 32⟩
abbrev FIR_STB_HOT_LINES : Nat := 0x1C0820
abbrev FIR_STB_HOT_LINES_COUNT : Fld := ⟨FIR_STB_HOT_LINES, 0, 32⟩
abbrev FIR_STB_RAMP_LINES : Nat := 0x1C0824
abbrev FIR_STB_RAMP_LINES_COUNT : Fld := ⟨FIR_STB_RAMP_LINES, 0, 32⟩
abbrev FIR_DIEPOS (c : Nat) (d : Nat) : Nat := 0x1C1000 + 0xD0 * c + 0x4 * d
abbrev FIR_DIEPOS_COUNTS (c : Nat) (d : Nat) : Fld := ⟨(FIR_DIEPOS c d), 0, 32⟩

/-! ## POS (R260) -/

abbrev POS_CTL : Nat := 0x200000
abbrev POS_CTL_STAT_CH : Fld := ⟨POS_CTL, 0, 3⟩
abbrev POS_STAT : Nat := 0x200004
abbrev POS_STAT_VALID : Fld := ⟨POS_STAT, 31, 1⟩
abbrev POS_STAT_PAUSED : Fld := ⟨POS_STAT, 30, 1⟩
abbrev POS_STAT_ON_BACKUP : Fld := ⟨POS_STAT, 29, 1⟩
abbrev POS_STAT_RESELECT_PENDING : Fld := ⟨POS_STAT, 28, 1⟩
abbrev POS_STAT_ACTIVE : Fld := ⟨POS_STAT, 24, 2⟩
abbrev POS_SEL : Nat := 0x200008
abbrev POS_SEL_RESELECT : Fld := ⟨POS_SEL, 12, 1⟩
abbrev POS_SEL_BACKUP_EN : Fld := ⟨POS_SEL, 8, 1⟩
abbrev POS_SEL_BACKUP : Fld := ⟨POS_SEL, 4, 2⟩
abbrev POS_SEL_PRIMARY : Fld := ⟨POS_SEL, 0, 2⟩
abbrev POS_FAULT : Nat := 0x20000C
abbrev POS_FAULT_WEB_REVERSE : Fld := ⟨POS_FAULT, 23, 1⟩
abbrev POS_FAULT_REV_FAULT : Fld := ⟨POS_FAULT, 22, 1⟩
abbrev POS_FAULT_TRACK_DEV : Fld := ⟨POS_FAULT, 21, 1⟩
abbrev POS_FAULT_BACKUP_LOST : Fld := ⟨POS_FAULT, 20, 1⟩
abbrev POS_FAULT_SLIP : Fld := ⟨POS_FAULT, 12, 4⟩
abbrev POS_FAULT_AMPLITUDE : Fld := ⟨POS_FAULT, 8, 4⟩
abbrev POS_FAULT_ILLEGAL : Fld := ⟨POS_FAULT, 4, 4⟩
abbrev POS_COUNT_LO : Nat := 0x200010
abbrev POS_COUNT_LO_COUNTS : Fld := ⟨POS_COUNT_LO, 0, 32⟩
abbrev POS_COUNT_HI : Nat := 0x200014
abbrev POS_COUNT_HI_COUNTS : Fld := ⟨POS_COUNT_HI, 0, 16⟩
abbrev POS_HWM_LO : Nat := 0x200018
abbrev POS_HWM_LO_COUNTS : Fld := ⟨POS_HWM_LO, 0, 32⟩
abbrev POS_HWM_HI : Nat := 0x20001C
abbrev POS_HWM_HI_COUNTS : Fld := ⟨POS_HWM_HI, 0, 16⟩
abbrev POS_SPEED_LO : Nat := 0x200020
abbrev POS_SPEED_LO_V : Fld := ⟨POS_SPEED_LO, 0, 32⟩
abbrev POS_SPEED_HI : Nat := 0x200024
abbrev POS_SPEED_HI_V : Fld := ⟨POS_SPEED_HI, 0, 32⟩
abbrev POS_ACCEL_LO : Nat := 0x200028
abbrev POS_ACCEL_LO_A : Fld := ⟨POS_ACCEL_LO, 0, 32⟩
abbrev POS_ACCEL_HI : Nat := 0x20002C
abbrev POS_ACCEL_HI_A : Fld := ⟨POS_ACCEL_HI, 0, 32⟩
abbrev POS_SPD_CTL : Nat := 0x200030
abbrev POS_SPD_CTL_EXTRAP : Fld := ⟨POS_SPD_CTL, 31, 1⟩
abbrev POS_SPD_CTL_STALE_MS : Fld := ⟨POS_SPD_CTL, 8, 8⟩
abbrev POS_SPD_CTL_AVG_LOG2 : Fld := ⟨POS_SPD_CTL, 0, 4⟩
abbrev POS_REV : Nat := 0x200034
abbrev POS_REV_LIMIT : Fld := ⟨POS_REV, 0, 8⟩
abbrev POS_REV_FAULT : Nat := 0x200038
abbrev POS_REV_FAULT_COUNTS : Fld := ⟨POS_REV_FAULT, 0, 32⟩
abbrev POS_REV_DEPTH : Nat := 0x20003C
abbrev POS_REV_DEPTH_COUNTS : Fld := ⟨POS_REV_DEPTH, 0, 32⟩
abbrev POS_FAULT_CTL : Nat := 0x200040
abbrev POS_FAULT_CTL_ILL_MAX : Fld := ⟨POS_FAULT_CTL, 24, 8⟩
abbrev POS_FAULT_CTL_AMP_MAX : Fld := ⟨POS_FAULT_CTL, 16, 8⟩
abbrev POS_FAULT_CTL_WIN_US : Fld := ⟨POS_FAULT_CTL, 0, 16⟩
abbrev POS_TRACK_TOL : Nat := 0x200044
abbrev POS_TRACK_TOL_COUNTS : Fld := ⟨POS_TRACK_TOL, 0, 32⟩
abbrev POS_TRACK_DEV : Nat := 0x200048
abbrev POS_TRACK_DEV_COUNTS : Fld := ⟨POS_TRACK_DEV, 0, 32⟩
abbrev POS_OUT_POL : Nat := 0x20004C
abbrev POS_OUT_POL_MARK_POL : Fld := ⟨POS_OUT_POL, 16, 8⟩
abbrev POS_OUT_POL_TRIG_POL : Fld := ⟨POS_OUT_POL, 0, 16⟩
abbrev POS_PORT_CFG (p : Nat) : Nat := 0x200100 + 0x40 * p
abbrev POS_PORT_CFG_EN (p : Nat) : Fld := ⟨(POS_PORT_CFG p), 31, 1⟩
abbrev POS_PORT_CFG_INVERT (p : Nat) : Fld := ⟨(POS_PORT_CFG p), 30, 1⟩
abbrev POS_PORT_CFG_FILT (p : Nat) : Fld := ⟨(POS_PORT_CFG p), 24, 4⟩
abbrev POS_PORT_CFG_SCALE (p : Nat) : Fld := ⟨(POS_PORT_CFG p), 0, 13⟩
abbrev POS_PORT_OFFSET (p : Nat) : Nat := 0x200104 + 0x40 * p
abbrev POS_PORT_OFFSET_OFF_SIN (p : Nat) : Fld := ⟨(POS_PORT_OFFSET p), 16, 16⟩
abbrev POS_PORT_OFFSET_OFF_COS (p : Nat) : Fld := ⟨(POS_PORT_OFFSET p), 0, 16⟩
abbrev POS_PORT_GAIN (p : Nat) : Nat := 0x200108 + 0x40 * p
abbrev POS_PORT_GAIN_GAIN_COS (p : Nat) : Fld := ⟨(POS_PORT_GAIN p), 16, 16⟩
abbrev POS_PORT_GAIN_NOM (p : Nat) : Fld := ⟨(POS_PORT_GAIN p), 0, 14⟩
abbrev POS_PORT_AMP (p : Nat) : Nat := 0x20010C + 0x40 * p
abbrev POS_PORT_AMP_AMP_HI (p : Nat) : Fld := ⟨(POS_PORT_AMP p), 8, 8⟩
abbrev POS_PORT_AMP_AMP_LO (p : Nat) : Fld := ⟨(POS_PORT_AMP p), 0, 8⟩
abbrev POS_PORT_INDEX (p : Nat) : Nat := 0x200110 + 0x40 * p
abbrev POS_PORT_INDEX_EN (p : Nat) : Fld := ⟨(POS_PORT_INDEX p), 31, 1⟩
abbrev POS_PORT_INDEX_PERIOD (p : Nat) : Fld := ⟨(POS_PORT_INDEX p), 0, 24⟩
abbrev POS_PORT_INDEX_DEV (p : Nat) : Nat := 0x200114 + 0x40 * p
abbrev POS_PORT_INDEX_DEV_DEV (p : Nat) : Fld := ⟨(POS_PORT_INDEX_DEV p), 0, 32⟩
abbrev POS_PORT_STAT (p : Nat) : Nat := 0x200118 + 0x40 * p
abbrev POS_PORT_STAT_ILLEGAL (p : Nat) : Fld := ⟨(POS_PORT_STAT p), 16, 16⟩
abbrev POS_PORT_STAT_MISMATCH (p : Nat) : Fld := ⟨(POS_PORT_STAT p), 4, 12⟩
abbrev POS_PORT_STAT_CONSEC (p : Nat) : Fld := ⟨(POS_PORT_STAT p), 2, 2⟩
abbrev POS_PORT_STAT_GRID (p : Nat) : Fld := ⟨(POS_PORT_STAT p), 1, 1⟩
abbrev POS_PORT_STAT_FAULT (p : Nat) : Fld := ⟨(POS_PORT_STAT p), 0, 1⟩
abbrev POS_PORT_RAW_LO (p : Nat) : Nat := 0x20011C + 0x40 * p
abbrev POS_PORT_RAW_LO_COUNTS (p : Nat) : Fld := ⟨(POS_PORT_RAW_LO p), 0, 32⟩
abbrev POS_PORT_RAW_HI (p : Nat) : Nat := 0x200120 + 0x40 * p
abbrev POS_PORT_RAW_HI_COUNTS (p : Nat) : Fld := ⟨(POS_PORT_RAW_HI p), 0, 16⟩
abbrev POS_CMP_CTL (n : Nat) : Nat := 0x200400 + 0x40 * n
abbrev POS_CMP_CTL_EN (n : Nat) : Fld := ⟨(POS_CMP_CTL n), 31, 1⟩
abbrev POS_CMP_CTL_LOAD (n : Nat) : Fld := ⟨(POS_CMP_CTL n), 30, 1⟩
abbrev POS_CMP_CTL_EVT (n : Nat) : Fld := ⟨(POS_CMP_CTL n), 29, 1⟩
abbrev POS_CMP_CTL_MARK (n : Nat) : Fld := ⟨(POS_CMP_CTL n), 16, 8⟩
abbrev POS_CMP_CTL_TRIG (n : Nat) : Fld := ⟨(POS_CMP_CTL n), 0, 16⟩
abbrev POS_CMP_TGT_LO (n : Nat) : Nat := 0x200404 + 0x40 * n
abbrev POS_CMP_TGT_LO_COUNTS (n : Nat) : Fld := ⟨(POS_CMP_TGT_LO n), 0, 32⟩
abbrev POS_CMP_TGT_HI (n : Nat) : Nat := 0x200408 + 0x40 * n
abbrev POS_CMP_TGT_HI_COUNTS (n : Nat) : Fld := ⟨(POS_CMP_TGT_HI n), 0, 16⟩
abbrev POS_CMP_STEP_LO (n : Nat) : Nat := 0x20040C + 0x40 * n
abbrev POS_CMP_STEP_LO_FRAC (n : Nat) : Fld := ⟨(POS_CMP_STEP_LO n), 0, 32⟩
abbrev POS_CMP_STEP_HI (n : Nat) : Nat := 0x200410 + 0x40 * n
abbrev POS_CMP_STEP_HI_INT (n : Nat) : Fld := ⟨(POS_CMP_STEP_HI n), 0, 32⟩
abbrev POS_CMP_PULSE (n : Nat) : Nat := 0x200414 + 0x40 * n
abbrev POS_CMP_PULSE_WIDTH (n : Nat) : Fld := ⟨(POS_CMP_PULSE n), 16, 16⟩
abbrev POS_CMP_DELAY (n : Nat) : Nat := 0x200418 + 0x40 * n
abbrev POS_CMP_DELAY_CYCLES (n : Nat) : Fld := ⟨(POS_CMP_DELAY n), 0, 20⟩
abbrev POS_CMP_COUNT (n : Nat) : Nat := 0x20041C + 0x40 * n
abbrev POS_CMP_COUNT_FIRES (n : Nat) : Fld := ⟨(POS_CMP_COUNT n), 0, 32⟩
abbrev POS_CMP_TIME_LO (n : Nat) : Nat := 0x200420 + 0x40 * n
abbrev POS_CMP_TIME_LO_CYCLE (n : Nat) : Fld := ⟨(POS_CMP_TIME_LO n), 0, 32⟩
abbrev POS_CMP_TIME_HI (n : Nat) : Nat := 0x200424 + 0x40 * n
abbrev POS_CMP_TIME_HI_CYCLE (n : Nat) : Fld := ⟨(POS_CMP_TIME_HI n), 0, 32⟩
abbrev POS_CMP_STAT (n : Nat) : Nat := 0x200428 + 0x40 * n
abbrev POS_CMP_STAT_LATE (n : Nat) : Fld := ⟨(POS_CMP_STAT n), 31, 1⟩
abbrev POS_CMP_STAT_OWNED (n : Nat) : Fld := ⟨(POS_CMP_STAT n), 30, 1⟩
abbrev POS_CMP_STAT_PULSE_LOST (n : Nat) : Fld := ⟨(POS_CMP_STAT n), 29, 1⟩
abbrev POS_CMP_STAT_FIRES (n : Nat) : Fld := ⟨(POS_CMP_STAT n), 0, 16⟩
abbrev POS_STB_SEQ : Nat := 0x200800
abbrev POS_STB_SEQ_SEQ : Fld := ⟨POS_STB_SEQ, 0, 32⟩
abbrev POS_STB_ID : Nat := 0x200804
abbrev POS_STB_ID_ID : Fld := ⟨POS_STB_ID, 0, 32⟩
abbrev POS_STB_INFO : Nat := 0x200808
abbrev POS_STB_INFO_SAT : Fld := ⟨POS_STB_INFO, 31, 1⟩
abbrev POS_STB_INFO_PARTIAL : Fld := ⟨POS_STB_INFO, 30, 1⟩
abbrev POS_STB_INFO_KIND : Fld := ⟨POS_STB_INFO, 27, 3⟩
abbrev POS_STB_INFO_SPILL : Fld := ⟨POS_STB_INFO, 26, 1⟩
abbrev POS_STB_INFO_SUB : Fld := ⟨POS_STB_INFO, 0, 16⟩
abbrev POS_STB_ILLEGAL_EDGE : Nat := 0x20080C
abbrev POS_STB_ILLEGAL_EDGE_COUNT : Fld := ⟨POS_STB_ILLEGAL_EDGE, 0, 32⟩
abbrev POS_STB_AMP_BAD : Nat := 0x200810
abbrev POS_STB_AMP_BAD_COUNT : Fld := ⟨POS_STB_AMP_BAD, 0, 32⟩
abbrev POS_STB_INDEX_MISMATCH : Nat := 0x200814
abbrev POS_STB_INDEX_MISMATCH_COUNT : Fld := ⟨POS_STB_INDEX_MISMATCH, 0, 32⟩
abbrev POS_STB_WEB_REVERSE : Nat := 0x200818
abbrev POS_STB_WEB_REVERSE_COUNT : Fld := ⟨POS_STB_WEB_REVERSE, 0, 32⟩
abbrev POS_STB_CMP_SKIPPED : Nat := 0x20081C
abbrev POS_STB_CMP_SKIPPED_COUNT : Fld := ⟨POS_STB_CMP_SKIPPED, 0, 32⟩
abbrev POS_STB_PULSE_LOST : Nat := 0x200820
abbrev POS_STB_PULSE_LOST_COUNT : Fld := ⟨POS_STB_PULSE_LOST, 0, 32⟩
abbrev POS_STB_REV_MAX : Nat := 0x200824
abbrev POS_STB_REV_MAX_COUNT : Fld := ⟨POS_STB_REV_MAX, 0, 32⟩

/-! ## JGL (R294) -/

abbrev JGL_CTL : Nat := 0x240000
abbrev JGL_CTL_AUTO_RETRAIN : Fld := ⟨JGL_CTL, 8, 1⟩
abbrev JGL_CTL_STAT_CH : Fld := ⟨JGL_CTL, 0, 3⟩
abbrev JGL_FILL : Nat := 0x240004
abbrev JGL_FILL_ALIGN_KB : Fld := ⟨JGL_FILL, 16, 16⟩
abbrev JGL_FILL_PERIOD : Fld := ⟨JGL_FILL, 0, 16⟩
abbrev JGL_ADAPT : Nat := 0x240008
abbrev JGL_ADAPT_BER_MAX : Fld := ⟨JGL_ADAPT, 16, 16⟩
abbrev JGL_ADAPT_DRIFT_MAX : Fld := ⟨JGL_ADAPT, 8, 4⟩
abbrev JGL_ADAPT_TD_MIN : Fld := ⟨JGL_ADAPT, 0, 6⟩
abbrev JGL_MSG : Nat := 0x24000C
abbrev JGL_MSG_RETRIES : Fld := ⟨JGL_MSG, 16, 16⟩
abbrev JGL_MSG_FAILS : Fld := ⟨JGL_MSG, 0, 16⟩
abbrev JGL_C_CFG (n : Nat) : Nat := 0x240100 + 0x20 * n
abbrev JGL_C_CFG_LAT_ADJ (n : Nat) : Fld := ⟨(JGL_C_CFG n), 16, 16⟩
abbrev JGL_C_CFG_MODE (n : Nat) : Fld := ⟨(JGL_C_CFG n), 0, 2⟩
abbrev JGL_C_STAT (n : Nat) : Nat := 0x240104 + 0x20 * n
abbrev JGL_C_STAT_UP (n : Nat) : Fld := ⟨(JGL_C_STAT n), 31, 1⟩
abbrev JGL_C_STAT_LANES (n : Nat) : Fld := ⟨(JGL_C_STAT n), 29, 2⟩
abbrev JGL_C_STAT_LANE_LOST (n : Nat) : Fld := ⟨(JGL_C_STAT n), 7, 1⟩
abbrev JGL_C_STAT_FAILOVER (n : Nat) : Fld := ⟨(JGL_C_STAT n), 6, 1⟩
abbrev JGL_C_STAT_DRIFT (n : Nat) : Fld := ⟨(JGL_C_STAT n), 5, 1⟩
abbrev JGL_C_STAT_WIRING (n : Nat) : Fld := ⟨(JGL_C_STAT n), 4, 1⟩
abbrev JGL_C_STAT_SKEW (n : Nat) : Fld := ⟨(JGL_C_STAT n), 3, 1⟩
abbrev JGL_C_STAT_MSG_FAIL (n : Nat) : Fld := ⟨(JGL_C_STAT n), 2, 1⟩
abbrev JGL_C_STAT_TELEM_LATE (n : Nat) : Fld := ⟨(JGL_C_STAT n), 1, 1⟩
abbrev JGL_C_STAT_FRAME_LOST (n : Nat) : Fld := ⟨(JGL_C_STAT n), 0, 1⟩
abbrev JGL_C_LAT (n : Nat) : Nat := 0x240108 + 0x20 * n
abbrev JGL_C_LAT_SKEW (n : Nat) : Fld := ⟨(JGL_C_LAT n), 16, 16⟩
abbrev JGL_C_LAT_D (n : Nat) : Fld := ⟨(JGL_C_LAT n), 0, 16⟩
abbrev JGL_C_RAIL (n : Nat) : Nat := 0x24010C + 0x20 * n
abbrev JGL_C_RAIL_FIRE_MV (n : Nat) : Fld := ⟨(JGL_C_RAIL n), 16, 16⟩
abbrev JGL_C_RAIL_FIRE_CA (n : Nat) : Fld := ⟨(JGL_C_RAIL n), 0, 16⟩
abbrev JGL_C_RSTAT (n : Nat) : Nat := 0x240110 + 0x20 * n
abbrev JGL_C_RSTAT_SET_MV (n : Nat) : Fld := ⟨(JGL_C_RSTAT n), 16, 16⟩
abbrev JGL_C_RSTAT_REG_TEMP (n : Nat) : Fld := ⟨(JGL_C_RSTAT n), 8, 8⟩
abbrev JGL_C_RSTAT_REG_STAT (n : Nat) : Fld := ⟨(JGL_C_RSTAT n), 0, 8⟩
abbrev JGL_C_TSEQ (n : Nat) : Nat := 0x240114 + 0x20 * n
abbrev JGL_C_TSEQ_AGE_US (n : Nat) : Fld := ⟨(JGL_C_TSEQ n), 16, 16⟩
abbrev JGL_C_TSEQ_SEQ (n : Nat) : Fld := ⟨(JGL_C_TSEQ n), 0, 16⟩
abbrev JGL_L_CTL (l : Nat) : Nat := 0x240400 + 0x20 * l
abbrev JGL_L_CTL_RETRAIN (l : Nat) : Fld := ⟨(JGL_L_CTL l), 31, 1⟩
abbrev JGL_L_CTL_FREEZE_DIS (l : Nat) : Fld := ⟨(JGL_L_CTL l), 30, 1⟩
abbrev JGL_L_STAT (l : Nat) : Nat := 0x240404 + 0x20 * l
abbrev JGL_L_STAT_STATE (l : Nat) : Fld := ⟨(JGL_L_STAT l), 29, 3⟩
abbrev JGL_L_STAT_BLOCK_LOCK (l : Nat) : Fld := ⟨(JGL_L_STAT l), 28, 1⟩
abbrev JGL_L_STAT_RX_READY_NEAR (l : Nat) : Fld := ⟨(JGL_L_STAT l), 27, 1⟩
abbrev JGL_L_STAT_RX_READY_FAR (l : Nat) : Fld := ⟨(JGL_L_STAT l), 26, 1⟩
abbrev JGL_L_STAT_ADAPT_ON (l : Nat) : Fld := ⟨(JGL_L_STAT l), 25, 1⟩
abbrev JGL_L_STAT_DRIFT (l : Nat) : Fld := ⟨(JGL_L_STAT l), 24, 1⟩
abbrev JGL_L_STAT_FAIL_CAUSE (l : Nat) : Fld := ⟨(JGL_L_STAT l), 20, 4⟩
abbrev JGL_L_STAT_TRAINS (l : Nat) : Fld := ⟨(JGL_L_STAT l), 0, 16⟩
abbrev JGL_L_TXTAP (l : Nat) : Nat := 0x240408 + 0x20 * l
abbrev JGL_L_TXTAP_POST (l : Nat) : Fld := ⟨(JGL_L_TXTAP l), 16, 5⟩
abbrev JGL_L_TXTAP_MAIN (l : Nat) : Fld := ⟨(JGL_L_TXTAP l), 8, 6⟩
abbrev JGL_L_TXTAP_PRE (l : Nat) : Fld := ⟨(JGL_L_TXTAP l), 0, 4⟩
abbrev JGL_L_RXEQ (l : Nat) : Nat := 0x24040C + 0x20 * l
abbrev JGL_L_RXEQ_CTLE (l : Nat) : Fld := ⟨(JGL_L_RXEQ l), 24, 8⟩
abbrev JGL_L_RXEQ_DFE_1 (l : Nat) : Fld := ⟨(JGL_L_RXEQ l), 16, 8⟩
abbrev JGL_L_RXEQ_DRIFT_MAX_SEEN (l : Nat) : Fld := ⟨(JGL_L_RXEQ l), 8, 8⟩
abbrev JGL_L_RXEQ_EYE (l : Nat) : Fld := ⟨(JGL_L_RXEQ l), 0, 8⟩
abbrev JGL_L_ERR (l : Nat) : Nat := 0x240410 + 0x20 * l
abbrev JGL_L_ERR_INVALID_HDR (l : Nat) : Fld := ⟨(JGL_L_ERR l), 16, 16⟩
abbrev JGL_L_ERR_ELASTIC (l : Nat) : Fld := ⟨(JGL_L_ERR l), 0, 16⟩
abbrev JGL_L_PRBS (l : Nat) : Nat := 0x240414 + 0x20 * l
abbrev JGL_L_PRBS_INJ_ONE (l : Nat) : Fld := ⟨(JGL_L_PRBS l), 31, 1⟩
abbrev JGL_L_PRBS_INJ_CONT (l : Nat) : Fld := ⟨(JGL_L_PRBS l), 30, 1⟩
abbrev JGL_L_PRBS_RATE_LOG2 (l : Nat) : Fld := ⟨(JGL_L_PRBS l), 16, 8⟩
abbrev JGL_L_PRBS_LOCK (l : Nat) : Fld := ⟨(JGL_L_PRBS l), 4, 1⟩
abbrev JGL_L_PRBS_CHK (l : Nat) : Fld := ⟨(JGL_L_PRBS l), 3, 1⟩
abbrev JGL_L_PRBS_GEN (l : Nat) : Fld := ⟨(JGL_L_PRBS l), 2, 1⟩
abbrev JGL_L_PRBS_PATTERN (l : Nat) : Fld := ⟨(JGL_L_PRBS l), 0, 2⟩
abbrev JGL_L_PRBS_ERR (l : Nat) : Nat := 0x240418 + 0x20 * l
abbrev JGL_L_PRBS_ERR_ERRORS (l : Nat) : Fld := ⟨(JGL_L_PRBS_ERR l), 0, 32⟩
abbrev JGL_L_PRBS_BITS (l : Nat) : Nat := 0x24041C + 0x20 * l
abbrev JGL_L_PRBS_BITS_BITS (l : Nat) : Fld := ⟨(JGL_L_PRBS_BITS l), 0, 32⟩
abbrev JGL_STB_SEQ : Nat := 0x240800
abbrev JGL_STB_SEQ_SEQ : Fld := ⟨JGL_STB_SEQ, 0, 32⟩
abbrev JGL_STB_ID : Nat := 0x240804
abbrev JGL_STB_ID_ID : Fld := ⟨JGL_STB_ID, 0, 32⟩
abbrev JGL_STB_INFO : Nat := 0x240808
abbrev JGL_STB_INFO_SAT : Fld := ⟨JGL_STB_INFO, 31, 1⟩
abbrev JGL_STB_INFO_PARTIAL : Fld := ⟨JGL_STB_INFO, 30, 1⟩
abbrev JGL_STB_INFO_KIND : Fld := ⟨JGL_STB_INFO, 27, 3⟩
abbrev JGL_STB_INFO_SPILL : Fld := ⟨JGL_STB_INFO, 26, 1⟩
abbrev JGL_STB_INFO_SUB : Fld := ⟨JGL_STB_INFO, 0, 16⟩
abbrev JGL_STB_FRAME_LOST : Nat := 0x24080C
abbrev JGL_STB_FRAME_LOST_COUNT : Fld := ⟨JGL_STB_FRAME_LOST, 0, 32⟩
abbrev JGL_STB_FRAME_CRC_ONE : Nat := 0x240810
abbrev JGL_STB_FRAME_CRC_ONE_COUNT : Fld := ⟨JGL_STB_FRAME_CRC_ONE, 0, 32⟩
abbrev JGL_STB_MARKER_ERR : Nat := 0x240814
abbrev JGL_STB_MARKER_ERR_COUNT : Fld := ⟨JGL_STB_MARKER_ERR, 0, 32⟩
abbrev JGL_STB_INVALID_HDR : Nat := 0x240818
abbrev JGL_STB_INVALID_HDR_COUNT : Fld := ⟨JGL_STB_INVALID_HDR, 0, 32⟩
abbrev JGL_STB_FILL_INS : Nat := 0x24081C
abbrev JGL_STB_FILL_INS_COUNT : Fld := ⟨JGL_STB_FILL_INS, 0, 32⟩
abbrev JGL_STB_FILL_DEL : Nat := 0x240820
abbrev JGL_STB_FILL_DEL_COUNT : Fld := ⟨JGL_STB_FILL_DEL, 0, 32⟩
abbrev JGL_STB_MSG_RETRY : Nat := 0x240824
abbrev JGL_STB_MSG_RETRY_COUNT : Fld := ⟨JGL_STB_MSG_RETRY, 0, 32⟩
abbrev JGL_STB_TELEM_LATE : Nat := 0x240828
abbrev JGL_STB_TELEM_LATE_COUNT : Fld := ⟨JGL_STB_TELEM_LATE, 0, 32⟩
abbrev JGL_STB_FAILOVER : Nat := 0x24082C
abbrev JGL_STB_FAILOVER_COUNT : Fld := ⟨JGL_STB_FAILOVER, 0, 32⟩
abbrev JGL_STB_RETRAIN : Nat := 0x240830
abbrev JGL_STB_RETRAIN_COUNT : Fld := ⟨JGL_STB_RETRAIN, 0, 32⟩
abbrev JGL_STB_FRAME_MAX : Nat := 0x240834
abbrev JGL_STB_FRAME_MAX_COUNT : Fld := ⟨JGL_STB_FRAME_MAX, 0, 32⟩
abbrev JGL_T (n : Nat) (w : Nat) : Nat := 0x241000 + 0x20 * n + 0x4 * w
abbrev JGL_T_TEMP (n : Nat) (w : Nat) : Fld := ⟨(JGL_T n w), 0, 32⟩

/-! ## CAM (R322) -/

abbrev CAM_CTL : Nat := 0x280000
abbrev CAM_CTL_REC_EVT : Fld := ⟨CAM_CTL, 8, 1⟩
abbrev CAM_CTL_STAT_SNS : Fld := ⟨CAM_CTL, 0, 4⟩
abbrev CAM_STAT : Nat := 0x280004
abbrev CAM_STAT_INFLIGHT : Fld := ⟨CAM_STAT, 16, 16⟩
abbrev CAM_STAT_CFG_REJ : Fld := ⟨CAM_STAT, 15, 1⟩
abbrev CAM_STAT_LOAD : Fld := ⟨CAM_STAT, 0, 15⟩
abbrev CAM_PORT_CTL : Nat := 0x280008
abbrev CAM_PORT_CTL_EN_3 : Fld := ⟨CAM_PORT_CTL, 15, 1⟩
abbrev CAM_PORT_CTL_LANES_3 : Fld := ⟨CAM_PORT_CTL, 12, 3⟩
abbrev CAM_PORT_CTL_EN_2 : Fld := ⟨CAM_PORT_CTL, 11, 1⟩
abbrev CAM_PORT_CTL_LANES_2 : Fld := ⟨CAM_PORT_CTL, 8, 3⟩
abbrev CAM_PORT_CTL_EN_1 : Fld := ⟨CAM_PORT_CTL, 7, 1⟩
abbrev CAM_PORT_CTL_LANES_1 : Fld := ⟨CAM_PORT_CTL, 4, 3⟩
abbrev CAM_PORT_CTL_EN_0 : Fld := ⟨CAM_PORT_CTL, 3, 1⟩
abbrev CAM_PORT_CTL_LANES_0 : Fld := ⟨CAM_PORT_CTL, 0, 3⟩
abbrev CAM_PORT_ERR (p : Nat) : Nat := 0x280010 + 0x4 * p
abbrev CAM_PORT_ERR_ECC_CORR (p : Nat) : Fld := ⟨(CAM_PORT_ERR p), 24, 8⟩
abbrev CAM_PORT_ERR_ECC_ERR (p : Nat) : Fld := ⟨(CAM_PORT_ERR p), 16, 8⟩
abbrev CAM_PORT_ERR_CRC_ERR (p : Nat) : Fld := ⟨(CAM_PORT_ERR p), 8, 8⟩
abbrev CAM_PORT_ERR_UNEXPECTED (p : Nat) : Fld := ⟨(CAM_PORT_ERR p), 0, 8⟩
abbrev CAM_SR_BASE_LO : Nat := 0x280020
abbrev CAM_SR_BASE_LO_ADDR : Fld := ⟨CAM_SR_BASE_LO, 12, 20⟩
abbrev CAM_SR_BASE_HI : Nat := 0x280024
abbrev CAM_SR_BASE_HI_ADDR : Fld := ⟨CAM_SR_BASE_HI, 0, 32⟩
abbrev CAM_SR_CTL : Nat := 0x280028
abbrev CAM_SR_CTL_ENABLE : Fld := ⟨CAM_SR_CTL, 31, 1⟩
abbrev CAM_SR_CTL_ERR : Fld := ⟨CAM_SR_CTL, 30, 1⟩
abbrev CAM_SR_CTL_DROPS : Fld := ⟨CAM_SR_CTL, 4, 16⟩
abbrev CAM_SR_CTL_LOG2_SIZE : Fld := ⟨CAM_SR_CTL, 0, 4⟩
abbrev CAM_SR_TAIL : Nat := 0x28002C
abbrev CAM_SR_TAIL_INDEX : Fld := ⟨CAM_SR_TAIL, 0, 12⟩
abbrev CAM_SR_HEAD : Nat := 0x280030
abbrev CAM_SR_HEAD_INDEX : Fld := ⟨CAM_SR_HEAD, 0, 12⟩
abbrev CAM_BUS_CMD : Nat := 0x280040
abbrev CAM_BUS_CMD_GO : Fld := ⟨CAM_BUS_CMD, 31, 1⟩
abbrev CAM_BUS_CMD_READ : Fld := ⟨CAM_BUS_CMD, 30, 1⟩
abbrev CAM_BUS_CMD_BYTES : Fld := ⟨CAM_BUS_CMD, 28, 2⟩
abbrev CAM_BUS_CMD_SENSOR : Fld := ⟨CAM_BUS_CMD, 24, 4⟩
abbrev CAM_BUS_CMD_REG : Fld := ⟨CAM_BUS_CMD, 0, 16⟩
abbrev CAM_BUS_DATA : Nat := 0x280044
abbrev CAM_BUS_DATA_VALUE : Fld := ⟨CAM_BUS_DATA, 0, 32⟩
abbrev CAM_BUS_STAT : Nat := 0x280048
abbrev CAM_BUS_STAT_BUSY : Fld := ⟨CAM_BUS_STAT, 31, 1⟩
abbrev CAM_BUS_STAT_ERR : Fld := ⟨CAM_BUS_STAT, 30, 1⟩
abbrev CAM_BUS_STAT_NACKS : Fld := ⟨CAM_BUS_STAT, 0, 16⟩
abbrev CAM_SNS_CFG (s : Nat) : Nat := 0x280100 + 0x40 * s
abbrev CAM_SNS_CFG_EN (s : Nat) : Fld := ⟨(CAM_SNS_CFG s), 31, 1⟩
abbrev CAM_SNS_CFG_PORT (s : Nat) : Fld := ⟨(CAM_SNS_CFG s), 29, 2⟩
abbrev CAM_SNS_CFG_VC (s : Nat) : Fld := ⟨(CAM_SNS_CFG s), 24, 4⟩
abbrev CAM_SNS_CFG_DT (s : Nat) : Fld := ⟨(CAM_SNS_CFG s), 22, 2⟩
abbrev CAM_SNS_CFG_CFA (s : Nat) : Fld := ⟨(CAM_SNS_CFG s), 19, 3⟩
abbrev CAM_SNS_CFG_PRIO (s : Nat) : Fld := ⟨(CAM_SNS_CFG s), 16, 3⟩
abbrev CAM_SNS_CFG_SET_LAT (s : Nat) : Fld := ⟨(CAM_SNS_CFG s), 8, 3⟩
abbrev CAM_SNS_CFG_TRIG (s : Nat) : Fld := ⟨(CAM_SNS_CFG s), 0, 5⟩
abbrev CAM_SNS_GEOM (s : Nat) : Nat := 0x280104 + 0x40 * s
abbrev CAM_SNS_GEOM_WIDTH (s : Nat) : Fld := ⟨(CAM_SNS_GEOM s), 16, 16⟩
abbrev CAM_SNS_GEOM_LINES (s : Nat) : Fld := ⟨(CAM_SNS_GEOM s), 0, 16⟩
abbrev CAM_SNS_TIMING (s : Nat) : Nat := 0x280108 + 0x40 * s
abbrev CAM_SNS_TIMING_LINE_NS (s : Nat) : Fld := ⟨(CAM_SNS_TIMING s), 16, 16⟩
abbrev CAM_SNS_TIMING_EXP_DELAY (s : Nat) : Fld := ⟨(CAM_SNS_TIMING s), 0, 16⟩
abbrev CAM_SNS_TIMING2 (s : Nat) : Nat := 0x28010C + 0x40 * s
abbrev CAM_SNS_TIMING2_FS_TIMEOUT (s : Nat) : Fld := ⟨(CAM_SNS_TIMING2 s), 16, 16⟩
abbrev CAM_SNS_TIMING2_STROBE_DELAY (s : Nat) : Fld := ⟨(CAM_SNS_TIMING2 s), 0, 16⟩
abbrev CAM_SNS_BUS (s : Nat) : Nat := 0x280110 + 0x40 * s
abbrev CAM_SNS_BUS_PRESENT (s : Nat) : Fld := ⟨(CAM_SNS_BUS s), 31, 1⟩
abbrev CAM_SNS_BUS_I3C (s : Nat) : Fld := ⟨(CAM_SNS_BUS s), 30, 1⟩
abbrev CAM_SNS_BUS_BUSPORT (s : Nat) : Fld := ⟨(CAM_SNS_BUS s), 28, 2⟩
abbrev CAM_SNS_BUS_PID_LO (s : Nat) : Fld := ⟨(CAM_SNS_BUS s), 7, 16⟩
abbrev CAM_SNS_BUS_ADDR (s : Nat) : Fld := ⟨(CAM_SNS_BUS s), 0, 7⟩
abbrev CAM_SNS_FRAME_LO (s : Nat) : Nat := 0x280114 + 0x40 * s
abbrev CAM_SNS_FRAME_LO_FRAME (s : Nat) : Fld := ⟨(CAM_SNS_FRAME_LO s), 0, 32⟩
abbrev CAM_SNS_FRAME_HI (s : Nat) : Nat := 0x280118 + 0x40 * s
abbrev CAM_SNS_FRAME_HI_FRAME (s : Nat) : Fld := ⟨(CAM_SNS_FRAME_HI s), 0, 16⟩
abbrev CAM_SNS_TAG (s : Nat) : Nat := 0x28011C + 0x40 * s
abbrev CAM_SNS_TAG_PENDING (s : Nat) : Fld := ⟨(CAM_SNS_TAG s), 16, 4⟩
abbrev CAM_SNS_TAG_STAG (s : Nat) : Fld := ⟨(CAM_SNS_TAG s), 0, 16⟩
abbrev CAM_SNS_BLACK (s : Nat) : Nat := 0x280120 + 0x40 * s
abbrev CAM_SNS_BLACK_DPC_THR (s : Nat) : Fld := ⟨(CAM_SNS_BLACK s), 16, 12⟩
abbrev CAM_SNS_BLACK_BLACK (s : Nat) : Fld := ⟨(CAM_SNS_BLACK s), 0, 12⟩
abbrev CAM_SNS_GAIN_LO (s : Nat) : Nat := 0x280124 + 0x40 * s
abbrev CAM_SNS_GAIN_LO_GAIN_GR (s : Nat) : Fld := ⟨(CAM_SNS_GAIN_LO s), 16, 16⟩
abbrev CAM_SNS_GAIN_LO_GAIN_R (s : Nat) : Fld := ⟨(CAM_SNS_GAIN_LO s), 0, 16⟩
abbrev CAM_SNS_GAIN_HI (s : Nat) : Nat := 0x280128 + 0x40 * s
abbrev CAM_SNS_GAIN_HI_GAIN_B (s : Nat) : Fld := ⟨(CAM_SNS_GAIN_HI s), 16, 16⟩
abbrev CAM_SNS_GAIN_HI_GAIN_GB (s : Nat) : Fld := ⟨(CAM_SNS_GAIN_HI s), 0, 16⟩
abbrev CAM_SNS_STROBE (s : Nat) : Nat := 0x28012C + 0x40 * s
abbrev CAM_SNS_STROBE_OUT (s : Nat) : Fld := ⟨(CAM_SNS_STROBE s), 29, 3⟩
abbrev CAM_SNS_STROBE_WIDTH (s : Nat) : Fld := ⟨(CAM_SNS_STROBE s), 0, 24⟩
abbrev CAM_SNS_LUT (s : Nat) : Nat := 0x280130 + 0x40 * s
abbrev CAM_SNS_LUT_BANK (s : Nat) : Fld := ⟨(CAM_SNS_LUT s), 0, 2⟩
abbrev CAM_SHD_STAT (n : Nat) : Nat := 0x280600 + 0x10 * n
abbrev CAM_SHD_STAT_PENDING (n : Nat) : Fld := ⟨(CAM_SHD_STAT n), 31, 1⟩
abbrev CAM_SHD_STAT_LATE (n : Nat) : Fld := ⟨(CAM_SHD_STAT n), 30, 1⟩
abbrev CAM_SHD_STAT_SUPERSEDED (n : Nat) : Fld := ⟨(CAM_SHD_STAT n), 29, 1⟩
abbrev CAM_SHD_STAT_REFUSED (n : Nat) : Fld := ⟨(CAM_SHD_STAT n), 28, 1⟩
abbrev CAM_SHD_STAT_BY_IDLE (n : Nat) : Fld := ⟨(CAM_SHD_STAT n), 27, 1⟩
abbrev CAM_SHD_STAT_KIND (n : Nat) : Fld := ⟨(CAM_SHD_STAT n), 24, 3⟩
abbrev CAM_SHD_STAT_HANDOVERS (n : Nat) : Fld := ⟨(CAM_SHD_STAT n), 0, 16⟩
abbrev CAM_SHD_ID (n : Nat) : Nat := 0x280604 + 0x10 * n
abbrev CAM_SHD_ID_ID (n : Nat) : Fld := ⟨(CAM_SHD_ID n), 0, 32⟩
abbrev CAM_COMMIT (n : Nat) : Nat := 0x280608 + 0x10 * n
abbrev CAM_COMMIT_DISCARD (n : Nat) : Fld := ⟨(CAM_COMMIT n), 1, 1⟩
abbrev CAM_COMMIT_COMMIT (n : Nat) : Fld := ⟨(CAM_COMMIT n), 0, 1⟩
abbrev CAM_RB_SEL : Nat := 0x280720
abbrev CAM_RB_SEL_OFFSET : Fld := ⟨CAM_RB_SEL, 0, 12⟩
abbrev CAM_RB_DATA : Nat := 0x280724
abbrev CAM_RB_DATA_VALUE : Fld := ⟨CAM_RB_DATA, 0, 32⟩
abbrev CAM_STB_SEQ : Nat := 0x280800
abbrev CAM_STB_SEQ_SEQ : Fld := ⟨CAM_STB_SEQ, 0, 32⟩
abbrev CAM_STB_ID : Nat := 0x280804
abbrev CAM_STB_ID_ID : Fld := ⟨CAM_STB_ID, 0, 32⟩
abbrev CAM_STB_INFO : Nat := 0x280808
abbrev CAM_STB_INFO_SAT : Fld := ⟨CAM_STB_INFO, 31, 1⟩
abbrev CAM_STB_INFO_PARTIAL : Fld := ⟨CAM_STB_INFO, 30, 1⟩
abbrev CAM_STB_INFO_KIND : Fld := ⟨CAM_STB_INFO, 27, 3⟩
abbrev CAM_STB_INFO_SPILL : Fld := ⟨CAM_STB_INFO, 26, 1⟩
abbrev CAM_STB_INFO_SUB : Fld := ⟨CAM_STB_INFO, 0, 16⟩
abbrev CAM_STB_FRAME_HI : Nat := 0x28080C
abbrev CAM_STB_FRAME_HI_FRAME : Fld := ⟨CAM_STB_FRAME_HI, 0, 16⟩
abbrev CAM_STB_STAG_FLAGS : Nat := 0x280810
abbrev CAM_STB_STAG_FLAGS_STAG : Fld := ⟨CAM_STB_STAG_FLAGS, 16, 16⟩
abbrev CAM_STB_STAG_FLAGS_FLAGS : Fld := ⟨CAM_STB_STAG_FLAGS, 0, 8⟩
abbrev CAM_STB_MEAN_01 : Nat := 0x280814
abbrev CAM_STB_MEAN_01_MEAN_1 : Fld := ⟨CAM_STB_MEAN_01, 16, 16⟩
abbrev CAM_STB_MEAN_01_MEAN_0 : Fld := ⟨CAM_STB_MEAN_01, 0, 16⟩
abbrev CAM_STB_MEAN_23 : Nat := 0x280818
abbrev CAM_STB_MEAN_23_MEAN_3 : Fld := ⟨CAM_STB_MEAN_23, 16, 16⟩
abbrev CAM_STB_MEAN_23_MEAN_2 : Fld := ⟨CAM_STB_MEAN_23, 0, 16⟩
abbrev CAM_STB_SAT : Nat := 0x28081C
abbrev CAM_STB_SAT_VALUE : Fld := ⟨CAM_STB_SAT, 0, 32⟩
abbrev CAM_STB_DARK : Nat := 0x280820
abbrev CAM_STB_DARK_VALUE : Fld := ⟨CAM_STB_DARK, 0, 32⟩
abbrev CAM_STB_FOCUS : Nat := 0x280824
abbrev CAM_STB_FOCUS_VALUE : Fld := ⟨CAM_STB_FOCUS, 0, 32⟩
abbrev CAM_STB_LINES : Nat := 0x280828
abbrev CAM_STB_LINES_BAD_LINES : Fld := ⟨CAM_STB_LINES, 16, 16⟩
abbrev CAM_STB_LINES_LINES : Fld := ⟨CAM_STB_LINES, 0, 16⟩
abbrev CAM_OS_CFG (n : Nat) : Nat := 0x280900 + 0x20 * n
abbrev CAM_OS_CFG_EN (n : Nat) : Fld := ⟨(CAM_OS_CFG n), 31, 1⟩
abbrev CAM_OS_CFG_SENSOR (n : Nat) : Fld := ⟨(CAM_OS_CFG n), 24, 4⟩
abbrev CAM_OS_CFG_FMT (n : Nat) : Fld := ⟨(CAM_OS_CFG n), 20, 2⟩
abbrev CAM_OS_CFG_SCALE (n : Nat) : Fld := ⟨(CAM_OS_CFG n), 16, 2⟩
abbrev CAM_OS_CFG_DECIM (n : Nat) : Fld := ⟨(CAM_OS_CFG n), 0, 16⟩
abbrev CAM_OS_CROP_COL (n : Nat) : Nat := 0x280904 + 0x20 * n
abbrev CAM_OS_CROP_COL_COL_FIRST (n : Nat) : Fld := ⟨(CAM_OS_CROP_COL n), 16, 16⟩
abbrev CAM_OS_CROP_COL_COLS (n : Nat) : Fld := ⟨(CAM_OS_CROP_COL n), 0, 16⟩
abbrev CAM_OS_CROP_LINE (n : Nat) : Nat := 0x280908 + 0x20 * n
abbrev CAM_OS_CROP_LINE_LINE_FIRST (n : Nat) : Fld := ⟨(CAM_OS_CROP_LINE n), 16, 16⟩
abbrev CAM_OS_CROP_LINE_LINES (n : Nat) : Fld := ⟨(CAM_OS_CROP_LINE n), 0, 16⟩
abbrev CAM_OS_LEVEL (n : Nat) : Nat := 0x28090C + 0x20 * n
abbrev CAM_OS_LEVEL_BYTES (n : Nat) : Fld := ⟨(CAM_OS_LEVEL n), 0, 20⟩
abbrev CAM_OS_STAT (n : Nat) : Nat := 0x280910 + 0x20 * n
abbrev CAM_OS_STAT_SKIPPED (n : Nat) : Fld := ⟨(CAM_OS_STAT n), 16, 16⟩
abbrev CAM_OS_STAT_FRAMES (n : Nat) : Fld := ⟨(CAM_OS_STAT n), 0, 16⟩

/-! ## INS (R349) -/

abbrev INS_CTL : Nat := 0x2C0000
abbrev INS_CTL_AUTO_REG : Fld := ⟨INS_CTL, 6, 1⟩
abbrev INS_CTL_AUTO_TRIM : Fld := ⟨INS_CTL, 5, 1⟩
abbrev INS_CTL_AUTO_STATE : Fld := ⟨INS_CTL, 4, 1⟩
abbrev INS_CTL_EN_DEFECT : Fld := ⟨INS_CTL, 3, 1⟩
abbrev INS_CTL_EN_REG : Fld := ⟨INS_CTL, 2, 1⟩
abbrev INS_CTL_EN_DENSITY : Fld := ⟨INS_CTL, 1, 1⟩
abbrev INS_CTL_EN_STREAK : Fld := ⟨INS_CTL, 0, 1⟩
abbrev INS_STAT : Nat := 0x2C0004
abbrev INS_STAT_BUSY : Fld := ⟨INS_STAT, 31, 1⟩
abbrev INS_STAT_REG_ALARM : Fld := ⟨INS_STAT, 30, 1⟩
abbrev INS_STAT_UNINSPECTED : Fld := ⟨INS_STAT, 29, 1⟩
abbrev INS_STAT_DEFECTIVE : Fld := ⟨INS_STAT, 28, 1⟩
abbrev INS_STAT_DEFECTS : Fld := ⟨INS_STAT, 0, 7⟩
abbrev INS_STREAK : Nat := 0x2C0008
abbrev INS_STREAK_STREAK_THR : Fld := ⟨INS_STREAK, 24, 8⟩
abbrev INS_STREAK_CLEAR_PAGES : Fld := ⟨INS_STREAK, 8, 8⟩
abbrev INS_STREAK_STREAK_PAGES : Fld := ⟨INS_STREAK, 0, 8⟩
abbrev INS_TRIM : Nat := 0x2C000C
abbrev INS_TRIM_TRIM_GAIN : Fld := ⟨INS_TRIM, 28, 4⟩
abbrev INS_TRIM_TRIM_STEP : Fld := ⟨INS_TRIM, 16, 5⟩
abbrev INS_TRIM_MIN_SOLO : Fld := ⟨INS_TRIM, 0, 16⟩
abbrev INS_REG : Nat := 0x2C0010
abbrev INS_REG_REG_GAIN : Fld := ⟨INS_REG, 28, 4⟩
abbrev INS_REG_DEADBAND : Fld := ⟨INS_REG, 16, 12⟩
abbrev INS_REG_MAX_STEP : Fld := ⟨INS_REG, 0, 16⟩
abbrev INS_REG2 : Nat := 0x2C0014
abbrev INS_REG2_MIN_MARKS : Fld := ⟨INS_REG2, 24, 8⟩
abbrev INS_REG2_REG_TOL : Fld := ⟨INS_REG2, 0, 16⟩
abbrev INS_DEFECT : Nat := 0x2C0018
abbrev INS_DEFECT_THR : Fld := ⟨INS_DEFECT, 20, 12⟩
abbrev INS_DEFECT_REPRINT : Fld := ⟨INS_DEFECT, 16, 4⟩
abbrev INS_DEFECT_AREA : Fld := ⟨INS_DEFECT, 0, 16⟩
abbrev INS_LADDER : Nat := 0x2C001C
abbrev INS_LADDER_MISS_A : Fld := ⟨INS_LADDER, 24, 8⟩
abbrev INS_LADDER_WEAK_A : Fld := ⟨INS_LADDER, 16, 8⟩
abbrev INS_LADDER_ASTRAY_UM : Fld := ⟨INS_LADDER, 0, 8⟩
abbrev INS_REG_DY (i : Nat) : Nat := 0x2C0020 + 0x4 * i
abbrev INS_REG_DY_COUNTS (i : Nat) : Fld := ⟨(INS_REG_DY i), 0, 32⟩
abbrev INS_REG_DX (i : Nat) : Nat := 0x2C0040 + 0x4 * i
abbrev INS_REG_DX_MARKS (i : Nat) : Fld := ⟨(INS_REG_DX i), 16, 16⟩
abbrev INS_REG_DX_DX (i : Nat) : Fld := ⟨(INS_REG_DX i), 0, 16⟩
abbrev INS_PAGE_LAST : Nat := 0x2C0060
abbrev INS_PAGE_LAST_PAGE_ID : Fld := ⟨INS_PAGE_LAST, 0, 32⟩
abbrev INS_WEAR : Nat := 0x2C0064
abbrev INS_WEAR_LIMIT : Fld := ⟨INS_WEAR, 0, 32⟩
abbrev INS_STB_SEQ : Nat := 0x2C0800
abbrev INS_STB_SEQ_SEQ : Fld := ⟨INS_STB_SEQ, 0, 32⟩
abbrev INS_STB_ID : Nat := 0x2C0804
abbrev INS_STB_ID_ID : Fld := ⟨INS_STB_ID, 0, 32⟩
abbrev INS_STB_INFO : Nat := 0x2C0808
abbrev INS_STB_INFO_SAT : Fld := ⟨INS_STB_INFO, 31, 1⟩
abbrev INS_STB_INFO_PARTIAL : Fld := ⟨INS_STB_INFO, 30, 1⟩
abbrev INS_STB_INFO_KIND : Fld := ⟨INS_STB_INFO, 27, 3⟩
abbrev INS_STB_INFO_SPILL : Fld := ⟨INS_STB_INFO, 26, 1⟩
abbrev INS_STB_INFO_SUB : Fld := ⟨INS_STB_INFO, 0, 16⟩
abbrev INS_STB_STREAK_FOUND : Nat := 0x2C080C
abbrev INS_STB_STREAK_FOUND_COUNT : Fld := ⟨INS_STB_STREAK_FOUND, 0, 32⟩
abbrev INS_STB_STATE_CHANGES : Nat := 0x2C0810
abbrev INS_STB_STATE_CHANGES_COUNT : Fld := ⟨INS_STB_STATE_CHANGES, 0, 32⟩
abbrev INS_STB_TRIM_UPDATES : Nat := 0x2C0814
abbrev INS_STB_TRIM_UPDATES_COUNT : Fld := ⟨INS_STB_TRIM_UPDATES, 0, 32⟩
abbrev INS_STB_REG_UPDATES : Nat := 0x2C0818
abbrev INS_STB_REG_UPDATES_COUNT : Fld := ⟨INS_STB_REG_UPDATES, 0, 32⟩
abbrev INS_STB_DEFECTS : Nat := 0x2C081C
abbrev INS_STB_DEFECTS_COUNT : Fld := ⟨INS_STB_DEFECTS, 0, 32⟩
abbrev INS_STB_REPRINT : Nat := 0x2C0820
abbrev INS_STB_REPRINT_COUNT : Fld := ⟨INS_STB_REPRINT, 0, 32⟩
abbrev INS_STB_EXCLUDED : Nat := 0x2C0824
abbrev INS_STB_EXCLUDED_COUNT : Fld := ⟨INS_STB_EXCLUDED, 0, 32⟩
abbrev INS_STB_LOOP_DROPPED : Nat := 0x2C0828
abbrev INS_STB_LOOP_DROPPED_COUNT : Fld := ⟨INS_STB_LOOP_DROPPED, 0, 32⟩

/-! ## CAL (R350) -/

abbrev CAL_STAT : Nat := 0x300000
abbrev CAL_STAT_RUNNING : Fld := ⟨CAL_STAT, 31, 1⟩
abbrev CAL_STAT_RESULT : Fld := ⟨CAL_STAT, 24, 4⟩
abbrev CAL_STAT_CH_MASK : Fld := ⟨CAL_STAT, 16, 8⟩
abbrev CAL_STAT_KIND : Fld := ⟨CAL_STAT, 0, 16⟩
abbrev CAL_PAGE_ID : Nat := 0x300004
abbrev CAL_PAGE_ID_PAGE_ID : Fld := ⟨CAL_PAGE_ID, 0, 32⟩
abbrev CAL_VREF : Nat := 0x300008
abbrev CAL_VREF_UV : Fld := ⟨CAL_VREF, 0, 32⟩
abbrev CAL_K : Nat := 0x30000C
abbrev CAL_K_COUNTS : Fld := ⟨CAL_K, 0, 32⟩
abbrev CAL_DIM : Nat := 0x300010
abbrev CAL_DIM_PENDING : Fld := ⟨CAL_DIM, 31, 1⟩
abbrev CAL_DIM_LINES : Fld := ⟨CAL_DIM, 0, 20⟩
abbrev CAL_TARGET : Nat := 0x300014
abbrev CAL_TARGET_WHITE : Fld := ⟨CAL_TARGET, 16, 16⟩
abbrev CAL_TARGET_BLACK : Fld := ⟨CAL_TARGET, 0, 16⟩
abbrev CAL_TMP_CTL (q : Nat) : Nat := 0x300100 + 0x10 * q
abbrev CAL_TMP_CTL_POLICY (q : Nat) : Fld := ⟨(CAL_TMP_CTL q), 30, 2⟩
abbrev CAL_TMP_CTL_THRESH (q : Nat) : Fld := ⟨(CAL_TMP_CTL q), 16, 8⟩
abbrev CAL_TMP_CTL_DEFER_S (q : Nat) : Fld := ⟨(CAL_TMP_CTL q), 0, 16⟩
abbrev CAL_TMP_SRC (q : Nat) : Nat := 0x300104 + 0x10 * q
abbrev CAL_TMP_SRC_REG (q : Nat) : Fld := ⟨(CAL_TMP_SRC q), 0, 16⟩
abbrev CAL_TMP_STAT (q : Nat) : Nat := 0x300108 + 0x10 * q
abbrev CAL_TMP_STAT_DUE (q : Nat) : Fld := ⟨(CAL_TMP_STAT q), 31, 1⟩
abbrev CAL_TMP_STAT_OVERDUE (q : Nat) : Fld := ⟨(CAL_TMP_STAT q), 30, 1⟩
abbrev CAL_TMP_STAT_T_LAST (q : Nat) : Fld := ⟨(CAL_TMP_STAT q), 8, 8⟩
abbrev CAL_TMP_STAT_T_NOW (q : Nat) : Fld := ⟨(CAL_TMP_STAT q), 0, 8⟩

/-! ## PWR (R374, R82) -/

abbrev PWR_CTL : Nat := 0x340000
abbrev PWR_CTL_FC_EN : Fld := ⟨PWR_CTL, 7, 1⟩
abbrev PWR_CTL_SPREAD_LOG2 : Fld := ⟨PWR_CTL, 4, 3⟩
abbrev PWR_CTL_STAT_CH : Fld := ⟨PWR_CTL, 0, 3⟩
abbrev PWR_STAT : Nat := 0x340004
abbrev PWR_STAT_WARMING : Fld := ⟨PWR_STAT, 31, 1⟩
abbrev PWR_STAT_SUPPLY_WAIT : Fld := ⟨PWR_STAT, 30, 1⟩
abbrev PWR_STAT_THERM_STOP : Fld := ⟨PWR_STAT, 29, 1⟩
abbrev PWR_STAT_THERM_CRIT : Fld := ⟨PWR_STAT, 28, 1⟩
abbrev PWR_STAT_WEAR_WARN : Fld := ⟨PWR_STAT, 27, 1⟩
abbrev PWR_STAT_MIRROR_ERR : Fld := ⟨PWR_STAT, 26, 1⟩
abbrev PWR_STAT_NOTICE_SHORT : Fld := ⟨PWR_STAT, 16, 8⟩
abbrev PWR_STAT_RAIL_FAULT : Fld := ⟨PWR_STAT, 0, 16⟩
abbrev PWR_WARM_TO : Nat := 0x340008
abbrev PWR_WARM_TO_SECONDS : Fld := ⟨PWR_WARM_TO, 0, 16⟩
abbrev PWR_SUP_BUDGET : Nat := 0x34000C
abbrev PWR_SUP_BUDGET_VALUE : Fld := ⟨PWR_SUP_BUDGET, 0, 32⟩
abbrev PWR_SUP_SLEW : Nat := 0x340010
abbrev PWR_SUP_SLEW_VALUE : Fld := ⟨PWR_SUP_SLEW, 0, 32⟩
abbrev PWR_SUP_USED : Nat := 0x340014
abbrev PWR_SUP_USED_VALUE : Fld := ⟨PWR_SUP_USED, 0, 32⟩
abbrev PWR_ISL_CTL : Nat := 0x340018
abbrev PWR_ISL_CTL_EN : Fld := ⟨PWR_ISL_CTL, 0, 12⟩
abbrev PWR_RAIL_TOL : Nat := 0x34001C
abbrev PWR_RAIL_TOL_RAIL_TOL : Fld := ⟨PWR_RAIL_TOL, 0, 8⟩
abbrev PWR_THERM : Nat := 0x340030
abbrev PWR_THERM_CRIT : Fld := ⟨PWR_THERM, 16, 8⟩
abbrev PWR_THERM_STOP : Fld := ⟨PWR_THERM, 8, 8⟩
abbrev PWR_THERM_WARN : Fld := ⟨PWR_THERM, 0, 8⟩
abbrev PWR_HBM_THERM : Nat := 0x340034
abbrev PWR_HBM_THERM_CRIT : Fld := ⟨PWR_HBM_THERM, 16, 8⟩
abbrev PWR_HBM_THERM_STOP : Fld := ⟨PWR_HBM_THERM, 8, 8⟩
abbrev PWR_HBM_THERM_WARN : Fld := ⟨PWR_HBM_THERM, 0, 8⟩
abbrev PWR_TEMP : Nat := 0x340038
abbrev PWR_TEMP_HBM_C : Fld := ⟨PWR_TEMP, 16, 8⟩
abbrev PWR_TEMP_HOT_ISLAND : Fld := ⟨PWR_TEMP, 8, 4⟩
abbrev PWR_TEMP_LOGIC_C : Fld := ⟨PWR_TEMP, 0, 8⟩
abbrev PWR_C_RAIL (n : Nat) : Nat := 0x340100 + 0x10 * n
abbrev PWR_C_RAIL_SET_MV (n : Nat) : Fld := ⟨(PWR_C_RAIL n), 16, 16⟩
abbrev PWR_C_RAIL_RAMP_MA_MS (n : Nat) : Fld := ⟨(PWR_C_RAIL n), 0, 16⟩
abbrev PWR_C_CLAIM (n : Nat) : Nat := 0x340104 + 0x10 * n
abbrev PWR_C_CLAIM_CLAIM_CA (n : Nat) : Fld := ⟨(PWR_C_CLAIM n), 16, 16⟩
abbrev PWR_C_CLAIM_HOLD_CA (n : Nat) : Fld := ⟨(PWR_C_CLAIM n), 0, 16⟩
abbrev PWR_C_LOAD (n : Nat) : Nat := 0x340108 + 0x10 * n
abbrev PWR_C_LOAD_STEP_CA (n : Nat) : Fld := ⟨(PWR_C_LOAD n), 16, 16⟩
abbrev PWR_C_LOAD_SLOT_MAX_CA (n : Nat) : Fld := ⟨(PWR_C_LOAD n), 0, 16⟩
abbrev PWR_C_FC (n : Nat) : Nat := 0x34010C + 0x10 * n
abbrev PWR_C_FC_SLOT_CA (n : Nat) : Fld := ⟨(PWR_C_FC n), 16, 16⟩
abbrev PWR_C_FC_FLAGS (n : Nat) : Fld := ⟨(PWR_C_FC n), 4, 4⟩
abbrev PWR_C_FC_SLOTS (n : Nat) : Fld := ⟨(PWR_C_FC n), 0, 4⟩
abbrev PWR_CH_WARM (c : Nat) : Nat := 0x340200 + 0x4 * c
abbrev PWR_CH_WARM_WARM_C (c : Nat) : Fld := ⟨(PWR_CH_WARM c), 8, 8⟩
abbrev PWR_CH_WARM_WARM_TOL (c : Nat) : Fld := ⟨(PWR_CH_WARM c), 0, 8⟩
abbrev PWR_WEAR_EQH : Nat := 0x340400
abbrev PWR_WEAR_EQH_HOURS : Fld := ⟨PWR_WEAR_EQH, 0, 32⟩
abbrev PWR_WEAR_LIFE : Nat := 0x340404
abbrev PWR_WEAR_LIFE_RO_SHIFT : Fld := ⟨PWR_WEAR_LIFE, 16, 16⟩
abbrev PWR_WEAR_LIFE_LIFE_USED : Fld := ⟨PWR_WEAR_LIFE, 0, 16⟩
abbrev PWR_WEAR_EM : Nat := 0x340408
abbrev PWR_WEAR_EM_EM_USED : Fld := ⟨PWR_WEAR_EM, 0, 16⟩
abbrev PWR_WEAR_SPARE : Nat := 0x34040C
abbrev PWR_WEAR_SPARE_SRAM_LEFT : Fld := ⟨PWR_WEAR_SPARE, 16, 16⟩
abbrev PWR_WEAR_SPARE_SRAM_TOTAL : Fld := ⟨PWR_WEAR_SPARE, 0, 16⟩
abbrev PWR_WEAR_WARN : Nat := 0x340410
abbrev PWR_WEAR_WARN_RO_WARN : Fld := ⟨PWR_WEAR_WARN, 16, 16⟩
abbrev PWR_WEAR_WARN_EM_WARN : Fld := ⟨PWR_WEAR_WARN, 0, 16⟩
abbrev PWR_STB_SEQ : Nat := 0x340800
abbrev PWR_STB_SEQ_SEQ : Fld := ⟨PWR_STB_SEQ, 0, 32⟩
abbrev PWR_STB_ID : Nat := 0x340804
abbrev PWR_STB_ID_ID : Fld := ⟨PWR_STB_ID, 0, 32⟩
abbrev PWR_STB_INFO : Nat := 0x340808
abbrev PWR_STB_INFO_SAT : Fld := ⟨PWR_STB_INFO, 31, 1⟩
abbrev PWR_STB_INFO_PARTIAL : Fld := ⟨PWR_STB_INFO, 30, 1⟩
abbrev PWR_STB_INFO_KIND : Fld := ⟨PWR_STB_INFO, 27, 3⟩
abbrev PWR_STB_INFO_SPILL : Fld := ⟨PWR_STB_INFO, 26, 1⟩
abbrev PWR_STB_INFO_SUB : Fld := ⟨PWR_STB_INFO, 0, 16⟩
abbrev PWR_STB_LOAD_SHAPED : Nat := 0x34080C
abbrev PWR_STB_LOAD_SHAPED_COUNT : Fld := ⟨PWR_STB_LOAD_SHAPED, 0, 32⟩
abbrev PWR_STB_LOAD_CAPPED : Nat := 0x340810
abbrev PWR_STB_LOAD_CAPPED_COUNT : Fld := ⟨PWR_STB_LOAD_CAPPED, 0, 32⟩
abbrev PWR_STB_LOAD_LIMITED : Nat := 0x340814
abbrev PWR_STB_LOAD_LIMITED_COUNT : Fld := ⟨PWR_STB_LOAD_LIMITED, 0, 32⟩
abbrev PWR_STB_FC_PARTIAL : Nat := 0x340818
abbrev PWR_STB_FC_PARTIAL_COUNT : Fld := ⟨PWR_STB_FC_PARTIAL, 0, 32⟩
abbrev PWR_STB_RAIL_DEV : Nat := 0x34081C
abbrev PWR_STB_RAIL_DEV_COUNT : Fld := ⟨PWR_STB_RAIL_DEV, 0, 32⟩
abbrev PWR_STB_SLOT_MAX : Nat := 0x340820
abbrev PWR_STB_SLOT_MAX_COUNT : Fld := ⟨PWR_STB_SLOT_MAX, 0, 32⟩
abbrev PWR_BJ_CTL : Nat := 0x348000
abbrev PWR_BJ_CTL_TARGET : Fld := ⟨PWR_BJ_CTL, 8, 1⟩
abbrev PWR_BJ_CTL_RETRY_LIMIT : Fld := ⟨PWR_BJ_CTL, 0, 3⟩
abbrev PWR_BJ_HDR : Nat := 0x348004
abbrev PWR_BJ_HDR_BOOT_COUNT : Fld := ⟨PWR_BJ_HDR, 16, 16⟩
abbrev PWR_BJ_HDR_LAST_RESET : Fld := ⟨PWR_BJ_HDR, 12, 4⟩
abbrev PWR_BJ_HDR_MIRROR_ERR : Fld := ⟨PWR_BJ_HDR, 11, 1⟩
abbrev PWR_BJ_HDR_FROM_FLASH : Fld := ⟨PWR_BJ_HDR, 10, 1⟩
abbrev PWR_BJ_ENTRY (i : Nat) : Nat := 0x34803C + 0x4 * i
abbrev PWR_BJ_ENTRY_STATUS (i : Nat) : Fld := ⟨(PWR_BJ_ENTRY i), 29, 3⟩
abbrev PWR_BJ_ENTRY_WAY (i : Nat) : Fld := ⟨(PWR_BJ_ENTRY i), 27, 2⟩
abbrev PWR_BJ_ENTRY_RETRIES (i : Nat) : Fld := ⟨(PWR_BJ_ENTRY i), 24, 3⟩
abbrev PWR_BJ_ENTRY_DETAIL (i : Nat) : Fld := ⟨(PWR_BJ_ENTRY i), 20, 4⟩
abbrev PWR_BJ_ENTRY_DURATION (i : Nat) : Fld := ⟨(PWR_BJ_ENTRY i), 0, 20⟩

/-! ## TIM (R432) -/

abbrev TIM_CTL : Nat := 0x380000
abbrev TIM_CTL_DOMAIN : Fld := ⟨TIM_CTL, 24, 8⟩
abbrev TIM_CTL_SERVO_SEL : Fld := ⟨TIM_CTL, 18, 2⟩
abbrev TIM_CTL_MODE : Fld := ⟨TIM_CTL, 16, 2⟩
abbrev TIM_STAT : Nat := 0x380004
abbrev TIM_STAT_SERVO : Fld := ⟨TIM_STAT, 29, 3⟩
abbrev TIM_STAT_TIME_JUMP : Fld := ⟨TIM_STAT, 28, 1⟩
abbrev TIM_STAT_PATH_CHANGE : Fld := ⟨TIM_STAT, 27, 1⟩
abbrev TIM_STAT_ASYMMETRY_SUSPECT : Fld := ⟨TIM_STAT, 26, 1⟩
abbrev TIM_STAT_ACCEPT_PENDING : Fld := ⟨TIM_STAT, 25, 1⟩
abbrev TIM_STAT_STEP_WAIT : Fld := ⟨TIM_STAT, 24, 1⟩
abbrev TIM_STAT_SERVO_PORT : Fld := ⟨TIM_STAT, 16, 1⟩
abbrev TIM_STAT_STEPS : Fld := ⟨TIM_STAT, 0, 16⟩
abbrev TIM_SERVO : Nat := 0x380008
abbrev TIM_SERVO_KP : Fld := ⟨TIM_SERVO, 16, 16⟩
abbrev TIM_SERVO_KI : Fld := ⟨TIM_SERVO, 0, 16⟩
abbrev TIM_LIMITS : Nat := 0x38000C
abbrev TIM_LIMITS_SLEW_PPM : Fld := ⟨TIM_LIMITS, 16, 16⟩
abbrev TIM_LIMITS_LOCK_NS : Fld := ⟨TIM_LIMITS, 0, 16⟩
abbrev TIM_JUMP : Nat := 0x380010
abbrev TIM_JUMP_JUMP_NS : Fld := ⟨TIM_JUMP, 0, 32⟩
abbrev TIM_PATH : Nat := 0x380014
abbrev TIM_PATH_PATH_N : Fld := ⟨TIM_PATH, 24, 8⟩
abbrev TIM_PATH_PATH_NS : Fld := ⟨TIM_PATH, 0, 24⟩
abbrev TIM_XPORT : Nat := 0x380018
abbrev TIM_XPORT_ASYM_NS : Fld := ⟨TIM_XPORT, 0, 32⟩
abbrev TIM_EPOCH : Nat := 0x38001C
abbrev TIM_EPOCH_EPOCH : Fld := ⟨TIM_EPOCH, 0, 16⟩
abbrev TIM_NOW_0 : Nat := 0x380020
abbrev TIM_NOW_0_SUBNS : Fld := ⟨TIM_NOW_0, 16, 16⟩
abbrev TIM_NOW_0_EPOCH : Fld := ⟨TIM_NOW_0, 0, 16⟩
abbrev TIM_NOW_1 : Nat := 0x380024
abbrev TIM_NOW_1_NS : Fld := ⟨TIM_NOW_1, 0, 32⟩
abbrev TIM_NOW_2 : Nat := 0x380028
abbrev TIM_NOW_2_SEC : Fld := ⟨TIM_NOW_2, 0, 32⟩
abbrev TIM_NOW_3 : Nat := 0x38002C
abbrev TIM_NOW_3_VALID : Fld := ⟨TIM_NOW_3, 31, 1⟩
abbrev TIM_NOW_3_SEC : Fld := ⟨TIM_NOW_3, 0, 16⟩
abbrev TIM_OFFSET : Nat := 0x380030
abbrev TIM_OFFSET_NS : Fld := ⟨TIM_OFFSET, 0, 32⟩
abbrev TIM_FREQ : Nat := 0x380034
abbrev TIM_FREQ_FREQ : Fld := ⟨TIM_FREQ, 0, 32⟩
abbrev TIM_CONV_LO : Nat := 0x380038
abbrev TIM_CONV_LO_CYCLE : Fld := ⟨TIM_CONV_LO, 0, 32⟩
abbrev TIM_CONV_HI : Nat := 0x38003C
abbrev TIM_CONV_HI_CYCLE : Fld := ⟨TIM_CONV_HI, 0, 32⟩
abbrev TIM_CONV_0 : Nat := 0x380040
abbrev TIM_CONV_0_SUBNS : Fld := ⟨TIM_CONV_0, 16, 16⟩
abbrev TIM_CONV_0_EPOCH : Fld := ⟨TIM_CONV_0, 0, 16⟩
abbrev TIM_CONV_1 : Nat := 0x380044
abbrev TIM_CONV_1_NS : Fld := ⟨TIM_CONV_1, 0, 32⟩
abbrev TIM_CONV_2 : Nat := 0x380048
abbrev TIM_CONV_2_SEC : Fld := ⟨TIM_CONV_2, 0, 32⟩
abbrev TIM_CONV_3 : Nat := 0x38004C
abbrev TIM_CONV_3_VALID : Fld := ⟨TIM_CONV_3, 31, 1⟩
abbrev TIM_CONV_3_SEC : Fld := ⟨TIM_CONV_3, 0, 16⟩
abbrev TIM_P_CFG (p : Nat) : Nat := 0x380100 + 0x40 * p
abbrev TIM_P_CFG_EN (p : Nat) : Fld := ⟨(TIM_P_CFG p), 31, 1⟩
abbrev TIM_P_CFG_P2P (p : Nat) : Fld := ⟨(TIM_P_CFG p), 30, 1⟩
abbrev TIM_P_CFG_SPEED (p : Nat) : Fld := ⟨(TIM_P_CFG p), 28, 2⟩
abbrev TIM_P_CFG_TRANSPORT (p : Nat) : Fld := ⟨(TIM_P_CFG p), 26, 2⟩
abbrev TIM_P_CFG_VLAN_EN (p : Nat) : Fld := ⟨(TIM_P_CFG p), 12, 1⟩
abbrev TIM_P_CFG_VID (p : Nat) : Fld := ⟨(TIM_P_CFG p), 0, 12⟩
abbrev TIM_P_ASYM (p : Nat) : Nat := 0x380104 + 0x40 * p
abbrev TIM_P_ASYM_DELAY_ASYM (p : Nat) : Fld := ⟨(TIM_P_ASYM p), 0, 32⟩
abbrev TIM_P_LAT (p : Nat) : Nat := 0x380108 + 0x40 * p
abbrev TIM_P_LAT_TX_LAT (p : Nat) : Fld := ⟨(TIM_P_LAT p), 16, 16⟩
abbrev TIM_P_LAT_RX_LAT (p : Nat) : Fld := ⟨(TIM_P_LAT p), 0, 16⟩
abbrev TIM_P_IP4 (p : Nat) : Nat := 0x38010C + 0x40 * p
abbrev TIM_P_IP4_ADDR (p : Nat) : Fld := ⟨(TIM_P_IP4 p), 0, 32⟩
abbrev TIM_P_STAT (p : Nat) : Nat := 0x380110 + 0x40 * p
abbrev TIM_P_STAT_PORT_STATE (p : Nat) : Fld := ⟨(TIM_P_STAT p), 28, 4⟩
abbrev TIM_P_STAT_LINK (p : Nat) : Fld := ⟨(TIM_P_STAT p), 27, 1⟩
abbrev TIM_P_STAT_GM_VALID (p : Nat) : Fld := ⟨(TIM_P_STAT p), 26, 1⟩
abbrev TIM_P_STAT_PATH_CHANGE (p : Nat) : Fld := ⟨(TIM_P_STAT p), 25, 1⟩
abbrev TIM_P_STAT_SYNC_RX (p : Nat) : Fld := ⟨(TIM_P_STAT p), 0, 16⟩
abbrev TIM_P_MPD (p : Nat) : Nat := 0x380114 + 0x40 * p
abbrev TIM_P_MPD_DELAY (p : Nat) : Fld := ⟨(TIM_P_MPD p), 0, 32⟩
abbrev TIM_P_OFFSET (p : Nat) : Nat := 0x380118 + 0x40 * p
abbrev TIM_P_OFFSET_NS (p : Nat) : Fld := ⟨(TIM_P_OFFSET p), 0, 32⟩
abbrev TIM_P_GM_LO (p : Nat) : Nat := 0x38011C + 0x40 * p
abbrev TIM_P_GM_LO_ID (p : Nat) : Fld := ⟨(TIM_P_GM_LO p), 0, 32⟩
abbrev TIM_P_GM_HI (p : Nat) : Nat := 0x380120 + 0x40 * p
abbrev TIM_P_GM_HI_ID (p : Nat) : Fld := ⟨(TIM_P_GM_HI p), 0, 32⟩
abbrev TIM_P_RES (p : Nat) : Nat := 0x380124 + 0x40 * p
abbrev TIM_P_RES_RES_MAX (p : Nat) : Fld := ⟨(TIM_P_RES p), 16, 16⟩
abbrev TIM_P_RES_FWD (p : Nat) : Fld := ⟨(TIM_P_RES p), 0, 16⟩
abbrev TIM_P_MAC_LO (p : Nat) : Nat := 0x380128 + 0x40 * p
abbrev TIM_P_MAC_LO_ADDR (p : Nat) : Fld := ⟨(TIM_P_MAC_LO p), 0, 32⟩
abbrev TIM_P_MAC_HI (p : Nat) : Nat := 0x38012C + 0x40 * p
abbrev TIM_P_MAC_HI_ADDR (p : Nat) : Fld := ⟨(TIM_P_MAC_HI p), 0, 16⟩

/-! ## SAF (R453) -/

abbrev SAF_STAT : Nat := 0x3C0000
abbrev SAF_STAT_LOCKOUT : Fld := ⟨SAF_STAT, 31, 1⟩
abbrev SAF_STAT_START_OK : Fld := ⟨SAF_STAT, 30, 1⟩
abbrev SAF_STAT_SAFE_A : Fld := ⟨SAF_STAT, 29, 1⟩
abbrev SAF_STAT_SAFE_B : Fld := ⟨SAF_STAT, 28, 1⟩
abbrev SAF_STAT_EN_A : Fld := ⟨SAF_STAT, 27, 1⟩
abbrev SAF_STAT_EN_B : Fld := ⟨SAF_STAT, 26, 1⟩
abbrev SAF_STAT_PROOF_DUE : Fld := ⟨SAF_STAT, 25, 1⟩
abbrev SAF_STAT_TEST_ACTIVE : Fld := ⟨SAF_STAT, 24, 1⟩
abbrev SAF_STAT_CAUSE : Fld := ⟨SAF_STAT, 0, 8⟩
abbrev SAF_FAULT : Nat := 0x3C0004
abbrev SAF_FAULT_CROSS : Fld := ⟨SAF_FAULT, 31, 1⟩
abbrev SAF_FAULT_OUT_A : Fld := ⟨SAF_FAULT, 30, 1⟩
abbrev SAF_FAULT_OUT_B : Fld := ⟨SAF_FAULT, 29, 1⟩
abbrev SAF_FAULT_EDM_A : Fld := ⟨SAF_FAULT, 28, 1⟩
abbrev SAF_FAULT_EDM_B : Fld := ⟨SAF_FAULT, 27, 1⟩
abbrev SAF_FAULT_CLOCK : Fld := ⟨SAF_FAULT, 26, 1⟩
abbrev SAF_FAULT_PARAM : Fld := ⟨SAF_FAULT, 25, 1⟩
abbrev SAF_FAULT_SELFTEST : Fld := ⟨SAF_FAULT, 24, 1⟩
abbrev SAF_FAULT_ESTOP_DISC : Fld := ⟨SAF_FAULT, 23, 1⟩
abbrev SAF_FAULT_WATCHDOG : Fld := ⟨SAF_FAULT, 7, 1⟩
abbrev SAF_FAULT_DIE_TRIP : Fld := ⟨SAF_FAULT, 6, 1⟩
abbrev SAF_FAULT_TELEM_STALE : Fld := ⟨SAF_FAULT, 5, 1⟩
abbrev SAF_IN : Nat := 0x3C0008
abbrev SAF_IN_ESTOP_A_RAW : Fld := ⟨SAF_IN, 31, 1⟩
abbrev SAF_IN_ESTOP_B_RAW : Fld := ⟨SAF_IN, 30, 1⟩
abbrev SAF_IN_ESTOP_A_OK : Fld := ⟨SAF_IN, 29, 1⟩
abbrev SAF_IN_ESTOP_B_OK : Fld := ⟨SAF_IN, 28, 1⟩
abbrev SAF_IN_RB_A : Fld := ⟨SAF_IN, 27, 1⟩
abbrev SAF_IN_RB_B : Fld := ⟨SAF_IN, 26, 1⟩
abbrev SAF_IN_EDM_A_IN : Fld := ⟨SAF_IN, 25, 1⟩
abbrev SAF_IN_EDM_B_IN : Fld := ⟨SAF_IN, 24, 1⟩
abbrev SAF_LAST : Nat := 0x3C000C
abbrev SAF_LAST_CAUSE : Fld := ⟨SAF_LAST, 24, 8⟩
abbrev SAF_LAST_SOURCE : Fld := ⟨SAF_LAST, 16, 8⟩
abbrev SAF_LAST_CUT : Fld := ⟨SAF_LAST, 15, 1⟩
abbrev SAF_LAST_DIE : Fld := ⟨SAF_LAST, 8, 5⟩
abbrev SAF_LAST_CARRIER : Fld := ⟨SAF_LAST, 4, 4⟩
abbrev SAF_LAST_TIME_LO : Nat := 0x3C0010
abbrev SAF_LAST_TIME_LO_CYCLE : Fld := ⟨SAF_LAST_TIME_LO, 0, 32⟩
abbrev SAF_LAST_TIME_HI : Nat := 0x3C0014
abbrev SAF_LAST_TIME_HI_CYCLE : Fld := ⟨SAF_LAST_TIME_HI, 0, 32⟩
abbrev SAF_REACT : Nat := 0x3C0018
abbrev SAF_REACT_WORST : Fld := ⟨SAF_REACT, 16, 16⟩
abbrev SAF_REACT_LAST : Fld := ⟨SAF_REACT, 0, 16⟩
abbrev SAF_PROOF : Nat := 0x3C001C
abbrev SAF_PROOF_FAILED : Fld := ⟨SAF_PROOF, 16, 7⟩
abbrev SAF_PROOF_PASSED : Fld := ⟨SAF_PROOF, 8, 7⟩
abbrev SAF_PROOF_LAST : Fld := ⟨SAF_PROOF, 0, 8⟩
abbrev SAF_PROOF_HOURS : Nat := 0x3C0020
abbrev SAF_PROOF_HOURS_HOURS : Fld := ⟨SAF_PROOF_HOURS, 0, 32⟩
abbrev SAF_P_TIMING : Nat := 0x3C0040
abbrev SAF_P_TIMING_ESTOP_FILT : Fld := ⟨SAF_P_TIMING, 24, 8⟩
abbrev SAF_P_TIMING_DIE_TRIP : Fld := ⟨SAF_P_TIMING, 16, 8⟩
abbrev SAF_P_TIMING_GRACE_US : Fld := ⟨SAF_P_TIMING, 0, 16⟩
abbrev SAF_P_WATCH : Nat := 0x3C0044
abbrev SAF_P_WATCH_WD_US : Fld := ⟨SAF_P_WATCH, 16, 16⟩
abbrev SAF_P_WATCH_STALE_US : Fld := ⟨SAF_P_WATCH, 0, 16⟩
abbrev SAF_P_ESTOP : Nat := 0x3C0048
abbrev SAF_P_ESTOP_DISC_MS : Fld := ⟨SAF_P_ESTOP, 16, 16⟩
abbrev SAF_P_ESTOP_EDM_MS : Fld := ⟨SAF_P_ESTOP, 0, 16⟩
abbrev SAF_P_EDM : Nat := 0x3C004C
abbrev SAF_P_EDM_EDM_B_GPI : Fld := ⟨SAF_P_EDM, 8, 3⟩
abbrev SAF_P_EDM_EDM_A_GPI : Fld := ⟨SAF_P_EDM, 4, 3⟩
abbrev SAF_P_EDM_POL_B : Fld := ⟨SAF_P_EDM, 2, 1⟩
abbrev SAF_P_EDM_POL_A : Fld := ⟨SAF_P_EDM, 1, 1⟩
abbrev SAF_P_EDM_EN : Fld := ⟨SAF_P_EDM, 0, 1⟩
abbrev SAF_P_PROOF : Nat := 0x3C0050
abbrev SAF_P_PROOF_PROOF_H : Fld := ⟨SAF_P_PROOF, 0, 32⟩

/-! ## DBG (R476) -/

abbrev DBG_STAT : Nat := 0x400000
abbrev DBG_STAT_LEVEL : Fld := ⟨DBG_STAT, 30, 2⟩
abbrev DBG_STAT_CHAL_VALID : Fld := ⟨DBG_STAT, 29, 1⟩
abbrev DBG_STAT_REFUSING : Fld := ⟨DBG_STAT, 28, 1⟩
abbrev DBG_STAT_FAILS : Fld := ⟨DBG_STAT, 24, 4⟩
abbrev DBG_STAT_SCAN_REFUSED : Fld := ⟨DBG_STAT, 23, 1⟩
abbrev DBG_STAT_HALT_REFUSED : Fld := ⟨DBG_STAT, 22, 1⟩
abbrev DBG_STAT_HALTED : Fld := ⟨DBG_STAT, 16, 2⟩
abbrev DBG_STAT_MISSED : Fld := ⟨DBG_STAT, 0, 16⟩
abbrev DBG_CTL : Nat := 0x400004
abbrev DBG_CTL_LOCK : Fld := ⟨DBG_CTL, 31, 1⟩
abbrev DBG_CTL_NEW_CHAL : Fld := ⟨DBG_CTL, 30, 1⟩
abbrev DBG_CTL_SUBMIT : Fld := ⟨DBG_CTL, 29, 1⟩
abbrev DBG_CTL_LEVEL : Fld := ⟨DBG_CTL, 8, 2⟩
abbrev DBG_CTL_KEY_SEL : Fld := ⟨DBG_CTL, 0, 1⟩
abbrev DBG_CHAL (i : Nat) : Nat := 0x400010 + 0x4 * i
abbrev DBG_CHAL_BYTES (i : Nat) : Fld := ⟨(DBG_CHAL i), 0, 32⟩
abbrev DBG_RESP (i : Nat) : Nat := 0x400040 + 0x4 * i
abbrev DBG_RESP_BYTES (i : Nat) : Fld := ⟨(DBG_RESP i), 0, 32⟩
abbrev DBG_CORE_CTL (p : Nat) : Nat := 0x400100 + 0x100 * p
abbrev DBG_CORE_CTL_HALT (p : Nat) : Fld := ⟨(DBG_CORE_CTL p), 31, 1⟩
abbrev DBG_CORE_CTL_RESUME (p : Nat) : Fld := ⟨(DBG_CORE_CTL p), 30, 1⟩
abbrev DBG_CORE_CTL_STEP (p : Nat) : Fld := ⟨(DBG_CORE_CTL p), 29, 1⟩
abbrev DBG_CORE_PC (p : Nat) : Nat := 0x400104 + 0x100 * p
abbrev DBG_CORE_PC_PC (p : Nat) : Fld := ⟨(DBG_CORE_PC p), 0, 32⟩
abbrev DBG_CORE_CAUSE (p : Nat) : Nat := 0x400108 + 0x100 * p
abbrev DBG_CORE_CAUSE_CAUSE (p : Nat) : Fld := ⟨(DBG_CORE_CAUSE p), 8, 4⟩
abbrev DBG_CORE_CAUSE_INDEX (p : Nat) : Fld := ⟨(DBG_CORE_CAUSE p), 0, 3⟩
abbrev DBG_BP (p : Nat) (i : Nat) : Nat := 0x400110 + 0x100 * p + 0x4 * i
abbrev DBG_BP_ADDR (p : Nat) (i : Nat) : Fld := ⟨(DBG_BP p i), 2, 30⟩
abbrev DBG_BP_EN (p : Nat) (i : Nat) : Fld := ⟨(DBG_BP p i), 0, 1⟩
abbrev DBG_WP_ADDR (p : Nat) (i : Nat) : Nat := 0x400130 + 0x100 * p + 0x8 * i
abbrev DBG_WP_ADDR_ADDR (p : Nat) (i : Nat) : Fld := ⟨(DBG_WP_ADDR p i), 0, 32⟩
abbrev DBG_WP_CFG (p : Nat) (i : Nat) : Nat := 0x400134 + 0x100 * p + 0x8 * i
abbrev DBG_WP_CFG_EN (p : Nat) (i : Nat) : Fld := ⟨(DBG_WP_CFG p i), 31, 1⟩
abbrev DBG_WP_CFG_READ (p : Nat) (i : Nat) : Fld := ⟨(DBG_WP_CFG p i), 30, 1⟩
abbrev DBG_WP_CFG_WRITE (p : Nat) (i : Nat) : Fld := ⟨(DBG_WP_CFG p i), 29, 1⟩
abbrev DBG_WP_CFG_LEN (p : Nat) (i : Nat) : Fld := ⟨(DBG_WP_CFG p i), 0, 12⟩
abbrev DBG_MEM_ADDR : Nat := 0x400400
abbrev DBG_MEM_ADDR_ADDR : Fld := ⟨DBG_MEM_ADDR, 2, 30⟩
abbrev DBG_MEM_DATA : Nat := 0x400404
abbrev DBG_MEM_DATA_DATA : Fld := ⟨DBG_MEM_DATA, 0, 32⟩
abbrev DBG_MEM_CMD : Nat := 0x400408
abbrev DBG_MEM_CMD_GO : Fld := ⟨DBG_MEM_CMD, 31, 1⟩
abbrev DBG_MEM_CMD_WRITE : Fld := ⟨DBG_MEM_CMD, 30, 1⟩
abbrev DBG_MEM_CMD_SPACE : Fld := ⟨DBG_MEM_CMD, 29, 1⟩
abbrev DBG_MEM_CMD_PAIR : Fld := ⟨DBG_MEM_CMD, 28, 1⟩
abbrev DBG_MEM_CMD_BUSY : Fld := ⟨DBG_MEM_CMD, 1, 1⟩
abbrev DBG_MEM_CMD_ERR : Fld := ⟨DBG_MEM_CMD, 0, 1⟩

/-- Registers of SYS, part 0. -/
def rowsSYS : List RegRow := [
  ⟨0x0, 1, 4, 1, 4, .kc, 0, 0, 0, 0, 0x848B000, 0⟩,
  ⟨0x8, 1, 4, 1, 4, .kc, 0, 0, 0, 0xFFFFFFFF, 0, 0⟩,
  ⟨0xC, 1, 4, 1, 4, .kc, 0, 0, 0, 0xFFFFFFFF, 0, 0⟩,
  ⟨0x100, 1, 4, 1, 4, .kc, 0, 0, 0, 0, 1, 0⟩,
  ⟨0x104, 1, 4, 1, 4, .kc, 0, 0, 0, 0, 0, 0⟩,
  ⟨0x108, 1, 4, 1, 4, .k, 0, 0, 0, 0, 0, 0⟩,
  ⟨0x10C, 1, 4, 1, 4, .k, 0, 0, 0xFFFF0003, 0, 0, 0⟩,
  ⟨0x110, 1, 4, 1, 4, .kc, 0, 0, 0, 0xFFFF, 0, 0⟩,
  ⟨0x114, 1, 4, 1, 4, .kc, 0, 0, 0, 0, 0, 0⟩,
  ⟨0x118, 1, 4, 1, 4, .k, 0, 0, 0, 0, 0, 0⟩,
  ⟨0x200, 8, 0x30, 12, 4, .kc, 0, 0, 0, 0, 0, 0⟩]

/-- Registers of CMD, part 0. -/
def rowsCMD_0 : List RegRow := [
  ⟨0x10000, 1, 4, 1, 4, .k, 0xFFFFF000, 0, 0, 0, 0, 0⟩,
  ⟨0x10004, 1, 4, 1, 4, .k, 0xFFFFFFFF, 0, 0, 0, 0, 0⟩,
  ⟨0x10008, 1, 4, 1, 4, .k, 0xFFFFF000, 0, 0, 0, 0, 0⟩,
  ⟨0x1000C, 1, 4, 1, 4, .k, 0xFFFFFFFF, 0, 0, 0, 0, 0⟩,
  ⟨0x10010, 1, 4, 1, 4, .k, 0x8000000F, 0x40000000, 0, 0, 0, 0⟩,
  ⟨0x10014, 1, 4, 1, 4, .k, 0xFF, 0, 0, 0, 0, 0⟩,
  ⟨0x10018, 1, 4, 1, 4, .k, 0, 0, 0, 0, 0, 0⟩,
  ⟨0x1001C, 1, 4, 1, 4, .k, 0, 0, 0, 0, 0, 0⟩,
  ⟨0x10020, 1, 4, 1, 4, .k, 0xFF, 0, 0, 0, 0, 0⟩,
  ⟨0x10100, 1, 4, 1, 4, .k, 0xFFFFF000, 0, 0, 0, 0, 0⟩,
  ⟨0x10104, 1, 4, 1, 4, .k, 0xFFFFFFFF, 0, 0, 0, 0, 0⟩,
  ⟨0x10108, 1, 4, 1, 4, .k, 0xFFFFF000, 0, 0, 0, 0, 0⟩,
  ⟨0x1010C, 1, 4, 1, 4, .k, 0xFFFFFFFF, 0, 0, 0, 0, 0⟩,
  ⟨0x10110, 1, 4, 1, 4, .k, 0x8000000F, 0x40000000, 0, 0, 0, 0⟩,
  ⟨0x10114, 1, 4, 1, 4, .kc, 0xFF, 0, 0, 0, 0, 0⟩,
  ⟨0x10118, 1, 4, 1, 4, .kc, 0, 0, 0, 0, 0, 0⟩,
  ⟨0x1011C, 1, 4, 1, 4, .kc, 0, 0, 0, 0, 0, 0⟩,
  ⟨0x10120, 1, 4, 1, 4, .kc, 0xFF, 0, 0, 0, 0, 0⟩,
  ⟨0x10200, 1, 4, 1, 4, .k, 0x7FE, 0, 0, 0, 0, 0⟩,
  ⟨0x10204, 1, 4, 1, 4, .k, 0, 0, 0, 0, 0, 0⟩,
  ⟨0x10208, 1, 4, 1, 4, .k, 0, 0, 0, 0, 0, 0⟩,
  ⟨0x10300, 1, 4, 1, 4, .k, 3, 0, 0, 0, 1, 0⟩,
  ⟨0x10304, 1, 4, 1, 4, .k, 0xFFFFFC00, 0, 0, 0, 0, 0⟩,
  ⟨0x10308, 1, 4, 1, 4, .k, 0xFFFFFFFF, 0, 0, 0, 0, 0⟩]

/-- Registers of CMD, part 1. -/
def rowsCMD_1 : List RegRow := [
  ⟨0x1030C, 1, 4, 1, 4, .kc, 0, 0, 0, 0, 0, 0⟩,
  ⟨0x10400, 1, 4, 1, 4, .k, 0xFFFF0003, 0, 0, 0, 0x57A00000, 0⟩,
  ⟨0x10404, 1, 4, 1, 4, .k, 0, 0, 0, 0, 0, 0⟩]

/-- Registers of CMD. -/
def rowsCMD : List RegRow := rowsCMD_0 ++ rowsCMD_1

/-- Registers of EVT, part 0. -/
def rowsEVT : List RegRow := [
  ⟨0x20000, 8, 4, 1, 4, .kc, 0, 0xFFFFFFFF, 0, 0, 0, 0⟩,
  ⟨0x20020, 8, 4, 1, 4, .k, 0xFFFFFFFF, 0, 0, 0, 0, 0⟩,
  ⟨0x20040, 8, 4, 1, 4, .k, 0xFFFF, 0, 0, 0, 0, 0⟩,
  ⟨0x20060, 1, 4, 1, 4, .kc, 0, 0, 0, 0, 0, 0⟩,
  ⟨0x20064, 1, 4, 1, 4, .k, 0, 0, 0x1FF, 0, 0, 0⟩,
  ⟨0x30000, 256, 16, 1, 4, .k, 0xFFFFFFFC, 0, 0, 0, 0, 0⟩,
  ⟨0x30004, 256, 16, 2, 4, .k, 0xFFFFFFFF, 0, 0, 0, 0, 0⟩,
  ⟨0x3000C, 256, 16, 1, 4, .k, 1, 0, 0, 0, 1, 0⟩,
  ⟨0x31000, 8, 4, 1, 4, .k, 0, 0, 0, 0, 0, 0⟩]

/-- Registers of HST, part 0. -/
def rowsHST : List RegRow := [
  ⟨0x40000, 1, 4, 1, 4, .kc, 0, 0, 0, 0, 0, 0⟩,
  ⟨0x40004, 1, 4, 1, 4, .k, 0, 0, 0, 0, 0, 0⟩,
  ⟨0x40008, 1, 4, 1, 4, .k, 0, 0, 0, 0, 0, 0⟩,
  ⟨0x4000C, 1, 4, 1, 4, .k, 0, 0, 0, 0, 0, 0⟩]

/-- Registers of BRG, part 0. -/
def rowsBRG : List RegRow := [
  ⟨0x80000, 1, 4, 1, 4, .kc, 0, 0, 0, 0, 0, 0⟩,
  ⟨0x80004, 1, 4, 1, 4, .kc, 0, 0, 0, 0, 0, 0⟩,
  ⟨0x80008, 1, 4, 1, 4, .k, 0, 0, 0, 0, 0, 0⟩,
  ⟨0x80100, 32, 0x40, 1, 4, .brg, 0, 0, 0xC00000FF, 0, 0, 0⟩,
  ⟨0x80104, 32, 0x40, 1, 4, .brg, 0xFFFF077F, 0, 0, 0, 0x10, 0⟩,
  ⟨0x80108, 32, 0x40, 1, 4, .brg, 0, 0x800000, 0, 0, 0, 0⟩,
  ⟨0x8010C, 32, 0x40, 1, 4, .brg, 0xFF, 0, 0, 0, 0, 0⟩,
  ⟨0x80110, 32, 0x40, 1, 4, .brg, 0xFFFF, 0, 0, 0, 0, 0⟩,
  ⟨0x80114, 32, 0x40, 1, 4, .brg, 0, 0, 0, 0, 0, 0⟩,
  ⟨0x80118, 32, 0x40, 1, 4, .brg, 0, 0, 0xFFFFFFFF, 0, 0, 0⟩,
  ⟨0x8011C, 32, 0x40, 1, 4, .brg, 0, 0, 0, 0, 0, 0⟩,
  ⟨0x80120, 32, 0x40, 1, 4, .brg, 0, 0, 0, 0, 0, 0⟩,
  ⟨0x80124, 32, 0x40, 1, 4, .brg, 0, 0, 0, 0, 0, 0⟩,
  ⟨0x80128, 32, 0x40, 1, 4, .brg, 0, 0, 0, 0, 0, 0⟩,
  ⟨0x8012C, 32, 0x40, 4, 4, .brg, 0xFFFFFFFF, 0, 0, 0, 0, 0⟩,
  ⟨0x8013C, 32, 0x40, 1, 4, .brg, 0, 0, 0, 0, 0, 0⟩,
  ⟨0x80C00, 32, 0x10, 1, 4, .brg, 0, 0x70000000, 0, 0, 0, 0⟩,
  ⟨0x80C04, 32, 0x10, 1, 4, .brg, 0, 0, 0, 0, 0, 0⟩,
  ⟨0x80C08, 32, 0x10, 1, 4, .brg, 0, 0, 3, 0, 0, 0⟩,
  ⟨0x80E00, 1, 4, 1, 4, .k, 0xFFFF, 0, 0, 0, 0, 0⟩,
  ⟨0x80E04, 1, 4, 1, 4, .k, 0, 0, 0, 0, 0, 0⟩,
  ⟨0xA0000, 32, 0x1000, 1024, 4, .brg, 0xFFFFFFFF, 0, 0, 0, 0, 0⟩]

/-- Registers of ARB, part 0. -/
def rowsARB : List RegRow := [
  ⟨0xC0000, 1, 4, 1, 4, .k, 0x3FF, 0, 0, 0, 0x40, 0⟩,
  ⟨0xC0004, 1, 4, 1, 4, .kc, 0, 0, 0, 0, 0, 0⟩,
  ⟨0xC0010, 1, 4, 1, 4, .kc, 0, 0, 0x3FF, 0, 0, 0⟩,
  ⟨0xC0044, 15, 4, 1, 4, .kc, 0, 0, 0, 0, 0, 0⟩,
  ⟨0xC0080, 32, 4, 1, 4, .kc, 0, 0, 0, 0, 0, 0⟩,
  ⟨0xC1000, 4, 0x1000, 1, 4, .k, 0xF07FF, 0, 0, 0, 0xC0200, 0⟩,
  ⟨0xC1004, 4, 0x1000, 1, 4, .kc, 0, 0, 0, 0, 0x100000, 0⟩,
  ⟨0xC100C, 4, 0x1000, 1, 4, .k, 0xFFFF, 0, 0, 0, 0, 0⟩,
  ⟨0xC1010, 4, 0x1000, 1, 4, .k, 0, 0x70000000, 0, 0, 0, 0⟩,
  ⟨0xC1014, 4, 0x1000, 1, 4, .k, 0, 0, 0, 0, 0, 0⟩,
  ⟨0xC1018, 4, 0x1000, 1, 4, .k, 0, 0, 3, 0, 0, 0⟩,
  ⟨0xC1100, 4, 0x1000, 36, 4, .k, 0x3000FFFF, 0x80000000, 0, 0, 0, 0⟩,
  ⟨0xC1800, 4, 0x1000, 1, 4, .kc, 0, 0, 0, 0, 0, 0⟩,
  ⟨0xC1804, 4, 0x1000, 1, 4, .kc, 0, 0, 0, 0, 0, 0⟩,
  ⟨0xC1808, 4, 0x1000, 1, 4, .kc, 0, 0, 0, 0, 0, 0⟩,
  ⟨0xC180C, 4, 0x1000, 1, 4, .kc, 0, 0, 0, 0, 0, 0⟩,
  ⟨0xC1810, 4, 0x1000, 1, 4, .kc, 0, 0, 0, 0, 0, 0⟩,
  ⟨0xC1814, 4, 0x1000, 1, 4, .kc, 0, 0, 0, 0, 0, 0⟩,
  ⟨0xC1818, 4, 0x1000, 1, 4, .kc, 0, 0, 0, 0, 0, 0⟩,
  ⟨0xC181C, 4, 0x1000, 1, 4, .kc, 0, 0, 0, 0, 0, 0⟩,
  ⟨0xC1820, 4, 0x1000, 1, 4, .kc, 0, 0, 0, 0, 0, 0⟩,
  ⟨0xC1824, 4, 0x1000, 1, 4, .kc, 0, 0, 0, 0, 0, 0⟩]

/-- Registers of ING, part 0. -/
def rowsING_0 : List RegRow := [
  ⟨0x100000, 1, 4, 1, 4, .k, 0x87FF, 0, 0, 0, 0, 0⟩,
  ⟨0x100004, 1, 4, 1, 4, .kc, 0, 0, 0, 0, 0, 0⟩,
  ⟨0x100010, 1, 4, 1, 4, .k, 0xFFFF807F, 0, 0, 0, 0x73400010, 0⟩,
  ⟨0x100014, 1, 4, 1, 4, .k, 0xFFFF, 0, 0, 0, 0x64, 0⟩,
  ⟨0x100020, 1, 4, 1, 4, .kc, 0, 0, 0, 0, 0, 0⟩,
  ⟨0x100024, 1, 4, 1, 4, .kc, 0, 0, 0, 0, 0, 0⟩,
  ⟨0x100028, 1, 4, 1, 4, .kc, 0, 0, 0, 0, 0, 0⟩,
  ⟨0x10002C, 1, 4, 1, 4, .kc, 0, 0, 0, 0, 0, 0⟩,
  ⟨0x100100, 8, 0x10, 1, 4, .kc, 0xFFFFFFFF, 0, 0, 0, 0, 0⟩,
  ⟨0x100104, 8, 0x10, 1, 4, .kc, 0, 0, 0, 0, 0, 0⟩,
  ⟨0x100108, 8, 0x10, 1, 4, .kc, 0, 0, 0, 0, 0, 0⟩,
  ⟨0x100400, 1, 4, 1, 4, .k, 0xFFFFF000, 0, 0, 0, 0, 0⟩,
  ⟨0x100404, 1, 4, 1, 4, .k, 0xFFFFFFFF, 0, 0, 0, 0, 0⟩,
  ⟨0x100408, 1, 4, 1, 4, .k, 0x8000000F, 0x40000000, 0, 0, 0, 0⟩,
  ⟨0x10040C, 1, 4, 1, 4, .kc, 0x3FF, 0, 0, 0, 0, 0⟩,
  ⟨0x100410, 1, 4, 1, 4, .kc, 0, 0, 0, 0, 0, 0⟩,
  ⟨0x100800, 1, 4, 1, 4, .kc, 0, 0, 0, 0, 0, 0⟩,
  ⟨0x100804, 1, 4, 1, 4, .kc, 0, 0, 0, 0, 0, 0⟩,
  ⟨0x100808, 1, 4, 1, 4, .kc, 0, 0, 0, 0, 0, 0⟩,
  ⟨0x10080C, 1, 4, 1, 4, .kc, 0, 0, 0, 0, 0, 0⟩,
  ⟨0x100810, 1, 4, 1, 4, .kc, 0, 0, 0, 0, 0, 0⟩,
  ⟨0x100814, 1, 4, 1, 4, .kc, 0, 0, 0, 0, 0, 0⟩,
  ⟨0x100818, 1, 4, 1, 4, .kc, 0, 0, 0, 0, 0, 0⟩,
  ⟨0x10081C, 1, 4, 1, 4, .kc, 0, 0, 0, 0, 0, 0⟩]

/-- Registers of ING, part 1. -/
def rowsING_1 : List RegRow := [
  ⟨0x100820, 1, 4, 1, 4, .kc, 0, 0, 0, 0, 0, 0⟩,
  ⟨0x100824, 1, 4, 1, 4, .kc, 0, 0, 0, 0, 0, 0⟩,
  ⟨0x100828, 1, 4, 1, 4, .kc, 0, 0, 0, 0, 0, 0⟩,
  ⟨0x10082C, 1, 4, 1, 4, .kc, 0, 0, 0, 0, 0, 0⟩,
  ⟨0x100830, 1, 4, 1, 4, .kc, 0, 0, 0, 0, 0, 0⟩,
  ⟨0x100834, 1, 4, 1, 4, .kc, 0, 0, 0, 0, 0, 0⟩,
  ⟨0x100838, 1, 4, 1, 4, .kc, 0, 0, 0, 0, 0, 0⟩,
  ⟨0x10083C, 1, 4, 1, 4, .kc, 0, 0, 0, 0, 0, 0⟩,
  ⟨0x100840, 1, 4, 1, 4, .kc, 0, 0, 0, 0, 0, 0⟩]

/-- Registers of ING. -/
def rowsING : List RegRow := rowsING_0 ++ rowsING_1

/-- Registers of PND, part 0. -/
def rowsPND_0 : List RegRow := [
  ⟨0x140000, 1, 4, 1, 4, .k, 0xFFFF07, 0, 0, 0, 0x41000, 0⟩,
  ⟨0x140004, 1, 4, 1, 4, .k, 0xFFFFFFFF, 0, 0, 0, 0x4004000, 0⟩,
  ⟨0x140008, 1, 4, 1, 4, .k, 0x3FFFFF, 0, 0, 0, 0x80000, 0⟩,
  ⟨0x14000C, 1, 4, 1, 4, .k, 0x800000FF, 0, 0, 0, 0x80000008, 0⟩,
  ⟨0x140010, 1, 4, 1, 4, .kc, 0, 0, 0, 0, 0, 0⟩,
  ⟨0x140014, 1, 4, 1, 4, .kc, 0, 0, 0, 0, 0, 0⟩,
  ⟨0x140020, 1, 4, 1, 4, .kc, 0, 0, 0, 0, 0, 0⟩,
  ⟨0x140024, 1, 4, 1, 4, .kc, 0, 0, 0, 0, 0, 0⟩,
  ⟨0x140028, 1, 4, 1, 4, .kc, 0, 0, 0, 0, 0, 0⟩,
  ⟨0x14002C, 1, 4, 1, 4, .kc, 0, 0, 0, 0, 0, 0⟩,
  ⟨0x140030, 1, 4, 1, 4, .kc, 0, 0, 0, 0, 0, 0⟩,
  ⟨0x140034, 1, 4, 1, 4, .kc, 0, 0, 0, 0, 0, 0⟩,
  ⟨0x140040, 1, 4, 1, 4, .kc, 0, 0, 0, 0, 0, 0⟩,
  ⟨0x140050, 1, 4, 1, 4, .kc, 0, 0, 0, 0, 0, 0⟩,
  ⟨0x140054, 1, 4, 1, 4, .kc, 0, 0, 0, 0, 0, 0⟩,
  ⟨0x140058, 1, 4, 1, 4, .kc, 0, 0, 0, 0, 0, 0⟩,
  ⟨0x14005C, 1, 4, 1, 4, .kc, 0, 0, 0, 0, 0, 0⟩,
  ⟨0x140060, 1, 4, 1, 4, .kc, 0, 0, 0, 0, 0, 0⟩,
  ⟨0x140064, 1, 4, 1, 4, .kc, 0, 0, 0, 0, 0, 0⟩,
  ⟨0x140068, 1, 4, 1, 4, .kc, 0, 0, 0, 0, 0, 0⟩,
  ⟨0x14006C, 1, 4, 1, 4, .kc, 0, 0, 0, 0, 0, 0⟩,
  ⟨0x140070, 1, 4, 1, 4, .k, 0, 0, 0xFFFFFFFF, 0, 0, 0⟩,
  ⟨0x140074, 1, 4, 1, 4, .k, 0, 0, 0xFFFFFFFF, 0, 0, 0⟩,
  ⟨0x140080, 1, 4, 1, 4, .kc, 0, 0, 0, 0, 0, 0⟩]

/-- Registers of PND, part 1. -/
def rowsPND_1 : List RegRow := [
  ⟨0x140084, 1, 4, 1, 4, .kc, 0, 0, 0, 0, 0, 0⟩,
  ⟨0x140088, 1, 4, 1, 4, .k, 0, 0, 0, 0, 0, 0⟩,
  ⟨0x14008C, 1, 4, 1, 4, .k, 0, 0, 0, 0, 0, 0⟩,
  ⟨0x140090, 1, 4, 1, 4, .kc, 0, 0, 0, 0xFFFFFFFF, 0, 0⟩,
  ⟨0x140800, 1, 4, 1, 4, .kc, 0, 0, 0, 0, 0, 0⟩,
  ⟨0x140804, 1, 4, 1, 4, .kc, 0, 0, 0, 0, 0, 0⟩,
  ⟨0x140808, 1, 4, 1, 4, .kc, 0, 0, 0, 0, 0, 0⟩,
  ⟨0x14080C, 1, 4, 1, 4, .kc, 0, 0, 0, 0, 0, 0⟩,
  ⟨0x140810, 1, 4, 1, 4, .kc, 0, 0, 0, 0, 0, 0⟩,
  ⟨0x140814, 1, 4, 1, 4, .kc, 0, 0, 0, 0, 0, 0⟩,
  ⟨0x140818, 1, 4, 1, 4, .kc, 0, 0, 0, 0, 0, 0⟩,
  ⟨0x14081C, 1, 4, 1, 4, .kc, 0, 0, 0, 0, 0, 0⟩,
  ⟨0x140820, 1, 4, 1, 4, .kc, 0, 0, 0, 0, 0, 0⟩,
  ⟨0x140824, 1, 4, 1, 4, .kc, 0, 0, 0, 0, 0, 0⟩,
  ⟨0x140828, 1, 4, 1, 4, .kc, 0, 0, 0, 0, 0, 0⟩,
  ⟨0x14082C, 1, 4, 1, 4, .kc, 0, 0, 0, 0, 0, 0⟩,
  ⟨0x140830, 1, 4, 1, 4, .kc, 0, 0, 0, 0, 0, 0⟩,
  ⟨0x140834, 1, 4, 1, 4, .kc, 0, 0, 0, 0, 0, 0⟩,
  ⟨0x140838, 1, 4, 1, 4, .kc, 0, 0, 0, 0, 0, 0⟩,
  ⟨0x14083C, 1, 4, 1, 4, .kc, 0, 0, 0, 0, 0, 0⟩,
  ⟨0x140840, 1, 4, 1, 4, .kc, 0, 0, 0, 0, 0, 0⟩]

/-- Registers of PND. -/
def rowsPND : List RegRow := rowsPND_0 ++ rowsPND_1

/-- Registers of ASM, part 0. -/
def rowsASM_0 : List RegRow := [
  ⟨0x180000, 1, 4, 1, 4, .k, 0x700, 0, 0, 0, 0, 0⟩,
  ⟨0x180004, 1, 4, 1, 4, .kc, 0, 0, 0, 0, 0, 0⟩,
  ⟨0x180010, 1, 4, 1, 4, .k, 0x3FFFFF, 0, 0, 0, 0, 0⟩,
  ⟨0x180014, 1, 4, 1, 4, .k, 0xFFF, 0, 0, 0, 0xFFF, 0⟩,
  ⟨0x180018, 1, 4, 1, 4, .k, 0, 0, 0x103, 0, 0, 0⟩,
  ⟨0x18001C, 1, 4, 1, 4, .k, 0, 0x40000000, 0, 0, 0, 0⟩,
  ⟨0x180020, 4, 4, 1, 4, .k, 0xFFFFFFFF, 0, 0, 0, 0, 0⟩,
  ⟨0x180030, 4, 4, 1, 4, .kc, 0, 0, 0, 0, 0, 0⟩,
  ⟨0x180040, 1, 4, 1, 4, .k, 0x3FFFFF, 0, 0, 0, 0, 0⟩,
  ⟨0x180044, 1, 4, 1, 4, .kc, 0, 0, 0, 0, 0, 0⟩,
  ⟨0x180048, 1, 4, 1, 4, .k, 0, 0, 0, 0, 0, 0⟩,
  ⟨0x180100, 8, 0x20, 1, 4, .k, 0x707, 0, 0, 7, 0x700, 0⟩,
  ⟨0x180104, 8, 0x20, 1, 4, .k, 0xFFFFFF, 0, 0, 0, 0x181410, 0⟩,
  ⟨0x180108, 8, 0x20, 1, 4, .k, 0xFFFFF, 0, 0, 0, 0xFFFFF, 0⟩,
  ⟨0x18010C, 8, 0x20, 1, 4, .k, 0xFF3F, 0, 0, 0, 0x4104, 0⟩,
  ⟨0x180110, 8, 0x20, 1, 4, .k, 0xFFFFFFFF, 0, 0, 0, 0x5555, 0⟩,
  ⟨0x180114, 8, 0x20, 1, 4, .k, 0xFFFFFFFF, 0, 0, 0, 0xAAAA0000, 0⟩,
  ⟨0x180200, 1, 4, 1, 4, .k, 0x77777777, 0, 0, 0, 0x11111111, 0⟩,
  ⟨0x180204, 1, 4, 1, 4, .k, 0x77777777, 0, 0, 0, 0x11111111, 0⟩,
  ⟨0x180300, 9, 0x10, 1, 4, .k, 0, 0x70000000, 0, 0, 0, 0⟩,
  ⟨0x180304, 9, 0x10, 1, 4, .k, 0, 0, 0, 0, 0, 0⟩,
  ⟨0x180308, 9, 0x10, 1, 4, .k, 0, 0, 3, 0, 0, 0⟩,
  ⟨0x1803A0, 1, 4, 1, 4, .k, 0xFFF, 0, 0, 0, 0, 0⟩,
  ⟨0x1803A4, 1, 4, 1, 4, .k, 0, 0, 0, 0, 0, 0⟩]

/-- Registers of ASM, part 1. -/
def rowsASM_1 : List RegRow := [
  ⟨0x180800, 1, 4, 1, 4, .kc, 0, 0, 0, 0, 0, 0⟩,
  ⟨0x180804, 1, 4, 1, 4, .kc, 0, 0, 0, 0, 0, 0⟩,
  ⟨0x180808, 1, 4, 1, 4, .kc, 0, 0, 0, 0, 0, 0⟩,
  ⟨0x18080C, 1, 4, 1, 4, .kc, 0, 0, 0, 0, 0, 0⟩,
  ⟨0x180810, 1, 4, 1, 4, .kc, 0, 0, 0, 0, 0, 0⟩,
  ⟨0x180814, 1, 4, 1, 4, .kc, 0, 0, 0, 0, 0, 0⟩,
  ⟨0x180818, 1, 4, 1, 4, .kc, 0, 0, 0, 0, 0, 0⟩,
  ⟨0x18081C, 1, 4, 1, 4, .kc, 0, 0, 0, 0, 0, 0⟩,
  ⟨0x180820, 1, 4, 1, 4, .kc, 0, 0, 0, 0, 0, 0⟩,
  ⟨0x180824, 1, 4, 1, 4, .kc, 0, 0, 0, 0, 0, 0⟩,
  ⟨0x180828, 1, 4, 1, 4, .kc, 0, 0, 0, 0, 0, 0⟩,
  ⟨0x18082C, 1, 4, 1, 4, .kc, 0, 0, 0, 0, 0, 0⟩,
  ⟨0x180830, 1, 4, 1, 4, .kc, 0, 0, 0, 0, 0, 0⟩]

/-- Registers of ASM. -/
def rowsASM : List RegRow := rowsASM_0 ++ rowsASM_1

/-- Registers of FIR, part 0. -/
def rowsFIR_0 : List RegRow := [
  ⟨0x1C0000, 1, 4, 1, 4, .k, 0x7FFF, 0, 0, 0, 7, 0⟩,
  ⟨0x1C0004, 1, 4, 1, 4, .kc, 0, 0x38000000, 0, 0, 0, 0⟩,
  ⟨0x1C0008, 1, 4, 1, 4, .k, 0xFFFFFFFF, 0, 0, 0xFFFFFFFF, 0, 0⟩,
  ⟨0x1C000C, 1, 4, 1, 4, .k, 0xFFFF, 0, 0, 0xFFFF, 0, 0⟩,
  ⟨0x1C0010, 1, 4, 1, 4, .k, 0xFFFFFFFF, 0, 0, 0, 0, 0⟩,
  ⟨0x1C0014, 1, 4, 1, 4, .k, 0xFFFF, 0, 0, 0, 0, 0⟩,
  ⟨0x1C0018, 1, 4, 1, 4, .k, 0xFF001FFF, 0, 0, 0, 0x20000800, 0⟩,
  ⟨0x1C001C, 1, 4, 1, 4, .kc, 0, 0, 0, 0, 0, 0⟩,
  ⟨0x1C0020, 1, 4, 1, 4, .kc, 0, 0, 0, 0, 0, 0⟩,
  ⟨0x1C0024, 1, 4, 1, 4, .k, 0, 0, 0, 0, 0, 0⟩,
  ⟨0x1C0028, 1, 4, 1, 4, .k, 0, 0, 0, 0, 0, 0⟩,
  ⟨0x1C002C, 1, 4, 1, 4, .k, 0xFFFFFFFF, 0, 0, 0, 0, 0⟩,
  ⟨0x1C0030, 1, 4, 1, 4, .k, 0xFFFF, 0, 0, 0, 0, 0⟩,
  ⟨0x1C0034, 1, 4, 1, 4, .k, 0xFFFF0000, 0, 0, 0, 0x400000, 0⟩,
  ⟨0x1C0038, 1, 4, 1, 4, .k, 0, 0, 0, 0, 0, 0⟩,
  ⟨0x1C0100, 8, 0x40, 1, 4, .k, 0xFFFFFFFF, 0, 0, 0, 0, 0⟩,
  ⟨0x1C0104, 8, 0x40, 1, 4, .k, 0xFFFF, 0, 0, 0, 0, 0⟩,
  ⟨0x1C0108, 8, 0x40, 1, 4, .k, 0xFFFFF, 0, 0, 0, 0, 0⟩,
  ⟨0x1C010C, 8, 0x40, 1, 4, .k, 0xFF7FF7FF, 0, 0, 0, 0x803C0140, 0⟩,
  ⟨0x1C0110, 8, 0x40, 1, 4, .k, 0xFF00FFFF, 0, 0, 0, 0x3700, 0⟩,
  ⟨0x1C0114, 8, 0x40, 1, 4, .k, 0x7F, 0, 0, 0x7F, 0, 0⟩,
  ⟨0x1C0118, 8, 0x40, 1, 4, .k, 0xFFFF, 0, 0, 0, 0x5A50, 0⟩,
  ⟨0x1C011C, 8, 0x40, 1, 4, .kc, 0, 0, 0, 0, 0, 0⟩,
  ⟨0x1C0120, 8, 0x40, 6, 4, .k, 0xFFFFFFFF, 0, 0, 0, 0, 0⟩]

/-- Registers of FIR, part 1. -/
def rowsFIR_1 : List RegRow := [
  ⟨0x1C0138, 8, 0x40, 1, 4, .kc, 0, 0, 0, 0, 0, 0⟩,
  ⟨0x1C013C, 8, 0x40, 1, 4, .kc, 0, 0, 0, 0, 0, 0⟩,
  ⟨0x1C0300, 8, 0x10, 1, 4, .k, 0, 0x70000000, 0, 0, 0, 0⟩,
  ⟨0x1C0304, 8, 0x10, 1, 4, .k, 0, 0, 0, 0, 0, 0⟩,
  ⟨0x1C0308, 8, 0x10, 1, 4, .k, 0, 0, 3, 0, 0, 0⟩,
  ⟨0x1C0380, 1, 4, 1, 4, .k, 0x1FFF, 0, 0, 0, 0, 0⟩,
  ⟨0x1C0384, 1, 4, 1, 4, .k, 0, 0, 0, 0, 0, 0⟩,
  ⟨0x1C0800, 1, 4, 1, 4, .kc, 0, 0, 0, 0, 0, 0⟩,
  ⟨0x1C0804, 1, 4, 1, 4, .kc, 0, 0, 0, 0, 0, 0⟩,
  ⟨0x1C0808, 1, 4, 1, 4, .kc, 0, 0, 0, 0, 0, 0⟩,
  ⟨0x1C080C, 1, 4, 1, 4, .kc, 0, 0, 0, 0, 0, 0⟩,
  ⟨0x1C0810, 1, 4, 1, 4, .kc, 0, 0, 0, 0, 0, 0⟩,
  ⟨0x1C0814, 1, 4, 1, 4, .kc, 0, 0, 0, 0, 0, 0⟩,
  ⟨0x1C0818, 1, 4, 1, 4, .kc, 0, 0, 0, 0, 0, 0⟩,
  ⟨0x1C081C, 1, 4, 1, 4, .kc, 0, 0, 0, 0, 0, 0⟩,
  ⟨0x1C0820, 1, 4, 1, 4, .kc, 0, 0, 0, 0, 0, 0⟩,
  ⟨0x1C0824, 1, 4, 1, 4, .kc, 0, 0, 0, 0, 0, 0⟩,
  ⟨0x1C1000, 8, 0xD0, 52, 4, .k, 0xFFFFFFFF, 0, 0, 0, 0, 0⟩]

/-- Registers of FIR. -/
def rowsFIR : List RegRow := rowsFIR_0 ++ rowsFIR_1

/-- Registers of POS, part 0. -/
def rowsPOS_0 : List RegRow := [
  ⟨0x200000, 1, 4, 1, 4, .k, 7, 0, 0, 0, 0, 0⟩,
  ⟨0x200004, 1, 4, 1, 4, .kc, 0, 0, 0, 0, 0, 0⟩,
  ⟨0x200008, 1, 4, 1, 4, .k, 0x133, 0, 0x1000, 0x133, 0, 0⟩,
  ⟨0x20000C, 1, 4, 1, 4, .kc, 0, 0xF0FFF0, 0, 0, 0, 0⟩,
  ⟨0x200010, 1, 4, 1, 4, .kc, 0xFFFFFFFF, 0, 0, 0, 0, 0⟩,
  ⟨0x200014, 1, 4, 1, 4, .kc, 0xFFFF, 0, 0, 0, 0, 0⟩,
  ⟨0x200018, 1, 4, 1, 4, .kc, 0, 0, 0, 0, 0, 0⟩,
  ⟨0x20001C, 1, 4, 1, 4, .kc, 0, 0, 0, 0, 0, 0⟩,
  ⟨0x200020, 1, 4, 1, 4, .kc, 0, 0, 0, 0, 0, 0⟩,
  ⟨0x200024, 1, 4, 1, 4, .kc, 0, 0, 0, 0, 0, 0⟩,
  ⟨0x200028, 1, 4, 1, 4, .kc, 0, 0, 0, 0, 0, 0⟩,
  ⟨0x20002C, 1, 4, 1, 4, .kc, 0, 0, 0, 0, 0, 0⟩,
  ⟨0x200030, 1, 4, 1, 4, .k, 0x8000FF0F, 0, 0, 0, 0x80000A08, 0⟩,
  ⟨0x200034, 1, 4, 1, 4, .k, 0xFF, 0, 0, 0, 0x80, 0⟩,
  ⟨0x200038, 1, 4, 1, 4, .k, 0xFFFFFFFF, 0, 0, 0xFFFFFFFF, 0, 0⟩,
  ⟨0x20003C, 1, 4, 1, 4, .kc, 0, 0, 0, 0, 0, 0⟩,
  ⟨0x200040, 1, 4, 1, 4, .k, 0xFFFFFFFF, 0, 0, 0, 0x44003E8, 0⟩,
  ⟨0x200044, 1, 4, 1, 4, .k, 0xFFFFFFFF, 0, 0, 0, 0xC800, 0⟩,
  ⟨0x200048, 1, 4, 1, 4, .kc, 0, 0, 0, 0, 0, 0⟩,
  ⟨0x20004C, 1, 4, 1, 4, .k, 0xFFFFFF, 0, 0, 0, 0, 0⟩,
  ⟨0x200100, 4, 0x40, 1, 4, .k, 0xCF001FFF, 0, 0, 0xC0001FFF, 0x4000000, 0⟩,
  ⟨0x200104, 4, 0x40, 1, 4, .k, 0xFFFFFFFF, 0, 0, 0, 0, 0⟩,
  ⟨0x200108, 4, 0x40, 1, 4, .k, 0xFFFF3FFF, 0, 0, 0, 0x40001400, 0⟩,
  ⟨0x20010C, 4, 0x40, 1, 4, .k, 0xFFFF, 0, 0, 0, 0x9C40, 0⟩]

/-- Registers of POS, part 1. -/
def rowsPOS_1 : List RegRow := [
  ⟨0x200110, 4, 0x40, 1, 4, .k, 0x80FFFFFF, 0, 0, 0x80FFFFFF, 0, 0⟩,
  ⟨0x200114, 4, 0x40, 1, 4, .kc, 0, 0, 0, 0, 0, 0⟩,
  ⟨0x200118, 4, 0x40, 1, 4, .kc, 0, 0, 0, 0, 0, 0⟩,
  ⟨0x20011C, 4, 0x40, 1, 4, .kc, 0, 0, 0, 0, 0, 0⟩,
  ⟨0x200120, 4, 0x40, 1, 4, .kc, 0, 0, 0, 0, 0, 0⟩,
  ⟨0x200400, 16, 0x40, 1, 4, .k, 0xA0FFFFFF, 0, 0x40000000, 0, 0, 0⟩,
  ⟨0x200404, 16, 0x40, 1, 4, .k, 0xFFFFFFFF, 0, 0, 0, 0, 0⟩,
  ⟨0x200408, 16, 0x40, 1, 4, .k, 0xFFFF, 0, 0, 0, 0, 0⟩,
  ⟨0x20040C, 16, 0x40, 1, 4, .k, 0xFFFFFFFF, 0, 0, 0, 0, 0⟩,
  ⟨0x200410, 16, 0x40, 1, 4, .k, 0xFFFFFFFF, 0, 0, 0, 0, 0⟩,
  ⟨0x200414, 16, 0x40, 1, 4, .k, 0xFFFF0000, 0, 0, 0, 0x10000, 0⟩,
  ⟨0x200418, 16, 0x40, 1, 4, .k, 0xFFFFF, 0, 0, 0, 0, 0⟩,
  ⟨0x20041C, 16, 0x40, 1, 4, .k, 0xFFFFFFFF, 0, 0, 0, 0, 0⟩,
  ⟨0x200420, 16, 0x40, 1, 4, .kc, 0, 0, 0, 0, 0, 0⟩,
  ⟨0x200424, 16, 0x40, 1, 4, .kc, 0, 0, 0, 0, 0, 0⟩,
  ⟨0x200428, 16, 0x40, 1, 4, .kc, 0, 0xA0000000, 0, 0, 0, 0⟩,
  ⟨0x200800, 1, 4, 1, 4, .kc, 0, 0, 0, 0, 0, 0⟩,
  ⟨0x200804, 1, 4, 1, 4, .kc, 0, 0, 0, 0, 0, 0⟩,
  ⟨0x200808, 1, 4, 1, 4, .kc, 0, 0, 0, 0, 0, 0⟩,
  ⟨0x20080C, 1, 4, 1, 4, .kc, 0, 0, 0, 0, 0, 0⟩,
  ⟨0x200810, 1, 4, 1, 4, .kc, 0, 0, 0, 0, 0, 0⟩,
  ⟨0x200814, 1, 4, 1, 4, .kc, 0, 0, 0, 0, 0, 0⟩,
  ⟨0x200818, 1, 4, 1, 4, .kc, 0, 0, 0, 0, 0, 0⟩,
  ⟨0x20081C, 1, 4, 1, 4, .kc, 0, 0, 0, 0, 0, 0⟩]

/-- Registers of POS, part 2. -/
def rowsPOS_2 : List RegRow := [
  ⟨0x200820, 1, 4, 1, 4, .kc, 0, 0, 0, 0, 0, 0⟩,
  ⟨0x200824, 1, 4, 1, 4, .kc, 0, 0, 0, 0, 0, 0⟩]

/-- Registers of POS. -/
def rowsPOS : List RegRow := rowsPOS_0 ++ rowsPOS_1 ++ rowsPOS_2

/-- Registers of JGL, part 0. -/
def rowsJGL_0 : List RegRow := [
  ⟨0x240000, 1, 4, 1, 4, .k, 0x107, 0, 0, 0, 0x100, 0⟩,
  ⟨0x240004, 1, 4, 1, 4, .k, 0xFFFFFFFF, 0, 0, 0, 0x400800, 0⟩,
  ⟨0x240008, 1, 4, 1, 4, .k, 0xFFFF0F3F, 0, 0, 0, 0x10061A, 0⟩,
  ⟨0x24000C, 1, 4, 1, 4, .kc, 0, 0, 0, 0, 0, 0⟩,
  ⟨0x240100, 16, 0x20, 1, 4, .k, 0xFFFF0003, 0, 0, 0, 0, 0⟩,
  ⟨0x240104, 16, 0x20, 1, 4, .kc, 0, 0xFF, 0, 0, 0, 0⟩,
  ⟨0x240108, 16, 0x20, 1, 4, .kc, 0, 0, 0, 0, 0, 0⟩,
  ⟨0x24010C, 16, 0x20, 1, 4, .kc, 0, 0, 0, 0, 0, 0⟩,
  ⟨0x240110, 16, 0x20, 1, 4, .kc, 0, 0, 0, 0, 0, 0⟩,
  ⟨0x240114, 16, 0x20, 1, 4, .kc, 0, 0, 0, 0, 0, 0⟩,
  ⟨0x240400, 32, 0x20, 1, 4, .k, 0x40000000, 0, 0x80000000, 0, 0, 0⟩,
  ⟨0x240404, 32, 0x20, 1, 4, .kc, 0, 0, 0, 0, 0, 0⟩,
  ⟨0x240408, 32, 0x20, 1, 4, .kc, 0, 0, 0, 0, 0x83404, 0⟩,
  ⟨0x24040C, 32, 0x20, 1, 4, .kc, 0, 0, 0, 0, 0, 0⟩,
  ⟨0x240410, 32, 0x20, 1, 4, .kc, 0, 0, 0, 0, 0, 0⟩,
  ⟨0x240414, 32, 0x20, 1, 4, .k, 0x40FF000F, 0, 0x80000000, 0, 0, 0⟩,
  ⟨0x240418, 32, 0x20, 1, 4, .kc, 0, 0, 0, 0, 0, 0⟩,
  ⟨0x24041C, 32, 0x20, 1, 4, .kc, 0, 0, 0, 0, 0, 0⟩,
  ⟨0x240800, 1, 4, 1, 4, .kc, 0, 0, 0, 0, 0, 0⟩,
  ⟨0x240804, 1, 4, 1, 4, .kc, 0, 0, 0, 0, 0, 0⟩,
  ⟨0x240808, 1, 4, 1, 4, .kc, 0, 0, 0, 0, 0, 0⟩,
  ⟨0x24080C, 1, 4, 1, 4, .kc, 0, 0, 0, 0, 0, 0⟩,
  ⟨0x240810, 1, 4, 1, 4, .kc, 0, 0, 0, 0, 0, 0⟩,
  ⟨0x240814, 1, 4, 1, 4, .kc, 0, 0, 0, 0, 0, 0⟩]

/-- Registers of JGL, part 1. -/
def rowsJGL_1 : List RegRow := [
  ⟨0x240818, 1, 4, 1, 4, .kc, 0, 0, 0, 0, 0, 0⟩,
  ⟨0x24081C, 1, 4, 1, 4, .kc, 0, 0, 0, 0, 0, 0⟩,
  ⟨0x240820, 1, 4, 1, 4, .kc, 0, 0, 0, 0, 0, 0⟩,
  ⟨0x240824, 1, 4, 1, 4, .kc, 0, 0, 0, 0, 0, 0⟩,
  ⟨0x240828, 1, 4, 1, 4, .kc, 0, 0, 0, 0, 0, 0⟩,
  ⟨0x24082C, 1, 4, 1, 4, .kc, 0, 0, 0, 0, 0, 0⟩,
  ⟨0x240830, 1, 4, 1, 4, .kc, 0, 0, 0, 0, 0, 0⟩,
  ⟨0x240834, 1, 4, 1, 4, .kc, 0, 0, 0, 0, 0, 0⟩,
  ⟨0x241000, 16, 0x20, 7, 4, .kc, 0, 0, 0, 0, 0x80808080, 0⟩]

/-- Registers of JGL. -/
def rowsJGL : List RegRow := rowsJGL_0 ++ rowsJGL_1

/-- Registers of CAM, part 0. -/
def rowsCAM_0 : List RegRow := [
  ⟨0x280000, 1, 4, 1, 4, .k, 0x10F, 0, 0, 0, 0, 0⟩,
  ⟨0x280004, 1, 4, 1, 4, .kc, 0, 0x8000, 0, 0, 0, 0⟩,
  ⟨0x280008, 1, 4, 1, 4, .k, 0xFFFF, 0, 0, 0, 0x4444, 0⟩,
  ⟨0x280010, 4, 4, 1, 4, .kc, 0, 0, 0, 0, 0, 0⟩,
  ⟨0x280020, 1, 4, 1, 4, .k, 0xFFFFF000, 0, 0, 0, 0, 0⟩,
  ⟨0x280024, 1, 4, 1, 4, .k, 0xFFFFFFFF, 0, 0, 0, 0, 0⟩,
  ⟨0x280028, 1, 4, 1, 4, .k, 0x8000000F, 0x40000000, 0, 0, 0, 0⟩,
  ⟨0x28002C, 1, 4, 1, 4, .kc, 0, 0, 0, 0, 0, 0⟩,
  ⟨0x280030, 1, 4, 1, 4, .kc, 0xFFF, 0, 0, 0, 0, 0⟩,
  ⟨0x280040, 1, 4, 1, 4, .k, 0, 0, 0xFF00FFFF, 0, 0, 0⟩,
  ⟨0x280044, 1, 4, 1, 4, .k, 0xFFFFFFFF, 0, 0, 0, 0, 0⟩,
  ⟨0x280048, 1, 4, 1, 4, .k, 0, 0x40000000, 0, 0, 0, 0⟩,
  ⟨0x280100, 16, 0x40, 1, 4, .k, 0xEFFF071F, 0, 0, 0, 0x10, 0⟩,
  ⟨0x280104, 16, 0x40, 1, 4, .k, 0xFFFFFFFF, 0, 0, 0, 0x8000400, 0⟩,
  ⟨0x280108, 16, 0x40, 1, 4, .k, 0xFFFFFFFF, 0, 0, 0, 0xD5A0000, 0⟩,
  ⟨0x28010C, 16, 0x40, 1, 4, .k, 0xFFFFFFFF, 0, 0, 0, 0x27100000, 0⟩,
  ⟨0x280110, 16, 0x40, 1, 4, .k, 0x707FFFFF, 0, 0, 0, 0, 0⟩,
  ⟨0x280114, 16, 0x40, 1, 4, .kc, 0, 0, 0, 0, 0, 0⟩,
  ⟨0x280118, 16, 0x40, 1, 4, .kc, 0, 0, 0, 0, 0, 0⟩,
  ⟨0x28011C, 16, 0x40, 1, 4, .kc, 0, 0, 0, 0, 0, 0⟩,
  ⟨0x280120, 16, 0x40, 1, 4, .k, 0xFFF0FFF, 0, 0, 0, 0, 0⟩,
  ⟨0x280124, 16, 0x40, 1, 4, .k, 0xFFFFFFFF, 0, 0, 0, 0x4000400, 0⟩,
  ⟨0x280128, 16, 0x40, 1, 4, .k, 0xFFFFFFFF, 0, 0, 0, 0x4000400, 0⟩,
  ⟨0x28012C, 16, 0x40, 1, 4, .k, 0xE0FFFFFF, 0, 0, 0, 0x80000000, 0⟩]

/-- Registers of CAM, part 1. -/
def rowsCAM_1 : List RegRow := [
  ⟨0x280130, 16, 0x40, 1, 4, .k, 3, 0, 0, 0, 0, 0⟩,
  ⟨0x280600, 17, 0x10, 1, 4, .k, 0, 0x70000000, 0, 0, 0, 0⟩,
  ⟨0x280604, 17, 0x10, 1, 4, .k, 0, 0, 0, 0, 0, 0⟩,
  ⟨0x280608, 17, 0x10, 1, 4, .k, 0, 0, 3, 0, 0, 0⟩,
  ⟨0x280720, 1, 4, 1, 4, .k, 0xFFF, 0, 0, 0, 0, 0⟩,
  ⟨0x280724, 1, 4, 1, 4, .k, 0, 0, 0, 0, 0, 0⟩,
  ⟨0x280800, 1, 4, 1, 4, .kc, 0, 0, 0, 0, 0, 0⟩,
  ⟨0x280804, 1, 4, 1, 4, .kc, 0, 0, 0, 0, 0, 0⟩,
  ⟨0x280808, 1, 4, 1, 4, .kc, 0, 0, 0, 0, 0, 0⟩,
  ⟨0x28080C, 1, 4, 1, 4, .kc, 0, 0, 0, 0, 0, 0⟩,
  ⟨0x280810, 1, 4, 1, 4, .kc, 0, 0, 0, 0, 0, 0⟩,
  ⟨0x280814, 1, 4, 1, 4, .kc, 0, 0, 0, 0, 0, 0⟩,
  ⟨0x280818, 1, 4, 1, 4, .kc, 0, 0, 0, 0, 0, 0⟩,
  ⟨0x28081C, 1, 4, 1, 4, .kc, 0, 0, 0, 0, 0, 0⟩,
  ⟨0x280820, 1, 4, 1, 4, .kc, 0, 0, 0, 0, 0, 0⟩,
  ⟨0x280824, 1, 4, 1, 4, .kc, 0, 0, 0, 0, 0, 0⟩,
  ⟨0x280828, 1, 4, 1, 4, .kc, 0, 0, 0, 0, 0, 0⟩,
  ⟨0x280900, 4, 0x20, 1, 4, .k, 0x8F33FFFF, 0, 0, 0, 1, 0⟩,
  ⟨0x280904, 4, 0x20, 1, 4, .k, 0xFFFFFFFF, 0, 0, 0, 1, 0⟩,
  ⟨0x280908, 4, 0x20, 1, 4, .k, 0xFFFFFFFF, 0, 0, 0, 1, 0⟩,
  ⟨0x28090C, 4, 0x20, 1, 4, .kc, 0, 0, 0, 0, 0, 0⟩,
  ⟨0x280910, 4, 0x20, 1, 4, .kc, 0, 0, 0, 0, 0, 0⟩]

/-- Registers of CAM. -/
def rowsCAM : List RegRow := rowsCAM_0 ++ rowsCAM_1

/-- Registers of INS, part 0. -/
def rowsINS : List RegRow := [
  ⟨0x2C0000, 1, 4, 1, 4, .k, 0x7F, 0, 0, 0, 0x7F, 0⟩,
  ⟨0x2C0004, 1, 4, 1, 4, .kc, 0, 0x40000000, 0, 0, 0, 0⟩,
  ⟨0x2C0008, 1, 4, 1, 4, .k, 0xFF00FFFF, 0, 0, 0, 0xF000802, 0⟩,
  ⟨0x2C000C, 1, 4, 1, 4, .k, 0xF01FFFFF, 0, 0, 0, 0x40041000, 0⟩,
  ⟨0x2C0010, 1, 4, 1, 4, .k, 0xFFFFFFFF, 0, 0, 0, 0x80330400, 0⟩,
  ⟨0x2C0014, 1, 4, 1, 4, .k, 0xFF00FFFF, 0, 0, 0, 0x4000A00, 0⟩,
  ⟨0x2C0018, 1, 4, 1, 4, .k, 0xFFFFFFFF, 0, 0, 0, 0x19030010, 0⟩,
  ⟨0x2C001C, 1, 4, 1, 4, .k, 0xFFFF00FF, 0, 0, 0, 0x40CD000F, 0⟩,
  ⟨0x2C0020, 8, 4, 1, 4, .kc, 0, 0, 0, 0, 0, 0⟩,
  ⟨0x2C0040, 8, 4, 1, 4, .kc, 0, 0, 0, 0, 0, 0⟩,
  ⟨0x2C0060, 1, 4, 1, 4, .kc, 0, 0, 0, 0, 0, 0⟩,
  ⟨0x2C0064, 1, 4, 1, 4, .k, 0xFFFFFFFF, 0, 0, 0, 0x12A05F, 0⟩,
  ⟨0x2C0800, 1, 4, 1, 4, .kc, 0, 0, 0, 0, 0, 0⟩,
  ⟨0x2C0804, 1, 4, 1, 4, .kc, 0, 0, 0, 0, 0, 0⟩,
  ⟨0x2C0808, 1, 4, 1, 4, .kc, 0, 0, 0, 0, 0, 0⟩,
  ⟨0x2C080C, 1, 4, 1, 4, .kc, 0, 0, 0, 0, 0, 0⟩,
  ⟨0x2C0810, 1, 4, 1, 4, .kc, 0, 0, 0, 0, 0, 0⟩,
  ⟨0x2C0814, 1, 4, 1, 4, .kc, 0, 0, 0, 0, 0, 0⟩,
  ⟨0x2C0818, 1, 4, 1, 4, .kc, 0, 0, 0, 0, 0, 0⟩,
  ⟨0x2C081C, 1, 4, 1, 4, .kc, 0, 0, 0, 0, 0, 0⟩,
  ⟨0x2C0820, 1, 4, 1, 4, .kc, 0, 0, 0, 0, 0, 0⟩,
  ⟨0x2C0824, 1, 4, 1, 4, .kc, 0, 0, 0, 0, 0, 0⟩,
  ⟨0x2C0828, 1, 4, 1, 4, .kc, 0, 0, 0, 0, 0, 0⟩]

/-- Registers of CAL, part 0. -/
def rowsCAL : List RegRow := [
  ⟨0x300000, 1, 4, 1, 4, .kc, 0, 0, 0, 0, 0, 0⟩,
  ⟨0x300004, 1, 4, 1, 4, .k, 0xFFFFFFFF, 0, 0, 0, 0xFFFF0000, 0⟩,
  ⟨0x300008, 1, 4, 1, 4, .kc, 0, 0, 0, 0, 0x2625A0, 0⟩,
  ⟨0x30000C, 1, 4, 1, 4, .kc, 0, 0, 0, 0xFFFFFFFF, 0, 0⟩,
  ⟨0x300010, 1, 4, 1, 4, .k, 0xFFFFF, 0, 0, 0, 0xB88C, 0⟩,
  ⟨0x300014, 1, 4, 1, 4, .kc, 0, 0, 0, 0, 0, 0⟩,
  ⟨0x300100, 4, 0x10, 1, 4, .k, 0xC0FFFFFF, 0, 0, 0, 0x258, 0⟩,
  ⟨0x300104, 4, 0x10, 1, 4, .k, 0xFFFF, 0, 0, 0, 0, 0⟩,
  ⟨0x300108, 4, 0x10, 1, 4, .kc, 0, 0, 0, 0, 0, 0⟩]

/-- Registers of PWR, part 0. -/
def rowsPWR_0 : List RegRow := [
  ⟨0x340000, 1, 4, 1, 4, .k, 0xF7, 0, 0, 0, 0xB0, 0⟩,
  ⟨0x340004, 1, 4, 1, 4, .kc, 0, 0x400FFFF, 0, 0, 0, 0⟩,
  ⟨0x340008, 1, 4, 1, 4, .k, 0xFFFF, 0, 0, 0, 0x78, 0⟩,
  ⟨0x34000C, 1, 4, 1, 4, .k, 0xFFFFFFFF, 0, 0, 0xFFFFFFFF, 0, 0⟩,
  ⟨0x340010, 1, 4, 1, 4, .k, 0xFFFFFFFF, 0, 0, 0xFFFFFFFF, 0, 0⟩,
  ⟨0x340014, 1, 4, 1, 4, .kc, 0, 0, 0, 0, 0, 0⟩,
  ⟨0x340018, 1, 4, 1, 4, .k, 0xFFF, 0, 0, 0, 0xF, 0⟩,
  ⟨0x34001C, 1, 4, 1, 4, .k, 0xFF, 0, 0, 0, 0x1E, 0⟩,
  ⟨0x340030, 1, 4, 1, 4, .k, 0xFFFFFF, 0, 0, 0, 0x7D7873, 0⟩,
  ⟨0x340034, 1, 4, 1, 4, .k, 0xFFFFFF, 0, 0, 0, 0x6E6964, 0⟩,
  ⟨0x340038, 1, 4, 1, 4, .kc, 0, 0, 0, 0, 0, 0⟩,
  ⟨0x340100, 16, 0x10, 1, 4, .k, 0xFFFFFFFF, 0, 0, 0xFFFFFFFF, 0, 0⟩,
  ⟨0x340104, 16, 0x10, 1, 4, .k, 0xFFFFFFFF, 0, 0, 0xFFFFFFFF, 0, 0⟩,
  ⟨0x340108, 16, 0x10, 1, 4, .k, 0xFFFFFFFF, 0, 0, 0xFFFFFFFF, 0, 0⟩,
  ⟨0x34010C, 16, 0x10, 1, 4, .kc, 0, 0, 0, 0, 0, 0⟩,
  ⟨0x340200, 8, 4, 1, 4, .k, 0xFFFF, 0, 0, 0xFFFF, 0, 0⟩,
  ⟨0x340400, 1, 4, 1, 4, .kc, 0, 0, 0, 0xFFFFFFFF, 0, 0⟩,
  ⟨0x340404, 1, 4, 1, 4, .kc, 0, 0, 0, 0xFFFFFFFF, 0, 0⟩,
  ⟨0x340408, 1, 4, 1, 4, .kc, 0, 0, 0, 0xFFFF, 0, 0⟩,
  ⟨0x34040C, 1, 4, 1, 4, .kc, 0, 0, 0, 0xFFFFFFFF, 0, 0⟩,
  ⟨0x340410, 1, 4, 1, 4, .k, 0xFFFFFFFF, 0, 0, 0, 0x12C1F40, 0⟩,
  ⟨0x340800, 1, 4, 1, 4, .kc, 0, 0, 0, 0, 0, 0⟩,
  ⟨0x340804, 1, 4, 1, 4, .kc, 0, 0, 0, 0, 0, 0⟩,
  ⟨0x340808, 1, 4, 1, 4, .kc, 0, 0, 0, 0, 0, 0⟩]

/-- Registers of PWR, part 1. -/
def rowsPWR_1 : List RegRow := [
  ⟨0x34080C, 1, 4, 1, 4, .kc, 0, 0, 0, 0, 0, 0⟩,
  ⟨0x340810, 1, 4, 1, 4, .kc, 0, 0, 0, 0, 0, 0⟩,
  ⟨0x340814, 1, 4, 1, 4, .kc, 0, 0, 0, 0, 0, 0⟩,
  ⟨0x340818, 1, 4, 1, 4, .kc, 0, 0, 0, 0, 0, 0⟩,
  ⟨0x34081C, 1, 4, 1, 4, .kc, 0, 0, 0, 0, 0, 0⟩,
  ⟨0x340820, 1, 4, 1, 4, .kc, 0, 0, 0, 0, 0, 0⟩,
  ⟨0x348000, 1, 4, 1, 4, .k, 0x107, 0, 0, 0x107, 0, 0x107⟩,
  ⟨0x348004, 1, 4, 1, 4, .kc, 0, 0, 0, 0xFFFFF400, 0, 0⟩,
  ⟨0x348040, 16, 4, 1, 4, .kc, 0, 0, 0, 0xFFFFFFFF, 0, 0⟩]

/-- Registers of PWR. -/
def rowsPWR : List RegRow := rowsPWR_0 ++ rowsPWR_1

/-- Registers of TIM, part 0. -/
def rowsTIM_0 : List RegRow := [
  ⟨0x380000, 1, 4, 1, 4, .k, 0xFF0F0000, 0, 0, 0xFF0F0000, 0, 0⟩,
  ⟨0x380004, 1, 4, 1, 4, .kc, 0, 0, 0, 0, 0, 0⟩,
  ⟨0x380008, 1, 4, 1, 4, .k, 0xFFFFFFFF, 0, 0, 0, 0x40000400, 0⟩,
  ⟨0x38000C, 1, 4, 1, 4, .k, 0xFFFFFFFF, 0, 0, 0, 0xC80064, 0⟩,
  ⟨0x380010, 1, 4, 1, 4, .k, 0xFFFFFFFF, 0, 0, 0, 0xF4240, 0⟩,
  ⟨0x380014, 1, 4, 1, 4, .k, 0xFFFFFFFF, 0, 0, 0, 0x8000064, 0⟩,
  ⟨0x380018, 1, 4, 1, 4, .k, 0xFFFFFFFF, 0, 0, 0, 0xFA, 0⟩,
  ⟨0x38001C, 1, 4, 1, 4, .kc, 0, 0, 0, 0xFFFF, 0, 0⟩,
  ⟨0x380020, 1, 4, 1, 4, .kc, 0, 0, 0, 0, 0, 0⟩,
  ⟨0x380024, 1, 4, 1, 4, .kc, 0, 0, 0, 0, 0, 0⟩,
  ⟨0x380028, 1, 4, 1, 4, .kc, 0, 0, 0, 0, 0, 0⟩,
  ⟨0x38002C, 1, 4, 1, 4, .kc, 0, 0, 0, 0, 0, 0⟩,
  ⟨0x380030, 1, 4, 1, 4, .kc, 0, 0, 0, 0, 0, 0⟩,
  ⟨0x380034, 1, 4, 1, 4, .kc, 0, 0, 0, 0, 0, 0⟩,
  ⟨0x380038, 1, 4, 1, 4, .kc, 0xFFFFFFFF, 0, 0, 0, 0, 0⟩,
  ⟨0x38003C, 1, 4, 1, 4, .kc, 0xFFFFFFFF, 0, 0, 0, 0, 0⟩,
  ⟨0x380040, 1, 4, 1, 4, .kc, 0, 0, 0, 0, 0, 0⟩,
  ⟨0x380044, 1, 4, 1, 4, .kc, 0, 0, 0, 0, 0, 0⟩,
  ⟨0x380048, 1, 4, 1, 4, .kc, 0, 0, 0, 0, 0, 0⟩,
  ⟨0x38004C, 1, 4, 1, 4, .kc, 0, 0, 0, 0, 0, 0⟩,
  ⟨0x380100, 2, 0x40, 1, 4, .k, 0xFC001FFF, 0, 0, 0xFC001FFF, 0, 0⟩,
  ⟨0x380104, 2, 0x40, 1, 4, .k, 0xFFFFFFFF, 0, 0, 0xFFFFFFFF, 0, 0⟩,
  ⟨0x380108, 2, 0x40, 1, 4, .k, 0xFFFFFFFF, 0, 0, 0xFFFFFFFF, 0, 0⟩,
  ⟨0x38010C, 2, 0x40, 1, 4, .k, 0xFFFFFFFF, 0, 0, 0xFFFFFFFF, 0, 0⟩]

/-- Registers of TIM, part 1. -/
def rowsTIM_1 : List RegRow := [
  ⟨0x380110, 2, 0x40, 1, 4, .kc, 0, 0, 0, 0, 0, 0⟩,
  ⟨0x380114, 2, 0x40, 1, 4, .kc, 0, 0, 0, 0, 0, 0⟩,
  ⟨0x380118, 2, 0x40, 1, 4, .kc, 0, 0, 0, 0, 0, 0⟩,
  ⟨0x38011C, 2, 0x40, 1, 4, .kc, 0, 0, 0, 0, 0, 0⟩,
  ⟨0x380120, 2, 0x40, 1, 4, .kc, 0, 0, 0, 0, 0, 0⟩,
  ⟨0x380124, 2, 0x40, 1, 4, .kc, 0, 0, 0, 0, 0, 0⟩,
  ⟨0x380128, 2, 0x40, 1, 4, .kc, 0, 0, 0, 0xFFFFFFFF, 0, 0⟩,
  ⟨0x38012C, 2, 0x40, 1, 4, .kc, 0, 0, 0, 0xFFFF, 0, 0⟩]

/-- Registers of TIM. -/
def rowsTIM : List RegRow := rowsTIM_0 ++ rowsTIM_1

/-- Registers of SAF, part 0. -/
def rowsSAF : List RegRow := [
  ⟨0x3C0000, 1, 4, 1, 4, .k, 0, 0, 0, 0, 0x30000000, 0⟩,
  ⟨0x3C0004, 1, 4, 1, 4, .k, 0, 0, 0, 0, 0, 0⟩,
  ⟨0x3C0008, 1, 4, 1, 4, .k, 0, 0, 0, 0, 0, 0⟩,
  ⟨0x3C000C, 1, 4, 1, 4, .k, 0, 0, 0, 0, 0, 0⟩,
  ⟨0x3C0010, 1, 4, 1, 4, .k, 0, 0, 0, 0, 0, 0⟩,
  ⟨0x3C0014, 1, 4, 1, 4, .k, 0, 0, 0, 0, 0, 0⟩,
  ⟨0x3C0018, 1, 4, 1, 4, .k, 0, 0, 0, 0, 0, 0⟩,
  ⟨0x3C001C, 1, 4, 1, 4, .k, 0, 0, 0, 0, 0, 0⟩,
  ⟨0x3C0020, 1, 4, 1, 4, .k, 0, 0, 0, 0xFFFFFFFF, 0, 0⟩,
  ⟨0x3C0040, 1, 4, 1, 4, .k, 0, 0, 0, 0xFFFFFFFF, 0, 0⟩,
  ⟨0x3C0044, 1, 4, 1, 4, .k, 0, 0, 0, 0xFFFFFFFF, 0, 0⟩,
  ⟨0x3C0048, 1, 4, 1, 4, .k, 0, 0, 0, 0xFFFFFFFF, 0, 0⟩,
  ⟨0x3C004C, 1, 4, 1, 4, .k, 0, 0, 0, 0x777, 0, 0⟩,
  ⟨0x3C0050, 1, 4, 1, 4, .k, 0, 0, 0, 0xFFFFFFFF, 0, 0⟩]

/-- Registers of DBG, part 0. -/
def rowsDBG : List RegRow := [
  ⟨0x400000, 1, 4, 1, 4, .k, 0, 0xC00000, 0, 0, 0, 0⟩,
  ⟨0x400004, 1, 4, 1, 4, .k, 0, 0, 0xE0000301, 0, 0, 0⟩,
  ⟨0x400010, 8, 4, 1, 4, .k, 0, 0, 0, 0, 0, 0⟩,
  ⟨0x400040, 24, 4, 1, 4, .k, 0, 0, 0xFFFFFFFF, 0, 0, 0⟩,
  ⟨0x400100, 2, 0x100, 1, 4, .k, 0, 0, 0xE0000000, 0, 0, 0⟩,
  ⟨0x400104, 2, 0x100, 1, 4, .k, 0, 0, 0, 0, 0, 0⟩,
  ⟨0x400108, 2, 0x100, 1, 4, .k, 0, 0, 0, 0, 0, 0⟩,
  ⟨0x400110, 2, 0x100, 8, 4, .k, 0xFFFFFFFD, 0, 0, 0, 0, 0⟩,
  ⟨0x400130, 2, 0x100, 4, 8, .k, 0xFFFFFFFF, 0, 0, 0, 0, 0⟩,
  ⟨0x400134, 2, 0x100, 4, 8, .k, 0xE0000FFF, 0, 0, 0, 0, 0⟩,
  ⟨0x400400, 1, 4, 1, 4, .k, 0xFFFFFFFC, 0, 0, 0, 0, 0⟩,
  ⟨0x400404, 1, 4, 1, 4, .k, 0xFFFFFFFF, 0, 0, 0, 0, 0⟩,
  ⟨0x400408, 1, 4, 1, 4, .k, 0xF0000000, 1, 0, 0, 0, 0⟩]

end Sys2Proof.Machine
end

