-- ==== Sys2Proof/Machine/Sparse.lean ====
section
/-! DEFINITION. Sparse word stores: a list of (key, word) pairs in one canonical form, keys strictly rising and no word
equal to what an unlisted key reads as. Register files, statistics banks and buffers are held in this form. -/

namespace Sys2Proof.Machine

/-- A sparse store of words. -/
abbrev Sparse := List (Nat × Word)

/-- The word listed for a key. -/
def Sparse.find : Sparse → Nat → Option Word
  | [], _ => none
  | p :: t, k => if p.1 = k then some p.2 else Sparse.find t k

/-- Replace or insert the word of a key, keeping keys rising. -/
def Sparse.insert : Sparse → Nat → Word → Sparse
  | [], k, v => [(k, v)]
  | p :: t, k, v =>
    if k < p.1 then (k, v) :: p :: t
    else if k = p.1 then (k, v) :: t
    else p :: Sparse.insert t k v

/-- Remove a key. -/
def Sparse.erase (m : Sparse) (k : Nat) : Sparse := m.filter fun p => p.1 ≠ k

/-- The word of a key, where an unlisted key reads `d k`. -/
def Sparse.get (d : Nat → Word) (m : Sparse) (k : Nat) : Word := (Sparse.find m k).getD (d k)

/-- Write a word, keeping the canonical form. -/
def Sparse.set (d : Nat → Word) (m : Sparse) (k : Nat) (v : Word) : Sparse :=
  if v = d k then Sparse.erase m k else Sparse.insert m k v

/-- The canonical form: keys strictly rising, no word equal to the default. -/
def Sparse.wf (d : Nat → Word) : Sparse → Bool
  | [] => true
  | [p] => decide (p.2 ≠ d p.1)
  | p :: q :: t => decide (p.2 ≠ d p.1) && decide (p.1 < q.1) && Sparse.wf d (q :: t)

end Sys2Proof.Machine
end

