-- ==== Sys2Proof/Machine/Reset.lean ====
section
/-! DEFINITION. What the register map says of a keeper offset: the row that covers it, its index, whether the register
exists (R47), its reset value (R8), the island that owns it (R25) and how it is shadowed (R34 to R41). -/

namespace Sys2Proof.Machine

/-- The block an offset lies in, as the rows of that block (R46). -/
def blockRows (off : Nat) : List RegRow :=
  if off < 0x10000 then rowsSYS
  else if off < 0x20000 then rowsCMD
  else if off < 0x40000 then rowsEVT
  else if off < 0x80000 then rowsHST
  else if off < 0xC0000 then rowsBRG
  else if off < 0x100000 then rowsARB
  else if off < 0x140000 then rowsING
  else if off < 0x180000 then rowsPND
  else if off < 0x1C0000 then rowsASM
  else if off < 0x200000 then rowsFIR
  else if off < 0x240000 then rowsPOS
  else if off < 0x280000 then rowsJGL
  else if off < 0x2C0000 then rowsCAM
  else if off < 0x300000 then rowsINS
  else if off < 0x340000 then rowsCAL
  else if off < 0x380000 then rowsPWR
  else if off < 0x3C0000 then rowsTIM
  else if off < 0x400000 then rowsSAF
  else if off < 0x800000 then rowsDBG
  else []

/-- Whether a row covers an offset. -/
def RegRow.covers (r : RegRow) (off : Nat) : Bool :=
  decide (r.base ≤ off) &&
    (let d := off - r.base
     decide (d / r.s1 < r.n1) && decide (d % r.s1 / r.s2 < r.n2) && decide (d % r.s1 % r.s2 = 0))

/-- First index of an offset in its row. -/
def RegRow.index1 (r : RegRow) (off : Nat) : Nat := (off - r.base) / r.s1

/-- Second index of an offset in its row. -/
def RegRow.index2 (r : RegRow) (off : Nat) : Nat := (off - r.base) % r.s1 / r.s2

/-- The row that covers an offset. -/
def rowOf (off : Nat) : Option RegRow := (blockRows off).find? fun r => r.covers off

/-- Ports of arbiter a (R375, R376). -/
def arbPorts (a : Nat) : Nat := [21, 34, 12, 36].getD a 0

/-- Class and share of port p of arbiter a after reset (R376). -/
def arbPortReset (a p : Nat) : Nat :=
  if a = 0 then
    if p < 8 then 0
    else if p < 16 then 0x10001000
    else if p = 16 then 0x10000400
    else if p < 20 then 0x20002000
    else if p = 20 then 0x20000100
    else 0
  else if a = 2 then
    if p < 8 then 0
    else if p < 10 then 0x10000200
    else if p < 12 then 0x20000100
    else 0
  else if p < 8 then 0x10000100
  else if p < 32 then 0x20000040
  else if a = 1 then
    if p = 32 then 0x10000040
    else if p = 33 then 0x20000040
    else 0
  else if p < 34 then 0x10000040
  else if p = 34 then 0x20000040
  else if p = 35 then 0x10000100
  else 0

/-- Rank of lock i (R384); 0 for an unused number. -/
def lockRank (i : Nat) : Nat :=
  if i < 4 then i + 1
  else if i = 8 then 1
  else if i = 9 then 2
  else if 16 ≤ i ∧ i < 32 then i % 8
  else 0

/-- Arbiter that owns lock i (R384). -/
def lockArbiter (i : Nat) : Nat :=
  if i = 8 ∨ i = 9 then 2
  else if 16 ≤ i ∧ i < 24 then 1
  else if 24 ≤ i ∧ i < 32 then 3
  else 0

/-- Reset value of a register at a keeper offset, the bits marked "load" reading 0 until boot loads them (R8; log entry
7). KIND of R41, the port table of R376, the locks of R384, the temper table of R350, ports 2 and 3 of R260 and the
MSI-X mask bit of PCIe are fixed by their own rules. -/
def resetVal (off : Nat) : Word :=
  if 0xC0000 ≤ off ∧ off < 0x100000 then
    if 0xC0080 ≤ off ∧ off < 0xC0100 then
      BitVec.ofNat 32 (lockArbiter ((off - 0xC0080) / 4) * 2 ^ 28 + lockRank ((off - 0xC0080) / 4) * 2 ^ 24)
    else if off % 0x1000 = 0x10 ∧ 0xC1000 ≤ off ∧ off < 0xC5000 then 0x06000000#32
    else if 0xC1100 ≤ off ∧ off < 0xC5000 ∧ 0x100 ≤ off % 0x1000 ∧ off % 0x1000 < 0x190 then
      BitVec.ofNat 32 (arbPortReset (off / 0x1000 - 0xC1) ((off % 0x1000 - 0x100) / 4))
    else rowReset off
  else if 0x80C00 ≤ off ∧ off < 0x80E00 ∧ off % 16 = 0 then 0x03000000#32
  else if 0x180300 ≤ off ∧ off < 0x180390 ∧ off % 16 = 0 then 0x03000000#32
  else if 0x1C0300 ≤ off ∧ off < 0x1C0380 ∧ off % 16 = 0 then 0x03000000#32
  else if 0x280600 ≤ off ∧ off < 0x280700 ∧ off % 16 = 0 then 0x05000000#32
  else if off = 0x280700 then 0x03000000#32
  else if 0x300100 ≤ off ∧ off < 0x300140 ∧ off % 16 = 0 then
    [0x800A0258#32, 0x40080258#32, 0x80060258#32, 0x80050258#32].getD ((off - 0x300100) / 16) 0
  else if 0x200180 ≤ off ∧ off < 0x200200 ∧ 4 ≤ off % 0x40 ∧ off % 0x40 < 0x10 then 0
  else if 0x30000 ≤ off ∧ off < 0x31000 then (if off % 16 = 12 then 1 else 0)
  else rowReset off
where
  /-- The reset column of the row. -/
  rowReset (off : Nat) : Word :=
    match rowOf off with
    | some r => BitVec.ofNat 32 r.reset
    | none => 0

/-- Island rows of R25, counted from 0: AON 0, SAF 1, CTL 2, HST 3, ING 4, MEM 5, DEC 6, ASM 7, FIR 8, JGL 9, CAM 10,
TIM 11. The PND decompressor register belongs to DEC. -/
def islandOf (off : Nat) : Nat :=
  if off < 0x20000 then 2
  else if off < 0xC0000 then 3
  else if off < 0x100000 then 5
  else if off < 0x140000 then 4
  else if off = PND_DEC_STAT then 6
  else if off < 0x180000 then 5
  else if off < 0x1C0000 then 7
  else if off < 0x240000 then 8
  else if off < 0x280000 then 9
  else if off < 0x300000 then 10
  else if off < 0x340000 then 2
  else if off < 0x380000 then 0
  else if off < 0x3C0000 then 11
  else if off < 0x400000 then 1
  else 2

end Sys2Proof.Machine
end

