-- ==== Sys2Proof/Machine/State.lean ====
section
/-! DEFINITION. The state of the block as plain data: the register file over its reset values, the active copies of the
shadowed registers, the live statistics banks, the queues, tables, buffers and engines that the registers do not hold, the
queue of waiting commands, and the machine right after reset. -/

namespace Sys2Proof.Machine

/-- The chip's modes (R48). -/
inductive Mode where
  | off
  | boot
  | safe
  | standby
  | ready
  | warm
  | prime
  | print
  | degraded
  | drain
  | service
  | calibrate
deriving DecidableEq, Repr

/-- Mode codes (R48). -/
def Mode.code : Mode → Nat
  | .off => 0
  | .boot => 1
  | .safe => 2
  | .standby => 3
  | .ready => 4
  | .warm => 5
  | .prime => 6
  | .print => 7
  | .degraded => 8
  | .drain => 9
  | .service => 10
  | .calibrate => 11

/-- The mode of a code; the codes R48 does not give read Off. -/
def Mode.ofCode : Nat → Mode
  | 1 => .boot
  | 2 => .safe
  | 3 => .standby
  | 4 => .ready
  | 5 => .warm
  | 6 => .prime
  | 7 => .print
  | 8 => .degraded
  | 9 => .drain
  | 10 => .service
  | 11 => .calibrate
  | _ => .off

/-- A time-stamp (R4). -/
structure Stamp where
  epoch : BitVec 16
  subns : BitVec 16
  ns : BitVec 32
  sec : BitVec 48
deriving DecidableEq, Repr

/-- A record of the event log (R106). -/
structure EventRec where
  vector : BitVec 8
  detail : BitVec 16
  data : Word
  page : Word
  stamp : Stamp
deriving DecidableEq, Repr

/-- Status codes of a reply (R103). The spec names them and gives no numbers; log entry 8, DESIGN CHOICE. -/
inductive Status where
  | ok
  | accepted
  | badOpcode
  | badLength
  | badParam
  | badCheck
  | stateConflict
  | viewDenied
  | lockedOut
  | noResource
  | busy
  | fault
  | aborted
deriving DecidableEq, Repr

/-- A reply before it is packed (R83, R85). -/
structure Reply where
  opcode : BitVec 16
  tag : BitVec 16
  session : BitVec 32
  final : Bool
  noChange : Bool
  status : Status
  detail : Nat
  modeByte : BitVec 8
  routeByte : BitVec 8
  legal : BitVec 16
  data : List Byte
deriving DecidableEq, Repr

/-- A command answered ACCEPTED on a ring, until its final reply (R101); `result` once its end is known, with NO_CHANGE where its end
changed nothing; `mute` where a host-link reset has discarded that reply (R111). -/
structure PendingCmd where
  crew : Bool
  opcode : BitVec 16
  tag : BitVec 16
  session : BitVec 32
  arg : Nat
  result : Option (Status × Nat)
  noChange : Bool
  mute : Bool
  /-- The MODE byte at the cycle of the check (R85). -/
  modeByte : BitVec 8
deriving DecidableEq, Repr

/-- An Ethernet command key slot (R97): empty where the key is all zero. -/
structure NetKey where
  key : List Byte
  seq : Nat
  replySeq : Nat
deriving DecidableEq, Repr

/-- Instruction of the TAP (R465). -/
inductive TapInstr where
  | bypass
  | idcode
  | samplePreload
  | extest
  | clamp
  | highz
  | dbgAccess
deriving DecidableEq, Repr

/-- The data of one row of a die in a frame (R220, R221): line delay, delay code, strobe width, and per fired column the level. -/
structure RowBlock where
  die : Nat
  row : Nat
  delay : Nat
  dly : Int
  width : Nat
  data : List (Nat × Nat)
deriving DecidableEq, Repr

/-- A marker as sent to a carrier (R268, R269): KIND 0 LINE, 1 ALIGN, 2 START; EPOCH; the (local die, row) pairs withheld. -/
structure Marker where
  kind : Nat
  epoch : Int
  withhold : List (Nat × Nat)
  discard : Bool
deriving DecidableEq, Repr

/-- What the chip times: the start of each interval stands in `timers`. -/
inductive Timer where
  | admission
  | rail (carrier : Nat)
  | claim (carrier : Nat)
  | thermal
  | minute
  | hour
  | restart
  | warmUp
  | grace
  | safeWait
  | phase
  | differ
  | compare
  | params
  | proofHour
  | proof
  | seen
  | startOk
  | safe
  | island (i : Nat)
  | output (channel : Nat)
  | lockWait (owner : Nat)
  | asked (port : Nat)
  | challenge
deriving DecidableEq, Repr

/-- The I3C common command codes the chip's own rules send (R298, R299). -/
inductive Ccc where
  | rstdaa
  | entdaa
  | disec (id : BitVec 16)
deriving DecidableEq, Repr

/-- What the chip sends out, newest first in `outs` (log entry 9, DESIGN CHOICE): the model's own record of its outputs. -/
inductive Out where
  | ringReply (crew : Bool) (slot : Nat) (r : Reply)
  | towpathReply (slot : Nat) (r : Reply)
  | towpathPost (slot : Nat) (addr : Nat)
  | udpReply (port : Nat) (tag : Option Nat) (dest : BitVec 128) (destPort : BitVec 16) (keyId : Nat) (seq : Nat) (r : Reply)
  | msix (vector : Nat) (addr : Nat) (data : Word)
  | readData (off : Nat) (value : Word)
  | configData (value : Option Word)
  | configRetry
  | configDone
  | unsupported (off : Nat)
  | carrierMsg (carrier : Nat) (kind : Nat) (seq : Nat) (body : List Nat)
  | marker (carrier : Nat) (m : Marker)
  | frame (carrier : Nat) (line : Int) (pre : Bool) (rows : List RowBlock)
  | pulse (unit : Nat) (high : Bool) (trig : BitVec 16) (mark : BitVec 8)
  | levels (trig : BitVec 16) (mark : BitVec 8)
  | strobe (output : Nat) (high : Bool)
  | lineSync (high : Bool)
  | lane (lane : Nat) (slot : Nat) (words : List (BitVec 66))
  | busWrite (sensor : Nat) (reg : Nat) (bytes : Nat) (value : Nat)
  | busRead (sensor : Nat) (reg : Nat) (bytes : Nat)
  | busProbe (sensor : Nat)
  | busCcc (bus : Nat) (code : Ccc)
  | ibiAck (sensor : Nat)
  | hotJoinAck (bus : Nat)
  | hostWrite (addr : Nat) (bytes : List Byte)
  | hostRead (channel : Nat) (addr : Nat) (bytes : Nat)
  | ethernet (port : Nat) (tag : Option Nat) (kind : Nat) (body : List Nat)
  | safeOutputs (a : Bool) (b : Bool)
  | flashWrite (offset : Nat)
  | railEnable (group : Nat) (on : Bool)
  | balls (driven : Option (List Bool))
  | scanOut (bits : List Bool)
  | moveDone (channel : Nat) (bytes : Nat)
  | coreWrite (pair : Nat) (addr : Nat) (value : Word)
deriving DecidableEq, Repr

/-- Modes and start-up beside the SYS and PWR_BJ registers. -/
structure Sys where
  /-- Enabled channels of this start (R15, R70). -/
  channels : BitVec 8
  /-- Configured sensors (bar record). -/
  sensors : BitVec 16
  inspection : Bool
  /-- Words of the load fields as boot loaded them (R8). -/
  loads : List (Nat × Word)
  debugKey : List Byte
  /-- Digest of the safety key, from the bar record (R450). -/
  safetyKey : List Byte
  /-- Boot step running, 0 before boot and 17 after step 16 (R68). -/
  step : Nat
  /-- R73: held in Boot, or in the boot-ROM recovery state. -/
  held : Bool
  rom : Bool
  bootLimit : Bool
  /-- R72: a warm reset is due 10 ms after a failed mandatory step. -/
  restartDue : Bool
  /-- R503: the Safe causes met during Boot, first first. -/
  bootCauses : List (BitVec 8)
  /-- The cause of the change to Safe in progress. -/
  safeTo : Option (BitVec 8)
  /-- R104, R109: the cause of the stop in progress. -/
  stop : Option (BitVec 8)
  /-- R58: channels due to enter Degraded at their next line boundary, and the channels each per-channel cause is on. -/
  degradeDue : BitVec 8
  railReduced : BitVec 8
  /-- R105: last page begun per channel; and the page each channel is in (R43). -/
  lastPage : List Word
  livePage : List (Option Word)
  /-- Job of the page of the live interval of each channel (R45). -/
  liveJob : List (BitVec 16)
  /-- R69: step 10 warms the memory stack. -/
  warming : Bool
  /-- R105: the loaded firmware image that runs, where it is not the factory's. -/
  image : Option (List Byte)
  debugUnlocked : Bool
  /-- Level of WEB_READY (R59). -/
  webReady : Bool
  /-- RETRY_LIMIT that governs steps 1 to 8 of this start (R75). -/
  limit : Nat
deriving DecidableEq, Repr

/-- Command engines beside the CMD registers. -/
structure Cmd where
  /-- Pending table, oldest first (R101). -/
  table : List PendingCmd
  /-- Replies waiting for completion-ring space, oldest first (R89). -/
  waitingK : List Reply
  waitingC : List Reply
  /-- Packets in submitted and not yet fetched slots (R88; host memory as the doorbell found it). -/
  queueK : List (List Byte)
  queueC : List (List Byte)
  /-- BAR4 slot words (R91). -/
  slots : Sparse
  busy : BitVec 8
  keys : List NetKey
  /-- Firmware load in progress: copy, size, bytes so far (R105). -/
  fwCopy : Option (BitVec 8)
  fwSize : Nat
  fwData : Sparse
  /-- Whether a FW_LOAD_END by a route without pending commands has closed the load (R94). -/
  fwClosed : Bool
deriving DecidableEq, Repr

/-- Events and host attachment beside the EVT and HST registers. -/
structure Evt where
  /-- The event log, oldest first (R460). -/
  log : List EventRec
  /-- Vectors in hold-off, with whether they were raised during it and the cycle in which it ends (R462). -/
  holds : List (Nat × Bool × Nat)
  msixEnable : Bool
  functionMask : Bool
  /-- Cycle of the latest vector 4 (R457). -/
  v4At : Option Nat
  /-- Words of configuration space that host software wrote (R454 to R456). -/
  config : Sparse
deriving DecidableEq, Repr

/-- Debug port beside the DBG registers. -/
structure Dbg where
  tap : TapInstr
  /-- EXTEST, CLAMP or HIGHZ in effect (R466). -/
  scan : Bool
  boundary : List Bool
  /-- DBG_RESP words, which read 0 (R469). -/
  resp : Sparse
  /-- What the next Capture-DR returns (R467). -/
  capture : BitVec 64
deriving DecidableEq, Repr

/-- Flash as the chip writes it: the journal mirror (R71) with header and the other mirrors. -/
structure Flash where
  /-- PWR_BJ_HDR, PWR_BJ_CTL and the entries, as last mirrored; none before the first mirror. -/
  journal : Option (List Word)
  /-- Safety parameter set for the next start (R450). -/
  safety : Option (List Byte)
  /-- Wear totals and PROOF_HOURS (R372, R451). -/
  wear : List Word
  /-- The next journal mirror goes to the second sector (R71). -/
  second : Bool
  /-- Rows marked for repair (R178). -/
  repair : List Nat
  /-- Firmware image copies A and B, where one has been loaded (R105). -/
  images : List (Option (List Byte))
deriving DecidableEq, Repr

/-- A pending shadow set (R36): the staged words snapshot by its COMMIT, the covered channels that have not handed it
over, whether one has, and the run sequence number of its effective page (R37). -/
structure Pending where
  blk : ShdBlk
  n : Nat
  words : List (Nat × Word)
  left : BitVec 8
  begun : Bool
  seq : Nat
  /-- Cycle in which its COMMIT completed (R35). -/
  at_ : Nat
deriving DecidableEq, Repr

/-- States of a tile position (R131). -/
inductive TileState where
  | empty
  | landing
  | verifying
  | landed
  | stored
  | blank
  | poisoned
deriving DecidableEq, Repr

/-- A tile position of a page that is not EMPTY or has been (R131): what it holds and which readers have finished (R152). -/
structure Tile where
  ch : Nat
  col : Nat
  band : Nat
  state : TileState
  /-- The bytes held: the raw image, or a DEFLATE payload where `deflate`. -/
  bytes : List Byte
  deflate : Bool
  rawSize : Nat
  crc : Word
  /-- Its blocks, in chain order (R142, R149). -/
  chain : List Nat
  /-- Holds a compression-list entry (R136). -/
  listed : Bool
  /-- Fired blank from this tile line on (R167 to R169); 256 where not. -/
  blankFrom : Nat
  fired : Bool
  referenced : Bool
  /-- Blocks of the landed image kept, beside the chain, for a decode that began before the switch (R140). -/
  old : List Nat
  /-- Queue it came by and stream offset of its start, for ING_ERR_LOG (R130). -/
  queue : Nat
  offset : Word
deriving DecidableEq, Repr

/-- A page of the page table (R120, R152 to R155, R172 to R175). -/
structure Page where
  /-- The model's key of the record: its PAGE_ID, or another value while an earlier record of that PAGE_ID still passes. -/
  id : Word
  /-- PAGE_ID. -/
  name : Word
  /-- Its page-table record is freed (R155); the run still follows its lines. -/
  left : Bool
  job : BitVec 16
  lines : Nat
  pass : Nat
  tiles : List Tile
  /-- Blocks of its position table (R151). -/
  table : List Nat
  /-- Channels that have begun it, and that have fired it to the end, in this pass. -/
  begun : BitVec 8
  fired : BitVec 8
  /-- Waits in its job's queue; no channel has begun it. -/
  queued : Bool
  inspected : Bool
  uninspected : Bool
  defect : BitVec 8
  /-- Channels flagged by a poisoning (R133), and by any other cause (R134). -/
  poisonDefect : BitVec 8
  otherDefect : BitVec 8
  pinned : Bool
  /-- Cycle in which it became reprint-held (R153, R154). -/
  heldAt : Option Nat
  freedAny : Bool
  released : Bool
  /-- First run line once laid out (R212), run number once begun (R37). -/
  first : Option Int
  seq : Nat
  /-- Channels on which its last band has fallen due or been abandoned, and whether the station has passed out of it. -/
  done : BitVec 8
  seen : Bool
deriving DecidableEq, Repr

/-- A job definition (R119) and its counts (R496). -/
structure Job where
  id : BitVec 16
  mask : BitVec 8
  flags : BitVec 8
  maxLines : Nat
  gap : Nat
  depth : Nat
  /-- Closed by a later START_JOB (R497). -/
  closed : Bool
  /-- Started and not yet past its job boundary. -/
  running : Bool
  /-- A channel has begun a page of it since it was started. -/
  went : Bool
  nFired : Nat
  nInspected : Nat
  nDefective : Nat
deriving DecidableEq, Repr

/-- An ingest queue (R126 to R129): stream bytes taken and not parsed, and the tile in landing. -/
structure Queue where
  stream : List Byte
  landing : Option (Word × Nat × Nat × Nat)
  /-- PAYLOAD_SIZE of the tile in landing. -/
  payload : Nat
  /-- Bytes of a rejected tile still to come (R129). -/
  skip : Nat
  stalled : Bool
deriving DecidableEq, Repr

/-- A compressor at work (R136 to R143): its tile, parameters, input read, buffers held, and whether it waits. -/
structure Compressor where
  unit : Nat
  page : Word
  ch : Nat
  col : Nat
  band : Nat
  params : Word
  input : Nat
  /-- Weir buffers held: the chain so far and those held ahead (R141). -/
  chain : List Nat
  waiting : Bool
  /-- Cycle in which its wait began (R143). -/
  since : Nat
  keep : Nat
deriving DecidableEq, Repr

/-- A host compression job taken from the ring (R144): entry index and descriptor. -/
structure HostJob where
  index : Nat
  src : Nat
  dst : Nat
  len : Nat
  /-- Parameters read as it started (R137). -/
  params : Word
deriving DecidableEq, Repr

/-- Ingest beside the ING registers. -/
structure Ing where
  queues : List Queue
  /-- Compression list, oldest first: page, channel, column, band of LANDED tiles ready to start (R136). -/
  list : List (Word × Nat × Nat × Nat)
  compressors : List Compressor
  hostJobs : List HostJob
  hostDescs : List (List Byte)
deriving DecidableEq, Repr

/-- Decode context kinds (R160), in rank order (R162). -/
inductive CtxKind where
  | firing
  | reference
  | verification
deriving DecidableEq, Repr

/-- A decode context (R160): its tile, the tile line it decodes next, and its creation order. -/
structure Ctx where
  kind : CtxKind
  page : Word
  ch : Nat
  col : Nat
  band : Nat
  line : Nat
  order : Nat
deriving DecidableEq, Repr

/-- A staged segment (R157): channel, absolute line, tile column and its 1,024 bytes. -/
structure Segment where
  ch : Nat
  line : Int
  col : Nat
  bytes : List Byte
deriving DecidableEq, Repr

/-- A reprint-queue entry (R172). -/
structure Reprint where
  page : Word
  job : BitVec 16
  pass : Nat
  cause : Nat
  held : Bool
  multi : Bool
  needs : BitVec 8
  ch : BitVec 8
deriving DecidableEq, Repr

/-- A blank-filled region (R170). -/
structure BlankRegion where
  ch : Nat
  page : Word
  col : Nat
  band : Nat
  first : Nat
  last : Nat
deriving DecidableEq, Repr

/-- The pound store beside the PND registers. -/
structure Pnd where
  jobs : List Job
  /-- Page table, in queue order (R120). -/
  pages : List Page
  contexts : List Ctx
  staging : List Segment
  /-- Reference ring segments (R160), and per channel the last reference line inspection has consumed. -/
  reference : List Segment
  consumed : List Int
  reprints : List Reprint
  regions : List BlankRegion
  /-- Rows marked for repair, and per row its corrected errors in a scrub interval and that interval (R178). -/
  repair : List Nat
  rowErrors : List (Nat × Nat × Nat)
  /-- Bands that have fallen due: page, channel, band (R159). -/
  due : List (Word × Nat × Nat)
  /-- Lowest PND_FREE.BLOCKS of the live interval (R179). -/
  freeMin : Nat
  /-- Vector 74 has been raised for the present shortage (R150). -/
  lowRaised : Bool
  order : Nat
deriving DecidableEq, Repr

/-- A logical column's schedule (R200 to R202): slot counter, rotation offset, cycle length, whether the rotation step of
the reach is still to be applied, whether the first cycle of a new live list runs, the list as (die, row) pairs, and
the slots given in recent lines. -/
structure Col where
  s : Nat
  o : Nat
  g : Nat
  step : Option Nat
  seam : Bool
  list : List (Nat × Nat)
  recent : List (Nat × Nat × Int)
deriving DecidableEq, Repr

/-- A staged change of a nozzle record (R191): set, record, field mask, record value, and whether a COMMIT has taken it. -/
structure Change where
  set : Nat
  index : Nat
  mask : BitVec 12
  value : BitVec 128
  committed : Bool
deriving DecidableEq, Repr

/-- One fire of a die-line (R180): die, physical column, row and level. -/
structure Fire where
  die : Nat
  col : Nat
  row : Nat
  level : Nat
deriving DecidableEq, Repr

/-- An assembled line on its way to the firing frame builder. -/
structure AsmLine where
  ch : Nat
  line : Int
  page : Option Word
  fires : List Fire
  /-- Line period ASM used, and the carriers whose frame is still to be sent. -/
  p : Nat
  left : Bool
  right : Bool
deriving DecidableEq, Repr

/-- Line assembly beside the ASM registers. -/
structure Asm where
  /-- Nozzle records that differ from the defaults of R184, by record number. -/
  table : List (Nat × BitVec 128)
  /-- The change buffer, oldest first (R191). -/
  changes : List Change
  /-- Vector 96 has been raised in this fill (R196). -/
  fillRaised : Bool
  /-- Columns of each channel; empty before its first assembled line. -/
  cols : List (List Col)
  /-- Flank accumulators of each channel (R205); empty where all are zero. -/
  facc : List (List Nat)
  lines : List AsmLine
  /-- Pages begun in the order of the run, and per channel the number of the page being assembled (R37). -/
  seq : Nat
  chSeq : List Nat
  /-- Active ASM_ROT words per channel (R201, set 8). -/
  rot : List (Word × Word)
  /-- Reach whose step each channel applies, and whether ROT_LIMITED is counted for it. -/
  reach : List (Option Int)
  limited : BitVec 8
  /-- Energy caps per channel and die for the reach, with the shaping cap and cap_T of each (R206). -/
  caps : List (List (Nat × Nat × Nat))
  /-- Staged energy sums (channel, die, reach, energy doubled) (R208). -/
  energy : List (Nat × Nat × Int × Nat)
  /-- Exclusion map (R325): page, channel, group of 32 logical columns, band. -/
  excluded : List (Word × Nat × Nat × Nat)
deriving DecidableEq, Repr

/-- An anchor of the line clock (R214, R216): counter value in 2^-32 counts, cycle, period in 24.8 fixed point (0 none,
R215), and reach number. -/
structure Anchor where
  y : Int
  t : Nat
  p : Nat
  reach : Int
deriving DecidableEq, Repr

/-- A fixed line of a channel (R217): its boundary cycle, the period it was fixed under, its page, and what its markers carry:
DISCARD, the withheld die-rows (R224), which carriers still wait for them, and whether its boundary has passed. -/
structure FixedLine where
  ch : Nat
  line : Int
  t : Nat
  p : Nat
  page : Word
  passed : Bool
  discard : Bool
  blank : Bool
  withheld : List (Nat × Nat)
  left : Bool
  right : Bool
deriving DecidableEq, Repr

/-- A row of a die held by its carrier (R220): the line whose data it holds, the run line at whose marker it fires, its delay
code, and the line period ASM used for it. -/
structure HeldRow where
  ch : Nat
  die : Nat
  row : Nat
  line : Int
  at_ : Int
  dly : Int
  p : Nat
  page : Word
  /-- Withheld: its die was blanked (R236), or its page will not be fired (R55). -/
  dead : Bool
deriving DecidableEq, Repr

/-- Line clock and firing of one channel. -/
structure FirCh where
  /-- Lines are fixed for it: from its start until its last held row has fired (R233, R234). -/
  on : Bool
  /-- A0_c once known (R233). -/
  a0 : Option Int
  /-- Cycle in which the counter value from which line 0 is sought became known (R233). -/
  known : Nat
  /-- Next line to fix, and next to assemble, and next to start (line boundary). -/
  fix : Int
  asm : Int
  next : Int
  /-- Boundary cycle of the last line fixed, and of the latest line boundary. -/
  t : Nat
  bt : Nat
  /-- Period of the last line fixed, in 24.8 fixed point (R198). -/
  p : Nat
  /-- Phase in force of each die, in cycles (R365). -/
  phase : List Nat
  /-- R229, R235: lines from here on are blank, and this line's marker carries DISCARD. -/
  stop : Option Int
  /-- Values in force under R226, in 2^-32 counts and cycles: offset, ROWPOS, DIEPOS, FLIGHT. -/
  offset : Int
  rowpos : List Nat
  diepos : List Nat
  flight : Nat
  /-- Strobe width in force per die, and the die's latest valid temperature (R219). -/
  width : List Nat
  temp : List (Option Int)
  /-- Cycle of each die's latest report, or of its carrier's coming up (R236). -/
  tempAt : List Nat
  /-- Strobe words taken at the last anchor (R226). -/
  strobe : Word
  strobeT : Word
  /-- Previous fire time of each die-row (R224). -/
  fired : List ((Nat × Nat) × Nat)
  /-- Run number of the page being fixed (R225). -/
  seq : Nat
deriving DecidableEq, Repr

/-- Line clock and firing beside the FIR registers. -/
structure Fir where
  /-- C_L in 2^-32 counts for the run (R210). -/
  cl : Nat
  /-- LPI_600 of the run. -/
  lpi600 : Bool
  reachLog2 : Nat
  /-- Grid origin W0 in counts, and X_s. -/
  w0 : Int
  xs : Int
  /-- The newest anchor in force, and those that come into force at a later cycle, oldest first (R214). -/
  anchor : Option Anchor
  coming : List (Anchor × Nat)
  /-- Reach whose anchor is next due. -/
  nextReach : Int
  /-- Job that starts at the trigger, or after the run has ended (R231, R500). -/
  waiting : Option (BitVec 16)
  restart : Option (BitVec 16)
  /-- Jobs started behind a job that waits, in order (R500). -/
  later : List (BitVec 16)
  /-- FIR_CTL as read at the latest START_JOB (R240). -/
  ctl : Word
  /-- Channels that have entered Prime and do not count their lines from that entry yet (R54). -/
  entering : BitVec 8
  /-- Frames that were not complete when their markers were due, and are not sent any more: carrier and line (R223). -/
  late : List (Nat × Int)
  channels : List FirCh
  lines : List FixedLine
  held : List HeldRow
  /-- Run line after the last laid-out page (R212). -/
  endLine : Int
  /-- Camera line: next run line, and whether the run is followed by the station. -/
  camNext : Int
  /-- Cycle of the latest camera line boundary. -/
  camT : Nat
  /-- Run line after the last page any channel of the run has begun; -1 before (R56). -/
  firedEnd : Int
  /-- First page of the run has been laid out. -/
  laid : Bool
  /-- Page for which each once-per-page vector was last raised: 100, 101 per channel. -/
  once100 : Bool
  once101 : BitVec 8
  /-- Cycle in which the pulse on LINE_SYNC_OUT ends (R238). -/
  syncEnd : Option Nat
  /-- Dies whose data a page lost to blanking: page, channel, die (R236). -/
  hotMarks : List (Word × Nat × Nat)
  /-- Blanked dies that return (R237): channel, die, and absolute line of the page's first line. -/
  returning : List (Nat × Nat × Int)
deriving DecidableEq, Repr

/-- An encoder port beside its registers: grid origin, counts of the fault window in progress, cycle of the latest bad sample. -/
structure Port where
  grid : Option Int
  ill : Nat
  amp : Nat
  badAt : Option Nat
  /-- Position in steps of the latest good sample or filtered edge, before INVERT, its phase, and its cycle (R242). -/
  steps : Int
  phi : Option Nat
  sampleAt : Nat
  /-- Position in steps that the raw count shows (R244). -/
  shown : Int
  /-- Its own motion events, newest first, their direction, and the quarter period latest crossed with the direction (R244, R250). -/
  events : List (Int × Nat)
  forward : Bool
  quarter : Option (Int × Bool)
  /-- Levels of A and B of a digital port: filtered, raw, and the cycle of each raw line's latest change; none before the first (R245). -/
  filtered : Option (Bool × Bool)
  raw : Bool × Bool
  since : Nat × Nat
deriving DecidableEq, Repr

/-- A pulse of a compare unit that has fired and not ended (R257): cycle it starts, and whether it has started. -/
structure Pulse where
  start : Nat
  started : Bool
deriving DecidableEq, Repr

/-- Position and speed beside the POS registers. -/
structure Pos where
  ports : List Port
  /-- Motion events of the active port in the speed window, newest first: raw count and cycle (R250). -/
  events : List (Int × Nat)
  /-- Direction of the latest event. -/
  forward : Bool
  /-- Active target and step of each compare unit in 2^-32 counts, and fires left (R258). -/
  target : List Int
  step : List Nat
  count : List Nat
  pulses : List (List Pulse)
  /-- POS_TRACK_DEV before saturation (R255). -/
  track : Int
  /-- Cycle in which the window of R252 began. -/
  windowAt : Nat
  /-- R249: the safety event of this reversal has been raised. -/
  revFault : Bool
  /-- R256: vector 113 has been raised in this page. -/
  once113 : Bool
deriving DecidableEq, Repr

/-- A block before scrambling (R263): control or data, and its payload. -/
structure Block where
  control : Bool
  payload : BitVec 64
deriving DecidableEq, Repr

/-- A frame or message that waits to be sent to a carrier, with the line of a frame (R284, R287). -/
structure TxItem where
  line : Option Int
  blocks : List Block
deriving DecidableEq, Repr

/-- A lane beside its registers (R263 to R283, R291 to R293). -/
structure Lane where
  /-- Marker blocks to send next, and what is left of the frame or message being sent. -/
  front : List Block
  body : List Block
  /-- Slot of the latest FILL sent. -/
  filled : Nat
  /-- The last 58 bits sent, the newest in bit 0 (R263), and the PRBS generator (R291). -/
  scrambler : BitVec 58
  generator : BitVec 31
  /-- Errors to inject: the next bit (R292); invalid headers, frames and markers still to come, and electrical idle up to a slot (R293). -/
  flip : Bool
  badHeaders : Nat
  badFrames : Nat
  badMarkers : Nat
  darkTo : Nat
  /-- Valid headers in a row, the validity of the last 64, newest first, the cycles of recent invalid ones, and the cycle since which there
  is none (R265, R272, R279). -/
  valid : Nat
  recent : List Bool
  invalidAt : List Nat
  cleanAt : Nat
  /-- Blocks of its elastic buffer above the centre (R266), and markers missed in a row (R279). -/
  level : Int
  missed : Nat
  /-- Cycle in which its state was entered (R272), and of the latest drift check (R283). -/
  entered : Nat
  checkedAt : Nat
  /-- Requests in force on the far POST, MAIN and PRE taps: 0 HOLD, 1 INC, 2 DEC (R274). -/
  asked : List Nat
  /-- ECHO requests without a reply: TAG and the cycle sent (R276). -/
  requests : List (Nat × Nat)
  /-- Cycle in which its checker locked, and recent error bits (R291). -/
  lockAt : Nat
  errAt : List Nat
  /-- Consecutive TRAIN blocks with RX_READY at both ends. -/
  ready : Nat
  /-- Status answered to the far end's request on POST, MAIN and PRE; 0 NOT_UPDATED (R274). -/
  status : List Nat
  /-- Sum of the round trips of the echoes received so far, and their number; the latency once measured (R276). -/
  echoSum : Int
  echoes : Nat
  d : Option Nat
  /-- Trained while its channel prints: carries traffic from the next page boundary (R282). -/
  rejoin : Bool
  /-- Retrain requested, and the cycle of the latest attempt (R282). -/
  wanted : Bool
  tried : Option Nat
  /-- The retrain may start: a page boundary of its channel has passed since, or it was commanded. -/
  due : Bool
  /-- Taken out of traffic by PRBS_CONTROL (R291). -/
  test : Bool
deriving DecidableEq, Repr

/-- A downstream message without an ACK (R288). -/
structure Msg where
  kind : Nat
  seq : Nat
  body : List Nat
  sends : Nat
  /-- Cycle of the latest send. -/
  at_ : Nat
deriving DecidableEq, Repr

/-- A carrier beside its registers. -/
structure Carrier where
  /-- Next block slot of its lanes, frames and messages that wait, and the line of the frame being sent. -/
  slot : Nat
  items : List TxItem
  line : Option Int
  /-- Slot of the latest marker (R269). -/
  marked : Nat
  /-- Training at boot step 14 (R70): 0 none, 1 both lanes together, 2 each lane alone, 3 settled. -/
  boot : Nat
  msgs : List Msg
  nextSeq : Nat
  /-- Running count of ALIGN markers (R268). -/
  aligns : Nat
  /-- A marker of the run has been sent, so the next is LINE and not START (R269). -/
  started : Bool
  /-- Cycle of the latest record; LOST, CRC_ONE and MARKER_ERR of it (R289). -/
  record : Option Nat
  lost : Nat
  crcOne : Nat
  markerErr : Nat
  /-- Lane mode in force, and whether stripe mode runs on one lane until an idle boundary (R277, R280). -/
  mode : Nat
  unstriped : Bool
  /-- Result of the latest LINK_TEST: errors and bits. -/
  test : Word × Word
  /-- Commanded by PWR (R356 to R361): claimed current in mA, whether admitted and ramping, whether enabled, the setpoint
  last sent. -/
  claim : Nat
  ramping : Bool
  enabled : Bool
  setMv : Nat
  /-- ENABLE = 0 was sent and neither a report of ENABLED = 0 nor 2 s have come since (R361). -/
  leaving : Bool
  /-- Consecutive records with OVERCURRENT or OVERTEMP, with ENABLED = 0, with a deviating voltage (R357), and in a steady
  warm state (R360); and whether its warm-up has ended. -/
  overs : Nat
  off : Nat
  dev : Nat
  steady : Nat
  warm : Bool
deriving DecidableEq, Repr

/-- The carrier link beside the JGL registers. -/
structure Jgl where
  lanes : List Lane
  carriers : List Carrier
deriving DecidableEq, Repr

/-- An output stream as defined at a frame's first line (R316, R317). -/
structure StreamDef where
  stream : Nat
  fmt : Nat
  scale : Nat
  colFirst : Nat
  cols : Nat
  lineFirst : Nat
  lines : Nat
deriving DecidableEq, Repr

/-- A frame as the analyser feed carries it (R318): its plane after stage 6, the geometry that puts it on the web grid, TRIG_POS and the
distance of two output lines in 2^-32 counts, and its lines with CRC_ERR. -/
structure FeedFrame where
  sensor : Nat
  number : Nat
  tag : BitVec 16
  unknown : Bool
  trigPos : Int
  step : Nat
  width : Nat
  geo : List Byte
  plane : List (List Nat)
  marked : List Nat
deriving DecidableEq, Repr

/-- A numbered frame of a sensor from its trigger to its record (R301 to R319). -/
structure Frame where
  number : Nat
  trigPos : Int
  /-- Its boundary has passed: the cycle, the time-stamp, the settings tag, SETTINGS_UNKNOWN, and the active words of set s. -/
  bounded : Bool
  at_ : Nat
  stamp : Stamp
  tag : BitVec 16
  unknown : Bool
  words : List Word
  /-- Its FS has arrived, in this order of all; not dropped. -/
  started : Bool
  order : Nat
  admitted : Bool
  /-- Lines received, those in the line buffer, and those taken into the pipeline (R310 to R313). -/
  got : Nat
  buffered : Nat
  entered : Nat
  /-- Lines as they enter the pipeline, first line first. -/
  lines : List (List (BitVec 12))
  marked : List Nat
  bad : Nat
  extra : Bool
  truncated : Bool
  crcErr : Bool
  /-- Later lines are discarded after an overflow (R313). -/
  overflow : Bool
  ended : Bool
  /-- Its FE has arrived. -/
  closed : Bool
  /-- Lines after stage 4 with the luminance coefficients in force as each entered, and the counts SAT, DARK and DEFECT_FIX (R314, R319). -/
  done : List (List Nat)
  lums : List (List Nat)
  sat : Nat
  dark : Nat
  fixed : Nat
  /-- The geometry and the tone bank in force as its first line entered. -/
  geo : List Byte
  tone : List Byte
  /-- Streams it enters whole, as defined at its first line (R317). -/
  takes : List StreamDef
deriving DecidableEq, Repr

/-- A settings request pending (R304 to R306): TAG, VALID, values, writes, E, F, and how far it has come. -/
structure SetReq where
  tag : BitVec 16
  valid : BitVec 16
  black : Nat
  gains : List Nat
  strobe : Nat
  lut : Nat
  dpc : Nat
  writes : List (Nat × Nat × Nat)
  f : Int
  e : Nat
  /-- Writes have been started, and have all completed. -/
  sending : Bool
  sent : Bool
deriving DecidableEq, Repr

/-- A record written and not yet latched for the register bank (R321). -/
structure CamRec where
  number : Nat
  words : List Word
  part : Bool
deriving DecidableEq, Repr

/-- A sensor beside its registers. -/
structure Sensor where
  /-- Number of the next frame, and of the latest boundary. -/
  next : Nat
  latest : Option Nat
  frames : List Frame
  reqs : List SetReq
  eLast : Nat
  /-- Tag in force, the tag of the pending set, and that of values staged and not committed (R308). -/
  tag : BitVec 16
  coming : Option (BitVec 16)
  staged : Option (BitVec 16)
  /-- First frame that carries SETTINGS_UNKNOWN, until a request completes (R309). -/
  unknown : Option Nat
  /-- Strobe pulses to come (start cycle, output, width) and in progress (output, end cycle) (R303). -/
  flashes : List (Nat × Nat × Nat)
  strobes : List (Nat × Nat)
  /-- Expected frames in a row without delivery; whether CAMERA_LOST is on for it; and whether every frame since the latest page
  boundary of the station has been delivered, and one has (R58). -/
  missed : Nat
  gone : Bool
  clean : Bool
  fresh : Bool
  /-- Latest record not yet latched (R321). -/
  record : Option CamRec
deriving DecidableEq, Repr

/-- An access of CAM_BUS_CMD (R300): its target, and whether it is on the bus. -/
structure BusAccess where
  sensor : Nat
  read : Bool
  bytes : Nat
  reg : Nat
  value : Nat
  started : Bool
deriving DecidableEq, Repr

/-- An output stream: its FIFO, and frames of its sensor seen (R316, R317). -/
structure OutStream where
  fifo : List Byte
  reserved : Nat
  seen : Nat
deriving DecidableEq, Repr

/-- Capture beside the CAM registers. -/
structure Cam where
  sensors : List Sensor
  fsCount : Nat
  /-- The sensor whose turn it is and the lines it may still send (R312). -/
  turn : Nat
  turnLeft : Nat
  streams : List OutStream
  /-- Access of CAM_BUS_CMD waiting or in progress. -/
  access : Option BusAccess
  /-- Ports being discovered. -/
  discovering : BitVec 4
  /-- Cycle of the latest vector 163 of each port (R297). -/
  eccAt : List (Option Nat)
deriving DecidableEq, Repr

/-- Defects kept of an inspected page (R341). -/
structure PageDefects where
  page : Word
  records : List (List Byte)
  more : Bool
deriving DecidableEq, Repr

/-- A decoded reference segment that inspection has taken (R160, R323): page, channel, page line, tile column, and its 1,024 bytes. -/
structure RefSeg where
  page : Word
  ch : Nat
  line : Nat
  col : Nat
  bytes : List Byte
deriving DecidableEq, Repr

/-- A page as the camera line saw it: its channels, the web position of its first line and the length of a line in 2^-32 counts, its lines,
the page lines that a camera line covers, and page lines of channels whose marks are not used (R336). -/
structure PageView where
  page : Word
  mask : BitVec 8
  pos : Int
  cl : Nat
  lines : Nat
  lpp : Nat
  noMarks : List (Nat × Nat)
deriving DecidableEq, Repr

/-- The quality loop beside the INS registers. -/
structure Ins where
  /-- Frames in the analyser feed, in order of arrival (R318). -/
  feed : List FeedFrame
  /-- Reference lines inspection has taken, what it was left without (R171), and the pages past the camera line that wait (R326). -/
  refs : List RefSeg
  blind : List BlankRegion
  views : List PageView
  /-- Job of the page latest analysed (R45, R349). -/
  lastJob : BitVec 16
  /-- Inspected pages whose pairs have been tested, and of each pair that has been streaked: channel, pair, pages streaked in
  a row, and the number of the page it was last streaked on (R327). -/
  pages : Nat
  streaks : List (Nat × Nat × Nat × Nat)
  defects : List PageDefects
  /-- Pages past the camera line whose analysis has not ended (R326). -/
  waiting : List Word
  /-- Changes found with the buffer full, restaged after the next inspected page (R342). -/
  restage : List Change
  /-- Run lines fixed under phasing or fired with a phase, per channel as (channel, first, last) (R336, R365). -/
  noMarks : List (Nat × Int × Int)
  /-- Consecutive records with DIE_FAULT set of each (channel, die) (R330). -/
  faults : List (Nat × Nat × Nat)
  /-- The page under the camera line. -/
  page : Option Word
deriving DecidableEq, Repr

/-- A calibration run in progress (R333, R347). -/
structure CalRun where
  kind : Nat
  retest : Bool
  mask : BitVec 8
  temper : Bool
  aborting : Bool
  /-- Slot gap of its test prints, 0 before the first line; and the test pages begun, by number, with their IDs (R331, R333). -/
  gap : Nat
  ids : List (Nat × Word)
deriving DecidableEq, Repr

/-- Calibration beside the CAL registers: the run, runs still to come in this visit, the CAL tables (active bytes and
staged writes), the seconds each quantity has been due, and ADC gains. -/
structure Cal where
  run : Option CalRun
  queue : List Nat
  tables : List (Nat × List Byte)
  staged : List (Nat × Nat × List Byte)
  dueFor : List Nat
  gains : List (Nat × Word)
  /-- ADC gains staged for the return to Warm (R335, R342). -/
  gainsNext : List (Nat × Word)
  /-- Of quantities 2 and 3: the reading times cycles since the latest check, in 2^-16 °C, the cycles with a reading, and the cycle up to
  which they are added up (R346). -/
  heat : List (Int × Nat)
  heatAt : Nat
  /-- Cycle of the latest check. -/
  checkedAt : Nat
deriving DecidableEq, Repr

/-- A plan in force (R364, R365): carrier, reach, and its number of phase slots. -/
structure Plan where
  carrier : Nat
  reach : Int
  slots : Nat
deriving DecidableEq, Repr

/-- Power beside the PWR registers. -/
structure Pwr where
  /-- PSEQ_EN_1 to PSEQ_EN_6 (R351). -/
  enables : BitVec 6
  /-- Carriers that wait for admission in this warm-up, and those with a setpoint change that waits in Warm (R359, R362). -/
  waiting : BitVec 16
  setWait : BitVec 16
  /-- Vector 192 has been raised in this warm-up. -/
  waitRaised : Bool
  /-- I_prev of each carrier, in mA (R363). -/
  prev : List Nat
  /-- E(d) of each carrier's latest plan (R363). -/
  energy : List (List Nat)
  plans : List Plan
  /-- Vectors 195, 196 and 197 raised in this page of channel STAT_CH (R368). -/
  once195 : Bool
  once196 : Bool
  once197 : Bool
  /-- Thresholds reached and not left (R369), logic islands and stack. -/
  warnLogic : Bool
  stopLogic : Bool
  critLogic : Bool
  warnStack : Bool
  stopStack : Bool
  critStack : Bool
  /-- Stack refresh rate doubled (R369). -/
  refresh : Bool
  /-- Sum and number of the hottest readings of the minute in progress (R370). -/
  tempSum : Int
  tempCount : Nat
  /-- Equivalent time at 95 °C in units of 2^-32 minute (R370); and (I ÷ I_design)² × time of the core and SRAM grids, weighted alike
  (R371). -/
  wear : Nat
  grids : List Nat
deriving DecidableEq, Repr

/-- A request pending at an arbiter, or granted and holding its path (R377): port, path, its arrival in arbiter cycles, and the cycle of
its grant, 0 while it is pending. -/
structure ArbReq where
  port : Nat
  path : Nat
  at_ : Nat
  held : Nat
deriving DecidableEq, Repr

/-- An arbiter beside its registers (R375 to R381). -/
structure Arbiter where
  /-- Cycles of its island clock counted since the timebase started, the one in which the window began, and windows ended. -/
  clock : Nat
  windowAt : Nat
  window : Nat
  reqs : List ArbReq
  /-- Requests granted and holding their path. -/
  holds : List ArbReq
  nonIron : Nat
  /-- Ports that were last granted in the round-robins over iron and copper. -/
  lastIron : Nat
  lastCopper : Nat
  used : List Nat
  credit : List Nat
deriving DecidableEq, Repr

/-- A requester of a lock (R384): island row and requester ID. -/
structure LockReq where
  island : Nat
  id : Nat
deriving DecidableEq, Repr

/-- A lock of the table (R384): holder, whether BROKEN, waiters in order of arrival, and the order of its latest grant. -/
structure Lock where
  holder : Option LockReq
  broken : Bool
  waiters : List LockReq
  granted : Nat
deriving DecidableEq, Repr

/-- Arbiters and locks beside the ARB registers. -/
structure Arb where
  arbiters : List Arbiter
  locks : List Lock
  grants : Nat
deriving DecidableEq, Repr

/-- A barge channel beside its registers. -/
structure Barge where
  /-- A MOVE is in progress (R401). -/
  moving : Bool
  /-- CAUSE of a halt asked for and due at the next instruction boundary (R404). -/
  stop : Option Nat
  /-- A program hand-over due at the next instruction boundary, with the page of its boundary (R407). -/
  due : Option (Option Word)
  /-- Cycle in which the WAIT in progress began (R402). -/
  began : Nat
  /-- Host read requests of the MOVE in progress that are still to be issued, as address and bytes (R401). -/
  asks : List (Nat × Nat)
deriving DecidableEq, Repr

/-- Barge channels beside the BRG registers. -/
structure Brg where
  channels : List Barge
deriving DecidableEq, Repr

/-- An Ethernet port beside its registers (R411 to R425). -/
structure TimPort where
  /-- Masters heard, latest Announce of each sender, and the best of them. -/
  masters : List AnnounceSet
  best : Option AnnounceSet
  /-- Whether a meanPathDelay has been accepted since link-up or the change of best master (R424). -/
  path : Bool
  /-- Candidate series, in 1/16 ns (R424). -/
  series : List Int
  /-- c of the latest sample in 2^-16 ns, and its cycle (R425). -/
  last : Option (Int × Nat)
  /-- Senders heard: the cycle of the latest Announce of each and its interval in cycles (R411). -/
  heard : List (BitVec 80 × Nat × Nat)
  /-- t1 with corrections and t2 of the latest Sync of the best master, in 2^-16 ns (R414). -/
  sync : Option (Int × Int)
  /-- sequenceId and sending stamp of the latest request, and sequenceId of the next (R411). -/
  request : Option (BitVec 16 × Int)
  nextSeq : BitVec 16
  /-- Cycles between requests, as the master announces it (R411). -/
  period : Nat
  /-- Residence times of two-step Syncs received here whose Follow_Ups have not come, newest first (R427). -/
  dwells : List (PtpHead × Int)
deriving DecidableEq, Repr

/-- Network time beside the TIM registers. -/
structure Tim where
  /-- The clock (R415), in units of 1.25 × 10^-9 × 2^-16 ns, and its epoch (R423). -/
  clock : Nat
  epoch : BitVec 16
  /-- Servo frequency FREQ in 2^-16 ppb (R415). -/
  freq : Int
  /-- Cycle, clock and FREQ at each change of the clock's rate since the latest step or TIM start, newest first, and the
  cycle of that step or start (R428). -/
  history : List (Nat × Nat × Int)
  since : Nat
  /-- TIM has started since the cold reset (R423). -/
  startedOnce : Bool
  /-- Integral term in 2^-16 ppb, latest FREQ values, and accepted samples in a row within LOCK_NS (R417, R418). -/
  integral : Int
  freqs : List Int
  good : Nat
  ports : List TimPort
  /-- |c_0 − c_1| of the latest pairs, newest first, and pairs in a row within ASYM_NS (R425). -/
  pairs : List Nat
  goodPairs : Nat
deriving DecidableEq, Repr

/-- The safety island beside the SAF registers. -/
structure Saf where
  /-- Filtered levels of ESTOP_A_N and ESTOP_B_N, true while high (R441). -/
  okA : Bool
  okB : Bool
  /-- R442: both inputs have been low together since ESTOP_DISC was set. -/
  bothLow : Bool
  /-- Phase of the start test (R446): 0 none, 1 A asserted, 2 A low, 3 B asserted, 4 B low. -/
  test : Nat
  /-- Consecutive compares that disagreed (R437). -/
  disagree : Nat
  /-- Cycle in which the condition being answered reached SAF, until both outputs are low (R444). -/
  reactFrom : Option Nat
  /-- R444: channels that have passed their stop boundary, while FIR stops for a condition. -/
  stopping : Bool
  passed : BitVec 8
  /-- R444: ENABLE = 0 has been sent and SYS_MODE waits for the carriers. -/
  waiting : Bool
  /-- Dies (carrier, local die) at or above DIE_TRIP in the latest record of their carrier (R443). -/
  hot : List (Nat × Nat)
  /-- Cycle of the latest valid reading of each die, and of each carrier's latest record, as SAF takes them: place 27 n + d, the record
  at 27 n + 26 (R443). -/
  readAt : List Nat
  /-- Islands whose clock fault is present (R449). -/
  clock : BitVec 12
  /-- R369: the thermal cause of the islands, and that of the stack, is present. -/
  thermalIsland : Bool
  thermalStack : Bool
  /-- Proof tests still to run, the running one first (R451), and whether test 1 is armed. -/
  proof : List Nat
  proofArmed : Bool
  /-- The tests still to run are those of test 0xFFFF (R451). -/
  proofAll : Bool
  /-- What the running test has found: inputs A and B low (test 2), or the injections into the two channels or monitors. -/
  proofSeen : BitVec 2
  /-- The active parameter set (R450). -/
  params : List Byte
deriving DecidableEq, Repr

/-- The state of the block. -/
structure State where
  /-- Commands waiting, first in first out. -/
  pending : List Instr
  /-- Timebase cycles counted since the timebase started (R29). -/
  cycle : Nat
  /-- Islands clocked and out of reset, bit = row of R25. -/
  running : BitVec 12
  /-- Register words over `resetVal`; of a shadowed register, the staged word (R40). -/
  regs : Sparse
  /-- Active words of the shadowed registers over `resetVal` (R34). -/
  active : Sparse
  /-- Pending shadow sets (R36). -/
  shadows : List Pending
  /-- Latest hand-over of each shadow set, as block, set and cycle (R35). -/
  handed : List (ShdBlk × Nat × Nat)
  /-- Cycle in which each interval that the chip times began. -/
  timers : List (Timer × Nat)
  /-- Words captured by a read of the low register of a group (R6), by the address of the captured register. -/
  captures : Sparse
  /-- Low halves of two-word registers written and not yet followed by the high half (R7). -/
  latches : Sparse
  /-- Live statistics banks (R42), by the address of the readable word. -/
  live : Sparse
  /-- Free values drawn so far (log entry 1, DESIGN CHOICE). -/
  free : Nat
  /-- Outputs sent, newest first (log entry 9, DESIGN CHOICE). -/
  outs : List Out
  sys : Sys
  cmd : Cmd
  evt : Evt
  dbg : Dbg
  flash : Flash
  ing : Ing
  pnd : Pnd
  asm : Asm
  fir : Fir
  pos : Pos
  jgl : Jgl
  cam : Cam
  ins : Ins
  cal : Cal
  pwr : Pwr
  arb : Arb
  brg : Brg
  saf : Saf
  tim : Tim
deriving DecidableEq, Repr

/-- Why a command stops the block. No command of this block does: an event whose condition does not hold has no effect
and an access the spec forbids is answered, discarded or counted. It is never raised. -/
inductive Fault where
  /-- Never raised. -/
  | never
deriving DecidableEq, Repr

/-- Why a command is refused by the model. -/
inductive Refusal where
  /-- Raised by a dispatch arm whose command has no meaning yet (safe: nothing can be proved of its effect). -/
  | notModelled (mnemonic : String)
deriving DecidableEq, Repr

/-- The sections of the state right after reset. -/
def Sys.reset : Sys where
  channels := 0
  sensors := 0
  inspection := false
  loads := []
  debugKey := []
  safetyKey := []
  step := 0
  held := false
  rom := false
  bootLimit := false
  restartDue := false
  bootCauses := []
  safeTo := none
  stop := none
  degradeDue := 0
  railReduced := 0
  lastPage := List.replicate 8 0
  livePage := List.replicate 8 none
  liveJob := List.replicate 8 0
  warming := false
  image := none
  debugUnlocked := false
  webReady := false
  limit := 3

/-- Command engines after reset. -/
def Cmd.reset : Cmd where
  table := []
  waitingK := []
  waitingC := []
  queueK := []
  queueC := []
  slots := []
  busy := 0
  keys := List.replicate 4 ⟨[], 0, 1⟩
  fwCopy := none
  fwSize := 0
  fwData := []
  fwClosed := false

/-- Events after reset. -/
def Evt.reset : Evt where
  log := []
  holds := []
  msixEnable := false
  functionMask := false
  v4At := none
  config := []

/-- Debug port after reset. -/
def Dbg.reset : Dbg where
  tap := .idcode
  scan := false
  boundary := []
  resp := []
  capture := 0

/-- Ingest after reset. -/
def Ing.reset : Ing where
  queues := List.replicate 8 ⟨[], none, 0, 0, false⟩
  list := []
  compressors := []
  hostJobs := []
  hostDescs := []

/-- Pound store after reset. -/
def Pnd.reset : Pnd where
  jobs := []
  pages := []
  contexts := []
  staging := []
  reference := []
  consumed := List.replicate 8 (-1)
  reprints := []
  regions := []
  repair := []
  rowErrors := []
  due := []
  freeMin := 0
  lowRaised := false
  order := 0

/-- Line assembly after reset. -/
def Asm.reset : Asm where
  table := []
  changes := []
  fillRaised := false
  cols := List.replicate 8 []
  facc := List.replicate 8 []
  lines := []
  seq := 0
  chSeq := List.replicate 8 0
  rot := List.replicate 8 (0x11111111, 0x11111111)
  reach := List.replicate 8 none
  limited := 0
  caps := List.replicate 8 []
  energy := []
  excluded := []

/-- One channel of the line clock, at rest. -/
def FirCh.reset : FirCh where
  on := false
  a0 := none
  known := 0
  fix := 0
  asm := 0
  next := 0
  t := 0
  bt := 0
  p := 0
  phase := List.replicate 52 0
  stop := none
  offset := 0
  rowpos := List.replicate 6 0
  diepos := List.replicate 52 0
  flight := 0
  width := List.replicate 52 960
  temp := List.replicate 52 none
  tempAt := List.replicate 52 0
  strobe := 0x803C0140
  strobeT := 0x00003700
  fired := []
  seq := 0

/-- Line clock after reset. -/
def Fir.reset : Fir where
  cl := 0
  lpi600 := false
  reachLog2 := 7
  w0 := 0
  xs := 0
  anchor := none
  coming := []
  nextReach := 0
  waiting := none
  restart := none
  later := []
  ctl := 7
  entering := 0
  late := []
  channels := List.replicate 8 FirCh.reset
  lines := []
  held := []
  endLine := 0
  camNext := 0
  camT := 0
  firedEnd := -1
  laid := false
  once100 := false
  syncEnd := none
  once101 := 0
  hotMarks := []
  returning := []

/-- Position after reset. -/
def Port.reset : Port where
  grid := none
  ill := 0
  amp := 0
  badAt := none
  steps := 0
  phi := none
  sampleAt := 0
  shown := 0
  events := []
  forward := true
  quarter := none
  filtered := none
  raw := (false, false)
  since := (0, 0)

/-- Position and speed at reset. -/
def Pos.reset : Pos where
  ports := List.replicate 4 Port.reset
  events := []
  forward := true
  target := List.replicate 16 0
  step := List.replicate 16 0
  count := List.replicate 16 0
  pulses := List.replicate 16 []
  track := 0
  windowAt := 0
  revFault := false
  once113 := false

/-- A lane at rest. -/
def Lane.reset : Lane where
  front := []
  body := []
  filled := 0
  scrambler := 0
  generator := 0x7FFFFFFF
  flip := false
  badHeaders := 0
  badFrames := 0
  badMarkers := 0
  darkTo := 0
  valid := 0
  recent := []
  invalidAt := []
  cleanAt := 0
  level := 0
  missed := 0
  entered := 0
  checkedAt := 0
  asked := [0, 0, 0]
  requests := []
  lockAt := 0
  errAt := []
  ready := 0
  status := [0, 0, 0]
  echoSum := 0
  echoes := 0
  d := none
  rejoin := false
  wanted := false
  tried := none
  due := false
  test := false

/-- A carrier at rest. -/
def Carrier.reset : Carrier where
  slot := 0
  items := []
  line := none
  marked := 0
  boot := 0
  msgs := []
  nextSeq := 0
  aligns := 0
  started := false
  record := none
  lost := 0
  crcOne := 0
  markerErr := 0
  mode := 0
  unstriped := false
  test := (0, 0)
  claim := 0
  ramping := false
  enabled := false
  setMv := 0
  leaving := false
  overs := 0
  off := 0
  dev := 0
  steady := 0
  warm := false

/-- Carrier link after reset. -/
def Jgl.reset : Jgl := ⟨List.replicate 32 Lane.reset, List.replicate 16 Carrier.reset⟩

/-- Safety island after reset; the parameter set is the factory set (R450). -/
def Saf.reset : Saf where
  okA := true
  okB := true
  bothLow := false
  test := 0
  disagree := 0
  reactFrom := none
  stopping := false
  passed := 0
  waiting := false
  hot := []
  readAt := List.replicate 432 0
  clock := 0
  thermalIsland := false
  thermalStack := false
  proof := []
  proofArmed := false
  proofAll := false
  proofSeen := 0
  params := []

/-- Power after reset. -/
def Pwr.reset : Pwr where
  enables := 0
  waiting := 0
  setWait := 0
  waitRaised := false
  prev := List.replicate 16 0
  energy := List.replicate 16 []
  plans := []
  once195 := false
  once196 := false
  once197 := false
  warnLogic := false
  stopLogic := false
  critLogic := false
  warnStack := false
  stopStack := false
  critStack := false
  refresh := false
  tempSum := 0
  tempCount := 0
  wear := 0
  grids := [0, 0]

/-- A sensor after reset. -/
def Sensor.reset : Sensor where
  next := 0
  latest := none
  frames := []
  reqs := []
  eLast := 0
  tag := 0
  coming := none
  staged := none
  unknown := none
  flashes := []
  strobes := []
  missed := 0
  gone := false
  clean := false
  fresh := false
  record := none

/-- Capture after reset. -/
def Cam.reset : Cam where
  sensors := List.replicate 16 Sensor.reset
  fsCount := 0
  turn := 0
  turnLeft := 0
  streams := List.replicate 4 ⟨[], 0, 0⟩
  access := none
  discovering := 0
  eccAt := List.replicate 4 none

/-- The quality loop after reset. -/
def Ins.reset : Ins where
  feed := []
  refs := []
  blind := []
  views := []
  pages := 0
  streaks := []
  defects := []
  waiting := []
  restage := []
  noMarks := []
  faults := []
  page := none
  lastJob := 0

/-- Calibration after reset: every CAL table holds zeros. -/
def Cal.reset : Cal where
  run := none
  queue := []
  tables := []
  staged := []
  dueFor := List.replicate 4 0
  gains := []
  gainsNext := []
  heat := [(0, 0), (0, 0)]
  heatAt := 0
  checkedAt := 0

/-- Shares in force in the first window after reset (R376). -/
def arbShares (a : Nat) : List Nat := (List.range 36).map fun p => arbPortReset a p % 65536

/-- Arbiters and locks after reset. -/
def Arb.reset : Arb where
  arbiters := (List.range 4).map fun a => ⟨0, 0, 0, [], [], 0, 35, 35, List.replicate 36 0, arbShares a⟩
  locks := List.replicate 32 ⟨none, false, [], 0⟩
  grants := 0

/-- Barge channels after reset. -/
def Brg.reset : Brg := ⟨List.replicate 32 ⟨false, none, none, 0, []⟩⟩

/-- A port at rest. -/
def TimPort.reset : TimPort := ⟨[], none, false, [], none, [], none, none, 0, 800000000, []⟩

/-- Network time after reset. -/
def Tim.reset : Tim where
  clock := 0
  epoch := 0
  freq := 0
  history := [(0, 0, 0)]
  since := 0
  startedOnce := false
  integral := 0
  freqs := []
  good := 0
  ports := List.replicate 2 TimPort.reset
  pairs := []
  goodPairs := 0

/-- The block right after a cold reset, with the supply within limits and PORST_N about to be released (R59, R64): every
register at its reset value, so SYS_MODE reads Boot (R81); no boot step begun; only AON, SAF and CTL clocked (R48). -/
def State.reset : State where
  pending := []
  cycle := 0
  running := 0x007
  regs := []
  active := []
  shadows := []
  handed := []
  timers := []
  captures := []
  latches := []
  live := []
  free := 0
  outs := []
  sys := Sys.reset
  cmd := Cmd.reset
  evt := Evt.reset
  dbg := Dbg.reset
  flash := ⟨none, none, [], false, [], [none, none]⟩
  ing := Ing.reset
  pnd := Pnd.reset
  asm := Asm.reset
  fir := Fir.reset
  pos := Pos.reset
  jgl := Jgl.reset
  cam := Cam.reset
  ins := Ins.reset
  cal := Cal.reset
  pwr := Pwr.reset
  arb := Arb.reset
  brg := Brg.reset
  saf := Saf.reset
  tim := Tim.reset

end Sys2Proof.Machine
end

