-- ==== Sys2Proof/Machine/Ops.lean ====
section
/-! DEFINITION. The named operations every meaning is written in: register words and fields, saturating counters, the
staged and active copies of shadowed registers, time, free values, and raising an event (R459 to R462). -/

namespace Sys2Proof.Machine

/-! ## Words and numbers -/

/-- Bits [lo + width − 1 : lo] of a word, as a number. -/
def bits (v : Word) (lo width : Nat) : Nat := v.toNat / 2 ^ lo % 2 ^ width

/-- A word with the field [lo + width − 1 : lo] replaced. -/
def withBits (v : Word) (lo width n : Nat) : Word :=
  let m := BitVec.ofNat 32 ((2 ^ width - 1) * 2 ^ lo)
  (v &&& ~~~ m) ||| (BitVec.ofNat 32 (n % 2 ^ width * 2 ^ lo))

/-- A number read as two's complement of `w` bits. -/
def signed (w n : Nat) : Int := if n % 2 ^ w < 2 ^ (w - 1) then (n % 2 ^ w : Nat) else (n % 2 ^ w : Nat) - (2 ^ w : Nat)

/-- The low `w` bits of an integer, as a number (two's complement). -/
def unsigned (w : Nat) (i : Int) : Nat := (i % (2 ^ w : Nat)).toNat

/-- Division rounding half away from zero (R14). -/
def roundDiv (a : Int) (b : Nat) : Int :=
  if 0 ≤ a then (2 * a + b) / (2 * b) else -((-(2 * a) + b) / (2 * b))

/-- Ceiling of a quotient. -/
def ceilDiv (a b : Nat) : Nat := (a + b - 1) / b

/-- Clamp an integer between two bounds. -/
def clampInt (lo hi x : Int) : Int := max lo (min hi x)

/-- Bit k of a vector set or cleared. -/
def putBit {n : Nat} (v : BitVec n) (k : Nat) (b : Bool) : BitVec n :=
  if b then v ||| (BitVec.ofNat n (2 ^ k)) else v &&& ~~~ (BitVec.ofNat n (2 ^ k))

/-- Numbers of the set bits of a vector. -/
def bitList {n : Nat} (v : BitVec n) : List Nat := (List.range n).filter fun k => v.getLsbD k

/-- One for true. -/
def bit (b : Bool) : Nat := if b then 1 else 0

/-! ## Registers -/

/-- The word a register holds (of a shadowed register, the staged word). -/
def State.reg (s : State) (a : Nat) : Word := s.regs.get resetVal a

/-- Write a register word. -/
def State.setReg (s : State) (a : Nat) (v : Word) : State := { s with regs := s.regs.set resetVal a v }

/-- A field of a register. -/
def State.get (s : State) (f : Fld) : Nat := bits (s.reg f.addr) f.lo f.width

/-- Write a field of a register, leaving its other bits. -/
def State.put (s : State) (f : Fld) (n : Nat) : State := s.setReg f.addr (withBits (s.reg f.addr) f.lo f.width n)

/-- A one-bit field. -/
def State.flag (s : State) (f : Fld) : Bool := s.get f ≠ 0

/-- Write a one-bit field. -/
def State.putFlag (s : State) (f : Fld) (b : Bool) : State := s.put f (bit b)

/-- Add to a counter field that saturates at all ones. -/
def State.addSat (s : State) (f : Fld) (n : Nat) : State := s.put f (min (2 ^ f.width - 1) (s.get f + n))

/-- Count one in a saturating field. -/
def State.incSat (s : State) (f : Fld) : State := s.addSat f 1

/-- Count one in a wrapping field. -/
def State.incWrap (s : State) (f : Fld) : State := s.put f (s.get f + 1)

/-- A signed field. -/
def State.getInt (s : State) (f : Fld) : Int := signed f.width (s.get f)

/-- The active word of a shadowed register (R34). -/
def State.act (s : State) (a : Nat) : Word := s.active.get resetVal a

/-- Write an active word. -/
def State.setAct (s : State) (a : Nat) (v : Word) : State := { s with active := s.active.set resetVal a v }

/-- A field of an active word. -/
def State.getA (s : State) (f : Fld) : Nat := bits (s.act f.addr) f.lo f.width

/-- A signed field of an active word. -/
def State.getAInt (s : State) (f : Fld) : Int := signed f.width (s.getA f)

/-- A 48-bit quantity in a LO and HI register pair, from the words as read. -/
def join48 (lo hi : Word) : Nat := lo.toNat + (hi.toNat % 2 ^ 16) * 2 ^ 32

/-- The number a pair of 32-bit registers holds. -/
def State.getPair (s : State) (lo hi : Nat) : Nat := (s.reg lo).toNat + (s.reg hi).toNat * 2 ^ 32

/-- Write a pair of 32-bit registers. -/
def State.setPair (s : State) (lo hi n : Nat) : State :=
  (s.setReg lo (BitVec.ofNat 32 n)).setReg hi (BitVec.ofNat 32 (n / 2 ^ 32))

/-- Add to a counter held in a pair of 32-bit registers; it saturates. -/
def State.addPair (s : State) (lo hi n : Nat) : State := s.setPair lo hi (min (2 ^ 64 - 1) (s.getPair lo hi + n))

/-! ## Live statistics banks (R42, R44) -/

/-- A counter of a live bank. -/
def State.liveGet (s : State) (f : Fld) : Nat := bits (s.live.get (fun _ => 0) f.addr) f.lo f.width

/-- Write a field of a live bank. -/
def State.livePut (s : State) (f : Fld) (n : Nat) : State :=
  { s with live := s.live.set (fun _ => 0) f.addr (withBits (s.live.get (fun _ => 0) f.addr) f.lo f.width n) }

/-- Add to a counter of a live bank; it saturates at all ones, and `info`, the bank's STB_INFO word, then shows SAT. -/
def State.liveAdd (s : State) (info : Nat) (f : Fld) (n : Nat) : State :=
  let v := s.liveGet f + n
  let s := s.livePut f (min (2 ^ f.width - 1) v)
  if v ≥ 2 ^ f.width then s.livePut ⟨info, 31, 1⟩ 1 else s

/-- Keep the largest value in a field of a live bank. -/
def State.liveMax (s : State) (f : Fld) (n : Nat) : State := s.livePut f (max (s.liveGet f) (min (2 ^ f.width - 1) n))

/-- Latch a bank (R42, R45): copy the live words of [base + 12, base + 12 + 4 × n) to the readable bank whose three first
words stand at `base`, restart the live words at zero, and write SEQ, ID and INFO. -/
def State.latchBank (s : State) (base n : Nat) (id : Word) (kind sub : Nat) (part : Bool) : State :=
  let info := s.live.get (fun _ => 0) (base + 8)
  let s := (List.range n).foldl (fun s i =>
    let a := base + 12 + 4 * i
    let v := s.live.get (fun _ => 0) a
    { s.setReg a v with live := s.live.erase a }) s
  let s := { s with live := s.live.erase (base + 8) }
  let s := s.setReg base (s.reg base + 1)
  let s := s.setReg (base + 4) id
  s.setReg (base + 8) (withBits (withBits (withBits (info &&& 0x84000000#32) 30 1 (bit part)) 27 3 kind) 0 16 sub)

/-! ## Time (R4, R29, R415) -/

/-- Let `dt` timebase cycles pass: the timebase count and, while TIM runs, the clock advance. -/
def State.tick (s : State) (dt : Nat) : State :=
  let s := { s with cycle := s.cycle + dt }
  if s.running.getLsbD 11 then
    { s with tim := { s.tim with clock := s.tim.clock + dt * (65536 * 1000000000 + s.tim.freq).toNat } }
  else s

/-- An event stands at a cycle of its own: time passes up to that cycle where it has not yet (log entry 122, DEDUCED). -/
def State.tickTo (s : State) (t : Nat) : State := s.tick (t - s.cycle)

/-- An interval that the chip times begins in this cycle. -/
def State.mark (s : State) (t : Timer) : State :=
  { s with timers := (t, s.cycle) :: s.timers.filter fun x => x.1 ≠ t }

/-- The cycle in which a timed interval began. -/
def State.since (s : State) (t : Timer) : Nat := ((s.timers.find? fun x => x.1 = t).map fun x => x.2).getD 0

/-- The event that ends an interval stands at its end: time passes up to it where it has not yet (log entry 122, DEDUCED). -/
def State.waitFor (s : State) (t : Timer) (cycles : Nat) : State := s.tickTo (s.since t + cycles)

/-- An event that comes every so many cycles: it stands at least that long after the one before (log entry 122, DEDUCED). -/
def State.every (s : State) (t : Timer) (cycles : Nat) : State := (s.waitFor t cycles).mark t

/-- The clock as a time-stamp (R4): units of 1.25 × 10^-9 × 2^-16 ns to SEC, NS and SUBNS. -/
def stampOf (clock : Nat) (epoch : BitVec 16) : Stamp :=
  let sub := clock * 5 / 4000000000
  let ns := sub / 65536
  { epoch := epoch
    subns := BitVec.ofNat 16 sub
    ns := BitVec.ofNat 32 (ns % 1000000000)
    sec := BitVec.ofNat 48 (ns / 1000000000) }

/-- The time-stamp of this cycle. -/
def State.now (s : State) : Stamp := stampOf s.tim.clock s.tim.epoch

/-- A time-stamp's 16 bytes (R4). -/
def Stamp.bytes (t : Stamp) : List Byte :=
  leBytes 2 t.epoch.toNat ++ leBytes 2 t.subns.toNat ++ leBytes 4 t.ns.toNat ++ leBytes 6 t.sec.toNat ++ [0, 0]

/-! ## Free values and outputs -/

/-- Draw the next free value (log entry 1, DESIGN CHOICE). -/
def State.draw (s : State) : BitVec 64 × State := (Config.freeValue s.free, { s with free := s.free + 1 })

/-- The level of WEB_READY while nothing is commanded: whatever the web holds it at (log entry 23, DESIGN CHOICE). -/
def State.samplePins (s : State) : State := { s.draw.2 with sys := { s.sys with webReady := s.draw.1.getLsbD 0 } }

/-- Record an output. -/
def State.emit (s : State) (o : Out) : State := { s with outs := o :: s.outs }

/-- Whether island i is clocked and out of reset. -/
def State.runs (s : State) (i : Nat) : Bool := s.running.getLsbD i

/-- The mode in force (R48). -/
def State.mode (s : State) : Mode := Mode.ofCode (s.get SYS_MODE_MODE)

/-- The mode code in force. -/
def State.modeCode (s : State) : Nat := s.get SYS_MODE_MODE

/-- Mode code of channel c (R51). -/
def State.chMode (s : State) (c : Nat) : Nat := bits (s.reg SYS_CH_MODE) (4 * c) 4

/-- Whether Ethernet port p is enabled and its link is up (R432). -/
def State.portUp (s : State) (p : Nat) : Bool := s.flag (TIM_P_CFG_EN p) && s.flag (TIM_P_STAT_LINK p)

/-- The VLAN tag a port uses, if any; its frames leave at priority 7 (R409). -/
def State.vlanTag (s : State) (p : Nat) : Option Nat :=
  if s.flag (TIM_P_CFG_VLAN_EN p) then some (s.get (TIM_P_CFG_VID p)) else none

/-- Whether a frame passes a port's VLAN check (R409): with VLAN_EN only a frame tagged with VID is accepted. -/
def State.vlanOk (s : State) (p : Nat) (vlan : Option (BitVec 12)) : Bool :=
  !s.flag (TIM_P_CFG_VLAN_EN p) || vlan.map (fun v => v.toNat) = s.vlanTag p

/-- Enabled channels, in order. -/
def State.enabled (s : State) : List Nat := bitList s.sys.channels

/-- Enabled carriers: 2c and 2c + 1 of every enabled channel c (R16). -/
def State.carriers (s : State) : List Nat := (List.range 16).filter fun n => s.sys.channels.getLsbD (n / 2)

/-- A measurement extension (R76); ACKED clears (R80). -/
def State.extend (s : State) (slot : Nat) (m : List Byte) : State :=
  let old := (List.range 12).flatMap fun w => leBytes 4 (s.reg (SYS_MEAS slot w)).toNat
  let d := sha384 (old ++ sha384 m)
  let s := (List.range 12).foldl (fun s w => s.setReg (SYS_MEAS slot w) (BitVec.ofNat 32 (field d (4 * w) 4))) s
  s.putFlag SYS_BOOT_STAT_ACKED false

/-! ## Events -/

/-- Offset of MSI-X table entry v's vector control word, and of the PBA word of vector v (R475). -/
def msixControl (v : Nat) : Nat := 0x30000 + 16 * v + 12

/-- The PBA bit of a vector. -/
def pbaBit (v : Nat) : Fld := ⟨0x31000 + 4 * (v / 32), v % 32, 1⟩

/-- The EVT_PEND bit of a vector. -/
def pendBit (v : Nat) : Fld := ⟨EVT_PEND (v / 32), v % 32, 1⟩

/-- The EVT_MASK bit of a vector. -/
def maskBit (v : Nat) : Fld := ⟨EVT_MASK (v / 32), v % 32, 1⟩

/-- Whether the entry or the function is masked (R461). -/
def State.msixMasked (s : State) (v : Nat) : Bool := s.evt.functionMask || bits (s.reg (msixControl v)) 0 1 = 1

/-- Send the message of a vector, subject to R461: not while EVT_MASK is set or MSI-X is disabled; while masked the PBA
bit is set instead. A message starts the vector's hold-off (R462). -/
def State.sendMessage (s : State) (v : Nat) : State :=
  if s.flag (maskBit v) ∨ ¬ s.evt.msixEnable then s
  else if s.msixMasked v then s.putFlag (pbaBit v) true
  else
    let e (k : Nat) : Word := s.reg (msixControl v - 12 + 4 * k)
    let s := s.emit (.msix v ((e 0).toNat + (e 1).toNat * 2 ^ 32) (e 2))
    if s.get (EVT_HOLD_HOLDOFF_US (v / 32)) = 0 ∨ (224 ≤ v ∧ v ≤ 231) then s
    else { s with evt := { s.evt with holds := s.evt.holds.filter (fun h => h.1 ≠ v)
      ++ [(v, false, s.cycle + 800 * s.get (EVT_HOLD_HOLDOFF_US (v / 32)))] } }

/-- Mark a raise during the vector's hold-off, or send its message (R462). -/
def State.signalVector (s : State) (v : Nat) : State :=
  if s.evt.holds.any (fun h => h.1 = v) then
    { s with evt := { s.evt with holds := s.evt.holds.map fun h => if h.1 = v then (v, true, h.2.2) else h } }
  else s.sendMessage v

/-- PAGE_ID of a page record's key; a value that is no key names itself. -/
def State.nameOf (s : State) (key : Word) : Word := ((s.pnd.pages.find? fun p => p.id = key).map fun p => p.name).getD key

/-- Append a record to the event log (R459, R460); a full log loses its oldest record, and LOST is counted. -/
def State.appendLog (s : State) (r : EventRec) : State :=
  let full := s.evt.log.length ≥ 4096
  let log := (if full then s.evt.log.drop 1 else s.evt.log) ++ [r]
  let s := { s with evt := { s.evt with log := log } }
  let s := if full then s.incSat EVT_LOG_STAT_LOST else s
  s.put EVT_LOG_STAT_COUNT log.length

/-- One raise without the overwrite's own event: record, EVT_PEND and message. -/
def State.raiseOne (s : State) (v detail : Nat) (data page : Word) : State :=
  let s := s.appendLog ⟨BitVec.ofNat 8 v, BitVec.ofNat 16 detail, data, s.nameOf page, s.now⟩
  let s := s.putFlag (pendBit v) true
  s.signalVector v

/-- A value the spec fixes, or a free value where it fixes none (log entry 1, DESIGN CHOICE). -/
def State.orDraw (s : State) (w : Nat) (v : Option Nat) : Nat × State :=
  match v with
  | some n => (n, s)
  | none => (s.draw.1.toNat % 2 ^ w, s.draw.2)

/-- Raise a vector (R459) with the SOURCE_DETAIL and DATA the spec gives it, free where it gives none; an overwrite it
makes raises vector 7 unless it is itself vector 7 (R460). -/
def State.raiseWith (s : State) (v : Nat) (detail data : Option Nat) (page : Word) : State :=
  let full := s.evt.log.length ≥ 4096
  let (d, s) := s.orDraw 16 detail
  let (x, s) := s.orDraw 32 data
  let s := s.raiseOne v d (BitVec.ofNat 32 x) page
  if full ∧ v ≠ 7 then
    let (d, s) := s.orDraw 16 none
    s.raiseOne 7 d (s.reg EVT_LOG_STAT) 0
  else s

/-- Raise a vector whose SOURCE_DETAIL and DATA the spec leaves open. -/
def State.raise (s : State) (v : Nat) (page : Word := 0) : State := s.raiseWith v none none page

/-- Raise a vector whose DATA the spec gives. -/
def State.raiseData (s : State) (v data : Nat) : State := s.raiseWith v none (some data) 0

/-- Raise a vector whose SOURCE_DETAIL the spec gives. -/
def State.raiseDetail (s : State) (v detail : Nat) : State := s.raiseWith v (some detail) none 0

end Sys2Proof.Machine
end

