-- ==== Sys2Proof/Machine/Gate.lean ====
section
/-! DEFINITION. The output gate of the safety island (R436, R439, R446), and what every command leaves behind. -/

namespace Sys2Proof.Machine

/-- Modes that carry fire energy (R49). -/
def energised (code : Nat) : Bool := (5 ≤ code && code ≤ 9) || code = 11

/-- Whether a change to a mode of this code is in progress (R60). -/
def State.changingTo (s : State) (code : Nat) : Bool := s.flag SYS_MODE_TRANSITION && s.get SYS_MODE_TARGET = code

/-- R49 and R358: the mode permits fire energy, or a change to Warm is in progress; a change to Safe permits none. -/
def State.modePermits (s : State) : Bool := (energised s.modeCode || s.changingTo 5) && !s.changingTo 2

/-- The safety island would permit fire energy but for its start test and the latest cross-compare (R436, R442). -/
def State.safOk (s : State) : Bool :=
  s.get SYS_SAFE_CAUSE_PRESENT = 0 && s.saf.okA && s.saf.okB && !s.flag SAF_STAT_LOCKOUT && !s.flag SAF_FAULT_ESTOP_DISC

/-- Levels channels A and B would drive (R436, R446). -/
def State.wanted (s : State) : Bool × Bool :=
  let ok := s.safOk && s.saf.disagree = 0 && s.modePermits
  if s.saf.test ≠ 0 then (ok && s.saf.test = 1, ok && s.saf.test = 3)
  else (ok && s.flag SAF_STAT_START_OK, ok && s.flag SAF_STAT_START_OK)

/-- Drive the outputs and show SAFE_STATE (R439): asserted while an output is held low by an ESTOP demand, a present cause, a
lockout, or a reset before boot step 3 has passed. -/
def State.drive (s : State) (a b : Bool) : State :=
  let held := s.get SYS_SAFE_CAUSE_PRESENT ≠ 0 || !s.saf.okA || !s.saf.okB || s.flag SAF_STAT_LOCKOUT
    || (s.modeCode = 1 && s.sys.step ≤ 3)
  let old := (s.flag SAF_STAT_EN_A, s.flag SAF_STAT_EN_B)
  let s := ((s.putFlag SAF_STAT_EN_A a).putFlag SAF_STAT_EN_B b)
  let s := (s.putFlag SAF_STAT_SAFE_A (held && !a)).putFlag SAF_STAT_SAFE_B (held && !b)
  let s := if old.1 = a then s else s.mark (.output 0)
  let s := if old.2 = b then s else s.mark (.output 1)
  if old = (a, b) then s else s.emit (.safeOutputs a b)

/-- Bring the outputs to what R436 lays down; while FIR stops for a condition they are left to R444. -/
def State.syncOutputs (s : State) : State := if s.saf.stopping then s else s.drive s.wanted.1 s.wanted.2

/-- The gate of R436 at the end of every command: an output that is high stays high only while what R436 asks for holds; while FIR
stops for a condition the outputs are left to R444. It lowers an output and never raises one. -/
def State.gateOutputs (s : State) : State :=
  if s.saf.stopping then s
  else s.drive (s.flag SAF_STAT_EN_A && s.wanted.1) (s.flag SAF_STAT_EN_B && s.wanted.2)

/-- The answer of a command whose effect on `s` is `t`: the gate has acted, and the queue of commands is as the command found it. -/
def State.done (s t : State) : Host.Outcome State Fault Refusal := .next { t.gateOutputs with pending := s.pending }

end Sys2Proof.Machine
end

