-- ==== Sys2Proof/Machine/Access.lean ====
section
/-! DEFINITION. What stands before the effect of a register access (R11, R28, R47, R110, R393, R394, R457, R468, R499): the
offset, the view, the island, and the debug level. -/

namespace Sys2Proof.Machine

/-- Count an access in a field of HST_ACC_ERR_1 or HST_ACC_ERR_2, latch its BAR and offset, and raise vector 4 once per
1 ms (R457). -/
def State.countAccess (s : State) (f : Fld) (bar2 : Bool) (off : Nat) : State :=
  if !s.runs 3 then s
  else
    let s := s.incSat f
    let a := bit bar2 * 2 ^ 31 + off % 2 ^ 25
    let s := s.setReg HST_ACC_ADDR (BitVec.ofNat 32 a)
    if (s.evt.v4At.map fun t => decide (s.cycle < t + 800000)).getD false then s
    else ({ s with evt := { s.evt with v4At := some s.cycle } }).raiseData 4 a

/-- Barge channel of an offset in the per-channel part of BRG (R408). -/
def brgChannelOf (off : Nat) : Option Nat :=
  if 0x80100 ≤ off ∧ off < 0x80900 then some ((off - 0x80100) / 0x40)
  else if 0x80C00 ≤ off ∧ off < 0x80E00 then some ((off - 0x80C00) / 0x10)
  else if 0xA0000 ≤ off ∧ off < 0xC0000 then some ((off - 0xA0000) / 0x1000)
  else none

/-- Whether the crew view reaches a register (R11, R408). -/
def crewSees (off : Nat) : Bool :=
  match rowOf off with
  | none => false
  | some r =>
    match r.view with
    | .k => false
    | .kc => true
    | .brg => ((brgChannelOf off).map fun n => decide (8 ≤ n)).getD false

/-- Whether an access carries keeper rights (R394, R467). -/
def State.keeperRights (s : State) : By → Bool
  | .keeper => true
  | .crew => false
  | .firmware => true
  | .barge ch => s.flag (BRG_CH_STAT_RIGHTS ch.val)
  | .debug => true

/-- Whether the debug level lets a DBG register be reached (R468): DBG_STAT, DBG_CTL, the challenge and the response
always; at level 1 every read, and a write of what starts a memory read; at level 2 every write. -/
def State.debugReaches (s : State) (off : Nat) (write : Bool) : Bool :=
  off < 0x400000 || off = DBG_STAT || off = DBG_CTL || (DBG_CHAL 0 ≤ off && off ≤ DBG_CHAL 7)
    || (DBG_RESP 0 ≤ off && off ≤ DBG_RESP 23) || s.get DBG_STAT_LEVEL ≥ 2
    || (s.get DBG_STAT_LEVEL = 1 && (!write || off = DBG_MEM_ADDR || off = DBG_MEM_CMD))

/-- The bytes of a word that byte enables select. -/
def enabledBytes (be : BitVec 4) : Word :=
  (List.range 4).foldl (fun m i => if be.getLsbD i then m ||| (0xFF#32 <<< (8 * i)) else m) 0

/-- Memory Space Enable: bit 1 of the Command register of configuration space (R456). -/
def State.memEnabled (s : State) : Bool := ((Sparse.find s.evt.config 4).getD 0).getLsbD 1

/-- Whether an access from outside reaches the chip: PCIe needs HST (R499) and Memory Space Enable (R456), the TAP does not. -/
def State.reaches (s : State) : By → Bool
  | .keeper => s.runs 3 && s.memEnabled
  | .crew => s.runs 3 && s.memEnabled
  | .firmware => true
  | .barge _ => s.runs 3
  | .debug => true

/-- Whether a write is of a control register or the program window of a firmware channel, from the keeper view and not by
firmware or a firmware channel (R393). -/
def fwDenied (by_ : By) (off : Nat) : Bool :=
  match by_ with
  | .keeper => ((brgChannelOf off).map fun n => decide (n < 8)).getD false
  | .debug => ((brgChannelOf off).map fun n => decide (n < 8)).getD false
  | .barge ch => 8 ≤ ch.val && ((brgChannelOf off).map fun n => decide (n < 8)).getD false
  | .firmware => false
  | .crew => false

/-- A crew-view write to a K register (R110). -/
def State.crewDeny (s : State) (off : Nat) : State :=
  let s := s.incSat CMD_CREW_DENY_COUNT
  (s.setReg CMD_CREW_DENY_ADDR (BitVec.ofNat 32 (off % 2 ^ 25))).raise 36

/-- Whether an access comes through BAR2. -/
def isCrew : By → Bool
  | .crew => true
  | _ => false

/-- Whether an access comes from inside the chip, so that HST counts nothing (R28, R405). -/
def isInner : By → Bool
  | .barge _ => true
  | .firmware => true
  | _ => false

/-- Make a write of a register at an offset: where nothing stands against it, its effect `f`; otherwise it is discarded and
counted as its rule lays down. -/
def State.hostWrite (s : State) (by_ : By) (off : Nat) (f : State → State) : State :=
  if !s.reaches by_ then s
  else if (rowOf off).isNone then
    if isInner by_ then s else s.countAccess HST_ACC_ERR_1_UNMAPPED (isCrew by_) off
  else if !s.keeperRights by_ && !crewSees off then
    if isInner by_ then s else s.crewDeny off
  else if !s.runs (islandOf off) then
    if isInner by_ then s else s.countAccess HST_ACC_ERR_1_RESET_ISL (isCrew by_) off
  else if fwDenied by_ off then s.incSat BRG_FW_DENY_COUNT
  else if !s.debugReaches off true then s
  else f s

end Sys2Proof.Machine
end

