-- ==== Sys2Proof/Machine/Late.lean ====
section
/-! DEFINITION. SHD_STAT of the shadow sets and the cycle of their hand-overs (R35, R41): what falls in a hand-over's own cycle. -/

namespace Sys2Proof.Machine

/-- Address of SHD_STAT_n of a block (R41); SHD_ID_n stands 4 and COMMIT_n 8 above it. -/
def shdStat : ShdBlk → Nat → Nat
  | .brg, n => BRG_SHD_STAT n
  | .arb, n => ARB_SHD_STAT n
  | .asm, n => ASM_SHD_STAT n
  | .fir, n => FIR_SHD_STAT n
  | .cam, n => CAM_SHD_STAT n

/-- PENDING, LATE, SUPERSEDED, REFUSED and BY_IDLE of SHD_STAT (R41). -/
def shdBit (b : ShdBlk) (n k : Nat) : Fld := ⟨shdStat b n, k, 1⟩

/-- Whether a hand-over of set n of a block falls in this cycle (R35). -/
def State.handedNow (s : State) (b : ShdBlk) (n : Nat) : Bool := s.handed.any fun h => h = (b, n, s.cycle)

/-- Note a hand-over of set n of a block in this cycle (R35). -/
def State.noteHanded (s : State) (b : ShdBlk) (n : Nat) : State :=
  { s with handed := (b, n, s.cycle) :: s.handed.filter fun h => !(h.1 = b && h.2.1 = n) }

/-- Set LATE of a set (R35, R41). -/
def State.setLate (s : State) (b : ShdBlk) (n : Nat) : State := s.putFlag (shdBit b n 30) true

end Sys2Proof.Machine
end

