-- ==== Sys2Proof/Machine/Nozzle.lean ====
section
/-! DEFINITION. The nozzle table (R183 to R196): records, their fields, the change buffer and the ASM_NT commands. -/

namespace Sys2Proof.Machine

/-- A nozzle record. -/
abbrev Rec := BitVec 128

/-- Number of the last record (R183). -/
def lastRecord : Nat := 2635775

/-- Record number of (channel, die, row, column) (R183). -/
def recordIndex (c d j m : Nat) : Nat := ((c * 52 + d) * 6 + j) * 1056 + m

/-- The default record of R184: HEALTH 255, FLANK 8, every other field 0. -/
def defaultRec : Rec := BitVec.ofNat 128 (255 * 2 ^ 32 + 8 * 2 ^ 104)

/-- The record that replaces one with an uncorrectable error: defaults with STATE OFF (R189). -/
def offRec : Rec := BitVec.ofNat 128 (5 + 255 * 2 ^ 32 + 8 * 2 ^ 104)

/-- Lowest bit and width of the fields 0 to 11 (R184). -/
def recFields : List (Nat × Nat) :=
  [(0, 3), (3, 3), (6, 6), (12, 6), (18, 6), (24, 8), (32, 8), (40, 8), (48, 8), (56, 16), (72, 32), (104, 4)]

/-- Field i of a record. -/
def recGet (r : Rec) (i : Nat) : Nat :=
  let f := recFields.getD i (0, 0)
  r.toNat / 2 ^ f.1 % 2 ^ f.2

/-- A record with field i replaced. -/
def recPut (r : Rec) (i n : Nat) : Rec :=
  let f := recFields.getD i (0, 0)
  let m := BitVec.ofNat 128 ((2 ^ f.2 - 1) * 2 ^ f.1)
  (r &&& ~~~ m) ||| BitVec.ofNat 128 (n % 2 ^ f.2 * 2 ^ f.1)

/-- A record from four words, word 0 lowest (R184); reserved bits read 0. -/
def recOfWords (w : List Word) : Rec :=
  BitVec.ofNat 128 (((w.getD 0 0).toNat + (w.getD 1 0).toNat * 2 ^ 32 + (w.getD 2 0).toNat * 2 ^ 64 +
    (w.getD 3 0).toNat * 2 ^ 96) % 2 ^ 108)

/-- The four words of a record. -/
def recWords (r : Rec) : List Word := (List.range 4).map fun i => BitVec.ofNat 32 (r.toNat / 2 ^ (32 * i))

/-- DACC as stage 3 takes it: a value outside −64 to 63 acts as the nearer limit (R193). -/
def daccOf (n : Nat) : Int := clampInt (-64) 63 (signed 8 n)

/-- A record with the fields of a mask taken from another (R191, R193). -/
def recMerge (old : Rec) (mask : BitVec 12) (v : Rec) : Rec :=
  (List.range 12).foldl (fun r i =>
    if mask.getLsbD i then
      if i = 5 then recPut r 5 (unsigned 8 (daccOf (recGet v 5))) else recPut r i (recGet v i)
    else r) old

/-- The record of a number in a table of differences from the default. -/
def recFind : List (Nat × Rec) → Nat → Rec
  | [], _ => defaultRec
  | p :: t, n => if p.1 = n then p.2 else recFind t n

/-- Insert a record in rising order of number. -/
def recInsert : List (Nat × Rec) → Nat → Rec → List (Nat × Rec)
  | [], n, r => [(n, r)]
  | p :: t, n, r =>
    if n < p.1 then (n, r) :: p :: t
    else if n = p.1 then (n, r) :: t
    else p :: recInsert t n r

/-- A table with one record written, keeping only records that differ from the default. -/
def recSet (t : List (Nat × Rec)) (n : Nat) (r : Rec) : List (Nat × Rec) :=
  if r = defaultRec then t.filter fun p => p.1 ≠ n else recInsert t n r

/-- The active record of a number. -/
def State.nozzle (s : State) (n : Nat) : Rec := recFind s.asm.table n

/-- Write an active record. -/
def State.setNozzle (s : State) (n : Nat) (r : Rec) : State := { s with asm := { s.asm with table := recSet s.asm.table n r } }

/-- Show the change buffer's use in ASM_NT_STAT; FULL reads 1 too once a change has found it full, until entries leave (R196). -/
def State.syncBuf (s : State) : State :=
  let n := s.asm.changes.length
  (s.put ASM_NT_STAT_BUF_USED n).putFlag ASM_NT_STAT_FULL (decide (65536 ≤ n) || s.asm.fillRaised)

/-- Free entries of the change buffer (R191). -/
def State.bufRoom (s : State) : Nat := 65536 - s.asm.changes.length

/-- A change found the buffer full: FULL, and vector 96 once per fill (R196). -/
def State.bufFull (s : State) : State :=
  if s.asm.fillRaised then s
  else (({ s with asm := { s.asm with fillRaised := true } }).syncBuf).raise 96

/-- Stage one change to a record, in the set of its channel (R191); the buffer has room. One in the cycle of a hand-over of the set
sets LATE (R35, R192). -/
def State.stageChange (s : State) (index : Nat) (mask : BitVec 12) (v : Rec) : State :=
  let ch : Change := ⟨index / 329472, index, mask, v, false⟩
  let s := if s.handedNow .asm ch.set then s.setLate .asm ch.set else s
  ({ s with asm := { s.asm with changes := s.asm.changes ++ [ch] } }).syncBuf

/-- Apply the committed changes of a set in order of arrival (R193); the buffer drains (R196). -/
def State.applyChanges (s : State) (set : Nat) : State :=
  let mine := s.asm.changes.filter fun c => c.set = set && c.committed
  let rest := s.asm.changes.filter fun c => !(c.set = set && c.committed)
  let t := mine.foldl (fun t c => recSet t c.index (recMerge (recFind t c.index) c.mask c.value)) s.asm.table
  ({ s with asm := { s.asm with table := t, changes := rest, fillRaised := s.asm.fillRaised && mine.isEmpty } }).syncBuf

/-- Mark the changes of a set as committed, or as staged only. -/
def State.markChanges (s : State) (set : Nat) (committed : Bool) : State :=
  { s with asm := { s.asm with
      changes := s.asm.changes.map fun c => if c.set = set then { c with committed := committed } else c } }

/-- Refuse an ASM_NT_CMD (R190, R196). -/
def State.ntError (s : State) (cause : Nat) : State :=
  (s.putFlag ASM_NT_STAT_ERR true).put ASM_NT_STAT_ERR_CAUSE cause

/-- Fill every record with the defaults (R188). -/
def State.ntFill (s : State) : State :=
  ({ s with asm := { s.asm with table := [] } }).putFlag ASM_NT_STAT_INIT_DONE true

/-- Whether any channel is in Prime, Print, Degraded or Drain. -/
def State.anyPrinting (s : State) : Bool := (List.range 8).any fun c => 6 ≤ s.chMode c && s.chMode c ≤ 9

/-- Advance INDEX by 1 where INC is set (R190). -/
def State.ntInc (s : State) (inc : Bool) : State := if inc then s.incWrap ASM_NT_INDEX_INDEX else s

/-- The effect of a write of ASM_NT_CMD (R188, R190, R191). -/
def State.ntCommand (s : State) (v : Word) : State :=
  let op := bits v 0 2
  let inc := bits v 8 1 = 1
  let n := s.get ASM_NT_INDEX_INDEX
  if op = 0 then s
  else if op = 3 then
    if s.anyPrinting then s.ntError 2 else s.ntFill
  else if n > lastRecord then s.ntError 1
  else if op = 1 then
    let w := recWords (s.nozzle n)
    ((List.range 4).foldl (fun s i => s.setReg (ASM_NT_RDATA i) (w.getD i 0)) s).ntInc inc
  else if s.bufRoom = 0 then (s.ntError 3).bufFull
  else
    let v := recOfWords ((List.range 4).map fun i => s.reg (ASM_NT_WDATA i))
    (s.stageChange n (BitVec.ofNat 12 (s.get ASM_NT_MASK_FIELDS)) v).ntInc inc

/-- One 32-byte entry at ASM_NT_WPORT (R195, R196). -/
def State.ntEntry (s : State) (w : List Word) : State :=
  let n := bits (w.getD 0 0) 0 22
  if n > lastRecord then s.incSat ASM_NT_STAT_DROPPED
  else if s.bufRoom = 0 then (s.incSat ASM_NT_STAT_DROPPED).bufFull
  else s.stageChange n (BitVec.ofNat 12 (bits (w.getD 1 0) 0 12)) (recOfWords (w.drop 4))

/-- The four words the next 16-byte read of ASM_NT_RPORT returns (R195). -/
def State.ntPortWords (s : State) : List Word :=
  let n := s.get ASM_NT_RP_START_INDEX
  if n > lastRecord then [0, 0, 0, 0] else recWords (s.nozzle n)

/-- RP_START advances by 1 and wraps from 4,194,303 to 0 (R195). -/
def State.ntPortAdvance (s : State) : State := s.incWrap ASM_NT_RP_START_INDEX

/-- A record error found by assembly (R189). -/
def State.ntEcc (s : State) (n : Nat) (correctable : Bool) : State :=
  let s := (s.put ASM_NT_ECC_IDX_INDEX n).putFlag ASM_NT_ECC_IDX_UE (!correctable)
  if correctable then s.incSat ASM_NT_ECC_CE
  else (((s.setNozzle n offRec).incSat ASM_NT_ECC_UE)).raise 97

end Sys2Proof.Machine
end

