-- ==== Sys2Proof/Machine/Shadow.lean ====
section
/-! DEFINITION. Shadow sets (R34 to R41): COMMIT, DISCARD, and the hand-over of a pending set. Staged words stand in the
register file and active words beside it; a COMMIT takes a snapshot of the staged words of its set. -/

namespace Sys2Proof.Machine

/-- Sets of a block: ARB 4, BRG 32, ASM 9, FIR 8, CAM 17. -/
def shdCount : ShdBlk → Nat
  | .brg => 32
  | .arb => 4
  | .asm => 9
  | .fir => 8
  | .cam => 17

/-- Whether an address holds a register of set n of a block (the Meaning columns of R209, R240, R322, R392, R408). -/
def inSet (b : ShdBlk) (n a : Nat) : Bool :=
  match b with
  | .brg => a = BRG_CH_ENTRY n || (0xA0000 + 0x1000 * n ≤ a && a < 0xA1000 + 0x1000 * n)
  | .arb => a = ARB_A_CTL n || (ARB_PORT_CFG n 0 ≤ a && a < ARB_PORT_CFG n 36)
  | .asm => if n < 8 then ASM_CH_CFG n ≤ a && a ≤ ASM_CH_STITCH_HI n else a = ASM_ROT_LO || a = ASM_ROT_HI
  | .fir => (FIR_CH_OFFSET_LO n ≤ a && a ≤ FIR_CH_STROBE_T n) || (FIR_CH_ROWPOS n 0 ≤ a && a ≤ FIR_CH_ROWPOS n 5)
      || (FIR_DIEPOS n 0 ≤ a && a ≤ FIR_DIEPOS n 51)
  | .cam => if n < 16 then CAM_SNS_BLACK n ≤ a && a ≤ CAM_SNS_LUT n
      else CAM_OS_CFG 0 ≤ a && a < CAM_OS_CFG 4 && (a - CAM_OS_CFG 0) % 32 < 12

/-- The set that an address belongs to, if any. -/
def setOf (a : Nat) : Option (ShdBlk × Nat) :=
  [ShdBlk.brg, .arb, .asm, .fir, .cam].findSome? fun b =>
    ((List.range (shdCount b)).find? fun n => inSet b n a).map fun n => (b, n)

/-- The pending set n of a block. -/
def State.pendingSet (s : State) (b : ShdBlk) (n : Nat) : Option Pending :=
  s.shadows.find? fun p => p.blk = b && p.n = n

/-- The pending sets without set n of a block. -/
def State.dropSet (s : State) (b : ShdBlk) (n : Nat) : State :=
  { s with shadows := s.shadows.filter fun p => !(p.blk = b && p.n = n) }

/-- Channels a set covers (R192, R225): for sets of other boundaries, none. -/
def State.covers (s : State) (b : ShdBlk) (n : Nat) : BitVec 8 :=
  match b with
  | .asm => if n < 8 then BitVec.ofNat 8 (2 ^ n) else s.sys.channels
  | .fir => BitVec.ofNat 8 (2 ^ n)
  | _ => 0

/-- The staged words of a set become active (R34). -/
def State.activate (s : State) (b : ShdBlk) (n : Nat) (words : List (Nat × Word)) : State :=
  let s := { s with active := s.active.filter fun p => !inSet b n p.1 }
  words.foldl (fun s p => s.setAct p.1 p.2) s

/-- The effect of a set's hand-over on one channel (R192 to R194): its words, and for ASM set c the nozzle changes; set 8
holds the rotation of each channel on its own. -/
def State.handWords (s : State) (p : Pending) (c : Nat) : State :=
  let s := (s.activate p.blk p.n p.words).noteHanded p.blk p.n
  if p.blk = .asm then
    if p.n < 8 then s.applyChanges p.n
    else { s with asm := { s.asm with rot := s.asm.rot.set c (s.act ASM_ROT_LO, s.act ASM_ROT_HI) } }
  else s

/-- A hand-over of CAM set n puts the tag of its values in force (R308). -/
def State.takeTag (s : State) (n : Nat) : State :=
  match (s.cam.sensors[n]?).bind fun x => x.coming with
  | none => s
  | some g =>
    let s := { s with cam := { s.cam with sensors := s.cam.sensors.modify n fun x => { x with tag := g, coming := none } } }
    s.put (CAM_SNS_TAG_STAG n) g.toNat

/-- A COMMIT of CAM set n takes the tag of the values staged in it along (R308). -/
def State.bindTag (s : State) (n : Nat) : State :=
  let take (x : Sensor) : Sensor := { x with coming := x.staged <|> x.coming, staged := none }
  { s with cam := { s.cam with sensors := s.cam.sensors.modify n take } }

/-- A DISCARD of CAM set n leaves its values staged, and their tag with them. -/
def State.freeTag (s : State) (n : Nat) : State :=
  let leave (x : Sensor) : Sensor := { x with staged := x.staged <|> x.coming, coming := none }
  { s with cam := { s.cam with sensors := s.cam.sensors.modify n leave } }

/-- The end of a hand-over (R41): PENDING clears, HANDOVERS counts, BY_IDLE and the identity are shown. At an idle boundary
the identity is left as it was (log entry 10, DEDUCED). -/
def State.finishSet (s : State) (b : ShdBlk) (n : Nat) (id : Option Word) : State :=
  let s := s.dropSet b n
  let s := (s.putFlag (shdBit b n 31) false).putFlag (shdBit b n 27) id.isNone
  let s := s.incWrap ⟨shdStat b n, 0, 16⟩
  let s := if b = .cam then s.takeTag n else s
  match id with
  | some v => s.setReg (shdStat b n + 4) v
  | none => s

/-- Hand a pending set over whole, at a boundary of the identity given or at an idle boundary. -/
def State.handSet (s : State) (p : Pending) (id : Option Word) : State :=
  let left := bitList p.left
  let s := if left.isEmpty then s.handWords p 0 else left.foldl (fun s c => s.handWords p c) s
  s.finishSet p.blk p.n id

/-- Hand over set n of a block, if pending; a COMMIT of this very cycle waits for the next boundary (R35). -/
def State.handOver (s : State) (b : ShdBlk) (n : Nat) (id : Word) : State :=
  match s.pendingSet b n with
  | some p => if p.at_ < s.cycle then s.handSet p (some id) else s.setLate b n
  | none => s

/-- Hand over the sets of a page-bound block on one channel, at the boundary into the page of run number `seq` (R37); a COMMIT of this
very cycle waits for the page after (R35). -/
def State.handChannel (s : State) (b : ShdBlk) (c seq : Nat) (id : Word) : State :=
  s.shadows.foldl (fun s p =>
    if !(p.blk = b && p.left.getLsbD c && p.seq ≤ seq) then s
    else if !p.begun && s.cycle ≤ p.at_ then
      { s.setLate b p.n with shadows := s.shadows.map fun (q : Pending) =>
          if q.blk = b && q.n = p.n then { q with seq := seq + 1 } else q }
    else
      let s := s.handWords p c
      let left := putBit p.left c false
      if left = 0 then s.finishSet b p.n (some id)
      else { s with shadows := s.shadows.map fun q =>
               if q.blk = b && q.n = p.n then { q with left := left, begun := true } else q }) s

/-- An idle boundary hands over every pending set (R39). -/
def State.handIdle (s : State) : State := s.shadows.foldl (fun s p => s.handSet p none) s

/-- Discard the pending sets of a block (R40). -/
def State.clearSets (s : State) (b : ShdBlk) : State :=
  s.shadows.foldl (fun s p =>
    if p.blk = b then
      let s := if b = .asm then s.markChanges p.n false else s
      (s.dropSet b p.n).putFlag (shdBit b p.n 31) false
    else s) s

/-- Whether a COMMIT of this set hands over at once, with BY_IDLE: an ASM set while no channel it covers prints (R194), a
program set while its channel is neither RUN nor WAIT (R407). -/
def State.quickSet (s : State) (b : ShdBlk) (n : Nat) : Bool :=
  match b with
  | .asm => (bitList (s.covers b n)).all fun c => !(6 ≤ s.chMode c && s.chMode c ≤ 9)
  | _ => false

/-- A write of COMMIT_n (R35 to R38): `same` where it completes in the cycle of a hand-over. -/
def State.commitSet (s : State) (b : ShdBlk) (n : Nat) (discard same : Bool) : State :=
  let s := if same then s.setLate b n else s
  let refuse := s.putFlag (shdBit b n 28) true
  let take (s : State) : State :=
    let s := s.dropSet b n
    let s := if b = .asm && n < 8 then s.markChanges n true else if b = .cam then s.bindTag n else s
    let p : Pending :=
      { blk := b, n := n, words := s.regs.filter fun q => inSet b n q.1, left := s.covers b n, begun := false,
        seq := if b = .asm && n = 8 then s.asm.seq + 1 else 0, at_ := s.cycle }
    let s := ({ s with shadows := s.shadows ++ [p] }).putFlag (shdBit b n 31) true
    if s.quickSet b n then s.handSet p none else s
  if discard then refuse
  else
    match s.pendingSet b n with
    | some p => if p.begun then refuse else take (s.putFlag (shdBit b n 29) true)
    | none => take s

/-- A COMMIT that the chip's own engines or its firmware make: it falls in the hand-over's cycle where one has just been made (R35). -/
def State.commitNow (s : State) (b : ShdBlk) (n : Nat) : State := s.commitSet b n false (s.handedNow b n)

/-- A write of COMMIT_n with DISCARD alone (R38, R41). -/
def State.discardSet (s : State) (b : ShdBlk) (n : Nat) (same : Bool) : State :=
  let s := if same then s.setLate b n else s
  match s.pendingSet b n with
  | none => s
  | some p =>
    if p.begun then s.putFlag (shdBit b n 28) true
    else
      let s := if b = .asm && n < 8 then s.markChanges n false else if b = .cam then s.freeTag n else s
      (s.dropSet b n).putFlag (shdBit b n 31) false

end Sys2Proof.Machine
end

