-- ==== Sys2Proof/Machine/Arbiters.lean ====
section
/-! DEFINITION. The four arbiters (R375 to R383) and the lock table (R384 to R391). The chip's own engines take and
release their locks within one command, so no lock of theirs is held between commands (log entry 15, DESIGN CHOICE). -/

namespace Sys2Proof.Machine

/-! ## Arbiters -/

/-- Arbiter a. -/
def State.arbiter (s : State) (a : Nat) : Arbiter := s.arb.arbiters.getD a ⟨0, 0, 0, [], [], 0, 0, 0, [], []⟩

/-- Change arbiter a. -/
def State.updArbiter (s : State) (a : Nat) (f : Arbiter → Arbiter) : State :=
  { s with arb := { s.arb with arbiters := s.arb.arbiters.set a (f (s.arbiter a)) } }

/-- Paths of an arbiter (R375). -/
def arbPaths (a : Nat) : Nat := [32, 1, 16, 1].getD a 0

/-- Island whose clock an arbiter counts (R375). -/
def arbIsland (a : Nat) : Nat := [5, 5, 7, 3].getD a 5

/-- Its island clock against the timebase: 1.2 GHz or 1.0 GHz to 800 MHz (R375). -/
def arbRate (a : Nat) : Nat × Nat := if a < 2 then (3, 2) else (5, 4)

/-- An arbiter's clock in this cycle of the timebase. -/
def State.arbNow (s : State) (a : Nat) : Nat := max (s.arbiter a).clock (s.cycle * (arbRate a).1 / (arbRate a).2)

/-- An arbiter's clock, and with it the timebase, comes to stand at a cycle of it, where it does not stand later. -/
def State.arbTickTo (s : State) (a clock : Nat) : State :=
  let c := max (s.arbNow a) clock
  (s.updArbiter a fun x => { x with clock := c }).tickTo (c * (arbRate a).2 / (arbRate a).1)

/-- Window length in force (R392). -/
def State.windowLength (s : State) (a : Nat) : Nat := 2 ^ max 8 (min 16 (s.getA (ARB_A_CTL_WINDOW_LOG2 a)))

/-- Class in force of a port: 0 iron, 1 copper, 2 tin (R392). -/
def State.portClass (s : State) (a p : Nat) : Nat := min 2 (s.getA (ARB_PORT_CFG_CLASS a p))

/-- Share in force of a port; 0 acts as 1 (R392). -/
def State.portShare (s : State) (a p : Nat) : Nat := max 1 (s.getA (ARB_PORT_CFG_SHARE a p))

/-- TIN_HOLD in force (R392). -/
def State.tinHold (s : State) (a : Nat) : Nat := max 64 (min 1024 (s.getA (ARB_A_CTL_TIN_HOLD a)))

/-- Requests that target a path, oldest first; among equally old the lower port first. -/
def Arbiter.forPath (x : Arbiter) (path : Nat) : List ArbReq := x.reqs.filter fun r => r.path = path

/-- The oldest of some requests, the lower port on a tie (R377). -/
def oldest (l : List ArbReq) : Option ArbReq :=
  l.foldl (fun o r => match o with
    | none => some r
    | some q => if r.at_ < q.at_ ∨ (r.at_ = q.at_ ∧ r.port < q.port) then some r else some q) none

/-- The next request of a round-robin after the port granted last: the lowest distance above it. -/
def roundRobin (last : Nat) (l : List ArbReq) : Option ArbReq :=
  l.foldl (fun o r => match o with
    | none => some r
    | some q =>
      let d (x : ArbReq) := (x.port + 36 - last - 1) % 36
      if d r < d q ∨ (d r = d q ∧ r.at_ < q.at_) then some r else some q) none

/-- The tin request of most credit left, the lowest port on a tie (R377). -/
def mostCredit (credit : List Nat) (l : List ArbReq) : Option ArbReq :=
  l.foldl (fun o r =>
    if credit.getD r.port 0 = 0 then o
    else match o with
    | none => some r
    | some q =>
      let cr := credit.getD r.port 0
      let cq := credit.getD q.port 0
      if cr > cq ∨ (cr = cq ∧ (r.port < q.port ∨ (r.port = q.port ∧ r.at_ < q.at_))) then some r else some q) none

/-- How a request came to be granted (R377). -/
inductive GrantKind where
  | iron
  | longest
  | copper
  | tin
  | leftover
deriving DecidableEq, Repr

/-- The grant of a path (R377). -/
def State.pickGrant (s : State) (a path : Nat) : Option (GrantKind × ArbReq) :=
  let x := s.arbiter a
  let l := x.forPath path
  let iron := l.filter fun r => s.portClass a r.port = 0
  let copper := l.filter fun r => s.portClass a r.port = 1 && !s.flag (ARB_PORT_CFG_MASKED a r.port)
  let tin := l.filter fun r => s.portClass a r.port = 2
  match roundRobin x.lastIron iron with
  | some r => some (.iron, r)
  | none =>
    if x.nonIron + 1 = s.get (ARB_A_STAT_LW_EVERY a) then (oldest l).map fun r => (.longest, r)
    else
      match roundRobin x.lastCopper copper with
      | some r => some (.copper, r)
      | none =>
        match mostCredit x.credit tin with
        | some r => some (.tin, r)
        | none => (oldest l).map fun r => (.leftover, r)

/-- Account for a copper grant (R377): at SHARE the port is masked to the window's end. -/
def State.countCopper (s : State) (a p : Nat) : State :=
  let n := (s.arbiter a).used.getD p 0 + 1
  let s := s.updArbiter a fun x => { x with used := x.used.set p n }
  let s := s.liveAdd (ARB_A_STB_INFO a) (ARB_A_STB_GRANT_COPPER_COUNT a) 1
  if n = s.portShare a p then
    (s.putFlag (ARB_PORT_CFG_MASKED a p) true).liveAdd (ARB_A_STB_INFO a) (ARB_A_STB_COPPER_MASKED_COUNT a) 1
  else s

/-- Account for a tin grant (R377). -/
def State.countTin (s : State) (a p : Nat) : State :=
  let s := s.updArbiter a fun x => { x with credit := x.credit.set p (x.credit.getD p 0 - 1) }
  s.liveAdd (ARB_A_STB_INFO a) (ARB_A_STB_GRANT_TIN_COUNT a) 1

/-- Account for an iron grant (R381): the wait since the request arrived. -/
def State.countIron (s : State) (a p wait : Nat) : State :=
  let s := s.updArbiter a fun x => { x with lastIron := p }
  let s := s.liveAdd (ARB_A_STB_INFO a) (ARB_A_STB_GRANT_IRON_COUNT a) 1
  let s := s.liveMax (ARB_A_STB_IRON_WAIT_MAX_COUNT a) wait
  s.put (ARB_A_IRON_WORST_CYCLES a) (max (s.get (ARB_A_IRON_WORST_CYCLES a)) (min 65535 wait))

/-- Show the requests pending. -/
def State.syncArbiter (s : State) (a : Nat) : State :=
  s.put (ARB_A_STAT_PENDING a) (min 65535 (s.arbiter a).reqs.length)

/-- Grant a path to one pending request, if any targets it (R377). -/
def State.grantPath (s : State) (a path : Nat) : State :=
  match s.pickGrant a path with
  | none => s
  | some (k, r) =>
    let s := s.updArbiter a fun x => { x with reqs := x.reqs.erase r, holds := x.holds ++ [{ r with held := x.clock }] }
    match k with
    | .iron => s.countIron a r.port ((s.arbiter a).clock - r.at_)
    | _ =>
      let s := s.updArbiter a fun x => { x with
        nonIron := if k = .longest then 0 else x.nonIron + 1
        lastCopper := if s.portClass a r.port = 1 then r.port else x.lastCopper }
      let s := if k = .longest then s.liveAdd (ARB_A_STB_INFO a) (ARB_A_STB_GRANT_LW_COUNT a) 1 else s
      if s.portClass a r.port = 1 then s.countCopper a r.port else s.countTin a r.port

/-- Whether a hold has reached the bound of its class (R379): 64 or 32 cycles of an iron port and 128 of a copper port. -/
def State.holdEnds (s : State) (a : Nat) (h : ArbReq) : Bool :=
  let age := (s.arbiter a).clock - h.held
  match s.portClass a h.port with
  | 0 => (if a = 2 then 32 else 64) ≤ age
  | 1 => 128 ≤ age
  | _ => false

/-- The arrivals of a cycle, and the holds that have ended: those on the paths that are released, and those at their bound (R379). -/
def State.arbArrive (s : State) (a : Nat) (arrivals : List (Nat × Nat)) (free : BitVec 32) : State :=
  let ok := arrivals.filter fun (q : Nat × Nat) => q.1 < arbPorts a && q.2 < arbPaths a
  s.updArbiter a fun x => { x with
    reqs := x.reqs ++ ok.map fun (q : Nat × Nat) => ArbReq.mk q.1 q.2 x.clock 0
    holds := x.holds.filter fun (h : ArbReq) => !free.getLsbD h.path && !s.holdEnds a h }

/-- The paths that no hold is on, in ascending order. -/
def State.freePaths (s : State) (a : Nat) : List Nat :=
  (List.range (arbPaths a)).filter fun p => !(s.arbiter a).holds.any fun h => h.path = p

/-- A cycle of an arbiter (R377): each free path, in ascending order, grants one request. -/
def State.arbCycle (s : State) (a cycles : Nat) (arrivals : List (Nat × Nat)) (free : BitVec 32) : State :=
  if !s.runs (arbIsland a) then s
  else
    let s := (s.arbTickTo a (s.arbNow a + cycles)).arbArrive a arrivals free
    (s.freePaths a).foldl (fun s p => s.grantPath a p) s |>.syncArbiter a

/-- Start a window: quotas, masks and credits (R378). -/
def State.newWindow (s : State) (a : Nat) : State :=
  let s := s.updArbiter a fun x => { x with
    window := x.window + 1
    windowAt := x.clock
    used := List.replicate 36 0
    credit := (List.range 36).map fun p => if s.portClass a p = 2 then s.portShare a p else 0 }
  (List.range (arbPorts a)).foldl (fun s p => s.putFlag (ARB_PORT_CFG_MASKED a p) false) s

/-- A window boundary, at the end of the window's length (R378, R382, R383, R392): the window's bank latches, set a hands over, and a new window starts. The
identity shown for the hand-over is the number of the window that begins (log entry 16, DEDUCED). -/
def State.windowBoundary (s : State) (a cycles : Nat) : State :=
  if !s.runs (arbIsland a) then s
  else
    let s := s.arbTickTo a (max (s.arbNow a + cycles) ((s.arbiter a).windowAt + s.windowLength a))
    let w := (s.arbiter a).window
    let s := s.latchBank (ARB_A_STB_SEQ a) 7 (BitVec.ofNat 32 w) 6 0 false
    let s := s.handOver .arb a (BitVec.ofNat 32 (w + 1))
    s.newWindow a

/-- A tin hold that has reached TIN_HOLD cycles is cut (R380): its remainder queues again with its age, the port's CUT bit is set, and
the path grants anew. -/
def State.cutHold (s : State) (a path : Nat) : State :=
  match (s.arbiter a).holds.find? fun h => h.path = path && s.portClass a h.port = 2 with
  | none => s
  | some h =>
    let s := s.arbTickTo a (h.held + s.tinHold a)
    let s := s.updArbiter a fun x => { x with holds := x.holds.erase h, reqs := x.reqs ++ [{ h with held := 0 }] }
    let s := ((s.grantPath a path).syncArbiter a).liveAdd (ARB_A_STB_INFO a) (ARB_A_STB_TIN_CUT_COUNT a) 1
    if s.flag (ARB_PORT_CFG_CUT a h.port) then s
    else (s.putFlag (ARB_PORT_CFG_CUT a h.port) true).raise 243

/-- The arbiters of an island that is reset drop their requests and restart their counters. -/
def State.resetArbiters (s : State) (island : Nat) : State :=
  (List.range 4).foldl (fun s a =>
    if arbIsland a = island then
      (s.updArbiter a fun x => ⟨x.clock, x.windowAt, 0, [], [], 0, 35, 35, List.replicate 36 0, arbShares a⟩).syncArbiter a
    else s) s

/-- An arbiter's first window begins when its island's clock starts. -/
def State.startArbiters (s : State) (island : Nat) : State :=
  (List.range 4).foldl (fun s a =>
    if arbIsland a = island then s.updArbiter a fun x => { x with clock := s.arbNow a, windowAt := s.arbNow a } else s) s

/-! ## Locks -/

/-- Lock i. -/
def State.lock (s : State) (i : Nat) : Lock := s.arb.locks.getD i ⟨none, false, [], 0⟩

/-- Change lock i. -/
def State.updLock (s : State) (i : Nat) (f : Lock → Lock) : State :=
  { s with arb := { s.arb with locks := s.arb.locks.set i (f (s.lock i)) } }

/-- A host agent as a requester of island HST (R390). -/
def hostReq (o : Nat) : LockReq := ⟨3, o⟩

/-- Show a lock in ARB_LK_i_STAT, and the locks held in ARB_LOCK_STAT. -/
def State.syncLock (s : State) (i : Nat) : State :=
  let l := s.lock i
  let h := l.holder.getD ⟨0, 0⟩
  let s := s.putFlag (ARB_LK_STAT_HELD i) l.holder.isSome
  let s := s.putFlag (ARB_LK_STAT_BROKEN i) l.broken
  let s := s.put (ARB_LK_STAT_ISLAND i) h.island
  let s := s.put (ARB_LK_STAT_REQ_ID i) h.id
  let s := s.put (ARB_LK_STAT_WAITERS i) (min 255 l.waiters.length)
  s.put ARB_LOCK_STAT_HELD (s.arb.locks.filter fun l => l.holder.isSome).length

/-- Show what an owner holds and awaits in ARB_HL_OWN_o. -/
def State.syncOwner (s : State) (o : Nat) : State :=
  if o = 0 then s
  else
    let held := ((List.range 16).map fun h => if (s.lock (16 + h)).holder = some (hostReq o) then 2 ^ h else 0).sum
    let await := (List.range 16).find? fun h => (s.lock (16 + h)).waiters.contains (hostReq o)
    let s := s.put (ARB_HL_OWN_HELD o) held
    let s := s.putFlag (ARB_HL_OWN_WAITING o) await.isSome
    s.put (ARB_HL_OWN_AWAIT o) (await.getD 0)

/-- Write an owner's RESULT. -/
def State.lockResult (s : State) (r : LockReq) (n : Nat) : State :=
  if r.island = 3 then (s.put (ARB_HL_OWN_RESULT r.id) n).syncOwner r.id else s

/-- Grant a lock (R385): GRANTED, or BROKEN where it is marked so. -/
def State.grantLock (s : State) (i : Nat) (r : LockReq) : State :=
  let s := { s with arb := { s.arb with grants := s.arb.grants + 1 } }
  let s := s.updLock i fun l => { l with holder := some r, granted := s.arb.grants }
  (s.syncLock i).lockResult r (if (s.lock i).broken then 2 else 1)

/-- Grant a free lock to its first waiter (R385). -/
def State.serveLock (s : State) (i : Nat) : State :=
  match (s.lock i).holder, (s.lock i).waiters with
  | none, r :: t => (s.updLock i fun l => { l with waiters := t }).grantLock i r
  | _, _ => s

/-- Whether a request is refused by rank (R386). -/
def State.lockOrder (s : State) (i : Nat) (r : LockReq) : Bool :=
  (List.range 32).any fun j =>
    lockArbiter j = lockArbiter i && (s.lock j).holder = some r && lockRank i ≤ lockRank j

/-- Whether a requester waits for some lock. -/
def State.lockWaits (s : State) (r : LockReq) : Bool := s.arb.locks.any fun l => l.waiters.contains r

/-- Acquire a lock (R385, R386, R390). -/
def State.acquire (s : State) (i : Nat) (r : LockReq) : State :=
  if s.lockWaits r then s.lockResult r 6
  else if s.lockOrder i r then ((s.incSat ARB_LOCK_STAT_ORDER).raise 241).lockResult r 3
  else if (s.lock i).holder.isNone then s.grantLock i r
  else (((s.updLock i fun l => { l with waiters := l.waiters ++ [r] }).syncLock i).lockResult r 0).mark (.lockWait r.id)

/-- Release a lock, or withdraw the wait for it (R390); a lock still BROKEN stays so (R391). -/
def State.release (s : State) (i : Nat) (r : LockReq) : State :=
  if (s.lock i).holder = some r then
    let s := ((s.updLock i fun l => { l with holder := none }).syncLock i).lockResult r 0
    s.serveLock i
  else if (s.lock i).waiters.contains r then
    ((s.updLock i fun l => { l with waiters := l.waiters.erase r }).syncLock i).lockResult r 7
  else s.lockResult r 5

/-- Clear BROKEN of a lock the owner holds (R390). -/
def State.repaired (s : State) (i : Nat) (r : LockReq) : State :=
  if (s.lock i).holder = some r then
    ((s.updLock i fun l => { l with broken := false }).syncLock i).lockResult r 8
  else s.lockResult r 5

/-- Release every lock of some requesters BROKEN and withdraw their waits (R389). -/
def State.breakLocks (s : State) (who : LockReq → Bool) : State :=
  let s := (List.range 32).foldl (fun s i =>
    (s.updLock i fun l => { l with waiters := l.waiters.filter fun r => !who r }).syncLock i) s
  let s := (List.range 32).foldl (fun s i =>
    match (s.lock i).holder with
    | none => s
    | some r =>
      if who r then
        let s := (s.updLock i fun l => { l with holder := none, broken := true }).syncLock i
        (s.incSat ARB_LOCK_STAT_BROKEN).raiseData 242 i
      else s) s
  let s := (List.range 32).foldl (fun s i => s.serveLock i) s
  (List.range 16).foldl (fun s o => s.syncOwner o) s

/-- The abort of R387: of the locks held by waiting requesters, the one granted most recently; its
holder's request ends with LOCK_ABORT. -/
def State.lockAbort (s : State) : State :=
  let held := (List.range 32).filterMap fun i =>
    match (s.lock i).holder with
    | some r => if s.lockWaits r then some ((s.lock i).granted, r) else none
    | none => none
  match held.foldl (fun (o : Option (Nat × LockReq)) x => match o with
      | none => some x
      | some y => if x.1 > y.1 then some x else some y) none with
  | none => s
  | some (_, r) =>
    let s := (List.range 32).foldl (fun s i =>
      if (s.lock i).waiters.contains r then
        (s.updLock i fun l => { l with waiters := l.waiters.erase r }).syncLock i
      else s) s
    ((s.incSat ARB_LOCK_STAT_ABORT).raise 240).lockResult r 4

/-- The waiter whose wait reaches WAIT_US first, and the cycle in which it began or last reached it (R387). -/
def State.firstWaiter (s : State) : Option (LockReq × Nat) :=
  (s.arb.locks.flatMap fun l => l.waiters).foldl (fun (o : Option (LockReq × Nat)) r =>
    let t := s.since (.lockWait r.id)
    match o with
    | none => some (r, t)
    | some x => if t < x.2 then some (r, t) else o) none

/-- A waiter has waited WAIT_US, or WAIT_US again (R387; 0 acts as 1). -/
def State.lockTimeout (s : State) : State :=
  match s.firstWaiter with
  | none => s
  | some x => ((s.every (.lockWait x.1.id) (max 1 (s.get ARB_CTL_WAIT_US) * 800))).lockAbort

/-! ## Meanings -/

/-- ARB_WINDOW (R378). -/
def execArbWindow (arb : Fin 4) (cycles : Nat) (s : State) : Host.Outcome State Fault Refusal :=
  s.done (s.windowBoundary arb.val cycles)

/-- ARB_GRANT (R377). -/
def execArbGrant (arb : Fin 4) (cycles : Nat) (arrivals : List (Nat × Nat)) (free : BitVec 32) (s : State) :
    Host.Outcome State Fault Refusal := s.done (s.arbCycle arb.val cycles arrivals free)

/-- TIN_CUT (R380). -/
def execTinCut (arb : Fin 4) (path : Fin 32) (s : State) : Host.Outcome State Fault Refusal :=
  s.done (s.cutHold arb.val path.val)

/-- A write of ARB_HL_REQ with an owner other than 0 (R390): its lock and requester. -/
def State.hostLock (s : State) (by_ : By) (value : Word) (f : State → Nat → LockReq → State) : State :=
  s.hostWrite by_ ARB_HL_REQ fun s =>
    if bits value 4 4 = 0 then s else f s (16 + bits value 0 4) (hostReq (bits value 4 4))

/-- HL_ACQUIRE (R390). -/
def execHlAcquire (by_ : By) (value : Word) (s : State) : Host.Outcome State Fault Refusal :=
  s.done (s.hostLock by_ value State.acquire)

/-- HL_RELEASE (R390). -/
def execHlRelease (by_ : By) (value : Word) (s : State) : Host.Outcome State Fault Refusal :=
  s.done (s.hostLock by_ value State.release)

/-- HL_REPAIRED (R390). -/
def execHlRepaired (by_ : By) (value : Word) (s : State) : Host.Outcome State Fault Refusal :=
  s.done (s.hostLock by_ value State.repaired)

/-- LOCK_WAIT_TIMEOUT (R387). -/
def execLockWaitTimeout (s : State) : Host.Outcome State Fault Refusal := s.done (if s.runs 5 then s.lockTimeout else s)

end Sys2Proof.Machine
end

