-- ==== Sys2Proof/Machine/Blocks.lean ====
section
/-! DEFINITION. The blocks of the carrier link (R263 to R268, R273, R276, R284, R287), the scrambler, the test patterns (R291) and
how the slots of a carrier's two lanes are filled. -/

namespace Sys2Proof.Machine

/-! ## Block contents -/

/-- A control block of a type, with its content in bits 63:8. -/
def ctlBlock (kind content : Nat) : Block := ⟨true, BitVec.ofNat 64 (content * 256 + kind)⟩

/-- A data block. -/
def dataBlock (v : Nat) : Block := ⟨false, BitVec.ofNat 64 v⟩

/-- IDLE. -/
def idleBlock : Block := ctlBlock 0x1E 0

/-- FILL. -/
def fillBlock : Block := ctlBlock 0x2D 0

/-- The block types defined (R264). -/
def blockTypes : List Nat := [0x1E, 0x2D, 0x33, 0x4B, 0x55, 0x66, 0x78]

/-- One bit of CRC-8 with polynomial 0x07. -/
def crc8Bit (c : BitVec 8) : BitVec 8 := if c.getLsbD 7 then (c <<< 1) ^^^ 7#8 else c <<< 1

/-- CRC-8 of R268: initial value 0. -/
def crc8 (l : List Byte) : BitVec 8 :=
  l.foldl (fun c b => crc8Bit (crc8Bit (crc8Bit (crc8Bit (crc8Bit (crc8Bit (crc8Bit (crc8Bit (c ^^^ b.setWidth 8))))))))) 0

/-- Withhold block i: one flag per die-row from 52 i. -/
def withholdBlock (l : List (Nat × Nat)) (i : Nat) : Block :=
  let flags := ((l.map fun z => 6 * z.1 + z.2).eraseDups.filter fun k => k / 52 = i).map fun k => 2 ^ (k % 52)
  let v := i * 2 ^ 52 + flags.sum
  dataBlock ((crc8 (leBytes 7 v)).toNat * 2 ^ 56 + v)

/-- The marker group of a marker (R268). -/
def Marker.blocks (m : Marker) : List Block :=
  let v := bit (!m.withhold.isEmpty) * 2 ^ 35 + bit m.discard * 2 ^ 34 + m.kind % 4 * 2 ^ 32 + unsigned 32 m.epoch
  ctlBlock 0x33 ((crc8 (leBytes 6 v)).toNat * 2 ^ 48 + v)
    :: (if m.withhold.isEmpty then [] else [0, 1, 2].map (withholdBlock m.withhold))

/-- Content bytes of a block: bits 63:8 of a control block, all of a data block. -/
def Block.content (b : Block) : List Byte :=
  if b.control then leBytes 7 (b.payload.toNat / 256) else leBytes 8 b.payload.toNat

/-- Row block, group mask and group blocks of a row (R284). -/
def RowBlock.blocks (r : RowBlock) : List Block :=
  let groups := (List.range 33).filter fun g => r.data.any fun x => x.1 / 32 = g
  let mask := (groups.map fun g => 2 ^ g).sum
  let group (g : Nat) : Nat := ((r.data.filter fun x => x.1 / 32 = g).map fun x => x.2 * 4 ^ (x.1 % 32)).sum
  dataBlock (r.dly.toNat * 2 ^ 13 + r.delay * 8 + r.row) :: dataBlock mask :: groups.map fun g => dataBlock (group g)

/-- A frame (R284): per local die its strobe width and pre-fire pulse, and the rows that have data. -/
def frameOf (line : Int) (dies : List (Nat × Nat)) (rows : List RowBlock) : List Block :=
  let die (x : (Nat × Nat) × Nat) : List Block :=
    let rs := rows.filter fun r => r.die = x.2
    let flags := (rs.map fun r => 2 ^ r.row).sum
    dataBlock (x.1.2 * 2 ^ 23 + x.1.1 * 2 ^ 12 + flags * 64 + x.2) :: rs.flatMap RowBlock.blocks
  let body := dies.zipIdx.flatMap die
  let head := ctlBlock 0x4B ((body.length + 1) * 2 ^ 32 + unsigned 32 line)
  let crc := crc32c ((head :: body).flatMap Block.content)
  head :: body ++ [dataBlock crc.toNat]

/-- A message's blocks: its MSG block and data blocks (R287). -/
def msgBlocks (kind seq : Nat) (body : List Nat) : List Block :=
  ctlBlock 0x55 (kind + body.length * 2 ^ 8 + seq * 2 ^ 16) :: body.map dataBlock

/-- An ECHO request (R276). -/
def echoBlock (tag : Nat) : Block := ctlBlock 0x78 (tag * 2 ^ 8)

/-! ## Bits on the lane (R263, R291) -/

/-- Scramble payload bits, the low first: each leaves XORed with the bits sent 39 and 58 before it. -/
def scramble : Nat → BitVec 58 → Nat → Nat × BitVec 58
  | 0, x, _ => (0, x)
  | n + 1, x, v =>
    let b := (decide (v % 2 = 1) != x.getLsbD 38) != x.getLsbD 57
    let r := scramble n ((x <<< 1) ||| BitVec.ofNat 58 (bit b)) (v / 2)
    (bit b + 2 * r.1, r.2)

/-- Order and tap of a test pattern's polynomial. -/
def prbsTaps : Nat → Nat × Nat
  | 1 => (7, 6)
  | 2 => (15, 14)
  | _ => (31, 28)

/-- The next n bits of a test pattern, the first in bit 0, and the generator after them. -/
def prbsBits (pattern : Nat) : Nat → BitVec 31 → Nat × BitVec 31
  | 0, x => (0, x)
  | n + 1, x =>
    let t := prbsTaps pattern
    let b := x.getLsbD (t.1 - 1) != x.getLsbD (t.2 - 1)
    let r := prbsBits pattern n ((x <<< 1) ||| BitVec.ofNat 31 (bit b))
    (bit b + 2 * r.1, r.2)

/-- Block slots of a lane that have begun by a cycle: 390,625,000 a second against 800,000,000 cycles (R261; log entry 128, DESIGN CHOICE). -/
def slotAt (cycle : Nat) : Nat := cycle * 125 / 256

/-- Cycle in which a slot begins. -/
def slotCycle (slot : Nat) : Nat := ceilDiv (slot * 256) 125

/-- What decides how a lane fills a slot: its state (R272), its TRAIN block, the pattern of its test (R291), log2 of the interval of
continuous errors or none (R292), and blocks per FILL. -/
structure LaneEnv where
  state : Nat
  train : Block
  pattern : Option Nat
  rate : Option Nat
  period : Nat
deriving DecidableEq, Repr

/-- The block of a slot, and the lane after it (R264, R266, R267, R272). -/
def Lane.fill (x : Lane) (e : LaneEnv) (slot : Nat) : Block × Lane :=
  match x.front with
  | b :: r => (b, { x with front := r })
  | [] =>
    if slot / e.period ≠ x.filled / e.period then (fillBlock, { x with filled := slot })
    else if e.state = 1 || e.state = 2 then (if slot % 16 = 0 then e.train else idleBlock, x)
    else
      match x.body with
      | b :: r =>
        let echo := b.control && b.payload.toNat % 256 = 0x78
        (b, { x with
          body := r
          requests := if echo then x.requests ++ [(b.payload.toNat / 2 ^ 16 % 2 ^ 16, slotCycle slot)] else x.requests })
      | [] => (idleBlock, x)

/-- The 66 bits of a block: its sync header in bits 1:0, invalid where an error is injected, and its scrambled payload. -/
def Lane.code (x : Lane) (b : Block) : Nat × Lane :=
  let r := scramble 64 x.scrambler b.payload.toNat
  let head := if 0 < x.badHeaders then 0 else if b.control then 2 else 1
  (head + 4 * r.1, { x with scrambler := r.2, badHeaders := x.badHeaders - 1 })

/-- The errors injected into the 66 bits of a slot (R292). -/
def errorMask (x : Lane) (rate : Option Nat) (slot : Nat) : BitVec 66 :=
  let each : BitVec 66 := match rate with
    | none => 0
    | some r => BitVec.ofNat 66 (((List.range 66).filter fun i => (66 * slot + i) % 2 ^ r = 0).map fun i => 2 ^ i).sum
  each ^^^ (if x.flip then 1 else 0)

/-- The bits a lane sends in a slot, and the lane after them. -/
def Lane.send (x : Lane) (e : LaneEnv) (slot : Nat) : BitVec 66 × Lane :=
  let r : Nat × Lane := match e.pattern with
    | some p =>
      let g := prbsBits p 66 x.generator
      (g.1, { x with generator := g.2 })
    | none =>
      let f := x.fill e slot
      f.2.code f.1
  (BitVec.ofNat 66 r.1 ^^^ errorMask x e.rate slot, { r.2 with flip := false })

/-- A frame or message as one lane sends it: an injected error inverts a bit of a frame's first data block. -/
def Lane.take (x : Lane) (frame : Bool) (l : List Block) : Lane :=
  if frame && 0 < x.badFrames then
    let spoil (b : Block × Nat) : Block := if b.2 = 1 then { b.1 with payload := b.1.payload ^^^ 1 } else b.1
    { x with body := l.zipIdx.map spoil, badFrames := x.badFrames - 1 }
  else { x with body := l }

/-- Deal blocks alternately: those at even places, and those at odd ones (R277). -/
def deal {α : Type} : List α → List α × List α
  | [] => ([], [])
  | x :: r => let q := deal r; (x :: q.2, q.1)

/-- A carrier with its two lanes and what they have sent. -/
structure LinkTx where
  carrier : Carrier
  even : Lane
  odd : Lane
  evenOut : List (BitVec 66)
  oddOut : List (BitVec 66)
deriving DecidableEq, Repr

/-- The next frame or message begins once both lanes are through with the one before (R277, R287). -/
def LinkTx.begin (x : LinkTx) (lanes : Nat) (stripe : Bool) : LinkTx :=
  match x.carrier.items with
  | [] => x
  | i :: r =>
    let busy := (lanes % 2 = 1 && !x.even.body.isEmpty) || (2 ≤ lanes && !x.odd.body.isEmpty)
    if busy || lanes = 0 then x
    else
      let frame := i.line.isSome
      let parts := if frame && stripe && lanes = 3 then deal i.blocks else (i.blocks, i.blocks)
      { x with
        carrier := { x.carrier with items := r, line := i.line }
        even := if lanes % 2 = 1 then x.even.take frame parts.1 else x.even
        odd := if 2 ≤ lanes then x.odd.take frame parts.2 else x.odd }

/-- Fill n slots of both lanes of a carrier; bit k of `lanes` tells whether lane 2n + k carries traffic. -/
def LinkTx.run (lanes : Nat) (stripe : Bool) (e o : LaneEnv) : Nat → LinkTx → LinkTx
  | 0, x => x
  | n + 1, x =>
    let x := x.begin lanes stripe
    let a := x.even.send e x.carrier.slot
    let b := x.odd.send o x.carrier.slot
    LinkTx.run lanes stripe e o n { x with
      carrier := { x.carrier with slot := x.carrier.slot + 1 }
      even := a.2, odd := b.2, evenOut := a.1 :: x.evenOut, oddOut := b.1 :: x.oddOut }

end Sys2Proof.Machine
end

