-- ==== Sys2Proof/Machine/Pounds.lean ====
section
/-! DEFINITION. The pound store: pages, tile positions and their blocks (R148 to R156), what frees them, defective pages and
the reprint queue (R172 to R175), and memory errors (R176, R178). Which free block is given out is left open by the spec (log
entry 11, DESIGN CHOICE). -/

namespace Sys2Proof.Machine

/-- Ceiling of a byte count in blocks of 16 KiB. -/
def blocksOf (n : Nat) : Nat := ceilDiv n 16384

/-- The page record of a key. -/
def State.page? (s : State) (id : Word) : Option Page := s.pnd.pages.find? fun p => p.id = id

/-- The page-table record of a PAGE_ID (R120, R155). -/
def State.stored? (s : State) (id : Word) : Option Page := s.pnd.pages.find? fun p => p.name = id && !p.left

/-- The key of the page-table record of a PAGE_ID; the PAGE_ID where it has none. -/
def State.keyOf (s : State) (id : Word) : Word := ((s.stored? id).map fun p => p.id).getD id

/-- A key no record uses: a PAGE_ID itself where it is free, else the first from the top that is neither key nor PAGE_ID. -/
def State.freshKey (s : State) (id : Word) : Word :=
  let taken (w : Word) : Bool := s.pnd.pages.any fun p => p.id = w || p.name = w
  if s.pnd.pages.all fun p => p.id ≠ id then id
  else (((List.range (2 * s.pnd.pages.length + 1)).map fun i => BitVec.ofNat 32 (2 ^ 32 - 1 - i)).find? fun w => !taken w).getD id

/-- The definition of a job. -/
def State.job? (s : State) (id : BitVec 16) : Option Job := s.pnd.jobs.find? fun j => j.id = id

/-- The job of a page. -/
def State.jobOf (s : State) (p : Page) : Option Job := s.job? p.job

/-- Change the page of an id. -/
def State.updPage (s : State) (id : Word) (f : Page → Page) : State :=
  { s with pnd := { s.pnd with pages := s.pnd.pages.map fun p => if p.id = id then f p else p } }

/-- Change a job. -/
def State.updJob (s : State) (id : BitVec 16) (f : Job → Job) : State :=
  { s with pnd := { s.pnd with jobs := s.pnd.jobs.map fun j => if j.id = id then f j else j } }

/-- FLAGS of a job: LPI_600, INSPECT, KEEP_REPRINT, STORE_ONLY (R119). -/
def Job.lpi600 (j : Job) : Bool := j.flags.getLsbD 0
/-- INSPECT. -/
def Job.inspect (j : Job) : Bool := j.flags.getLsbD 1
/-- KEEP_REPRINT. -/
def Job.keep (j : Job) : Bool := j.flags.getLsbD 2
/-- STORE_ONLY. -/
def Job.storeOnly (j : Job) : Bool := j.flags.getLsbD 3

/-- Bands of a page, and the lines of one. -/
def Page.bands (p : Page) : Nat := ceilDiv p.lines 256
/-- Lines of band b. -/
def Page.bandLines (p : Page) (b : Nat) : Nat := min 256 (p.lines - 256 * b)

/-- Whether a tile record is of the position (channel, column, band). -/
def Tile.at_ (t : Tile) (ch col band : Nat) : Bool := t.ch = ch && t.col = col && t.band = band

/-- The record of a tile position, if it has one; a position without one is EMPTY. -/
def Page.tile? (p : Page) (ch col band : Nat) : Option Tile := p.tiles.find? fun t => t.at_ ch col band

/-- A tile record in the state EMPTY. -/
def emptyTile (ch col band : Nat) : Tile :=
  { ch := ch, col := col, band := band, state := .empty, bytes := [], deflate := false, rawSize := 0, crc := 0,
    chain := [], listed := false, blankFrom := 256, fired := false, referenced := false, old := [], queue := 0,
    offset := 0 }

/-- Change a tile position, making its record if there is none. -/
def Page.updTile (p : Page) (ch col band : Nat) (f : Tile → Tile) : Page :=
  if (p.tile? ch col band).isSome then
    { p with tiles := p.tiles.map fun t => if t.at_ ch col band then f t else t }
  else { p with tiles := p.tiles ++ [f (emptyTile ch col band)] }

/-- Change a tile position of a page. -/
def State.updTile (s : State) (id : Word) (ch col band : Nat) (f : Tile → Tile) : State :=
  s.updPage id fun p => p.updTile ch col band f

/-- The tile record of a position of a page. -/
def State.tile? (s : State) (id : Word) (ch col band : Nat) : Option Tile :=
  (s.page? id).bind fun p => p.tile? ch col band

/-! ## Blocks and their use (R149, R150, R154) -/

/-- Whether a position's blocks are landing blocks: its image is not in final form. -/
def Tile.landing (t : Tile) : Bool :=
  match t.state with
  | .landing => true
  | .verifying => true
  | .landed => true
  | _ => false

/-- Blocks of a position. -/
def Tile.blocks (t : Tile) : Nat := t.chain.length + t.old.length

/-- Blocks of a page's position table. -/
def Page.tableBlocks (p : Page) : Nat := p.table.length

/-- Blocks held by the tile positions of a page. -/
def Page.tileBlocks (p : Page) : Nat := (p.tiles.map fun t => t.blocks).sum

/-- Whether a page is in the reprint store (R154). -/
def Page.inReprint (p : Page) : Bool := p.pinned || p.heldAt.isSome

/-- Blocks held in the reprint store. -/
def State.reprintBlocks (s : State) : Nat :=
  ((s.pnd.pages.filter fun p => p.inReprint).map fun p => p.tileBlocks + p.tableBlocks).sum

/-- Blocks held for one purpose, over pages outside the reprint store. -/
def State.useOf (s : State) (f : Tile → Bool) : Nat :=
  ((s.pnd.pages.filter fun p => !p.inReprint).map fun p => ((p.tiles.filter f).map fun t => t.blocks).sum).sum

/-- Blocks held in weir chains and held ahead (R141). -/
def State.weirBlocks (s : State) : Nat := (s.ing.compressors.map fun c => c.chain.length).sum

/-- Every block held (R149). -/
def State.heldList (s : State) : List Nat :=
  (s.pnd.pages.flatMap fun p => (p.tiles.flatMap fun t => t.chain ++ t.old) ++ p.table) ++ s.ing.compressors.flatMap fun c => c.chain

/-- First block of the pool, and blocks of the pool with none retired (R148). -/
def poolBase : Nat := 2368
def poolSize : Nat := 2356928

/-- Whether a block holds bytes of a row of a list (R178). -/
def inRows (rows : List Nat) (b : Nat) : Bool := (List.range 256).any fun k => rows.contains (Config.dramRow (16384 * b + 64 * k))

/-- Pool blocks that are retired: those that hold bytes of a listed row, as soon as nothing holds them (R149, R178). -/
def retiredCount (rows held : List Nat) : Nat :=
  if rows.isEmpty then 0
  else (List.range poolSize).countP fun i => inRows rows (poolBase + i) && !held.contains (poolBase + i)

/-- The first block from a place of the pool on, around its end, that is neither held nor retired. -/
def freeFrom (rows held : List Nat) : Nat → Nat → Nat
  | 0, i => poolBase + i % poolSize
  | f + 1, i =>
    let b := poolBase + i % poolSize
    if held.contains b || inRows rows b then freeFrom rows held f (i + 1) else b

/-- Free pool blocks (R149). -/
def State.free_ (s : State) : Nat :=
  s.get PND_POOL_BLOCKS
    - ((s.pnd.pages.map fun p => p.tileBlocks + p.tableBlocks).sum + s.weirBlocks)

/-- LOW_WATER in force: a value below WEIR_RSV acts as WEIR_RSV (R179). -/
def State.lowWater (s : State) : Nat := max (s.get PND_RESERVE_LOW_WATER) (s.get PND_RESERVE_WEIR_RSV)

/-- Write the use registers from what the pages and compressors hold. -/
def State.syncStore (s : State) : State :=
  let n := s.free_
  let s := s.put PND_FREE_BLOCKS n
  let s := s.put PND_USE_LANDING_BLOCKS (s.useOf Tile.landing)
  let s := s.put PND_USE_POUND_BLOCKS (s.useOf fun t => !t.landing && !t.fired)
  let s := s.put PND_USE_INSPECT_BLOCKS (s.useOf fun t => !t.landing && t.fired)
  let s := s.put PND_USE_REPRINT_BLOCKS s.reprintBlocks
  let s := s.put PND_USE_WEIR_BLOCKS s.weirBlocks
  let s := s.put PND_USE_TABLE_BLOCKS ((s.pnd.pages.filter fun p => !p.inReprint).map fun p => p.tableBlocks).sum
  { s with pnd := { s.pnd with freeMin := min s.pnd.freeMin n } }

/-- Free the blocks of a tile position. -/
def Tile.clear (t : Tile) : Tile := { t with chain := [], old := [], bytes := [], listed := false }

/-- Take n free blocks. Which free block is given out is a free value, drawn for each (log entry 11, DESIGN CHOICE). -/
def State.takeBlocks (s : State) : Nat → List Nat × State
  | 0 => ([], s)
  | n + 1 =>
    let r := s.takeBlocks n
    let d := r.2.draw
    (r.1 ++ [freeFrom s.pnd.repair (s.heldList ++ r.1) poolSize (d.1.toNat % poolSize)], d.2)

/-- Show the decode contexts in PND_DEC_STAT (R179). A quantum is one command, so no engine runs one between commands: ENGINES is 0. -/
def State.syncContexts (s : State) : State :=
  let n (k : CtxKind) := (s.pnd.contexts.filter fun x => x.kind = k).length
  let s := s.put PND_DEC_STAT_VERIFY (min 32 (n .verification))
  let s := s.put PND_DEC_STAT_REFERENCE (min 255 (n .reference))
  s.put PND_DEC_STAT_FIRING (min 255 (n .firing))

/-- Remove a page record with all of its blocks (R155). -/
def State.dropPage (s : State) (id : Word) : State :=
  State.syncContexts { s with
    pnd := { s.pnd with
      pages := s.pnd.pages.filter fun p => p.id ≠ id
      contexts := s.pnd.contexts.filter fun c => c.page ≠ id
      due := s.pnd.due.filter fun q => q.1 ≠ id }
    ing := { s.ing with list := s.ing.list.filter fun q => q.1 ≠ id }
    ins := { s.ins with
      refs := s.ins.refs.filter fun (g : RefSeg) => g.page ≠ id
      blind := s.ins.blind.filter fun (g : BlankRegion) => g.page ≠ id
      views := s.ins.views.filter fun (v : PageView) => v.page ≠ id } }

/-- The oldest evictable page: reprint-held and not pinned (R154). -/
def State.evictable (s : State) : Option Page :=
  (s.pnd.pages.filter fun p => !p.pinned && p.heldAt.isSome).foldl (fun o p =>
    match o with
    | none => some p
    | some q => if p.heldAt.getD 0 < q.heldAt.getD 0 then some p else some q) none

/-- Whether every line of a page of a job has passed the bars and the station, as far as the run brings it there. -/
def State.passedBy (s : State) (p : Page) (j : Job) : Bool :=
  (!j.running || ((j.mask &&& ~~~p.fired = 0) && (p.seen || !s.sys.inspection))) && !s.ins.waiting.contains p.id

/-- Evict one page (R154, R155), counted EVICTED; the run keeps its own record of one whose lines still pass. -/
def State.evictPage (s : State) (id : Word) : State :=
  let past := ((s.page? id).bind fun p => (s.jobOf p).map fun j => s.passedBy p j).getD true
  let s := if past then s.dropPage id
    else s.updPage id fun p => { p with
      tiles := p.tiles.map fun t => t.clear
      table := [], left := true, pinned := false, heldAt := none, released := true, freedAny := true }
  s.liveAdd PND_STB_INFO PND_STB_EVICTED_COUNT 1

/-- Retire the blocks of marked rows that nothing holds (R178): the pool and RETIRED show it, once step 12 has filled the pool. -/
def State.retireFreed (s : State) : State :=
  if s.get PND_POOL_BLOCKS = 0 || s.pnd.repair.isEmpty then s
  else
    let n := retiredCount s.pnd.repair s.heldList
    (s.put PND_POOL_BLOCKS (poolSize - n)).put PND_MEM_REPAIR_RETIRED (min 65535 n)

/-- Evict while the reprint store exceeds its quota or FREE is at or below LOW_WATER (R150, R154), at most `fuel` pages. -/
def State.evictLoop : Nat → State → State
  | 0, s => s
  | n + 1, s =>
    if s.reprintBlocks > s.get PND_RPR_QUOTA_BLOCKS ∨ s.free_ ≤ s.lowWater then
      match s.evictable with
      | some p => State.evictLoop n (s.evictPage p.id).retireFreed
      | none => s
    else s

/-- Evict as R150 and R154 lay down, show LOW and raise vector 74 once per shortage, and write the use registers. The
store is judged once boot step 12 has filled the pool. -/
def State.settleStore (s : State) : State :=
  if s.get PND_POOL_BLOCKS = 0 then s
  else
    let s := State.evictLoop s.pnd.pages.length s
    let low := s.free_ ≤ s.lowWater
    let s := (s.syncStore).putFlag PND_FREE_LOW low
    if low then
      if s.pnd.lowRaised then s
      else ({ s with pnd := { s.pnd with lowRaised := true } }).raise 74
    else { s with pnd := { s.pnd with lowRaised := false } }

/-! ## Readers (R152, R153, R155) -/

/-- Whether every reader of a position has finished. -/
def tileDone (inspect : Bool) (t : Tile) : Bool := t.fired && (t.referenced || !inspect)

/-- Whether a job's pages are inspected: INSPECT, and a station configured (log entry 20, DEDUCED). -/
def State.inspects (s : State) (j : Job) : Bool := j.inspect && s.sys.inspection

/-- Free what R153 frees on a page, make it reprint-held, and let it leave the store (R155). The run keeps its own record of a page
that has left while lines of it are still to pass a bar or the station. -/
def State.settlePage (s : State) (id : Word) : State :=
  match s.page? id with
  | none => s
  | some p =>
    match s.jobOf p with
    | none => s
    | some j =>
      let keep := j.keep && !p.released
      let allDone := (j.mask &&& ~~~p.done = 0) && p.tiles.all (tileDone (s.inspects j))
      let past := s.passedBy p j
      let s :=
        if p.pinned || keep then s
        else s.updPage id fun p => { p with
          tiles := p.tiles.map fun t => if tileDone (s.inspects j) t then t.clear else t
          freedAny := p.freedAny || p.tiles.any fun t => tileDone (s.inspects j) t && t.blocks > 0 }
      if allDone && !p.queued then
        if p.pinned then s
        else if keep then
          s.updPage id fun p => { p with heldAt := if p.heldAt.isSome then p.heldAt else some s.cycle }
        else if past then s.dropPage id
        else s.updPage id fun p => { p with table := [], left := true }
      else s

/-- Let every page settle, then the store. -/
def State.settleAll (s : State) : State :=
  (s.pnd.pages.foldl (fun s p => s.settlePage p.id) s).retireFreed.settleStore

/-- A reader of a position has finished. -/
def State.finishFired (s : State) (id : Word) (ch col band : Nat) : State :=
  s.updTile id ch col band fun t => { t with fired := true }

/-- The reference reader of a position has finished. -/
def State.finishReferenced (s : State) (id : Word) (ch col band : Nat) : State :=
  s.updTile id ch col band fun t => { t with referenced := true }

/-! ## Defective pages (R172, R173) -/

/-- Show the reprint queue in PND_RPQ_STAT and its oldest entry in PND_RPQ_0 to 2. -/
def State.syncReprint (s : State) : State :=
  let s := s.put PND_RPQ_STAT_COUNT s.pnd.reprints.length
  match s.pnd.reprints with
  | [] => ((s.setReg PND_RPQ_0 0).setReg PND_RPQ_1 0).setReg PND_RPQ_2 0
  | e :: _ =>
    let s := s.setReg PND_RPQ_0 (s.nameOf e.page)
    let s := s.setReg PND_RPQ_1 (BitVec.ofNat 32 (e.job.toNat * 65536 + e.pass % 256 * 256 + e.cause % 256))
    s.setReg PND_RPQ_2 (BitVec.ofNat 32 (bit e.held * 2 ^ 31 + bit e.multi * 2 ^ 30 + e.needs.toNat * 256 + e.ch.toNat))

/-- Blocks of the pages pinned beside one. -/
def State.pinnedBlocks (s : State) (id : Word) : Nat :=
  ((s.pnd.pages.filter fun p => p.pinned && p.id ≠ id).map fun p => p.tileBlocks + p.tableBlocks).sum

/-- Enter a defective page in the reprint queue (R172, R173): a further cause ORs into its entry; a full queue counts
OVERFLOW. -/
def State.reprintEntry (s : State) (id : Word) (ch : BitVec 8) (cause : Nat) (needs : Bool) : State :=
  match s.page? id with
  | none => s
  | some p =>
    let n : BitVec 8 := if needs then ch else 0
    if s.pnd.reprints.any fun (e : Reprint) => e.page = id then
      ({ s with pnd := { s.pnd with reprints := s.pnd.reprints.map fun (e : Reprint) =>
          if e.page = id then { e with ch := e.ch ||| ch, needs := e.needs ||| n, multi := true } else e } }).syncReprint
    else if s.pnd.reprints.length ≥ 256 then s.incSat PND_RPQ_STAT_OVERFLOW
    else
      let held := !p.freedAny && !p.left && s.pinnedBlocks id + p.tileBlocks + p.tableBlocks ≤ s.get PND_RPR_QUOTA_BLOCKS
      let s := if held then s.updPage id fun p => { p with pinned := true } else s
      let e : Reprint := ⟨id, p.job, p.pass, cause, held, false, n, ch⟩
      let s := ({ s with pnd := { s.pnd with reprints := s.pnd.reprints ++ [e] } }).syncReprint
      (s.liveAdd PND_STB_INFO PND_STB_REPRINT_QUEUED_COUNT 1).raise 73 id

/-- Flag a page defective on channels and enter it for reprint. -/
def State.defect (s : State) (id : Word) (ch : BitVec 8) (cause : Nat) (needs : Bool) : State :=
  match s.page? id with
  | none => s
  | some p =>
    let first := p.defect = 0
    let s := s.updPage id fun p => { p with defect := p.defect ||| ch, otherDefect := p.otherDefect ||| ch }
    let s := if first then s.updJob p.job fun j => { j with nDefective := min (2 ^ 32 - 1) (j.nDefective + 1) } else s
    s.reprintEntry id ch cause needs

/-- Flag a page defective without an entry (R133). -/
def State.flagOnly (s : State) (id : Word) (ch : BitVec 8) : State :=
  match s.page? id with
  | none => s
  | some p =>
    let first := p.defect = 0
    let s := s.updPage id fun p => { p with defect := p.defect ||| ch, poisonDefect := p.poisonDefect ||| ch }
    if first then s.updJob p.job fun j => { j with nDefective := min (2 ^ 32 - 1) (j.nDefective + 1) } else s

/-- One bit of a channel mask. -/
def chBit (c : Nat) : BitVec 8 := BitVec.ofNat 8 (2 ^ c)

/-- Pages in progress on some channel: begun and not yet fired to the end by a channel of the job that has begun it. -/
def State.inProgress (s : State) : List (Word × BitVec 8) :=
  s.pnd.pages.filterMap fun p => if p.begun &&& ~~~p.fired = 0 then none else some (p.id, p.begun &&& ~~~p.fired)

/-- Flag every page in progress defective and enter it with a cause (R62, R441, R444). -/
def State.flagInProgress (s : State) (cause : Nat) : State :=
  s.inProgress.foldl (fun s p => s.defect p.1 p.2 cause false) s

/-- A channel will fire no line of the run from run line `j` on (R152): its firing contexts are abandoned, and of the pages begun its
readers of lines it will not fire finish, bands that never fell due included. Where a tile was fired in part its reference decode goes
on. A page that no channel has begun may be printed by a later start: its bands have not fallen due for that. -/
def State.abandonChannel (s : State) (c : Nat) (j : Int) : State :=
  let cut (p : Page) : Page :=
    let whole (b : Nat) : Bool := !p.begun.getLsbD c || ((p.first.map fun f => decide (j ≤ f + 256 * b)).getD true)
    { p with
      done := putBit p.done c true
      tiles := p.tiles.map fun t =>
        if t.ch = c then { t with fired := true, referenced := t.referenced || whole t.band } else t }
  let gone (id : Word) (band : Nat) : Bool :=
    match s.page? id with
    | some p => !p.begun.getLsbD c || ((p.first.map fun f => decide (j ≤ f + 256 * band)).getD true)
    | none => true
  let begun (id : Word) : Bool := ((s.page? id).map fun p => decide (p.begun ≠ 0)).getD false
  State.syncContexts { s with pnd := { s.pnd with
      contexts := s.pnd.contexts.filter fun x =>
        !(x.ch = c && (x.kind = .firing || (x.kind = .reference && gone x.page x.band)))
      due := s.pnd.due.filter fun q => !(q.2.1 = c && !begun q.1)
      pages := s.pnd.pages.map fun p =>
        if p.fired.getLsbD c then p else if p.begun = 0 then { p with done := putBit p.done c false } else cut p } }

/-! ## The latest decompression failure -/

/-- Latch PND_ERR_LOG (R179). -/
def State.decLog (s : State) (cause : Nat) (p : Page) (ch col band line : Nat) : State :=
  let s := s.setReg PND_ERR_LOG_0 (BitVec.ofNat 32 (cause * 2 ^ 24 + col * 2 ^ 16 + ch))
  let s := s.setReg PND_ERR_LOG_1 (BitVec.ofNat 32 (band * 2 ^ 20 + line))
  let s := s.setReg PND_ERR_LOG_2 p.name
  s.setReg PND_ERR_LOG_3 (BitVec.ofNat 32 (p.job.toNat * 65536 + p.pass % 256))

/-! ## Memory errors (R176, R178) -/

/-- Latch the address of a memory error. -/
def State.memAddr (s : State) (a : BitVec 36) (ue : Bool) : State :=
  let s := s.setReg PND_MEM_ADDR_LO (a.setWidth 32)
  s.setReg PND_MEM_ADDR_HI (BitVec.ofNat 32 (bit ue * 2 ^ 31 + a.toNat / 2 ^ 32))

/-- The DRAM row of a store byte address (log entry 12, DESIGN CHOICE). -/
def rowOfAddr (a : BitVec 36) : Nat := Config.dramRow a.toNat

/-- Mark a row for repair (R178), up to 255 rows, mirrored to flash. -/
def State.markRow (s : State) (row : Nat) : State :=
  if s.pnd.repair.contains row then s
  else
    let rows := if s.pnd.repair.length < 255 then s.pnd.repair ++ [row] else s.pnd.repair
    let s := { s with pnd := { s.pnd with repair := rows }, flash := { s.flash with repair := rows } }
    let s := s.put PND_MEM_REPAIR_PENDING rows.length
    (((s.emit (.flashWrite 0xFFD000)).raise 76).retireFreed).settleStore

/-- Number of the scrub interval in progress (R177); 0 HOURS acts as 1. -/
def State.scrubTurn (s : State) : Nat := s.cycle / (max 1 (s.get PND_SCRUB_HOURS) * 2880000000000)

/-- Account for the errors of a store read (R176, R178): the fourth corrected error of a row within the scrub interval
marks it, and so does any uncorrectable error. -/
def State.memRead (s : State) : MemRead → State
  | .ok => s
  | .badDescriptor => s.raise 77
  | .corrected a =>
    let s := ((s.incSat PND_MEM_CE_COUNT).liveAdd PND_STB_INFO PND_STB_CE_COUNT 1).memAddr a false
    let row := rowOfAddr a
    let turn := s.scrubTurn
    let n := ((s.pnd.rowErrors.find? fun r => r.1 = row && r.2.2 = turn).map fun r => r.2.1).getD 0 + 1
    let s := { s with pnd := { s.pnd with rowErrors := (row, n, turn) :: s.pnd.rowErrors.filter fun r => r.1 ≠ row } }
    if n ≥ 4 then s.markRow row else s
  | .uncorrectable a =>
    let s := ((s.incSat PND_MEM_UE_COUNT).liveAdd PND_STB_INFO PND_STB_UE_COUNT 1).memAddr a true
    (s.raise 77).markRow (rowOfAddr a)

/-- Whether a read failed to its requester. -/
def memFailed : MemRead → Bool
  | .ok => false
  | .corrected _ => false
  | .uncorrectable _ => true
  | .badDescriptor => true

end Sys2Proof.Machine
end

