-- ==== Sys2Proof/Machine/Motion.lean ====
section
/-! DEFINITION. The position counter and the speed estimates as the rest of the chip reads them (R247, R248, R250). -/

namespace Sys2Proof.Machine

/-- Low word of a number. -/
def word0 (n : Nat) : Word := BitVec.ofNat 32 n
/-- Second word. -/
def word1 (n : Nat) : Word := BitVec.ofNat 32 (n / 2 ^ 32)

/-- A 48-bit two's complement value in a LO and HI pair of registers. -/
def State.pos48 (s : State) (lo hi : Nat) : Int := signed 48 (join48 (s.reg lo) (s.reg hi))

/-- Write a 48-bit value to a LO and HI pair. -/
def State.setPos48 (s : State) (lo hi : Nat) (x : Int) : State :=
  let n := unsigned 48 x
  (s.setReg lo (BitVec.ofNat 32 n)).setReg hi (BitVec.ofNat 32 (n / 2 ^ 32))

/-- The position counter (R247). -/
def State.counter (s : State) : Int := s.pos48 POS_COUNT_LO POS_COUNT_HI

/-- The high-water mark H (R248). -/
def State.hwm (s : State) : Int := s.pos48 POS_HWM_LO POS_HWM_HI

/-- A 48-bit difference read as signed (R247). -/
def diff48 (a b : Int) : Int := signed 48 (unsigned 48 (a - b))

/-- The value congruent to a 48-bit position that lies nearest a reference. -/
def near48 (ref x : Int) : Int := ref + diff48 x ref

/-- Window length N = 2^AVG_LOG2 events (R250). -/
def State.window (s : State) : Nat := 2 ^ max 2 (min 12 (s.get POS_SPD_CTL_AVG_LOG2))

/-- The estimates v_m and a_m at cycle t from a window of motion events, in counts per cycle and counts per cycle² (R250); both 0 once
STALE_MS have passed without an event. -/
def State.motionOf (s : State) (e : List (Int × Nat)) (t : Nat) : ℚ × ℚ :=
  let m := e.length
  let newest := (e.getD 0 (0, 0)).2
  if m < 2 ∨ newest + 800000 * max 1 (s.get POS_SPD_CTL_STALE_MS) ≤ t then (0, 0)
  else
    let big := s.window
    let n := if big + 1 ≤ m then big else m - 1
    let x (k : Nat) : ℚ := ((e.getD k (0, 0)).1 : ℚ)
    let tm (k : Nat) : ℚ := ((e.getD k (0, 0)).2 : ℚ)
    let vw := (x 0 - x n) / (tm 0 - tm n)
    let a := if 2 * big + 1 ≤ m then
        (vw - (x big - x (2 * big)) / (tm big - tm (2 * big))) / ((tm 0 - tm (2 * big)) / 2)
      else 0
    let ext : ℚ := if s.flag POS_SPD_CTL_EXTRAP then a * ((tm 0 - tm n) / 2 + ((t : ℚ) - tm 0)) else 0
    (vw + ext, a)

/-- The estimates of the active port (R250). -/
def State.motion (s : State) (t : Nat) : ℚ × ℚ := s.motionOf s.pos.events t

/-- Write POS_SPEED and POS_ACCEL: 32 and 48 fractional bits (R260). -/
def State.syncSpeed (s : State) : State :=
  let (v, a) := s.motion s.cycle
  let s := s.setPair POS_SPEED_LO POS_SPEED_HI (unsigned 64 ⌊v * 2 ^ 32⌋)
  s.setPair POS_ACCEL_LO POS_ACCEL_HI (unsigned 64 ⌊a * 2 ^ 48⌋)

end Sys2Proof.Machine
end

