-- ==== Sys2Proof/Machine/LineClock.lean ====
section
/-! DEFINITION. The line clock (R210 to R217, R225, R226, R230 to R235): positions of lines, reach anchors, the predicted
cycle of a position, the in-force placement values of a channel, starting and stopping. Positions are held in 2^-32
counts. A predicted cycle is rounded down to a whole timebase cycle (log entry 13, DEDUCED). -/

namespace Sys2Proof.Machine

/-- The channel record of the line clock. -/
def State.fch (s : State) (c : Nat) : FirCh := s.fir.channels.getD c FirCh.reset

/-- Change the channel record of the line clock. -/
def State.updFch (s : State) (c : Nat) (f : FirCh → FirCh) : State :=
  { s with fir := { s.fir with channels := s.fir.channels.set c (f (s.fch c)) } }

/-- FIR_CPL in 2^-32 counts, doubled at 600 lines per inch (R210). -/
def State.cplOf (s : State) (lpi600 : Bool) : Nat :=
  let n := (s.reg FIR_CPL_LO).toNat + s.get FIR_CPL_HI_INT * 2 ^ 32
  if lpi600 then 2 * n else n

/-- Lines per reach N_R (R213). -/
def State.reachLen (s : State) : Nat := 2 ^ max 5 (min 10 s.fir.reachLog2)

/-- Marker lead in cycles (R223). -/
def State.lead (s : State) : Nat := max 2048 (s.get FIR_TIMING_LEAD)

/-- D_n of a carrier in timebase cycles (R222, R276). -/
def State.latency (s : State) (n : Nat) : Nat := s.get (JGL_C_LAT_D n)

/-- D_max of a channel (R217). -/
def State.dMax (s : State) (c : Nat) : Nat := max (s.latency (2 * c)) (s.latency (2 * c + 1))

/-- Anchor position Y_r of a reach, in 2^-32 counts (R213). -/
def State.anchorAt (s : State) (r : Int) : Int :=
  s.fir.w0 * 2 ^ 32 + r * (s.reachLen : Int) * (s.fir.cl : Int)

/-- The parameters of R214 from an anchor position, cycle and reach number; period 0 where the reach has none (R215). -/
def State.mkAnchor (s : State) (y : Int) (t : Nat) (r : Int) : Anchor :=
  let (vm, am) := s.motion t
  let cl : ℚ := (s.fir.cl : ℚ) / 2 ^ 32
  let v := if s.flag FIR_TIMING_ACC_EN then vm + am * ((s.reachLen : ℚ) * cl / vm) / 2 else vm
  let p : Nat := if v < cl / 2 ^ 24 ∨ v ≤ 0 then 0 else ⌊256 * cl / v + 1 / 2⌋.toNat
  ⟨y, t, p, r⟩

/-- The newest parameters in force in this cycle (R214). -/
def State.params (s : State) : Option Anchor :=
  match (s.fir.coming.filter fun q => decide (q.2 ≤ s.cycle)).getLast? with
  | some q => some q.1
  | none => s.fir.anchor

/-- The newest anchor made, in force or still to come (R216). -/
def State.newestAnchor (s : State) : Option Anchor :=
  match s.fir.coming.getLast? with
  | some q => some q.1
  | none => s.fir.anchor

/-- Bring due parameters into force and show them in FIR_REACH and FIR_PERIOD. -/
def State.rollAnchor (s : State) : State :=
  match s.params with
  | none => s
  | some a =>
    let s := { s with fir := { s.fir with
      anchor := some a
      coming := s.fir.coming.filter fun q => decide (s.cycle < q.2) } }
    (s.setReg FIR_REACH (BitVec.ofInt 32 a.reach)).setReg FIR_PERIOD (BitVec.ofNat 32 a.p)

/-- tau: the predicted cycle at which the counter reaches a position (R214), rounded down. -/
def State.tau (s : State) (a : Anchor) (x : Int) : Int := a.t + (x - a.y) * (a.p : Int) / (256 * s.fir.cl)

/-- The counter as a position of the run, in 2^-32 counts: of the values it may stand for, the one nearest an anchor (R216, R247). -/
def State.runPos (s : State) (a : Anchor) : Int := a.y + signed 80 (unsigned 80 (s.counter * 2 ^ 32 - a.y))

/-- Whether the counter leaves the predicted position of this cycle by more than CLAMP_TOL (R216); without a period the
prediction stays at Y_r. -/
def State.strays (s : State) (a : Anchor) : Bool :=
  let tol : Int := (max 1 (s.get FIR_TIMING_CLAMP_TOL) : Nat)
  let x : Int := s.runPos a - a.y
  if a.p = 0 then decide (tol * (s.fir.cl : Int) < 256 * |x|)
  else decide (tol * (s.fir.cl : Int) * (a.p : Int) < 256 * |x * (a.p : Int) - ((s.cycle : Int) - a.t) * (256 * s.fir.cl)|)

/-- Offset O_c as committed, in 2^-32 counts. -/
def State.offsetActive (s : State) (c : Nat) : Int :=
  signed 48 (join48 (s.act (FIR_CH_OFFSET_LO c)) (s.act (FIR_CH_OFFSET_HI c))) * 2 ^ 32

/-- Bar position X_c(A) of absolute line A (R212). -/
def State.linePos (s : State) (c : Nat) (a : Int) : Int :=
  let f := s.fch c
  s.fir.w0 * 2 ^ 32 + f.offset + (a - f.a0.getD 0) * (s.fir.cl : Int)

/-- t_c(A): predicted line boundary (R217). -/
def State.lineTime (s : State) (p : Anchor) (c : Nat) (a : Int) : Int :=
  s.tau p (s.linePos c a) - ((s.fch c).flight : Int)

/-- Fixing cycle of line A (R217). -/
def State.fixTime (s : State) (p : Anchor) (c : Nat) (a : Int) : Int :=
  s.lineTime p c a - (s.lead : Int) - (s.dMax c : Int)

/-- Fix A0_c under an anchor (R233): the largest whole m whose grid position W0 + O_c − m × C_L has its fixing cycle at least
2 µs (1,600 cycles) after the position was known. Nothing changes while it is fixed already or there is no period. -/
def State.fixOrigin (s : State) (p : Anchor) (c : Nat) : State :=
  let f := s.fch c
  if f.a0.isSome ∨ !f.on ∨ p.p = 0 ∨ s.fir.cl = 0 then s
  else
    let need : Int := f.known + 1600 + f.flight + s.lead + s.dMax c - p.t
    let xmin := p.y + -((-(need * (256 * (s.fir.cl : Int)))) / (p.p : Int))
    let m := (s.fir.w0 * 2 ^ 32 + f.offset - xmin) / (s.fir.cl : Int)
    s.updFch c fun f => { f with a0 := some m }

/-- At an anchor that has a period, fix A0 of every channel of the run that still seeks it, with the anchor's cycle in place of
the moment at which X_s was known (R233). -/
def State.fixOrigins (s : State) (a : Anchor) : State :=
  if a.p = 0 then s
  else (List.range 8).foldl (fun s c =>
    if (s.fch c).a0.isNone then (s.updFch c fun f => { f with known := a.t }).fixOrigin a c else s) s

/-! ## Placement in force (R226) -/

/-- Move a number toward another by at most `d`. -/
def toward (d x y : Int) : Int := if x < y then min y (x + d) else max y (x - d)

/-- Committed ROWPOS and DIEPOS of a channel, in 2^-32 counts. -/
def State.rowposActive (s : State) (c j : Nat) : Nat := (s.act (FIR_CH_ROWPOS c j)).toNat * 2 ^ 32
/-- DIEPOS. -/
def State.dieposActive (s : State) (c d : Nat) : Nat := (s.act (FIR_DIEPOS c d)).toNat * 2 ^ 32

/-- Whether the values in force of a channel differ from the committed ones. -/
def State.ramps (s : State) (c : Nat) : Bool :=
  let f := s.fch c
  f.offset ≠ s.offsetActive c || f.flight ≠ s.getA (FIR_CH_FLIGHT_CYCLES c)
    || (List.range 6).any (fun j => f.rowpos.getD j 0 ≠ s.rowposActive c j)
    || (List.range 52).any (fun d => f.diepos.getD d 0 ≠ s.dieposActive c d)

/-- One line's step of the phasing (R226), under period `p` in whole cycles; RAMPING follows. -/
def State.rampStep (s : State) (c p : Nat) : State :=
  if s.ramps c then
    let d : Int := s.fir.cl / 2048
    let s := s.updFch c fun f => { f with
      offset := toward d f.offset (s.offsetActive c)
      flight := (toward (p / 2048 : Nat) f.flight (s.getA (FIR_CH_FLIGHT_CYCLES c) : Int)).toNat
      rowpos := (List.range 6).map fun j => (toward d (f.rowpos.getD j 0) (s.rowposActive c j)).toNat
      diepos := (List.range 52).map fun i => (toward d (f.diepos.getD i 0) (s.dieposActive c i)).toNat }
    s.put ⟨FIR_STAT, c, 1⟩ (bit (s.ramps c))
  else s.put ⟨FIR_STAT, c, 1⟩ 0

/-- Target width of a die from its latest valid temperature; none is taken at T_REF. -/
def strobeTarget (strobe strobeT : Word) (temp : Option Int) : Int :=
  let tref : Int := bits strobeT 8 8
  let t := temp.getD tref
  clampInt (bits strobe 0 11) 2047 ((bits strobe 12 11 : Int) + signed 8 (bits strobeT 0 8) * (tref - t) / 16)

/-- Take the committed values at once, as at an idle boundary (R226): the strobe words too, and every width at its target
(log entry 102, DEDUCED). -/
def State.rampFinish (s : State) (c : Nat) : State :=
  let s := s.updFch c fun f => { f with
    offset := s.offsetActive c
    flight := s.getA (FIR_CH_FLIGHT_CYCLES c)
    rowpos := (List.range 6).map (s.rowposActive c)
    diepos := (List.range 52).map (s.dieposActive c)
    strobe := s.act (FIR_CH_STROBE c)
    strobeT := s.act (FIR_CH_STROBE_T c)
    width := (List.range 52).map fun d =>
      (strobeTarget (s.act (FIR_CH_STROBE c)) (s.act (FIR_CH_STROBE_T c)) (f.temp.getD d none)).toNat }
  s.put ⟨FIR_STAT, c, 1⟩ 0

/-! ## Strobe widths (R219) -/

/-- At an anchor, take committed strobe words and move each width by at most 4 cycles (R219, R226). -/
def State.strobeStep (s : State) : State :=
  (List.range 8).foldl (fun s c =>
    let w := s.act (FIR_CH_STROBE c)
    let wt := s.act (FIR_CH_STROBE_T c)
    s.updFch c fun f => { f with
      strobe := w
      strobeT := wt
      width := (List.range 52).map fun d =>
        (toward 4 (f.width.getD d 960) (strobeTarget w wt (f.temp.getD d none))).toNat }) s

/-! ## Pages along the run (R212) -/

/-- The page of run line J on channel c, if a page of a job of the channel covers it. -/
def State.pageAt (s : State) (c : Nat) (j : Int) : Option Page :=
  s.pnd.pages.find? fun p =>
    match p.first with
    | some f => f ≤ j && j < f + p.lines && (((s.job? p.job).map fun b => b.mask.getLsbD c).getD false)
    | none => false

/-- Lay out the pages of a job that have no run line yet, each PAGE_GAP lines after the page before (R212). -/
def State.layOut (s : State) (job : BitVec 16) : State :=
  match s.job? job with
  | none => s
  | some j =>
    s.pnd.pages.foldl (fun s p =>
      if p.job = job ∧ p.first.isNone ∧ p.queued then
        let first := if s.fir.laid then s.fir.endLine + j.gap else s.fir.endLine
        let s := s.updPage p.id fun p => { p with first := some first }
        { s with fir := { s.fir with endLine := first + p.lines, laid := true } }
      else s) s

/-! ## Start (R231 to R233, R238, R500) -/

/-- Own compare unit 0 and load the next anchor's position as its active target, with STEP 0 and no count (R259). -/
def State.loadUnit0 (s : State) : State :=
  let y := s.anchorAt s.fir.nextReach
  let s := { s with pos := { s.pos with
    target := s.pos.target.set 0 y, step := s.pos.step.set 0 0, count := s.pos.count.set 0 0 } }
  (s.putFlag (POS_CMP_CTL_EN 0) true).putFlag (POS_CMP_STAT_OWNED 0) true

/-- Unit 0 belongs to the line clock while it runs and while any channel is in Prime, Print, Degraded or Drain; it is taken and
released with EN = 0 (R214, R234, R259). -/
def State.syncUnit0 (s : State) : State :=
  let own := s.flag FIR_STAT_RUNNING || s.anyPrinting
  if !s.runs 8 || own = s.flag (POS_CMP_STAT_OWNED 0) then s
  else (s.putFlag (POS_CMP_CTL_EN 0) false).putFlag (POS_CMP_STAT_OWNED 0) own

/-- FIR_CTL as START_JOB has read it, while a run goes on or a job waits for one (R240). -/
def State.firCtl (s : State) : Word :=
  if s.flag FIR_STAT_RUNNING || s.fir.waiting.isSome || s.fir.restart.isSome then s.fir.ctl else s.reg FIR_CTL

/-- A field of FIR_CTL as START_JOB has read it. -/
def State.ctlGet (s : State) (f : Fld) : Nat := bits s.firCtl f.lo f.width

/-- A channel enters the run, the counter value being known in this cycle (R54, R233): it counts its absolute lines from here, and what
was fixed and assembled under its earlier numbers goes. -/
def State.enterRun (s : State) (c : Nat) : State :=
  let s := s.updFch c fun f => { f with
    on := true, a0 := none, known := s.cycle, fix := 0, asm := 0, next := 0, t := s.cycle, bt := s.cycle, stop := none,
    fired := [], seq := s.asm.seq, p := 0, phase := List.replicate 52 0 }
  let s := { s with asm := { s.asm with
    cols := s.asm.cols.set c [], facc := s.asm.facc.set c [], lines := s.asm.lines.filter fun l => l.ch ≠ c
    caps := s.asm.caps.set c [], reach := s.asm.reach.set c none } }
  let s := { s with jgl := { s.jgl with carriers := s.jgl.carriers.mapIdx fun (n : Nat) (x : Carrier) =>
    if n / 2 = c then { x with started := false } else x }, fir := { s.fir with
    entering := putBit s.fir.entering c false
    lines := s.fir.lines.filter fun (l : FixedLine) => l.ch ≠ c
    late := s.fir.late.filter fun (l : Nat × Int) => l.1 / 2 ≠ c
    returning := s.fir.returning.filter fun (r : Nat × Nat × Int) => r.1 ≠ c } }
  let s := if s.ramps c then s else s.put ⟨FIR_STAT, c, 1⟩ 0
  match s.params with
  | some a => s.fixOrigin a c
  | none => s

/-- A tandem leader drives LINE_SYNC_OUT high for a number of cycles (R238); pulses that meet are one. -/
def State.leaderPulse (s : State) (cycles : Nat) : State :=
  if s.ctlGet FIR_CTL_TANDEM = 1 then
    let s := if s.fir.syncEnd.isSome then s else s.emit (.lineSync true)
    { s with fir := { s.fir with syncEnd := some (max (s.fir.syncEnd.getD 0) (s.cycle + cycles)) } }
  else s

/-- The pulse on LINE_SYNC_OUT ends (R238). -/
def State.endSync (s : State) : State :=
  match s.fir.syncEnd with
  | none => s
  | some t => if s.cycle < t then s else ({ s with fir := { s.fir with syncEnd := none } }).emit (.lineSync false)

/-- The least W0 of R232: at least X_s + START_DIST, and W0 + O_c − X_s ≥ 64 × C_L on every channel of the job. -/
def State.leastW0 (s : State) (chs : List Nat) (xs w0 : Int) (cl : Nat) : Int :=
  chs.foldl (fun m c => max m (xs + -((s.offsetActive c - 64 * (cl : Int)) / 2 ^ 32))) w0

/-- START_DIST in counts. -/
def State.startDist (s : State) : Int := join48 (s.reg FIR_START_DIST_LO) (s.reg FIR_START_DIST_HI)

/-- The grid of a new run: C_L, reach length, W0 and X_s (R231, R232), with H equal to the counter (R248). -/
def State.newGrid (s : State) (j : Job) (xs w0 : Int) : State :=
  let s := { s with fir := { s.fir with
    cl := s.cplOf j.lpi600, lpi600 := j.lpi600, reachLog2 := s.ctlGet FIR_CTL_REACH_LOG2, ctl := s.firCtl, w0 := w0, xs := xs, coming := [], late := [],
    waiting := none, restart := none, endLine := 0, camNext := 0, camT := s.cycle, firedEnd := -1, laid := false, lines := [], held := [] } }
  let s := ({ s with ins := { s.ins with noMarks := [] } }).setPos48 FIR_W0_LO FIR_W0_HI w0
  let s := s.setPos48 POS_HWM_LO POS_HWM_HI s.counter
  (s.putFlag FIR_STAT_RUNNING true).putFlag FIR_STAT_WAIT_TRIGGER false

/-- Reach that contains a counter value, in the grid in force (R233). -/
def State.reachOf (s : State) (x : Int) : Int := (x - s.fir.w0) * 2 ^ 32 / ((s.reachLen : Int) * (s.fir.cl : Int))

/-- The provisional anchor of R233, and compare unit 0 loaded with the first anchor. -/
def State.provisional (s : State) (xs : Int) : State :=
  let r := s.reachOf xs
  ({ s with fir := { s.fir with anchor := some (s.mkAnchor (xs * 2 ^ 32) s.cycle r), nextReach := r + 1 } }).rollAnchor.loadUnit0

/-- The line clock starts for the channels of a mask, with X_s known in this cycle (R231 to R233). -/
def State.startGrid (s : State) (j : Job) (xs : Int) : State :=
  let chs := bitList j.mask
  let w := xs + s.startDist
  let w0 := s.leastW0 chs xs w (s.cplOf j.lpi600)
  let s := if w0 > w then s.putFlag FIR_STAT_START_MOVED true else s
  let s := (((s.newGrid j xs w0).provisional xs).leaderPulse 160)
  chs.foldl (fun s c => (s.rampFinish c).enterRun c) s

/-- The line clock starts for a job. -/
def State.startClock (s : State) (job : BitVec 16) (xs : Int) : State :=
  match s.job? job with
  | none => s
  | some j => (s.startGrid j xs).layOut job

/-- The line clock stops (R234): unit 0 is disarmed and released and RUNNING clears. H equals the counter again (R248), and a pause ends with
the emission it held back (log entry 103, DEDUCED). -/
def State.stopClock (s : State) : State :=
  let s := { s with
    fir := { s.fir with anchor := none, coming := [], lines := [], held := [] }
    pos := { s.pos with revFault := false } }
  let s := (s.setPos48 POS_HWM_LO POS_HWM_HI s.counter).put POS_REV_DEPTH_COUNTS 0
  (((s.putFlag POS_STAT_PAUSED false).putFlag (POS_CMP_CTL_EN 0) false).putFlag FIR_STAT_RUNNING false).syncUnit0

/-- Every channel leaves the run and the line clock stops. -/
def State.haltClock (s : State) : State :=
  State.stopClock { s with fir := { s.fir with channels := s.fir.channels.map fun (f : FirCh) => { f with on := false } } }

/-- Blank every line of a channel from its first line not yet fixed; that line's marker carries DISCARD (R235). -/
def State.blankFrom (s : State) (c : Nat) : State :=
  s.updFch c fun f => { f with stop := match f.stop with
    | some x => some x
    | none => some f.fix }

/-- Whether lines of a channel are being fixed (R501): it is in the run, there is a period, and emission is not paused. -/
def State.fixing (s : State) (c : Nat) : Bool :=
  (s.fch c).on && s.flag FIR_STAT_RUNNING && !s.flag POS_STAT_PAUSED
    && (match s.params with
        | some a => a.p ≠ 0
        | none => false)

/-- Whether die d of channel c is blanked (R236). -/
def State.hot (s : State) (c d : Nat) : Bool :=
  if d < 32 then (s.reg (FIR_CH_HOT_LO c)).getLsbD d else (s.reg (FIR_CH_HOT_HI c)).getLsbD (d - 32)

/-- Blank or unblank a die, and show it. -/
def State.setHot (s : State) (c d : Nat) (b : Bool) : State :=
  let s := if d < 32 then s.put ⟨FIR_CH_HOT_LO c, d, 1⟩ (bit b) else s.put ⟨FIR_CH_HOT_HI c, d - 32, 1⟩ (bit b)
  s.put ⟨FIR_STAT, 8 + c, 1⟩ (bit (s.reg (FIR_CH_HOT_LO c) ≠ 0 || s.reg (FIR_CH_HOT_HI c) ≠ 0))

/-- Row depth D of a channel: 0 acts as 1, 7 as 6 (R209). -/
def State.depth (s : State) (c : Nat) : Nat := max 1 (min 6 (s.get (ASM_CH_CFG_D c)))

/-- Rated firing frequency f_die of a channel in Hz (R23, R240). -/
def State.fdie (s : State) (c : Nat) : Nat := 1000 * max 1 (min 64 (s.get (FIR_CH_FDIE_KHZ c)))

end Sys2Proof.Machine
end

