-- ==== Sys2Proof/Machine/Temper.lean ====
section
/-! DEFINITION. The temperature sources of the temper runs that the chip forms from what carriers report (R346). -/

namespace Sys2Proof.Machine

/-- A mean of whole degrees in 2^-16 °C, rounded down; none without a reading. -/
def meanTemp (l : List Int) : Option Int := if l.isEmpty then none else some (l.sum * 65536 / (l.length : Int))

/-- The reading of quantity 2, the mean of the latest die temperatures of the enabled channels, and of quantity 3, the mean REG_TEMP of the
enabled carriers (R346). -/
def State.sourceNow (s : State) (q : Nat) : Option Int :=
  if q = 2 then meanTemp (s.enabled.flatMap fun c => (s.fch c).temp.filterMap id)
  else meanTemp (s.carriers.map fun n => signed 8 (s.get (JGL_C_RSTAT_REG_TEMP n)))

/-- Readings of both add up over the cycles since they were last added up. -/
def State.soak (s : State) : State :=
  let dt := s.cycle - s.cal.heatAt
  let add (q : Nat) : Int × Nat :=
    let h := s.cal.heat.getD (q - 2) (0, 0)
    match s.sourceNow q with
    | some v => (h.1 + v * dt, h.2 + dt)
    | none => h
  { s with cal := { s.cal with heat := [add 2, add 3], heatAt := s.cycle } }

/-- What a source read on average since the latest check, in °C rounded to the nearest; none without a reading. -/
def State.averaged (s : State) (q : Nat) : Option Int :=
  let h := s.cal.heat.getD (q - 2) (0, 0)
  if h.2 = 0 then (s.sourceNow q).map fun v => roundDiv v 65536 else some (roundDiv h.1 (65536 * h.2))

end Sys2Proof.Machine
end

