-- ==== Sys2Proof/Machine/Carriers.lean ====
section
/-! DEFINITION. Carriers and lanes as the other blocks use them: records of lanes and carriers, the filling of their slots, messages and
their numbering (R287, R288), markers (R269, R501), the lanes in traffic (R277 to R282), and SYS_DEGRADE (R58). -/

namespace Sys2Proof.Machine

/-- Carrier record n. -/
def State.carrier (s : State) (n : Nat) : Carrier := s.jgl.carriers.getD n Carrier.reset

/-- Change carrier record n. -/
def State.updCarrier (s : State) (n : Nat) (f : Carrier → Carrier) : State :=
  { s with jgl := { s.jgl with carriers := s.jgl.carriers.set n (f (s.carrier n)) } }

/-- Lane record l. -/
def State.lane (s : State) (l : Nat) : Lane := s.jgl.lanes.getD l Lane.reset

/-- Change lane record l. -/
def State.updLane (s : State) (l : Nat) (f : Lane → Lane) : State :=
  { s with jgl := { s.jgl with lanes := s.jgl.lanes.set l (f (s.lane l)) } }

/-- State code of a lane (R272). -/
def State.laneState (s : State) (l : Nat) : Nat := s.get (JGL_L_STAT_STATE l)

/-- Whether a lane is ACTIVE or FROZEN. -/
def State.laneLive (s : State) (l : Nat) : Bool := s.laneState l = 5 || s.laneState l = 6

/-- The other lane of the carrier. -/
def partner (l : Nat) : Nat := if l % 2 = 0 then l + 1 else l - 1

/-- Whether a carrier is of an enabled channel. -/
def State.carrierOn (s : State) (n : Nat) : Bool := s.sys.channels.getLsbD (n / 2)

/-- Whether channel c is in Prime, Print, Degraded or Drain. -/
def State.printing (s : State) (c : Nat) : Bool := 6 ≤ s.chMode c && s.chMode c ≤ 9

/-! ## Slots (R263 to R269, R277, R291, R292) -/

/-- Content of the TRAIN blocks a lane sends (R273): what it expects, its taps' status, its receiver's state and requests. -/
def State.trainWord (s : State) (l : Nat) : Block :=
  let x := s.lane l
  let three (v : List Nat) (lo : Nat) : Nat := v.getD 0 0 % 4 * 2 ^ (lo + 4) + v.getD 1 0 % 4 * 2 ^ (lo + 2) + v.getD 2 0 % 4 * 2 ^ lo
  ctlBlock 0x66 (l / 2 * 2 ^ 28 + l % 2 * 2 ^ 27 + three x.status 14 + bit (s.flag (JGL_L_STAT_RX_READY_NEAR l)) * 2 ^ 8 + three x.asked 1)

/-- Log2 of the interval of a lane's continuous errors (R292): RATE_LOG2 0 injects none. -/
def State.errorRate (s : State) (l : Nat) : Option Nat :=
  let r := s.get (JGL_L_PRBS_RATE_LOG2 l)
  if s.flag (JGL_L_PRBS_INJ_CONT l) && r ≠ 0 then some (max 10 (min 40 r)) else none

/-- What decides how a lane fills its slots. -/
def State.laneEnv (s : State) (l : Nat) : LaneEnv :=
  let p := s.get (JGL_L_PRBS_PATTERN l)
  { state := s.laneState l
    train := s.trainWord l
    pattern := if (s.lane l).test && s.flag (JGL_L_PRBS_GEN l) && p ≠ 0 then some p else none
    rate := s.errorRate l
    period := max 256 (min 4096 (s.get JGL_FILL_PERIOD)) }

/-- Bits a checker has checked since lock, in units of 65,536 (R294): 25.78125 Gbit/s against 800 MHz. -/
def State.bitsChecked (s : State) (l : Nat) : Nat := min (2 ^ 32 - 1) ((s.cycle - (s.lane l).lockAt) * 4125 / 128 / 65536)

/-- Whether a lane sends electrical idle (R272). -/
def State.laneDark (s : State) (l : Nat) : Bool := s.laneState l = 0 || s.laneState l = 7

/-- Take over a lane and record what it has sent since a slot; under injected electrical idle (R293) nothing leaves. -/
def State.sent (s : State) (l slot : Nat) (x : Lane) (words : List (BitVec 66)) : State :=
  if s.laneDark l then s
  else
    let w := words.reverse.drop (x.darkTo - slot)
    let s := s.updLane l fun _ => x
    if w.isEmpty then s else s.emit (.lane l (max slot x.darkTo) w)

/-- Fill the slots of carrier n's lanes up to this cycle. -/
def State.drain (s : State) (n : Nat) : State :=
  let c := s.carrier n
  let to_ := slotAt s.cycle
  if to_ ≤ c.slot then s
  else if s.laneDark (2 * n) && s.laneDark (2 * n + 1) then s.updCarrier n fun c => { c with slot := to_ }
  else
    let r := LinkTx.run (s.get (JGL_C_STAT_LANES n)) (c.mode = 1 && !c.unstriped) (s.laneEnv (2 * n)) (s.laneEnv (2 * n + 1))
      (to_ - c.slot) ⟨c, s.lane (2 * n), s.lane (2 * n + 1), [], []⟩
    ((s.updCarrier n fun _ => r.carrier).sent (2 * n) c.slot r.even r.evenOut).sent (2 * n + 1) c.slot r.odd r.oddOut

/-- Lanes of carrier n that carry traffic. -/
def State.carrying (s : State) (n : Nat) : List Nat :=
  (List.range 2).filterMap fun k => if (s.get (JGL_C_STAT_LANES n)).testBit k then some (2 * n + k) else none

/-- A frame or message waits to be sent to carrier n. -/
def State.queueItem (s : State) (n : Nat) (i : TxItem) : State :=
  let s := s.drain n
  if (s.carrying n).isEmpty then s else s.updCarrier n fun c => { c with items := c.items ++ [i] }

/-- Whether the frame of a line has not been sent completely to carrier n. -/
def State.frameUnderWay (s : State) (n : Nat) (a : Int) : Bool :=
  let c := s.carrier n
  (c.items.any fun i => i.line = some a) || (c.line = some a && (s.carrying n).any fun l => !(s.lane l).body.isEmpty)

/-- What is left of the frame of a line is not sent to carrier n. -/
def State.cutFrame (s : State) (n : Nat) (a : Int) : State :=
  let c := s.carrier n
  let s := if c.line = some a then (s.carrying n).foldl (fun s l => s.updLane l fun x => { x with body := [] }) s else s
  s.updCarrier n fun c => { c with items := c.items.filter fun (i : TxItem) => i.line ≠ some a }

/-- A marker group takes the first slot after this cycle on every lane in traffic (R269); a lane whose markers are withheld (R293) sends
IDLE there. -/
def State.queueMarker (s : State) (n : Nat) (m : Marker) : State :=
  let s := s.drain n
  let b := m.blocks
  let put (s : State) (l : Nat) : State := s.updLane l fun x =>
    if 0 < x.badMarkers then { x with front := x.front ++ b.map fun _ => idleBlock, badMarkers := x.badMarkers - 1 }
    else { x with front := x.front ++ b }
  let s := (s.carrying n).foldl put s
  (s.updCarrier n fun c => { c with marked := c.slot }).emit (.marker n m)

/-- A lane enters a state (R272). -/
def State.laneEnter (s : State) (l st : Nat) : State :=
  let s := (s.drain (l / 2)).put (JGL_L_STAT_STATE l) st
  s.updLane l fun x => { x with entered := s.cycle, cleanAt := s.cycle }

/-! ## Messages and markers -/

/-- The data blocks of a message with the CRC of R287 in bits 31:0 of the last: over bits 63:8 of its MSG block (TYPE, LEN,
SEQ) and the data blocks before the last. -/
def msgBody (kind seq : Nat) (blocks : List Nat) : List Nat :=
  let head := leBytes 1 kind ++ leBytes 1 blocks.length ++ leBytes 2 seq ++ [0, 0, 0]
  let before := blocks.dropLast
  let crc := crc32c (head ++ before.flatMap (leBytes 8))
  before ++ [blocks.getLastD 0 / 2 ^ 32 * 2 ^ 32 + crc.toNat]

/-- Send a downstream message (R287, R288): the next SEQ of the carrier, kept until its ACK. -/
def State.sendMsg (s : State) (n kind : Nat) (blocks : List Nat) : State :=
  let q := (s.carrier n).nextSeq
  let body := msgBody kind q blocks
  let s := s.updCarrier n fun c =>
    { c with nextSeq := (q + 1) % 65536, msgs := c.msgs ++ [⟨kind, q, body, 1, s.cycle⟩] }
  (s.queueItem n ⟨none, msgBlocks kind q body⟩).emit (.carrierMsg n kind q body)

/-- Send an ALIGN marker to a carrier, with a running count as its EPOCH (R268, R269). -/
def State.sendAlign (s : State) (n : Nat) (discard : Bool) : State :=
  let k := (s.carrier n).aligns
  let s := s.updCarrier n fun c => { c with aligns := (k + 1) % 2 ^ 32 }
  s.queueMarker n ⟨1, k, [], discard⟩

/-- Discard the rows a carrier holds, as a marker with DISCARD does (R268). -/
def State.discardHeld (s : State) (n : Nat) : State :=
  { s with fir := { s.fir with held := s.fir.held.filter fun h => !(h.ch = n / 2 && h.die / 26 = n % 2) } }

/-- Change SYS_DEGRADE, raising vector 2 where a bit changes (R459). -/
def State.setDegrade (s : State) (v : Word) : State :=
  if s.reg SYS_DEGRADE = v then s else (s.setReg SYS_DEGRADE v).raiseData 2 v.toNat

/-- Whether LANE_SINGLE applies to a carrier: up, configured mirror or stripe, on one lane (R279). -/
def State.laneSingle (s : State) (n : Nat) : Bool :=
  s.carrierOn n && (s.carrier n).mode < 2 && s.flag (JGL_C_STAT_UP n)
    && (s.get (JGL_C_STAT_LANES n) = 1 || s.get (JGL_C_STAT_LANES n) = 2)

/-- Channels with a carrier on one lane. -/
def State.laneChannels (s : State) : BitVec 8 :=
  (List.range 16).foldl (fun v n => if s.laneSingle n then v ||| chBit (n / 2) else v) 0

/-- Show LANE_SINGLE and LANE_CH; channels that gain the cause while printing are due to enter Degraded (R58). -/
def State.syncLanes (s : State) : State :=
  let old := bits (s.reg SYS_DEGRADE) 4 8
  let new := s.laneChannels
  let v := withBits (withBits (s.reg SYS_DEGRADE) 4 8 new.toNat) 1 1 (bit (new ≠ 0))
  let s := s.setDegrade v
  { s with sys := { s.sys with degradeDue := s.sys.degradeDue ||| (new &&& ~~~ (BitVec.ofNat 8 old)) } }

/-- The dies of a carrier that comes up have no valid reading yet (R219). -/
def State.forgetTemps (s : State) (n : Nat) : State :=
  let s := s.soak
  { s with fir := { s.fir with channels := s.fir.channels.zipIdx.map fun x =>
      if x.2 = n / 2 then { x.1 with
          temp := x.1.temp.zipIdx.map fun y => if y.2 / 26 = n % 2 then none else y.1
          tempAt := x.1.tempAt.zipIdx.map fun y => if y.2 / 26 = n % 2 then s.cycle else y.1 }
      else x.1 } }

/-- A lane starts to carry traffic: its LANES bit and UP (R281, R282). -/
def State.laneTake (s : State) (l : Nat) : State :=
  let n := l / 2
  let s := s.drain n
  let s := if s.flag (JGL_C_STAT_UP n) then s else s.forgetTemps n
  let s := s.updLane l fun x => { x with rejoin := false }
  let s := s.put ⟨JGL_C_STAT n, 29 + l % 2, 1⟩ 1
  s.putFlag (JGL_C_STAT_UP n) true

/-- A lane starts to carry traffic, and LANE_SINGLE follows. -/
def State.laneJoin (s : State) (l : Nat) : State := (s.laneTake l).syncLanes

/-- A lane carries no more traffic; what waits for a carrier without any is not sent. -/
def State.laneLeave (s : State) (l : Nat) : State :=
  let s := ((s.drain (l / 2)).put ⟨JGL_C_STAT (l / 2), 29 + l % 2, 1⟩ 0).updLane l fun x => { x with front := [], body := [] }
  if (s.carrying (l / 2)).isEmpty then s.updCarrier (l / 2) fun c => { c with items := [], line := none } else s

/-- Start training a lane (R272): DETECT at the preset taps, and TRAINS counts. What its scrambler starts from is open (log entry 1,
DESIGN CHOICE). -/
def State.laneDetect (s : State) (l : Nat) : State :=
  let s := s.laneLeave l
  let s := s.setReg (JGL_L_STAT l) (withBits (BitVec.ofNat 32 (2 ^ 29)) 0 16 (s.get (JGL_L_STAT_TRAINS l) + 1))
  let s := s.setReg (JGL_L_TXTAP l) 0x00083404
  let f := s.draw
  let s := f.2.updLane l fun _ => { Lane.reset with
    filled := (s.carrier (l / 2)).slot, scrambler := f.1.setWidth 58, entered := s.cycle, cleanAt := s.cycle, checkedAt := s.cycle
    tried := some s.cycle }
  s.liveAdd JGL_STB_INFO (JGL_STB_RETRAIN_COUNT) 1

/-- Whether a lane may be retrained: its partner is ACTIVE or FROZEN (R282). -/
def State.mayRetrain (s : State) (l : Nat) : Bool := s.laneLive (partner l)

/-- A lane enters FAILED with a cause (R272). -/
def State.laneFail (s : State) (l cause : Nat) : State :=
  let s := (s.laneLeave l).laneEnter l 7
  let s := s.put (JGL_L_STAT_FAIL_CAUSE l) cause
  let s := (s.putFlag (JGL_L_STAT_BLOCK_LOCK l) false).putFlag (JGL_L_STAT_ADAPT_ON l) false
  s.updLane l fun x => { x with rejoin := false, wanted := true }

/-- The lane mode written takes effect (R277): a lane a single mode leaves out turns OFF. -/
def State.takeMode (s : State) (n : Nat) : State :=
  let m := s.get (JGL_C_CFG_MODE n)
  let s := s.updCarrier n fun c => { c with mode := m, unstriped := false }
  let off (s : State) (l : Nat) : State :=
    ((s.laneLeave l).laneEnter l 0).updLane l fun x => { x with rejoin := false, wanted := false, due := false }
  let on (s : State) (l : Nat) : State :=
    if s.sys.step = 17 && s.carrierOn n && s.get (JGL_L_STAT_STATE l) = 0 then s.laneDetect l else s
  let s := if m = 3 then off s (2 * n) else on s (2 * n)
  let s := if m = 2 then off s (2 * n + 1) else on s (2 * n + 1)
  s.syncLanes

end Sys2Proof.Machine
end

