-- ==== Sys2Proof/Machine/Ports.lean ====
section
/-! DEFINITION. Encoder ports as a group (R252 to R255): which is active, which is usable, VALID, and the change of the active
port. -/

namespace Sys2Proof.Machine

/-- Fault bits ILLEGAL, AMPLITUDE and SLIP of a port in POS_FAULT. -/
def faultBits (p : Nat) : List Fld := [⟨POS_FAULT, 4 + p, 1⟩, ⟨POS_FAULT, 8 + p, 1⟩, ⟨POS_FAULT, 12 + p, 1⟩]

/-- Whether a fault bit of a port is set. -/
def State.portFault (s : State) (p : Nat) : Bool := (faultBits p).any s.flag

/-- Encoder port p beside its registers. -/
def State.port (s : State) (p : Nat) : Port := s.pos.ports.getD p Port.reset

/-- Change encoder port p. -/
def State.updPort (s : State) (p : Nat) (f : Port → Port) : State :=
  { s with pos := { s.pos with ports := s.pos.ports.set p (f (s.port p)) } }

/-- The active port. -/
def State.activePort (s : State) : Nat := s.get POS_STAT_ACTIVE

/-- Whether the active port gives a valid position in this cycle (R253). -/
def State.validNow (s : State) : Bool :=
  let p := s.activePort
  let quiet := ((s.port p).badAt.map fun t => decide (s.cycle ≥ t + 800000)).getD true
  s.flag (POS_PORT_CFG_EN p) && !s.portFault p && (2 ≤ p || quiet)

/-- Show VALID and each port's FAULT (R253). -/
def State.syncValid (s : State) : State :=
  let s := s.putFlag POS_STAT_VALID s.validNow
  (List.range 4).foldl (fun s p => s.putFlag (POS_PORT_STAT_FAULT p) (s.portFault p)) s

/-- Whether a backup is enabled: another port than PRIMARY (R260). -/
def State.backupOn (s : State) : Bool :=
  s.flag POS_SEL_BACKUP_EN && s.get POS_SEL_BACKUP ≠ s.get POS_SEL_PRIMARY

/-- The port of the two that is not active. -/
def State.otherPort (s : State) : Nat :=
  if s.activePort = s.get POS_SEL_PRIMARY then s.get POS_SEL_BACKUP else s.get POS_SEL_PRIMARY

/-- Whether the backup can take over: enabled, its port enabled and without fault, and not active already (R253). -/
def State.backupUsable (s : State) : Bool :=
  let b := s.get POS_SEL_BACKUP
  s.backupOn && s.activePort ≠ b && s.flag (POS_PORT_CFG_EN b) && !s.portFault b

/-- Show POS_TRACK_DEV, saturating. -/
def State.syncTrack (s : State) : State :=
  s.setReg POS_TRACK_DEV (BitVec.ofInt 32 (clampInt (-(2 ^ 31)) (2 ^ 31 - 1) s.pos.track))

/-- Change the active port (R247, R255): the counter moves by nothing, the speed window and the tracking sum restart. -/
def State.switchPort (s : State) (p : Nat) : State :=
  let s := (s.put POS_STAT_ACTIVE p).putFlag POS_STAT_ON_BACKUP (s.backupOn && p = s.get POS_SEL_BACKUP)
  let s := { s with pos := { s.pos with events := [], track := 0 } }
  (s.syncTrack.syncSpeed).syncValid

/-- Make the primary port active again (R254): ENC_BACKUP clears. -/
def State.reselect (s : State) : State :=
  let s := s.putFlag POS_STAT_RESELECT_PENDING false
  let s := if s.activePort = s.get POS_SEL_PRIMARY then s.putFlag POS_STAT_ON_BACKUP false else s.switchPort (s.get POS_SEL_PRIMARY)
  s.setDegrade (withBits (s.reg SYS_DEGRADE) 0 1 0)

/-- The switch of RESELECT at an idle boundary. -/
def State.reselectIdle (s : State) : State := if s.flag POS_STAT_RESELECT_PENDING then s.reselect else s

end Sys2Proof.Machine
end

