-- ==== Sys2Proof/Machine/Encoder.lean ====
section
/-! DEFINITION. What an encoder port makes of its signals (R242 to R245, R250): phase and radius of an analog sample, filtered edges of
a digital port, quarter-period crossings, and the position extrapolated to a cycle. -/

namespace Sys2Proof.Machine

/-! ## Analog samples (R242, R243) -/

/-- s and c of a sample, both in 2^-14 ADC LSB, so that GAIN_COS ÷ 16,384 stays exact. -/
def State.sampleSC (s : State) (p : Nat) (sin cos : Int) : Int × Int :=
  ((sin - signed 16 (s.get (POS_PORT_OFFSET_OFF_SIN p))) * 16384,
    (cos - signed 16 (s.get (POS_PORT_OFFSET_OFF_COS p))) * (s.get (POS_PORT_GAIN_GAIN_COS p) : Int))

/-- The first n binary digits of the angle of (c, s) as a fraction of a turn: each digit tells the half turn, and squaring the complex
number c + i s doubles its angle. -/
def turnBits : Nat → Int → Int → Nat
  | 0, _, _ => 0
  | n + 1, s, c =>
    bit (decide (s < 0 ∨ (s = 0 ∧ c < 0))) * 2 ^ n + turnBits n (2 * s * c) (c * c - s * s)

/-- phi: floor(atan2(s, c) × 4,096 ÷ 2π) mod 4,096. -/
def phaseOf (s c : Int) : Nat := turnBits 12 s c

/-- Whether a sample is bad: r2 outside AMP_LO × NOM² ÷ 100 to AMP_HI × NOM² ÷ 100. -/
def State.radiusBad (s : State) (p : Nat) (sc : Int × Int) : Bool :=
  let r2 := 100 * (sc.1 * sc.1 + sc.2 * sc.2)
  let nom : Int := (s.get (POS_PORT_GAIN_NOM p) : Int) ^ 2 * 2 ^ 28
  decide (r2 < (s.get (POS_PORT_AMP_AMP_LO p) : Int) * nom ∨ (s.get (POS_PORT_AMP_AMP_HI p) : Int) * nom < r2)

/-! ## Raw counts -/

/-- Counts per step of a port (R241, R260). -/
def State.scale (s : State) (p : Nat) : Nat := max 1 (min 4096 (s.get (POS_PORT_CFG_SCALE p)))

/-- Counts per step, with INVERT. -/
def State.scaleSigned (s : State) (p : Nat) : Int := if s.flag (POS_PORT_CFG_INVERT p) then -(s.scale p) else s.scale p

/-- Counts per signal period of a port. -/
def State.perPeriod (s : State) (p : Nat) : Nat := (if p < 2 then 4096 else 4) * s.scale p

/-- Raw count of a port. -/
def State.rawCount (s : State) (p : Nat) : Int := s.pos48 (POS_PORT_RAW_LO p) (POS_PORT_RAW_HI p)

/-- Position of a port in steps in this cycle (R244): that of its latest good sample, extrapolated by its speed over the time since then
and the 160 cycles of the front end, by at most 512 steps. A digital port is where its latest filtered edge has put it. -/
def State.stepsNow (s : State) (p : Nat) : Int :=
  let x := s.port p
  if 2 ≤ p || x.phi.isNone then x.steps
  else
    let v := (s.motionOf x.events s.cycle).1 / (s.scaleSigned p : ℚ)
    x.steps + clampInt (-512) 512 ⌊v * ((s.cycle : ℚ) - x.sampleAt + 160)⌋

/-- Counts by which a port's position in this cycle is beyond its raw count. -/
def State.ahead (s : State) (p : Nat) : Int :=
  if s.flag (POS_PORT_CFG_EN p) then (s.stepsNow p - (s.port p).shown) * s.scaleSigned p else 0

/-- Counts by which the position counter is to move in this cycle; it holds while the active port has a fault (R247, R253). -/
def State.counterAhead (s : State) : Int := if s.portFault s.activePort then 0 else s.ahead s.activePort

/-- The words of POS_COUNT, POS_HWM, POS_REV_DEPTH and POS_PORT_p_RAW in this cycle; none for any other register. -/
def State.posReadback (s : State) (off : Nat) : Option Word :=
  let count := s.counter + s.counterAhead
  let hwm := if !s.flag FIR_STAT_RUNNING || 0 < diff48 count s.hwm then count else s.hwm
  if off = POS_COUNT_LO then some (word0 (unsigned 48 count))
  else if off = POS_COUNT_HI then some (word1 (unsigned 48 count))
  else if off = POS_HWM_LO then some (word0 (unsigned 48 hwm))
  else if off = POS_HWM_HI then some (word1 (unsigned 48 hwm))
  else if off = POS_REV_DEPTH then some (BitVec.ofNat 32 (min (2 ^ 32 - 1) (diff48 hwm count).toNat))
  else (List.range 4).findSome? fun p =>
    if off = POS_PORT_RAW_LO p then some (word0 (unsigned 48 (s.rawCount p + s.ahead p)))
    else if off = POS_PORT_RAW_HI p then some (word1 (unsigned 48 (s.rawCount p + s.ahead p)))
    else none

/-! ## Motion events (R250) -/

/-- A window of motion events with a further one: a change of direction restarts it. -/
def addEvent (keep : Nat) (old : List (Int × Nat)) (was forward : Bool) (x : Int) (t : Nat) : List (Int × Nat) :=
  let old := if forward = was then old else []
  let x := ((old.head?).map fun e => near48 e.1 x).getD x
  ((x, t) :: old).take keep

/-- The quarter periods a port crosses from one step position to another, in their order, each with the position at which it counts as
crossed: 16 steps beyond where it was last crossed the other way. -/
def quarterCrossings (last : Option (Int × Bool)) (a b : Int) : List (Int × Int) :=
  let slack (q : Int) (forward : Bool) : Int := if last = some (q, !forward) then 16 else 0
  if a < b then
    ((List.range 4).map fun (i : Nat) => a / 1024 + (i : Int)).filterMap fun q =>
      let at_ := 1024 * q + slack q true
      if a < at_ ∧ at_ ≤ b then some (q, at_) else none
  else
    ((List.range 4).map fun (i : Nat) => a / 1024 + 1 - (i : Int)).filterMap fun q =>
      let at_ := 1024 * q - slack q false
      if b < at_ ∧ at_ ≤ a then some (q, at_) else none

/-- The cycle at which a position between two samples was crossed, interpolated linearly. -/
def crossTime (a b : Int) (ta tb : Nat) (at_ : Int) : Nat := (ta + (tb - ta : Int) * (at_ - a) / (b - a)).toNat

/-! ## Digital edges (R245) -/

/-- FILT in force. -/
def State.filt (s : State) (p : Nat) : Nat := max 1 (s.get (POS_PORT_CFG_FILT p))

/-- Direction of a change of A or of B, forward where A leads B. -/
def edgeStep (changesA : Bool) (a b : Bool) : Int :=
  if changesA then (if a = b then -1 else 1) else if a = b then 1 else -1

end Sys2Proof.Machine
end

