-- ==== Sys2Proof/Machine/Peek.lean ====
section
/-! DEFINITION. The value a register reads (R9, R40): the word held, or for the registers that show a running quantity or an
active copy, that quantity in this cycle. -/

namespace Sys2Proof.Machine

/-- Words of TIM_NOW (R432). -/
def State.nowWord (s : State) (i : Nat) : Word :=
  let t := s.now
  match i with
  | 0 => BitVec.ofNat 32 (t.subns.toNat * 65536 + t.epoch.toNat)
  | 1 => t.ns
  | 2 => t.sec.setWidth 32
  | _ => BitVec.ofNat 32 (2 ^ 31 + t.sec.toNat / 2 ^ 32)

/-- The active value of a shadowed register of a block; 0 for any other (R209, R240, R322). -/
def State.readback (s : State) (b : ShdBlk) (off : Nat) : Word :=
  match setOf off with
  | some (b', _) => if b' = b then s.act off else 0
  | none => 0

/-- The value in force of a placement register of FIR, with any phasing (R226); of any other shadowed register, the active
word. -/
def State.firReadback (s : State) (off : Nat) : Word :=
  let place (c : Nat) : Option Word :=
    let f := s.fch c
    if off = FIR_CH_OFFSET_LO c then some (word0 (unsigned 48 (f.offset / 2 ^ 32)))
    else if off = FIR_CH_OFFSET_HI c then some (word1 (unsigned 48 (f.offset / 2 ^ 32)))
    else if off = FIR_CH_FLIGHT c then some (withBits (s.act off) 0 20 f.flight)
    else if FIR_CH_ROWPOS c 0 ≤ off ∧ off ≤ FIR_CH_ROWPOS c 5 then
      some (BitVec.ofNat 32 (f.rowpos.getD ((off - FIR_CH_ROWPOS c 0) / 4) 0 / 2 ^ 32))
    else if FIR_DIEPOS c 0 ≤ off ∧ off ≤ FIR_DIEPOS c 51 then
      some (BitVec.ofNat 32 (f.diepos.getD ((off - FIR_DIEPOS c 0) / 4) 0 / 2 ^ 32))
    else none
  match setOf off with
  | some (.fir, c) => (place c).getD (s.act off)
  | _ => 0

/-- The value in force of a shadowed register of ASM; D of ASM_CH_c_CFG is not shadowed (R209). -/
def State.asmReadback (s : State) (off : Nat) : Word :=
  let v := s.readback .asm off
  if (List.range 8).any fun c => off = ASM_CH_CFG c then withBits v 0 3 (bits (s.reg off) 0 3) else v

/-- BRG_RB_DATA (R408). -/
def State.brgReadback (s : State) : Word :=
  let n := s.get BRG_RB_SEL_CH
  if s.flag BRG_RB_SEL_ENTRY then s.act (BRG_CH_ENTRY n)
  else s.act (0xA0000 + 0x1000 * n + 16 * s.get BRG_RB_SEL_INSTR + 4 * s.get BRG_RB_SEL_WORD)

/-- Active target, step and count of a compare unit in its registers, which read active values (R258); none for any other
register. -/
def State.cmpReadback (s : State) (off : Nat) : Option Word :=
  if off < POS_CMP_CTL 0 ∨ POS_CMP_CTL 16 ≤ off then none
  else
    let n := (off - POS_CMP_CTL 0) / 0x40
    let tgt := unsigned 48 (s.pos.target.getD n 0 / 2 ^ 32)
    if off = POS_CMP_TGT_LO n then some (word0 tgt)
    else if off = POS_CMP_TGT_HI n then some (word1 tgt)
    else if off = POS_CMP_STEP_LO n then some (word0 (s.pos.step.getD n 0))
    else if off = POS_CMP_STEP_HI n then some (word1 (s.pos.step.getD n 0))
    else if off = POS_CMP_COUNT n then some (word0 (s.pos.count.getD n 0))
    else none

/-- JGL_C_n_TSEQ: AGE_US counts on from the arrival of the latest record (R294). -/
def State.tseqReadback (s : State) (off : Nat) : Option Word :=
  if off < JGL_C_TSEQ 0 ∨ JGL_C_TSEQ 16 ≤ off ∨ (off - JGL_C_TSEQ 0) % 0x20 ≠ 0 then none
  else
    (s.carrier ((off - JGL_C_TSEQ 0) / 0x20)).record.map fun t =>
      withBits (s.reg off) 16 16 (min 0xFFFF ((s.cycle - t) / 800))

/-- JGL_L_l_PRBS_BITS of a locked checker counts on (R294): 25.78125 Gbit/s against 800 MHz, in units of 65,536 bits. -/
def State.bitsReadback (s : State) (off : Nat) : Option Word :=
  ((List.range 32).find? fun l => off = JGL_L_PRBS_BITS l).bind fun l =>
    if s.flag (JGL_L_PRBS_LOCK l) then some (BitVec.ofNat 32 (s.bitsChecked l)) else none

/-- Ring indices read 0 at and above LOG2_SIZE (R112). -/
def State.indexReadback (s : State) (off : Nat) : Option Word :=
  let size (ctl : Fld) : Nat := 2 ^ max 2 (min 8 (s.get ctl))
  if CMD_K_SQ_TAIL ≤ off ∧ off ≤ CMD_K_CQ_HEAD then
    some (BitVec.ofNat 32 ((s.reg off).toNat % size CMD_K_RING_CTL_LOG2_SIZE))
  else if CMD_C_SQ_TAIL ≤ off ∧ off ≤ CMD_C_CQ_HEAD then
    some (BitVec.ofNat 32 ((s.reg off).toNat % size CMD_C_RING_CTL_LOG2_SIZE))
  else none

/-- The value a register reads in this cycle. -/
def State.peek (s : State) (off : Nat) : Word :=
  if TIM_NOW_0 ≤ off ∧ off ≤ TIM_NOW_3 then s.nowWord ((off - TIM_NOW_0) / 4)
  else if off = ASM_RB_DATA then s.asmReadback (0x180000 + s.get ASM_RB_SEL_OFFSET)
  else if off = FIR_RB_DATA then s.firReadback (0x1C0000 + s.get FIR_RB_SEL_OFFSET)
  else if off = CAM_RB_DATA then s.readback .cam (0x280000 + s.get CAM_RB_SEL_OFFSET)
  else if off = BRG_RB_DATA then s.brgReadback
  else if POS_SPEED_LO ≤ off ∧ off ≤ POS_ACCEL_HI then s.syncSpeed.reg off
  else if off = FIR_REACH ∨ off = FIR_PERIOD then s.rollAnchor.reg off
  else if off = POS_STAT then s.syncValid.reg off
  else ([s.cmpReadback off, s.posReadback off, s.tseqReadback off, s.bitsReadback off, s.indexReadback off].findSome? id).getD (s.reg off)

end Sys2Proof.Machine
end

