-- ==== Sys2Proof/Machine/Barge.lean ====
section
/-! DEFINITION. Barge channels (R393 to R407): their states, programs, loops, waits, hand-overs and halts, and every
instruction but the data of MOVE and SIGNAL. -/

namespace Sys2Proof.Machine

/-- Barge channel n beside its registers. -/
def State.barge (s : State) (n : Nat) : Barge := s.brg.channels.getD n ⟨false, none, none, 0, []⟩

/-- Change barge channel n. -/
def State.updBarge (s : State) (n : Nat) (f : Barge → Barge) : State :=
  { s with brg := { s.brg with channels := s.brg.channels.set n (f (s.barge n)) } }

/-- State code of channel n (R395). -/
def State.bargeState (s : State) (n : Nat) : Nat := s.get (BRG_CH_STAT_STATE n)

/-- Whether channel n is running: in RUN or WAIT. -/
def State.bargeRuns (s : State) (n : Nat) : Bool := s.bargeState n = 1 || s.bargeState n = 2

/-- Whether any channel is running. -/
def State.anyBarge (s : State) : Bool := (List.range 32).any s.bargeRuns

/-- Enter a state, shown in BRG_RUNNING and BRG_ERRORS. -/
def State.setBarge (s : State) (n code : Nat) : State :=
  let s := s.put (BRG_CH_STAT_STATE n) code
  let s := s.put ⟨BRG_RUNNING, n, 1⟩ (bit (code = 1 || code = 2))
  s.put ⟨BRG_ERRORS, n, 1⟩ (bit (code = 5))

/-- Enter ERROR with a cause (R404, R405): vector 246. -/
def State.bargeError (s : State) (n cause : Nat) : State :=
  let s := (s.setBarge n 5).put (BRG_CH_STAT_CAUSE n) cause
  let s := s.updBarge n fun b => { b with moving := false, stop := none, asks := [] }
  s.raiseWith 246 (some n) (some cause) 0

/-- Enter HALTED with a cause (R404): vector 247. -/
def State.bargeHalt (s : State) (n cause : Nat) : State :=
  let s := (s.setBarge n 4).put (BRG_CH_STAT_CAUSE n) cause
  (s.updBarge n fun b => { b with stop := none }).raiseDetail 247 n

/-- Words of the instruction at a PC of the active bank. -/
def State.bargeWord (s : State) (n pc i : Nat) : Word := s.act (0xA0000 + 0x1000 * n + 16 * pc + 4 * i)

/-- PC of channel n. -/
def State.bargePc (s : State) (n : Nat) : Nat := s.get (BRG_CH_STAT_PC n)

/-- A program hand-over takes effect (R407): ENTRY becomes the PC and the loop stack is cleared; SEM is kept. -/
def State.enterBank (s : State) (n : Nat) : State :=
  (s.put (BRG_CH_STAT_PC n) (s.getA (BRG_CH_ENTRY_PC n))).put (BRG_CH_STAT_DEPTH n) 0

/-- A program hand-over due takes effect at an instruction boundary (R407). -/
def State.bargeDue (s : State) (n : Nat) : State :=
  match (s.barge n).due, s.pendingSet .brg n with
  | some id, some p => ((s.updBarge n fun b => { b with due := none }).handSet p id).enterBank n
  | _, _ => s.updBarge n fun b => { b with due := none }

/-- An instruction boundary of channel n (R404, R407): a due program is taken, then a halt asked for. -/
def State.bargeBoundary (s : State) (n : Nat) : State :=
  let s := s.bargeDue n
  match (s.barge n).stop with
  | some cause => s.bargeHalt n cause
  | none => s

/-- An instruction has ended: on to a PC, which past 255 is an error (R399). -/
def State.bargeGo (s : State) (n pc : Nat) : State :=
  if pc > 255 then s.bargeError n 11
  else ((s.put (BRG_CH_STAT_PC n) pc).setBarge n 1).bargeBoundary n

/-! ## WAIT (R401, R402) -/

/-- Whether the register named by an access of channel n fails, with its cause (R398, R405). -/
def State.bargeDenied (s : State) (n : Fin 32) (off : Nat) : Option Nat :=
  if (rowOf off).isNone then some 4
  else if !s.keeperRights (.barge n) && !crewSees off then some 5
  else if !s.runs (islandOf off) then some 10
  else none

/-- Whether the condition of the WAIT at the PC holds; an error where it cannot be read. -/
def State.waitHolds (s : State) (n : Fin 32) : Except Nat Bool :=
  let pc := s.bargePc n.val
  let kind := bits (s.bargeWord n.val pc 0) 4 4
  let off := bits (s.bargeWord n.val pc 1) 0 25
  let v := s.bargeWord n.val pc 2
  let x := s.peek off &&& s.bargeWord n.val pc 3
  if kind = 0 then .ok (v.toNat ≤ s.get (BRG_CH_SEM_COUNT n.val))
  else if kind = 4 then .ok (s.cycle ≥ (s.barge n.val).began + 800 * v.toNat)
  else
    match s.bargeDenied n off with
    | some c => .error c
    | none =>
      if kind = 1 then .ok (v.toNat ≤ x.toNat)
      else if kind = 2 then .ok (x = v)
      else .ok ((x - v).toInt ≥ 0)

/-- Test the WAIT of channel n: where it holds the WAIT completes, and a SEM wait reduces SEM. -/
def State.testWait (s : State) (n : Fin 32) : State :=
  match s.waitHolds n with
  | .error c => s.bargeError n.val c
  | .ok false => s
  | .ok true =>
    let pc := s.bargePc n.val
    let s := if bits (s.bargeWord n.val pc 0) 4 4 = 0 then
        s.put (BRG_CH_SEM_COUNT n.val) (s.get (BRG_CH_SEM_COUNT n.val) - (s.bargeWord n.val pc 2).toNat)
      else s
    s.bargeGo n.val (pc + 1)

/-- End the WAIT of channel n early: completed where its condition holds, else with PC at the WAIT (R404). -/
def State.cutWait (s : State) (n : Fin 32) : State :=
  if s.bargeState n.val = 2 then
    let s := s.testWait n
    if s.bargeState n.val = 2 then (s.setBarge n.val 1).bargeBoundary n.val else s
  else if (s.barge n.val).moving then s
  else s.bargeBoundary n.val

/-- Ask a running channel to halt (R404); a MOVE in progress finishes first. -/
def State.bargeStop (s : State) (n : Fin 32) (cause : Nat) : State :=
  if s.bargeRuns n.val then
    (s.updBarge n.val fun b => { b with stop := some (b.stop.getD cause) }).cutWait n
  else s

/-- Entry to Standby or Safe (R50). -/
def State.bargeStopAll (s : State) : State := (List.finRange 32).foldl (fun s n => s.bargeStop n 2) s

/-- IDX of the innermost level; 0 with none pushed (R400). -/
def State.bargeIdx (s : State) (n : Nat) : Nat :=
  let d := s.get (BRG_CH_STAT_DEPTH n)
  if d = 0 then 0 else s.get (BRG_CH_LOOP_IDX n (d - 1))

/-- Beats of the MOVE at the PC of a channel (R401): its destination cut at 64-byte boundaries. -/
def State.bargeBeats (s : State) (n : Nat) : Nat :=
  let w := s.bargeWord n (s.bargePc n)
  let len := bits (w 0) 8 24
  let step := if (w 0).getLsbD 7 then s.bargeIdx n * len else 0
  let first := min len (64 - (bits (w 2) 16 16 + step) % 64)
  1 + (len - first + 63) / 64

/-- A host-link reset or an island reset of HST (R66, R404): every running channel enters ERROR with CAUSE LINK. How many beats of a MOVE
in progress had completed is open, so ERR_INFO.BEAT is one of its beats (log entry 1, DESIGN CHOICE). -/
def State.bargeLink (s : State) : State :=
  (List.range 32).foldl (fun s n =>
    if s.bargeRuns n then
      let s := if (s.barge n).moving then
          let d := s.draw
          (d.2.put (BRG_CH_ERR_INFO_BEAT n) (d.1.toNat % s.bargeBeats n)).put (BRG_CH_ERR_INFO_PC n) (s.bargePc n)
        else s
      s.bargeError n 9
    else s) s

/-- A page boundary of a channel (R406, R407): a program set of it that was committed is due on a running channel, and is
handed over at once on one that is not. -/
def State.bargePage (s : State) (c : Nat) (id : Word) : State :=
  (List.finRange 32).foldl (fun s n =>
    match s.pendingSet .brg n.val with
    | some p =>
      if s.get (BRG_CH_CFG_PAGE_CH n.val) ≠ c then s
      else if s.cycle ≤ p.at_ then s.setLate .brg n.val
      else if s.bargeRuns n.val then (s.updBarge n.val fun b => { b with due := some (some id) }).cutWait n
      else (s.handSet p (some id)).enterBank n.val
    | none => s) s

/-- A COMMIT of a program set of a channel that is not running hands it over at once, with BY_IDLE 0 (R407). -/
def State.bargeCommit (s : State) (n : Nat) : State :=
  match s.pendingSet .brg n with
  | some p =>
    if s.bargeRuns n then s
    else ((s.handSet p none).putFlag (BRG_SHD_STAT_BY_IDLE n) false).enterBank n
  | none => s

/-! ## Commands of R396 and R402 -/

/-- START and RESUME (R396). -/
def State.bargeBegin (s : State) (by_ : By) (n : Nat) (value : Word) (resume : Bool) : State :=
  let st := s.bargeState n
  let ok := !s.bargeRuns n && 3 < s.modeCode && (!resume || st = 4 || st = 5)
  if !ok then s.putFlag (BRG_CH_STAT_CMD_REJ n) true
  else
    let s := (s.put (BRG_CH_STAT_CAUSE n) 0).put (BRG_CH_STAT_PC n) (bits value 0 8)
    let s := ((s.setReg (BRG_CH_ERR_ADDR_LO n) 0).setReg (BRG_CH_ERR_ADDR_HI n) 0).setReg (BRG_CH_ERR_INFO n) 0
    let s := s.putFlag (BRG_CH_STAT_RIGHTS n) (n < 8 || s.keeperRights by_)
    let s := if resume then s else s.put (BRG_CH_STAT_DEPTH n) 0
    (s.updBarge n fun b => ⟨false, none, b.due, s.cycle, []⟩).setBarge n 1

/-- Add to SEM, saturating (R402). -/
def State.addSem (s : State) (n : Nat) (value : Word) : State := s.addSat (BRG_CH_SEM_COUNT n) value.toNat

/-! ## Instructions (R397, R399) -/

/-- Opcodes of R397. -/
def bargeOps : List Nat := [0, 1, 2, 3, 4, 5, 15]

/-- Whether an instruction is well formed (R397): no reserved bit set, LEN not 0, WAIT KIND at most 4. -/
def bargeValid (w0 w1 w2 w3 : Word) : Bool :=
  match bits w0 0 4 with
  | 0 => bits w0 4 28 = 0 && w1 = 0 && w2 = 0 && w3 = 0
  | 1 => bits w0 8 24 ≠ 0
  | 2 => bits w0 4 28 = 0 && bits w1 24 8 = 0 && w2 = 0 && w3 = 0
  | 3 => bits w0 4 28 = 0 && w1 = 0 && w2 = 0 && w3 = 0
  | 4 => bits w0 8 24 = 0 && bits w1 25 7 = 0 && bits w0 4 4 ≤ 4
  | 5 => bits w0 7 25 = 0 && bits w2 16 16 = 0
  | 15 => bits w0 5 27 = 0 && w1 = 0 && w2 = 0 && w3 = 0
  | _ => false

/-- Execute the instruction at the PC of a channel in RUN, where it is of this opcode; one that is not well formed is
BAD_INSTR (R397). -/
def State.bargeStep (s : State) (n op : Nat) (f : State → State) : State :=
  if !s.runs 3 || s.bargeState n ≠ 1 || (s.barge n).moving then s
  else
    let pc := s.bargePc n
    let w := s.bargeWord n pc
    if bargeOps.contains (bits (w 0) 0 4) ∧ bits (w 0) 0 4 ≠ op then s
    else if !bargeValid (w 0) (w 1) (w 2) (w 3) then s.bargeError n 6
    else f s

/-- LOOP (R399). -/
def State.bargeLoop (s : State) (n : Nat) : State :=
  let d := s.get (BRG_CH_STAT_DEPTH n)
  let pc := s.bargePc n
  if d ≥ 4 then s.bargeError n 6
  else
    let s := (s.put (BRG_CH_LOOP_START n d) pc).put (BRG_CH_LOOP_IDX n d) 0
    (s.put (BRG_CH_STAT_DEPTH n) (d + 1)).bargeGo n (pc + 1)

/-- ENDLOOP (R399): COUNT is that of the LOOP at the level's PC. -/
def State.bargeEndloop (s : State) (n : Nat) : State :=
  let d := s.get (BRG_CH_STAT_DEPTH n)
  if d = 0 then s.bargeError n 6
  else
    let start := s.get (BRG_CH_LOOP_START n (d - 1))
    let count := bits (s.bargeWord n start 1) 0 24
    let i := s.get (BRG_CH_LOOP_IDX n (d - 1))
    if count = 0 ∨ i + 1 < count then (s.put (BRG_CH_LOOP_IDX n (d - 1)) (i + 1)).bargeGo n (start + 1)
    else (s.put (BRG_CH_STAT_DEPTH n) (d - 1)).bargeGo n (s.bargePc n + 1)

/-- END (R399, R403). -/
def State.bargeEnd (s : State) (n : Nat) : State :=
  if s.get (BRG_CH_STAT_DEPTH n) ≠ 0 then s.bargeError n 6
  else
    let evt := bits (s.bargeWord n (s.bargePc n) 0) 4 1 = 1
    let s := (s.setBarge n 3).updBarge n fun b => { b with stop := none }
    let s := if evt then s.raiseDetail 244 n else s
    s.bargeDue n

/-- WAIT begins (R401, R402): its condition is tested at once. -/
def State.bargeWait (s : State) (n : Fin 32) : State :=
  ((s.updBarge n.val fun b => { b with began := s.cycle }).setBarge n.val 2).testWait n

/-! ## Meanings -/

/-- BRG_START (R396). -/
def execBrgStart (by_ : By) (ch : Fin 32) (value : Word) (s : State) : Host.Outcome State Fault Refusal :=
  s.done (s.hostWrite by_ (BRG_CH_CTL ch.val) fun s => s.bargeBegin by_ ch.val value false)

/-- BRG_RESUME (R396). -/
def execBrgResume (by_ : By) (ch : Fin 32) (value : Word) (s : State) : Host.Outcome State Fault Refusal :=
  s.done (s.hostWrite by_ (BRG_CH_CTL ch.val) fun s => s.bargeBegin by_ ch.val value true)

/-- BRG_STOP (R396, R404). -/
def execBrgStop (by_ : By) (ch : Fin 32) (_value : Word) (s : State) : Host.Outcome State Fault Refusal :=
  s.done (s.hostWrite by_ (BRG_CH_CTL ch.val) fun s => s.bargeStop ch 1)

/-- SEM_ADD (R402). -/
def execSemAdd (by_ : By) (ch : Fin 32) (value : Word) (s : State) : Host.Outcome State Fault Refusal :=
  s.done (s.hostWrite by_ (BRG_CH_SEM_ADD ch.val) fun s => s.addSem ch.val value)

/-- NOP (R397). -/
def execBargeNop (ch : Fin 32) (s : State) : Host.Outcome State Fault Refusal :=
  s.done (s.bargeStep ch.val 0 fun s => s.bargeGo ch.val (s.bargePc ch.val + 1))

/-- LOOP (R399). -/
def execBargeLoop (ch : Fin 32) (s : State) : Host.Outcome State Fault Refusal :=
  s.done (s.bargeStep ch.val 2 fun s => s.bargeLoop ch.val)

/-- ENDLOOP (R399). -/
def execBargeEndloop (ch : Fin 32) (s : State) : Host.Outcome State Fault Refusal :=
  s.done (s.bargeStep ch.val 3 fun s => s.bargeEndloop ch.val)

/-- WAIT (R401). -/
def execBargeWait (ch : Fin 32) (s : State) : Host.Outcome State Fault Refusal :=
  s.done (s.bargeStep ch.val 4 fun s => s.bargeWait ch)

/-- END (R399, R403). -/
def execBargeEnd (ch : Fin 32) (s : State) : Host.Outcome State Fault Refusal :=
  s.done (s.bargeStep ch.val 15 fun s => s.bargeEnd ch.val)

/-- WAIT_SATISFIED (R402): a test of the condition of a channel in WAIT. -/
def execWaitSatisfied (ch : Fin 32) (dt : Nat) (s : State) : Host.Outcome State Fault Refusal :=
  s.done (let s := s.tick dt; if s.runs 3 && s.bargeState ch.val = 2 then s.testWait ch else s)

/-- A WAIT has lasted WAIT_MS (R402): its condition is tested, and where it does not hold the channel fails with PC at the WAIT. -/
def State.waitExpires (s : State) (n : Fin 32) : State :=
  let s := (s.tickTo ((s.barge n.val).began + 800000 * s.get (BRG_CH_CFG_WAIT_MS n.val))).testWait n
  if s.bargeState n.val = 2 then s.bargeError n.val 8 else s

/-- WAIT_TIMEOUT (R402), where WAIT_MS is not 0. -/
def execWaitTimeout (ch : Fin 32) (s : State) : Host.Outcome State Fault Refusal :=
  s.done (if s.runs 3 && s.bargeState ch.val = 2 && s.get (BRG_CH_CFG_WAIT_MS ch.val) ≠ 0 then s.waitExpires ch else s)

end Sys2Proof.Machine
end

