-- ==== Sys2Proof/Machine/Banks.lean ====
section
/-! DEFINITION. The statistics banks that latch at page boundaries of a channel (R42 to R45, R147, R179, R209, R240, R260, R294,
R374). -/

namespace Sys2Proof.Machine

/-- A page bank: the field that names its channel, the address of its SEQ word, its counter words, and its island. -/
structure PageBank where
  statCh : Fld
  base : Nat
  words : Nat
  island : Nat
deriving DecidableEq, Repr

/-- The page banks of the chip. -/
def pageBanks : List PageBank :=
  [⟨ING_CTL_STAT_CH, ING_STB_SEQ, 14, 4⟩, ⟨PND_CTL_STAT_CH, PND_STB_SEQ, 14, 5⟩, ⟨ASM_CTL_STAT_CH, ASM_STB_SEQ, 10, 7⟩,
   ⟨FIR_CTL_STAT_CH, FIR_STB_SEQ, 7, 8⟩, ⟨POS_CTL_STAT_CH, POS_STB_SEQ, 7, 8⟩, ⟨JGL_CTL_STAT_CH, JGL_STB_SEQ, 11, 9⟩,
   ⟨PWR_CTL_STAT_CH, PWR_STB_SEQ, 6, 0⟩]

/-- Latch the page banks that follow channel c, for the page of the interval that ends; an interval before a run's first
page has no page, and shows 0 (log entry 19, DESIGN CHOICE). -/
def State.latchPage (s : State) (c : Nat) (page : Option Word) (part : Bool) : State :=
  let job := (s.sys.liveJob.getD c 0).toNat
  pageBanks.foldl (fun s b =>
    if s.get b.statCh = c ∧ s.runs b.island then
      let s := if b.base = PND_STB_SEQ then
          let s := s.livePut PND_STB_FREE_MIN_COUNT s.pnd.freeMin
          { s with pnd := { s.pnd with freeMin := s.free_ } }
        else s
      s.latchBank b.base b.words ((page.map s.nameOf).getD 0) 3 job part
    else s) s

/-- The interval of a page begins on channel c: the live banks that follow it are now that page's. -/
def State.setLivePage (s : State) (c : Nat) (page : Option Word) : State :=
  let job := ((page.bind s.page?).map fun p => p.job).getD 0
  { s with sys := { s.sys with livePage := s.sys.livePage.set c page, liveJob := s.sys.liveJob.set c job } }

/-- Latch the bank of INS at a boundary of the inspection station (R349): its ID is the page latest analysed, and SUB that page's job. -/
def State.latchIns (s : State) (part : Bool) : State :=
  let id := s.reg INS_PAGE_LAST
  s.latchBank INS_STB_SEQ 8 id 3 s.ins.lastJob.toNat part

/-- At an idle boundary a page that a mode change ended early is latched with PARTIAL (R44). -/
def State.latchPartial (s : State) : State :=
  let s := (List.range 8).foldl (fun s c =>
    match s.sys.livePage.getD c none with
    | some id => (s.latchPage c (some id) true).setLivePage c none
    | none => s) s
  if s.ins.page.isSome then { s.latchIns true with ins := { s.ins with page := none } } else s

end Sys2Proof.Machine
end

