-- ==== Sys2Proof/Machine/CalTables.lean ====
section
/-! DEFINITION. The CAL tables (R315, R324, R336, R337, R342): sizes, active bytes, staged writes and their hand-over. -/

namespace Sys2Proof.Machine

/-- Size of a CAL table in bytes; none where there is no such table. -/
def calTableSize (id : Nat) : Option Nat :=
  if 0x0100 ≤ id ∧ id < 0x0110 then some 4096
  else if 0x0200 ≤ id ∧ id < 0x0210 then some 16384
  else if 0x0300 ≤ id ∧ id < 0x0310 then some 90
  else if id = 0x0400 then some 6
  else if 0x0500 ≤ id ∧ id < 0x0504 then some 8192
  else if id = 0x0600 then some 512
  else if id = 0x0700 then some 64
  else if 0x0800 ≤ id ∧ id < 0x0808 then some 102
  else none

/-- Write bytes into a list at an offset; bytes past its end are dropped. -/
def writeBytes (l : List Byte) (off : Nat) (b : List Byte) : List Byte :=
  (l.take off ++ b ++ l.drop (off + b.length)).take l.length

/-- Active bytes of a table; a table never written holds zeros. -/
def State.calTable (s : State) (id : Nat) : List Byte :=
  ((s.cal.tables.find? fun t => t.1 = id).map fun t => t.2).getD (List.replicate ((calTableSize id).getD 0) 0)

/-- Stage a write of a table. -/
def State.stageTable (s : State) (id off : Nat) (b : List Byte) : State :=
  { s with cal := { s.cal with staged := s.cal.staged ++ [(id, off, b)] } }

/-- Apply one write to a table's active bytes. -/
def State.applyTable (s : State) (id off : Nat) (b : List Byte) : State :=
  let t := writeBytes (s.calTable id) off b
  { s with cal := { s.cal with tables := (s.cal.tables.filter fun x => x.1 ≠ id) ++ [(id, t)] } }

/-- The staged writes of every table take effect, in order of arrival. -/
def State.handTables (s : State) : State :=
  let w := s.cal.staged
  w.foldl (fun s x => s.applyTable x.1 x.2.1 x.2.2) { s with cal := { s.cal with staged := [] } }

/-- Staged ADC gains take effect (R335, R342). -/
def State.handGains (s : State) : State :=
  let keep (g : Nat × Word) : Bool := !s.cal.gainsNext.any fun x => x.1 = g.1
  { s with cal := { s.cal with gains := s.cal.gainsNext ++ s.cal.gains.filter keep, gainsNext := [] } }

end Sys2Proof.Machine
end

