-- ==== Sys2Proof/Machine/Bus.lean ====
section
/-! DEFINITION. The sensor buses (R298 to R300): which sensors a bus port serves, and what discovery sends on it. -/

namespace Sys2Proof.Machine

/-- Whether a sensor is enabled. -/
def State.snsOn (s : State) (n : Nat) : Bool := s.flag (CAM_SNS_CFG_EN n)

/-- Sensors of a bus port that discovery works on. -/
def State.busSensors (s : State) (b : Nat) : List Nat := (List.range 16).filter fun n => s.snsOn n && s.get (CAM_SNS_BUS_BUSPORT n) = b

/-- What discovery sends on a bus port that serves an enabled sensor (R299): RSTDAA and ENTDAA where it has I3C targets, and a zero-length
write to each I2C target. -/
def State.askBus (s : State) (b : Nat) : State :=
  let l := s.busSensors b
  let s := if l.any fun n => s.flag (CAM_SNS_BUS_I3C n) then (s.emit (.busCcc b .rstdaa)).emit (.busCcc b .entdaa) else s
  (l.filter fun n => !s.flag (CAM_SNS_BUS_I3C n)).foldl (fun s n => s.emit (.busProbe n)) s

/-- Discovery of the ports of a mask begins. -/
def State.discoverPorts (s : State) (mask : BitVec 4) : State :=
  (bitList mask).foldl State.askBus { s with cam := { s.cam with discovering := s.cam.discovering ||| mask } }

end Sys2Proof.Machine
end

