-- ==== Sys2Proof/Machine/Inflate.lean ====
section
/-! DEFINITION. Decoding of a raw DEFLATE stream (R123, R166; RFC 1951), with the output limit of R166. A code set that is
over-subscribed, and a code without a symbol, make the stream invalid (log entry 17, DEDUCED). -/

namespace Sys2Proof.Machine

/-- Why a decode ends without its stream's end. -/
inductive InfStop where
  /-- A byte beyond the limit would be written (EXPANSION). -/
  | expansion
  /-- The stream is invalid or ends short (BAD_STREAM). -/
  | bad
deriving DecidableEq, Repr

/-- A decode: bits not yet read, output newest first, its length, and why it stopped. -/
structure Inf where
  inp : List Bool
  out : List Byte
  n : Nat
  stop : Option InfStop

/-- Stop with an invalid stream, unless stopped already. -/
def Inf.bad (s : Inf) : Inf := if s.stop.isSome then s else { s with stop := some .bad }

/-- Bits of a byte list, bit 0 of each byte first. -/
def streamBits (l : List Byte) : List Bool := l.flatMap fun b => (List.range 8).map b.getLsbD

/-- Read `k` bits, least significant first. -/
def readBits : Nat → List Bool → Option (Nat × List Bool)
  | 0, l => some (0, l)
  | _ + 1, [] => none
  | k + 1, b :: t => (readBits k t).map fun r => ((if b then 1 else 0) + 2 * r.1, r.2)

/-- A canonical prefix code: codes per length 1 to 15, and the symbols in code order. -/
structure Huff where
  counts : List Nat
  syms : List Nat

/-- The code of a list of lengths; none where it is over-subscribed. -/
def huffOf (lens : List Nat) : Option Huff :=
  let counts := (List.range 15).map fun l => lens.count (l + 1)
  let left := counts.foldl (fun (x : Int) c => if x < 0 then x else 2 * x - c) 1
  if left < 0 then none
  else some ⟨counts, (List.range 15).flatMap fun l => (List.range lens.length).filter fun i => lens.getD i 0 = l + 1⟩

/-- Read one symbol, trying each length in turn. -/
def symGo (syms : List Nat) : List Nat → Nat → Nat → Nat → List Bool → Option (Nat × List Bool)
  | [], _, _, _, _ => none
  | _ :: _, _, _, _, [] => none
  | c :: cs, code, first, index, b :: t =>
    let code := code + (if b then 1 else 0)
    if code < first + c then some (syms.getD (index + code - first) 0, t)
    else symGo syms cs (2 * code) (2 * (first + c)) (index + c) t

/-- Read one symbol of a code. -/
def Huff.sym (h : Huff) (l : List Bool) : Option (Nat × List Bool) := symGo h.syms h.counts 0 0 0 l

/-- Base lengths of the length codes 257 to 285. -/
def lengthBase : List Nat :=
  [3, 4, 5, 6, 7, 8, 9, 10, 11, 13, 15, 17, 19, 23, 27, 31, 35, 43, 51, 59, 67, 83, 99, 115, 131, 163, 195, 227, 258]
/-- Their extra bits. -/
def lengthExtra : List Nat := [0, 0, 0, 0, 0, 0, 0, 0, 1, 1, 1, 1, 2, 2, 2, 2, 3, 3, 3, 3, 4, 4, 4, 4, 5, 5, 5, 5, 0]
/-- Base distances of the distance codes 0 to 29. -/
def distBase : List Nat :=
  [1, 2, 3, 4, 5, 7, 9, 13, 17, 25, 33, 49, 65, 97, 129, 193, 257, 385, 513, 769, 1025, 1537, 2049, 3073, 4097, 6145,
   8193, 12289, 16385, 24577]
/-- Their extra bits. -/
def distExtra : List Nat :=
  [0, 0, 0, 0, 1, 1, 2, 2, 3, 3, 4, 4, 5, 5, 6, 6, 7, 7, 8, 8, 9, 9, 10, 10, 11, 11, 12, 12, 13, 13]

/-- Write one byte under the limit. -/
def Inf.put (lim : Nat) (s : Inf) (b : Byte) : Inf :=
  if s.stop.isSome then s
  else if s.n ≥ lim then { s with stop := some .expansion }
  else { s with out := b :: s.out, n := s.n + 1 }

/-- Copy `k` bytes from a distance back. -/
def Inf.copy (lim dist : Nat) : Nat → Inf → Inf
  | 0, s => s
  | k + 1, s => Inf.copy lim dist k (s.put lim (s.out.getD (dist - 1) 0))

/-- Copy `k` bytes of a stored block. -/
def Inf.stored (lim : Nat) : Nat → Inf → Inf
  | 0, s => s
  | k + 1, s =>
    match readBits 8 s.inp with
    | none => s.bad
    | some (b, t) => Inf.stored lim k ({ s with inp := t }.put lim (BitVec.ofNat 8 b))

/-- A match whose length code has been read: length, distance, and the copy. -/
def Inf.match_ (lim : Nat) (dist : Huff) (code : Nat) (s : Inf) : Inf :=
  if code ≥ 29 then s.bad
  else
    match readBits (lengthExtra.getD code 0) s.inp with
    | none => s.bad
    | some (e, t) =>
      match dist.sym t with
      | none => s.bad
      | some (d, t) =>
        if d ≥ 30 then s.bad
        else
          match readBits (distExtra.getD d 0) t with
          | none => s.bad
          | some (x, t) =>
            let back := distBase.getD d 0 + x
            if back > s.n then s.bad else Inf.copy lim back (lengthBase.getD code 0 + e) { s with inp := t }

/-- The codes of a block up to its end-of-block symbol. -/
def Inf.codes (lim : Nat) (lit dist : Huff) : Nat → Inf → Inf
  | 0, s => s.bad
  | f + 1, s =>
    if s.stop.isSome then s
    else
      match lit.sym s.inp with
      | none => s.bad
      | some (v, t) =>
        let s := { s with inp := t }
        if v < 256 then Inf.codes lim lit dist f (s.put lim (BitVec.ofNat 8 v))
        else if v = 256 then s
        else Inf.codes lim lit dist f (Inf.match_ lim dist (v - 257) s)

/-- Lengths of the fixed literal code. -/
def fixedLit : List Nat :=
  List.replicate 144 8 ++ List.replicate 112 9 ++ List.replicate 24 7 ++ List.replicate 8 8

/-- Read `k` code lengths of three bits. -/
def read3 : Nat → List Bool → Option (List Nat × List Bool)
  | 0, l => some ([], l)
  | k + 1, l => (readBits 3 l).bind fun r => (read3 k r.2).map fun q => (r.1 :: q.1, q.2)

/-- Order of the code-length code lengths. -/
def clOrder : List Nat := [16, 17, 18, 0, 8, 7, 9, 6, 10, 5, 11, 4, 12, 3, 13, 2, 14, 1, 15]

/-- Read the literal and distance code lengths, newest first, until there are `total`. -/
def readLens (cl : Huff) (total : Nat) : Nat → List Nat → List Bool → Option (List Nat × List Bool)
  | 0, _, _ => none
  | f + 1, acc, l =>
    if acc.length = total then some (acc.reverse, l)
    else if acc.length > total then none
    else
      match cl.sym l with
      | none => none
      | some (v, l) =>
        if v < 16 then readLens cl total f (v :: acc) l
        else
          let rep : Nat × Nat × Nat := if v = 16 then (2, 3, acc.headD 0) else if v = 17 then (3, 3, 0) else (7, 11, 0)
          if v = 16 ∧ acc.isEmpty then none
          else
            match readBits rep.1 l with
            | none => none
            | some (n, l) => readLens cl total f (List.replicate (rep.2.1 + n) rep.2.2 ++ acc) l

/-- The two codes of a dynamic block. -/
def dynamicCodes (l : List Bool) : Option (Huff × Huff × List Bool) :=
  (readBits 5 l).bind fun a => (readBits 5 a.2).bind fun b => (readBits 4 b.2).bind fun c =>
    if a.1 > 29 then none
    else
      (read3 (c.1 + 4) c.2).bind fun q =>
        (huffOf ((List.range 19).map fun i => ((clOrder.zip q.1).find? fun p => p.1 = i).elim 0 fun p => p.2)).bind fun cl =>
          (readLens cl (a.1 + 257 + (b.1 + 1)) 400 [] q.2).bind fun r =>
            (huffOf (r.1.take (a.1 + 257))).bind fun lit =>
              (huffOf (r.1.drop (a.1 + 257))).map fun dist => (lit, dist, r.2)

/-- One block after its BFINAL bit. -/
def Inf.block (lim fuel : Nat) (s : Inf) : Inf :=
  match readBits 2 s.inp with
  | none => s.bad
  | some (0, t) =>
    match (readBits 16 (t.drop (t.length % 8))).bind fun a => (readBits 16 a.2).map fun b => (a.1, b.1, b.2) with
    | none => s.bad
    | some (n, m, t) => if n + m = 65535 then Inf.stored lim n { s with inp := t } else s.bad
  | some (1, t) =>
    match huffOf fixedLit, huffOf (List.replicate 30 5) with
    | some lit, some dist => Inf.codes lim lit dist fuel { s with inp := t }
    | _, _ => s.bad
  | some (2, t) =>
    match dynamicCodes t with
    | none => s.bad
    | some (lit, dist, t) => Inf.codes lim lit dist fuel { s with inp := t }
  | _ => s.bad

/-- The blocks of a stream up to its last. -/
def Inf.blocks (lim fuel : Nat) : Nat → Inf → Inf
  | 0, s => s.bad
  | f + 1, s =>
    if s.stop.isSome then s
    else
      match readBits 1 s.inp with
      | none => s.bad
      | some (last, t) =>
        let s := Inf.block lim fuel { s with inp := t }
        if last = 1 then s else Inf.blocks lim fuel f s

/-- The decode of a DEFLATE tile (R123, R166): the bytes written, and why it fails if it does. The stream must end in its
last byte and produce exactly `raw` bytes. -/
def inflate (raw : Nat) (l : List Byte) : List Byte × Option InfStop :=
  let inp := streamBits l
  let s := Inf.blocks (min raw 262144) (inp.length + 1) (inp.length + 1) ⟨inp, [], 0, none⟩
  let stop := match s.stop with
    | some e => some e
    | none => if s.inp.length < 8 ∧ s.n = raw then none else some .bad
  (s.out.reverse, stop)

end Sys2Proof.Machine
end

