-- ==== Sys2Proof/Machine/Deflate.lean ====
section
/-! DEFINITION. The compressors' coding (R137, R141; RFC 1951): hash-chain matching under the parameters of ING_CMP_CTL, blocks,
and the shortest of the dynamic, fixed and stored forms of each. What R137 leaves open of it is opaque (log entry 4, DESIGN
CHOICE). -/

namespace Sys2Proof.Machine

/-- A literal, or a match of a length at a distance. -/
inductive Token where
  | lit (b : Nat)
  | copy (len dist : Nat)
deriving DecidableEq, Repr

/-- Parameters of a compressor (R137, R147), within their limits: CHAIN_DEPTH, NICE_LEN, LAZY and block length in bytes. -/
structure CmpParams where
  depth : Nat
  nice : Nat
  lazy_ : Bool
  block : Nat
deriving DecidableEq, Repr

/-! ## Matching -/

/-- Hash of the three bytes at a position, one of 32,768 chain heads. -/
def hashAt (l : List Byte) (i : Nat) : Nat := Config.hash3 (l.getD i 0) (l.getD (i + 1) 0) (l.getD (i + 2) 0) % 32768

/-- Length of the match of positions j and i, at most n bytes. -/
def matchLen (l : List Byte) (j i : Nat) : Nat → Nat
  | 0 => 0
  | n + 1 => if l.getD j 0 = l.getD i 0 then 1 + matchLen l (j + 1) (i + 1) n else 0

/-- Walk a chain: the longest match so far (length, distance) and the positions still to try. The nearest of equals is kept. -/
def chainWalk (l : List Byte) (nice i room : Nat) : List Nat → Nat × Nat → Nat × Nat
  | [], best => best
  | j :: t, best =>
    let n := matchLen l j i room
    let best := if best.1 < n then (n, i - j) else best
    if nice ≤ best.1 then best else chainWalk l nice i room t best

/-- The match at a position (length 0 where there is none): the chain of its hash within 32 KiB, nearest first. -/
def bestMatch (c : CmpParams) (l : List Byte) (i stop : Nat) : Nat × Nat :=
  let room := min 258 (stop - i)
  if room < 3 then (0, 0)
  else
    let chain := ((List.range (min i 32768)).map fun k => i - 1 - k).filter fun j => hashAt l j = hashAt l i
    let m := chainWalk l c.nice i room (chain.take c.depth) (0, 0)
    if m.1 < 3 then (0, 0) else m

/-- The tokens of input [i, stop): with LAZY a match gives way to a longer one at the next position. -/
def tokens (c : CmpParams) (l : List Byte) (stop : Nat) : Nat → Nat → List Token
  | 0, _ => []
  | f + 1, i =>
    if stop ≤ i then []
    else
      let m := bestMatch c l i stop
      let defer := c.lazy_ && decide (m.1 < (bestMatch c l (i + 1) stop).1)
      if m.1 = 0 || defer then .lit (l.getD i 0).toNat :: tokens c l stop f (i + 1)
      else .copy m.1 m.2 :: tokens c l stop f (i + m.1)

/-! ## Codes -/

/-- `n` bits of a number, least significant first. -/
def lowBits (n v : Nat) : List Bool := (List.range n).map v.testBit

/-- First code of a length in a canonical code. -/
def firstCode (lens : List Nat) (n : Nat) : Nat :=
  (List.range n).foldl (fun code b => 2 * (code + if b = 0 then 0 else lens.count b)) 0

/-- The code of a symbol, most significant bit first. -/
def codeBits (lens : List Nat) (sym : Nat) : List Bool :=
  let n := lens.getD sym 0
  let code := firstCode lens n + (lens.take sym).count n
  (lowBits n code).reverse

/-- The last base at or below a value. -/
def baseIndex (bases : List Nat) (v : Nat) : Nat := bases.countP (· ≤ v) - 1

/-- Bits of a token. -/
def Token.bits (lit dist : List Nat) : Token → List Bool
  | .lit b => codeBits lit b
  | .copy n d =>
    let i := baseIndex lengthBase n
    let k := baseIndex distBase d
    codeBits lit (257 + i) ++ lowBits (lengthExtra.getD i 0) (n - lengthBase.getD i 0)
      ++ codeBits dist k ++ lowBits (distExtra.getD k 0) (d - distBase.getD k 0)

/-- A complete code of `n` symbols of two lengths. -/
def flatLens (n : Nat) : List Nat :=
  let k := Nat.log2 n
  List.replicate (2 ^ (k + 1) - n) k ++ List.replicate (2 * n - 2 ^ (k + 1)) (k + 1)

/-- Whether lengths make a complete code, or the code of a lone symbol, that covers every symbol in use. -/
def lensGood (freq lens : List Nat) (limit : Nat) : Bool :=
  let kraft := (lens.map fun n => if n = 0 then 0 else 2 ^ (limit - n)).sum
  lens.length = freq.length && lens.all (· ≤ limit)
    && (List.range freq.length).all (fun i => freq.getD i 0 = 0 || lens.getD i 0 ≠ 0)
    && (kraft = 2 ^ limit || ((lens.filter (· ≠ 0)) = [1]))

/-- The code lengths the compressor chooses for the frequencies of its symbols, of those RFC 1951 admits. -/
def chosenLens (freq : List Nat) (limit : Nat) : List Nat :=
  let lens := Config.codeLengths freq limit
  if lensGood freq lens limit then lens else flatLens freq.length

/-- Frequencies of `n` symbols. -/
def freqOf (n : Nat) (l : List Nat) : List Nat := (List.range n).map fun i => l.count i

/-- Symbols of the literal and length code in a block, its end included. -/
def litSyms (ts : List Token) : List Nat :=
  ts.map (fun t => match t with
    | .lit b => b
    | .copy n _ => 257 + baseIndex lengthBase n) ++ [256]

/-- Symbols of the distance code in a block. -/
def distSyms (ts : List Token) : List Nat :=
  ts.filterMap fun t => match t with
    | .lit _ => none
    | .copy _ d => some (baseIndex distBase d)

/-- What code-length symbols, as (symbol, extra), stand for. -/
def expandRuns : List (Nat × Nat) → Nat → List Nat
  | [], _ => []
  | (s, e) :: t, prev =>
    if s < 16 then s :: expandRuns t s
    else if s = 16 then List.replicate (3 + e) prev ++ expandRuns t prev
    else List.replicate ((if s = 17 then 3 else 11) + e) 0 ++ expandRuns t 0

/-- Extra bits of a code-length symbol. -/
def runExtra (s : Nat) : Nat := if s = 16 then 2 else if s = 17 then 3 else if s = 18 then 7 else 0

/-- The run lengths the compressor chooses for a list of code lengths, of those that stand for it. -/
def chosenRuns (lens : List Nat) : List (Nat × Nat) :=
  let r := Config.lengthRuns lens
  let formed := r.all fun q => decide (q.1 ≤ 18) && decide (q.2 < 2 ^ runExtra q.1)
  if formed && (r.head?.map fun q => q.1) ≠ some 16 && expandRuns r 0 = lens then r else lens.map fun n => (n, 0)

/-- A list without its zeros at the end, but of at least `n` members. -/
def trimZeros (n : Nat) (l : List Nat) : List Nat := l.take (max n (l.length - (l.reverse.takeWhile (· = 0)).length))

/-- A dynamic block's bits after BFINAL. -/
def dynamicBits (ts : List Token) : List Bool :=
  let lit := trimZeros 257 (chosenLens (freqOf 286 (litSyms ts)) 15)
  let dist := trimZeros 1 (chosenLens (freqOf 30 (distSyms ts)) 15)
  let runs := chosenRuns (lit ++ dist)
  let cl := chosenLens (freqOf 19 (runs.map fun q => q.1)) 7
  let order := trimZeros 4 (clOrder.map fun i => cl.getD i 0)
  lowBits 2 2 ++ lowBits 5 (lit.length - 257) ++ lowBits 5 (dist.length - 1) ++ lowBits 4 (order.length - 4)
    ++ order.flatMap (lowBits 3) ++ (runs.flatMap fun q => codeBits cl q.1 ++ lowBits (runExtra q.1) q.2)
    ++ ts.flatMap (Token.bits lit dist) ++ codeBits lit 256

/-- A fixed block's bits after BFINAL. -/
def fixedBits (ts : List Token) : List Bool :=
  lowBits 2 1 ++ ts.flatMap (Token.bits fixedLit (List.replicate 30 5)) ++ codeBits fixedLit 256

/-- One stored block from a stream position, BFINAL included. -/
def storedOne (at_ : Nat) (final : Bool) (l : List Byte) : List Bool :=
  let head := final :: lowBits 2 0
  head ++ List.replicate ((8 - (at_ + 3) % 8) % 8) false ++ lowBits 16 l.length ++ lowBits 16 (65535 - l.length) ++ streamBits l

/-- A block in stored form: one stored block, or two where it is longer than 65,535 bytes. -/
def storedBits (at_ : Nat) (final : Bool) (l : List Byte) : List Bool :=
  if l.length ≤ 65535 then storedOne at_ final l
  else
    let a := storedOne at_ false (l.take 65535)
    a ++ storedOne (at_ + a.length) final (l.drop 65535)

/-- One block, BFINAL included: the shortest of dynamic, fixed and stored, the first of these among equals. -/
def blockBits (at_ : Nat) (final : Bool) (ts : List Token) (raw : List Byte) : List Bool :=
  let pick (a b : List Bool) : List Bool := if b.length < a.length then b else a
  pick (pick (final :: dynamicBits ts) (final :: fixedBits ts)) (storedBits at_ final raw)

/-- The blocks of an input from byte i on; the last carries BFINAL where the tile ends there. -/
def deflateBlocks (c : CmpParams) (l : List Byte) (final : Bool) : Nat → Nat → List Bool → List Bool
  | 0, _, acc => acc
  | f + 1, i, acc =>
    if l.length ≤ i then acc
    else
      let stop := min l.length (i + c.block)
      let last := final && decide (stop = l.length)
      deflateBlocks c l final f stop
        (acc ++ blockBits acc.length last (tokens c l stop (stop - i) i) ((l.take stop).drop i))

/-- Bytes of a bit stream, bit 0 of each byte first, the last padded (R141). -/
def packBits (l : List Bool) : List Byte :=
  (List.range ((l.length + 7) / 8)).map fun i =>
    BitVec.ofNat 8 ((List.range 8).foldl (fun n k => if l.getD (8 * i + k) false then n + 2 ^ k else n) 0)

/-- What a compressor has written for the input it has read; `final` where that is all of it (R137). -/
def deflate (c : CmpParams) (l : List Byte) (final : Bool) : List Byte := packBits (deflateBlocks c l final l.length 0 [])

end Sys2Proof.Machine
end

