-- ==== Sys2Proof/Machine/Misses.lean ====
section
/-! DEFINITION. What is fired blank and why (R167 to R171), and counts that a line of a page causes (R43). -/

namespace Sys2Proof.Machine

/-- Count an event that a line causes (R43): a page other than the one whose interval is live sets SPILL; a line of no page does
not. -/
def State.countFor (s : State) (info : Nat) (statCh f : Fld) (n : Nat) (page : Option Word) : State :=
  if n = 0 then s
  else
    let s := s.liveAdd info f n
    if page.isNone || s.sys.livePage.getD (s.get statCh) none = page then s else s.livePut ⟨info, 26, 1⟩ 1

/-- Count in the live bank of PND. -/
def State.pndCount (s : State) (f : Fld) (n : Nat) (page : Word) : State := s.countFor PND_STB_INFO PND_CTL_STAT_CH f n (some page)

/-- Whether a decode context is that of a tile for a reader. -/
def Ctx.isFor (x : Ctx) (kind : CtxKind) (page : Word) (ch col band : Nat) : Bool :=
  x.kind = kind && x.page = page && x.ch = ch && x.col = col && x.band = band

/-- Drop a tile's context of a kind; the landed image of a switched position goes with its last context (R140). -/
def State.dropContext (s : State) (kind : CtxKind) (page : Word) (ch col band : Nat) : State :=
  let xs := s.pnd.contexts.filter fun x => !x.isFor kind page ch col band
  let s := ({ s with pnd := { s.pnd with contexts := xs } }).syncContexts
  if xs.any fun x => x.page = page && x.ch = ch && x.col = col && x.band = band then s
  else
    match s.tile? page ch col band with
    | some t => if t.old.isEmpty then s else s.updTile page ch col band fun t => { t with old := [] }
    | none => s

/-- Make a decode context (R159, R160). -/
def State.newContext (s : State) (kind : CtxKind) (page : Word) (ch col band : Nat) : State :=
  let x : Ctx := ⟨kind, page, ch, col, band, 0, s.pnd.order⟩
  ({ s with pnd := { s.pnd with contexts := s.pnd.contexts ++ [x], order := s.pnd.order + 1 } }).syncContexts

/-- The record of a page queued again while this pass of it runs. -/
def State.nextPass (s : State) (p : Page) : Option Page :=
  if !p.left then none
  else (s.stored? p.name).filter fun q => decide (q.job = p.job) && decide (q.pass ≠ 0)

/-- A position becomes POISONED with its blocks freed (R167, R169), in the page table too where the page is queued again. -/
def State.poisonTile (s : State) (p : Page) (ch col band : Nat) : State :=
  let f (t : Tile) : Tile := { t.clear with state := .poisoned, deflate := false }
  let s := s.updTile p.id ch col band f
  match s.nextPass p with
  | some q => s.updTile q.id ch col band f
  | none => s

/-- Fire a tile blank from a tile line on, and record the region (R170). -/
def State.blankTile (s : State) (p : Page) (ch col band line : Nat) : State :=
  let n := p.bandLines band
  let s := s.updTile p.id ch col band fun t => { t with blankFrom := min t.blankFrom line }
  let s := { s with pnd := { s.pnd with regions := s.pnd.regions ++ [BlankRegion.mk ch p.id col band line (n - 1)] } }
  s.pndCount PND_STB_BLANK_LINES_COUNT (n - line) p.id

/-- A deadline miss (R168): the rest of the tile is blank, its firing context is abandoned, its stored form is kept. -/
def State.deadlineMiss (s : State) (p : Page) (ch col band line : Nat) (needs : Bool) : State :=
  let s := s.blankTile p ch col band line
  let s := (s.dropContext .firing p.id ch col band).finishFired p.id ch col band
  let s := s.pndCount PND_STB_DEADLINE_MISS_COUNT 1 p.id
  let s := ((s.decLog 1 p ch col band line).raise 71 p.id)
  s.defect p.id (chBit ch) 1 needs

/-- A reference reader misses its deadline (cause 6) or fails (cause 7) (R171): its region is left uninspected. -/
def State.referenceMiss (s : State) (p : Page) (ch col band line cause : Nat) : State :=
  let s := (s.dropContext .reference p.id ch col band).finishReferenced p.id ch col band
  let s := s.updPage p.id fun p => { p with uninspected := true }
  let g : BlankRegion := ⟨ch, p.id, col, band, line, p.bandLines band - 1⟩
  let s := { s with ins := { s.ins with blind := s.ins.blind ++ [g] } }
  let s := if cause = 6 then s.pndCount PND_STB_REF_MISS_COUNT 1 p.id else s
  (s.decLog cause p ch col band line).raise 78 p.id

/-- Counter of a firing failure by its cause (R166). -/
def failCounter : Nat → Fld
  | 2 => PND_STB_EXPANSION_COUNT
  | 3 => PND_STB_CRC_FAIL_COUNT
  | 4 => PND_STB_BAD_STREAM_COUNT
  | _ => PND_STB_MEMORY_COUNT

/-- A firing context fails (R167): lines not yet read are blank, the position is POISONED with its blocks freed, its
reference is blank, and the page is entered with NEEDS. -/
def State.firingFails (s : State) (p : Page) (ch col band line cause : Nat) : State :=
  let s := s.blankTile p ch col band line
  let s := (s.dropContext .firing p.id ch col band).dropContext .reference p.id ch col band
  let s := ((s.poisonTile p ch col band).finishFired p.id ch col band).finishReferenced p.id ch col band
  let s := s.pndCount (failCounter cause) 1 p.id
  let s := ((s.decLog cause p ch col band line).raise 72 p.id)
  s.defect p.id (chBit ch) cause true

/-- First line of a tile that line assembly has not read (R158). -/
def State.unread (s : State) (p : Page) (ch band : Nat) : Nat :=
  let f := s.fir.channels.getD ch FirCh.reset
  let a := f.a0.getD 0 + p.first.getD 0 + 256 * (band : Int)
  min (p.bandLines band) (f.asm - a).toNat

/-- One context is lost (R498). -/
def State.loseContext (s : State) (x : Ctx) : State :=
  match s.page? x.page with
  | none => s
  | some p =>
    match x.kind with
    | .firing => s.deadlineMiss p x.ch x.col x.band (s.unread p x.ch x.band) false
    | .reference => s.referenceMiss p x.ch x.col x.band x.line 7
    | .verification => s

/-- DEC loses every context (R498): firing contexts are deadline misses from their next line, reference contexts are
lost, verification contexts start again. -/
def State.loseContexts (s : State) : State :=
  let xs := s.pnd.contexts
  let again := (xs.filter fun (x : Ctx) => x.kind = CtxKind.verification).map fun (x : Ctx) => { x with line := 0 }
  let s := ({ s with pnd := { s.pnd with contexts := again } }).syncContexts
  xs.foldl (fun (s : State) (x : Ctx) => s.loseContext x) s

end Sys2Proof.Machine
end

