-- ==== Sys2Proof/Machine/Ingest.lean ====
section
/-! DEFINITION. Raster ingest (R124 to R147): the queues and their parser, landing, verification, the compressors, and the
host compression jobs. -/

namespace Sys2Proof.Machine

/-- Add to a 64-bit counter pair of a live bank; it saturates. -/
def State.liveAddPair (s : State) (info : Nat) (lo hi : Fld) (n : Nat) : State :=
  let v := s.liveGet lo + s.liveGet hi * 2 ^ 32 + n
  let w := min (2 ^ 64 - 1) v
  let s := (s.livePut lo (w % 2 ^ 32)).livePut hi (w / 2 ^ 32)
  if v ≥ 2 ^ 64 then s.livePut ⟨info, 31, 1⟩ 1 else s

/-- Count in the live bank of ING; a tile is no line, so SPILL is not set. -/
def State.ingCount (s : State) (f : Fld) (n : Nat) : State := s.liveAdd ING_STB_INFO f n

/-- Ingest queue q. -/
def State.queue (s : State) (q : Nat) : Queue := s.ing.queues.getD q ⟨[], none, 0, 0, false⟩

/-- Change ingest queue q. -/
def State.updQueue (s : State) (q : Nat) (f : Queue → Queue) : State :=
  { s with ing := { s.ing with queues := s.ing.queues.set q (f (s.queue q)) } }

/-- Bits n of Q_EN, Q_ACTIVE, Q_STALL and Q_RESYNC. -/
def qEn (q : Nat) : Fld := ⟨ING_CTL, q, 1⟩
/-- Q_ACTIVE. -/
def qActive (q : Nat) : Fld := ⟨ING_STAT, q, 1⟩
/-- Q_STALL. -/
def qStall (q : Nat) : Fld := ⟨ING_STAT, 8 + q, 1⟩
/-- Q_RESYNC. -/
def qResync (q : Nat) : Fld := ⟨ING_STAT, 16 + q, 1⟩

/-- A queue no longer waits. -/
def State.unstall (s : State) (q : Nat) : State := (s.updQueue q fun x => { x with stalled := false }).putFlag (qStall q) false

/-- Round up to a multiple of 64 (R124). -/
def pad64 (n : Nat) : Nat := ceilDiv n 64 * 64

/-- Advance CONS of a queue (R127). -/
def State.consume (s : State) (q n : Nat) : State := s.put (ING_Q_CONS_OFFSET q) (s.get (ING_Q_CONS_OFFSET q) + n)

/-- Take bytes from the head of a queue's stream, leaving CONS. -/
def State.takeStream (s : State) (q n : Nat) : State :=
  s.updQueue q fun x => { x with stream := x.stream.drop n, skip := n - x.stream.length }

/-! ## Rejection and failure (R128 to R134) -/

/-- Record a tile in ING_ERR_LOG (R130): the cause, queue, header words 1 to 3 and stream offset. -/
def State.ingLog (s : State) (cause q col ch job band : Nat) (page offset : Word) : State :=
  let s := s.setReg ING_ERR_LOG_0 (BitVec.ofNat 32 (cause * 2 ^ 24 + q % 8 * 2 ^ 16 + col % 16 * 2 ^ 8 + ch % 8))
  let s := s.setReg ING_ERR_LOG_1 (BitVec.ofNat 32 (job % 65536 * 65536 + band % 4096))
  (s.setReg ING_ERR_LOG_2 page).setReg ING_ERR_LOG_3 offset

/-- An accepted tile fails (R133): its blocks are freed, the position is POISONED, the page is flagged defective on the
channel without an entry for reprint. -/
def State.poison (s : State) (id : Word) (ch col band cause : Nat) : State :=
  match s.page? id, s.tile? id ch col band with
  | some p, some t =>
    let s := s.dropContext .verification id ch col band
    let s := s.updTile id ch col band fun t => { t.clear with state := .poisoned, deflate := false }
    let s := s.flagOnly id (chBit ch)
    let s := s.ingLog cause t.queue col ch p.job.toNat band p.name t.offset
    (s.raise 66 id).settleAll
  | _, _ => s

/-- A position of a poisoned channel has reached LANDED or STORED (R134): with no position of it POISONED any more, the flag
the poisoning set is cleared, unless another cause has flagged the page on that channel. -/
def State.clearPoison (s : State) (id : Word) (ch : Nat) : State :=
  match s.page? id with
  | none => s
  | some p =>
    if !p.poisonDefect.getLsbD ch || p.tiles.any (fun t => t.ch = ch && t.state = .poisoned) then s
    else
      let d := putBit p.defect ch (p.otherDefect.getLsbD ch)
      let s := s.updPage id fun p => { p with defect := d, poisonDefect := putBit p.poisonDefect ch false }
      if p.defect ≠ 0 ∧ d = 0 then s.updJob p.job fun j => { j with nDefective := j.nDefective - 1 } else s

/-- A position takes its raw image as its final form (R502). -/
def State.storedRaw (s : State) (id : Word) (ch col band : Nat) : State :=
  (s.updTile id ch col band fun t => { t with state := .stored, listed := false }).ingCount ING_STB_TILES_RAW_COUNT 1

/-- Whether decoding of a band of a page has begun (R159). -/
def State.begun (s : State) (p : Page) (ch band : Nat) : Bool :=
  s.pnd.due.contains (p.id, ch, band) || p.done.getLsbD ch

/-- What the parser finds in a header (R121). -/
structure Header where
  enc : Nat
  col : Nat
  ch : Nat
  job : BitVec 16
  page : Word
  lines : Nat
  band : Nat
  raw : Nat
  size : Nat
  crc : Word
  /-- Every reserved bit is 0. -/
  clean : Bool
  magic : Bool
  sound : Bool

/-- Read a tile header (R121). -/
def headerOf (l : List Byte) : Header :=
  let w (i : Nat) : Word := BitVec.ofNat 32 (field l (4 * i) 4)
  { enc := bits (w 0) 20 2
    col := bits (w 1) 20 4
    ch := bits (w 1) 16 3
    job := BitVec.ofNat 16 (bits (w 1) 0 16)
    page := w 2
    lines := bits (w 3) 16 9
    band := bits (w 3) 0 12
    raw := (w 4).toNat
    size := (w 5).toNat
    crc := w 6
    clean := bits (w 0) 22 10 = 0 && bits (w 1) 24 8 = 0 && bits (w 1) 19 1 = 0 && bits (w 3) 25 7 = 0 && bits (w 3) 12 4 = 0
    magic := bits (w 0) 0 16 = 0x484E && bits (w 0) 16 4 = 1
    sound := w 7 = crc32c (l.take 28) }

/-- Whether the form is valid (R128 step 3). -/
def Header.formed (h : Header) : Bool :=
  h.enc ≠ 3 && h.clean && 1 ≤ h.lines && h.lines ≤ 256 && h.raw = 1024 * h.lines &&
    (if h.enc = 0 then h.size = h.raw else if h.enc = 1 then 1 ≤ h.size && h.size ≤ h.raw else h.size = 0)

/-- The first check a tile fails, by cause code (R128). -/
def State.checkTile (s : State) (h : Header) : Option Nat :=
  if !h.magic then some 1
  else if !h.sound then some 2
  else if !h.formed then some 3
  else
    match s.stored? h.page, s.job? h.job with
    | some p, some j =>
      if p.job ≠ h.job then some 5
      else if !j.mask.getLsbD h.ch ∨ h.col > 12 ∨ h.band ≥ p.bands ∨ h.lines ≠ p.bandLines h.band then some 4
      else if ((p.tile? h.ch h.col h.band).map fun t => t.state ≠ .empty && t.state ≠ .poisoned).getD false then some 6
      else if s.begun p h.ch h.band then some 7
      else none
    | _, _ => some 5

/-- Begin to resynchronise a queue (R129). -/
def State.resync (s : State) (q : Nat) : State := (s.putFlag (qResync q) true).raise 65

/-- Skip one 64-byte unit in resync (R129). -/
def State.skipUnit (s : State) (q : Nat) : State := ((s.takeStream q 64).consume q 64).incSat (ING_Q_STAT_RESYNC_SKIPS q)

/-- Reject the tile at the head of a queue's stream (R129, R130). -/
def State.rejectTile (s : State) (q cause : Nat) (h : Header) : State :=
  let named := cause > 2
  let s := s.ingLog cause q (if named then h.col else 0) (if named then h.ch else 0) h.job.toNat h.band h.page
    (s.reg (ING_Q_CONS q))
  let s := ((s.unstall q).ingCount ING_STB_TILES_REJECTED_COUNT 1).raise 64
  if !named ∨ h.size > 262144 then (s.resync q).skipUnit q
  else (s.takeStream q (pad64 (32 + h.size))).consume q (pad64 (32 + h.size))

/-! ## Landing (R132, R135, R136, R150) -/

/-- A queue waits for blocks or a list entry (R135). -/
def State.stallQueue (s : State) (q : Nat) : State :=
  if (s.queue q).stalled then s
  else ((s.updQueue q fun x => { x with stalled := true }).putFlag (qStall q) true).raise 70

/-- Blocks that landing may still take: FREE must exceed WEIR_RSV for each (R150). -/
def State.landingRoom (s : State) : Nat := s.free_ - s.get PND_RESERVE_WEIR_RSV

/-- Payload bytes of the tile in landing that have arrived. -/
def Queue.arrived (x : Queue) : Nat := min x.payload (x.stream.length - 32)

/-- Take blocks for the bytes of the tile in landing that have arrived, as many as there are (R132, R135, R150). -/
def State.landBlocks (s : State) (q : Nat) : State :=
  match (s.queue q).landing with
  | none => s
  | some (id, ch, col, band) =>
    match s.tile? id ch col band with
    | none => s.unstall q
    | some t =>
      if t.state ≠ .landing then s.unstall q
      else
        let need := blocksOf (s.queue q).arrived - t.chain.length
        let n := min need s.landingRoom
        let r := s.takeBlocks n
        let s := (r.2.updTile id ch col band fun t => { t with chain := t.chain ++ r.1 }).settleStore
        if n < need then s.stallQueue q else s.unstall q

/-- Entries taken in the compression list (R136). -/
def State.listUse (s : State) : Nat := ((s.pnd.pages.map fun p => (p.tiles.filter fun t => t.listed).length).sum)

/-- Accept the tile at the head of a queue's stream (R128, R136). -/
def State.acceptTile (s : State) (q : Nat) (h : Header) (storeOnly : Bool) : State :=
  let wants := h.enc = 0 && !storeOnly
  let full := s.listUse ≥ 1024
  if wants && full && !s.flag ING_CTL_OVERFLOW_RAW then s.stallQueue q
  else
    let offset := s.reg (ING_Q_CONS q)
    let s := (s.unstall q).incWrap (ING_Q_STAT_TILES q)
    let s := s.ingCount ING_STB_TILES_IN_COUNT 1
    let id := s.keyOf h.page
    let s := s.updTile id h.ch h.col h.band fun t => { t with
      state := if h.enc = 2 then .blank else .landing
      bytes := [], deflate := h.enc = 1, rawSize := h.raw, crc := h.crc, chain := [], old := []
      listed := wants && !full, queue := q, offset := offset }
    if h.enc = 2 then ((s.ingCount ING_STB_TILES_BLANK_COUNT 1).takeStream q 64).consume q 64
    else
      let s := s.updQueue q fun x => { x with landing := some (id, h.ch, h.col, h.band), payload := h.size }
      (s.putFlag (qActive q) true).landBlocks q

/-- Whether the next 64 bytes of a stream are filler (R124). -/
def fillerUnit (l : List Byte) : Bool := (l.take 64).all (· = 0)

/-- Skip what is still to skip, and filler, up to the next header. -/
def State.skipFiller (q : Nat) : Nat → State → State
  | 0, s => s
  | f + 1, s =>
    let x := s.queue q
    if x.skip > 0 ∧ ¬ x.stream.isEmpty then
      State.skipFiller q f (s.updQueue q fun x =>
        { x with skip := x.skip - x.stream.length, stream := x.stream.drop x.skip })
    else if x.stream.length ≥ 64 ∧ fillerUnit x.stream ∧ ¬ s.flag (qResync q) then
      State.skipFiller q f ((s.takeStream q 64).consume q 64)
    else s

/-- The parser takes the header at the head of a queue's stream (R128, R129). A queue in resync tests one offset. -/
def State.parseTile (s : State) (q : Nat) : State :=
  if !s.runs 4 || !s.flag (qEn q) || (s.queue q).landing.isSome then s
  else
    let s := State.skipFiller q ((s.queue q).stream.length + 2) s
    let l := (s.queue q).stream
    if l.length < 64 ∨ (s.queue q).skip > 0 then s
    else
      let h := headerOf l
      if s.flag (qResync q) ∧ ¬ (h.magic ∧ h.sound) then s.skipUnit q
      else
        let s := s.putFlag (qResync q) false
        match s.checkTile h with
        | some cause => s.rejectTile q cause h
        | none => s.acceptTile q h (((s.job? h.job).map Job.storeOnly).getD false)

/-- A decoder is asked to verify a landed DEFLATE tile (R132). -/
def State.verify (s : State) (id : Word) (ch col band : Nat) : State :=
  (s.updTile id ch col band fun t => { t with state := .verifying }).newContext .verification id ch col band

/-- A stored tile has landed: its CRC is judged (R132). -/
def State.landedRaw (s : State) (id : Word) (t : Tile) : State :=
  if crc32c t.bytes ≠ t.crc then s.poison id t.ch t.col t.band 8
  else if t.listed then
    let s := s.updTile id t.ch t.col t.band fun t => { t with state := .landed }
    (({ s with ing := { s.ing with list := s.ing.list ++ [(id, t.ch, t.col, t.band)] } }).clearPoison id t.ch).settleAll
  else ((s.storedRaw id t.ch t.col t.band).clearPoison id t.ch).settleAll

/-- The payload of the landing tile of a queue has arrived (R132). -/
def State.landTile (s : State) (q : Nat) : State :=
  let x := s.queue q
  match x.landing with
  | none => s
  | some (id, ch, col, band) =>
    let total := pad64 (32 + x.payload)
    let lacks := ((s.tile? id ch col band).map fun t => t.state = .landing && t.chain.length < blocksOf x.payload).getD false
    if !s.runs 4 || x.stream.length < total || lacks then s
    else
      let bytes := (x.stream.drop 32).take x.payload
      let s := ((s.takeStream q total).consume q total).updQueue q fun x => { x with landing := none, payload := 0 }
      let s := (s.putFlag (qActive q) false).liveAddPair ING_STB_INFO ING_STB_BYTES_IN_LO_BYTES ING_STB_BYTES_IN_HI_BYTES
        bytes.length
      match s.tile? id ch col band with
      | none => s
      | some t =>
        if t.state ≠ .landing then s
        else
          let s := s.updTile id ch col band fun t => { t with bytes := bytes }
          if t.deflate then (s.verify id ch col band).settleAll else s.landedRaw id { t with bytes := bytes }

/-- A verification ends (R132, R133, R176). -/
def State.verified (s : State) (id : Word) (ch col band : Nat) (mem : MemRead) : State :=
  match s.tile? id ch col band with
  | none => s
  | some t =>
    if t.state ≠ .verifying then s
    else
      let s := s.memRead mem
      if memFailed mem then s.poison id ch col band 8
      else
        match inflate t.rawSize t.bytes with
        | (_, some .expansion) => s.poison id ch col band 9
        | (_, some .bad) => s.poison id ch col band 10
        | (out, none) =>
          if crc32c out ≠ t.crc then s.poison id ch col band 8
          else
            let s := s.dropContext .verification id ch col band
            let s := s.updTile id ch col band fun t => { t with state := .stored }
            ((s.ingCount ING_STB_TILES_VERIFIED_COUNT 1).clearPoison id ch).settleAll

/-- A tile in landing returns to EMPTY (R127, R498). -/
def State.unland (s : State) (q : Nat) : State :=
  match (s.queue q).landing with
  | none => s
  | some (id, ch, col, band) =>
    let s := s.updTile id ch col band fun t => if t.state = .landing then { t.clear with state := .empty } else t
    let s := (s.updQueue q fun x => { x with landing := none, payload := 0 }).putFlag (qActive q) false
    s.settleAll

/-- Clear Q_EN of a queue (R127). -/
def State.stopQueue (s : State) (q : Nat) : State :=
  let s := ((s.unland q).unstall q).putFlag (qEn q) false
  (s.updQueue q fun x => { x with stream := [], skip := 0 }).putFlag (qResync q) false

/-- Bytes written to a queue's port (R126); those of the tile in landing take their blocks (R132). -/
def State.portBytes (s : State) (q : Nat) (l : List Byte) : State :=
  if s.flag (qEn q) then (s.updQueue q fun x => { x with stream := x.stream ++ l }).landBlocks q else s

/-- Whether a queue takes stream bytes: it does not wait for a block or a list entry (R135). -/
def State.portReady (s : State) (q : Nat) : Bool := !s.flag (qEn q) || !(s.queue q).stalled

/-! ## Weir descriptors (R142) -/

/-- A weir descriptor: the block, the next of its chain where it is not the last, its position, its bits, and DCRC. -/
def weirDescriptor (block : Nat) (next : Option Nat) (seq used : Nat) : List Byte :=
  let l := leBytes 4 block ++ leBytes 4 (match next with
    | some n => n
    | none => 2 ^ 31) ++ leBytes 4 (seq * 2 ^ 27 + used)
  l ++ leBytes 4 (crc32c l).toNat

/-- The descriptors of a chain that holds so many bits, by block. -/
def chainDescriptors (chain : List Nat) (nbits : Nat) : List (Nat × List Byte) :=
  (List.range chain.length).map fun i =>
    let b := chain.getD i 0
    (b, weirDescriptor b chain[i + 1]? i (min 131072 (nbits - 131072 * i)))

/-- The descriptor table: one entry for each block a position holds an image in, 16 bytes at its block number. -/
def State.descriptors (s : State) : List (Nat × List Byte) :=
  s.pnd.pages.flatMap fun p => p.tiles.flatMap fun t => chainDescriptors t.chain (8 * t.bytes.length)

/-! ## Compression (R136 to R143) -/

/-- The parameters a compressor reads, each at the nearer limit (R137, R147). -/
def cmpParams (ctl : Word) (depth : Nat) : Word :=
  let d := if depth = 0 then bits ctl 0 7 else depth
  let v := withBits ctl 0 7 (max 1 (min 64 d))
  let v := withBits v 15 9 (max 8 (min 258 (bits ctl 15 9)))
  let v := withBits v 25 2 (min 2 (bits ctl 25 2))
  withBits v 27 5 (max 8 (min 16 (bits ctl 27 5)))

/-- The parameters of the coding in such a word. -/
def cmpForm (v : Word) : CmpParams := ⟨bits v 0 7, bits v 15 9, v.getLsbD 24, 16384 * 2 ^ bits v 25 2⟩

/-- Compressors and host jobs at work, shown in CMP_BUSY. -/
def State.syncBusy (s : State) : State := s.put ING_STAT_CMP_BUSY (s.ing.compressors.length + s.ing.hostJobs.length)

/-- The compressor of a unit. -/
def State.compressor (s : State) (u : Nat) : Option Compressor := s.ing.compressors.find? fun c => c.unit = u

/-- Change the compressor of a unit. -/
def State.updCompressor (s : State) (u : Nat) (f : Compressor → Compressor) : State :=
  { s with ing := { s.ing with compressors := s.ing.compressors.map fun c => if c.unit = u then f c else c } }

/-- Remove a compressor with its weir chain. -/
def State.dropCompressor (s : State) (u : Nat) : State :=
  ({ s with ing := { s.ing with compressors := s.ing.compressors.filter fun c => c.unit ≠ u } }).syncBusy

/-- Enabled host jobs start while no tile waits and fewer than 4 run (R145). -/
def State.takeHostJobs : Nat → State → State
  | 0, s => s
  | f + 1, s =>
    match s.ing.hostDescs with
    | [] => s
    | d :: t =>
      if s.ing.list.isEmpty ∧ s.ing.hostJobs.length < 4 ∧ s.ing.compressors.length + s.ing.hostJobs.length < 32
          ∧ s.flag ING_HCJ_CTL_ENABLE then
        let size := 2 ^ max 1 (min 10 (s.get ING_HCJ_CTL_LOG2_SIZE))
        let i := (s.get ING_HCJ_HEAD_INDEX + s.ing.hostJobs.length) % size
        let j : HostJob := ⟨i, field d 0 8, field d 8 8, field d 16 4, cmpParams (s.reg ING_CMP_CTL) 0⟩
        State.takeHostJobs f ({ s with ing := { s.ing with hostJobs := s.ing.hostJobs ++ [j], hostDescs := t } }).syncBusy
      else s

/-- Take host jobs as far as they may start. -/
def State.hostTurn (s : State) : State := State.takeHostJobs 4 s

/-- Take weir buffers up to `want` + 2, held ahead of need (R141, R150). -/
def State.takeWeirs (s : State) (u want : Nat) : State :=
  match s.compressor u with
  | none => s
  | some c =>
    let r := s.takeBlocks (min (want + 2 - c.chain.length) s.free_)
    let lacks (c : Compressor) : Bool := c.chain.length + r.1.length < want
    (r.2.updCompressor u fun c => { c with
      chain := c.chain ++ r.1, waiting := lacks c, since := if lacks c && !c.waiting then s.cycle else c.since }).settleStore

/-- A free compressor takes the next LANDED tile of the list (R136, R137). -/
def State.startCompressor (s : State) (u : Nat) : State :=
  if !s.runs 4 || (s.compressor u).isSome || s.ing.compressors.length + s.ing.hostJobs.length ≥ 32 then s
  else
    match s.ing.list with
    | [] => s
    | (id, ch, col, band) :: t =>
      let s := { s with ing := { s.ing with list := t } }
      match s.page? id with
      | none => s
      | some p =>
        let depth := ((s.jobOf p).map fun j => j.depth).getD 0
        let v := cmpParams (s.reg ING_CMP_CTL) depth
        let s := s.updTile id ch col band fun t => { t with listed := false }
        let c : Compressor := ⟨u, id, ch, col, band, v, 0, [], false, 0, bits v 27 5⟩
        (({ s with ing := { s.ing with compressors := s.ing.compressors ++ [c] } }).syncBusy.takeWeirs u 0).hostTurn

/-- Abandon a tile (R139, R143): it is STORED with its landed image, and the reason is counted. -/
def State.abandon (s : State) (c : Compressor) (f : Fld) : State :=
  let s := (s.dropCompressor c.unit).ingCount f 1
  let s := if (s.tile? c.page c.ch c.col c.band).isSome then s.storedRaw c.page c.ch c.col c.band else s
  s.settleAll.hostTurn

/-- The raw size of a compressor's tile; 0 where its page has left the store. -/
def State.cmpSize (s : State) (c : Compressor) : Nat := ((s.tile? c.page c.ch c.col c.band).map fun t => t.rawSize).getD 0

/-- What a compressor has written for the input it has read (R137). -/
def State.cmpStream (s : State) (c : Compressor) : List Byte :=
  deflate (cmpForm c.params) ((((s.tile? c.page c.ch c.col c.band).map fun t => t.bytes).getD []).take c.input)
    (decide (s.cmpSize c ≤ c.input))

/-- Output bytes of a compressor for the input it has read. -/
def State.cmpOut (s : State) (c : Compressor) : Nat := (s.cmpStream c).length

/-- The test at every 64 KiB of input and at the end of the tile (R139, R143, R176). -/
def State.testCompressor (s : State) (u : Nat) (mem : MemRead) : State :=
  match s.compressor u with
  | none => s
  | some c =>
    if !s.runs 4 || c.waiting || c.input ≥ s.cmpSize c then s
    else
      let s := s.memRead mem
      if memFailed mem then ((s.dropCompressor u).poison c.page c.ch c.col c.band 8).hostTurn
      else
        let c := { c with input := min (s.cmpSize c) (c.input + 65536) }
        let s := s.updCompressor u fun x => { x with input := c.input }
        let out := s.cmpOut c
        if out > c.input then s.abandon c ING_STB_EXPANDS_COUNT
        else if 16 * out > c.keep * c.input then s.abandon c ING_STB_NO_GAIN_COUNT
        else s.takeWeirs u (blocksOf out)

/-- A compressor finishes its tile (R140): the position switches to its chain, filled buffer by buffer (R141), and buffers held ahead
are freed; a live decode keeps the landed blocks too. -/
def State.finishCompressor (s : State) (u : Nat) : State :=
  match s.compressor u with
  | none => s
  | some c =>
    if !s.runs 4 || c.waiting || c.input < s.cmpSize c then s
    else
      let out := s.cmpStream c
      let s := s.dropCompressor u
      match s.tile? c.page c.ch c.col c.band with
      | none => s.settleAll.hostTurn
      | some _ =>
        let live := s.pnd.contexts.any fun x => x.page = c.page && x.ch = c.ch && x.col = c.col && x.band = c.band
        let s := s.updTile c.page c.ch c.col c.band fun t =>
          { t with
            state := .stored, bytes := out, deflate := true, chain := c.chain.take (blocksOf out.length)
            old := if live then t.chain else [] }
        let s := (s.ingCount ING_STB_TILES_COMPRESSED_COUNT 1).liveAddPair ING_STB_INFO ING_STB_BYTES_OUT_LO_BYTES
          ING_STB_BYTES_OUT_HI_BYTES out.length
        s.settleAll.hostTurn

/-- No weir buffer within ING_WEIR_WAIT (R143, R147). -/
def State.weirTimeout (s : State) (u : Nat) : State :=
  match s.compressor u with
  | some c =>
    if s.runs 4 && c.waiting then
      ((s.tickTo (c.since + 800 * max 1 (s.get ING_WEIR_WAIT_WAIT_US))).abandon c ING_STB_WEIR_EMPTY_COUNT).raise 67 c.page
    else s
  | none => s

/-- A weir buffer arrives (R143). -/
def State.weirArrives (s : State) (u : Nat) : State :=
  match s.compressor u with
  | some c => if s.runs 4 && c.waiting then s.takeWeirs u (blocksOf (s.cmpOut c)) else s
  | none => s

/-- A queue that waits goes on once a block or a list entry has freed (R135). -/
def State.resumeLanding (s : State) (q : Nat) : State :=
  if !s.runs 4 || !(s.queue q).stalled then s
  else if (s.queue q).landing.isSome then s.landBlocks q
  else s.parseTile q

/-! ## Host compression jobs (R144, R145) -/

/-- Write the result of the oldest running job (R144): CRC, OUT_LEN and RESULT, HEAD advances, vector 68. -/
def State.hostResult (s : State) (crc : Word) (out code : Nat) : State :=
  match s.ing.hostJobs with
  | [] => s
  | j :: t =>
    let at_ := (s.reg ING_HCJ_BASE_LO).toNat + (s.reg ING_HCJ_BASE_HI).toNat * 2 ^ 32 + 32 * j.index + 20
    let s := { s with ing := { s.ing with hostJobs := t } }
    let s := s.emit (.hostWrite at_ (leBytes 4 crc.toNat ++ leBytes 4 out ++ leBytes 4 (2 ^ 31 + code)))
    let size := 2 ^ max 1 (min 10 (s.get ING_HCJ_CTL_LOG2_SIZE))
    let s := s.put ING_HCJ_HEAD_INDEX ((j.index + 1) % size)
    ((s.ingCount ING_STB_HCJ_DONE_COUNT 1).syncBusy).raise 68

/-- End every running host job ABORTED (R145). -/
def State.abortHostJobs : Nat → State → State
  | 0, s => s
  | f + 1, s => if s.ing.hostJobs.isEmpty then s else State.abortHostJobs f (s.hostResult 0 0 4)

/-- ENABLE of the job ring clears: running jobs end ABORTED. -/
def State.stopHostJobs (s : State) : State :=
  let s := s.putFlag ING_HCJ_CTL_ENABLE false
  let s := State.abortHostJobs 4 s
  { s with ing := { s.ing with hostDescs := [] } }

/-- The oldest running host job ends (R145). -/
def State.endHostJob (s : State) (input : List Byte) (hostErr : Bool) : State :=
  match s.ing.hostJobs with
  | [] => s
  | j :: _ =>
    if !s.runs 4 then s
    else if j.len = 0 ∨ j.len > 262144 then (s.hostResult 0 0 2).hostTurn
    else if hostErr then
      let s := (s.hostResult 0 0 3).putFlag ING_HCJ_CTL_ERR true
      (s.stopHostJobs).raise 69
    else
      let input := input.take j.len ++ List.replicate (j.len - input.length) 0
      let out := deflate (cmpForm j.params) input true
      if out.length > j.len then (s.hostResult 0 0 1).hostTurn
      else ((s.emit (.hostWrite j.dst out)).hostResult (crc32c input) out.length 0).hostTurn

/-- A write of ING_HCJ_TAIL (R144, R88): the entries from the old index to the new are offered. -/
def State.offerHostJobs (s : State) (tail : Word) (descs : List (List Byte)) : State :=
  let size := 2 ^ max 1 (min 10 (s.get ING_HCJ_CTL_LOG2_SIZE))
  let n := (bits tail 0 10 + size - s.get ING_HCJ_TAIL_INDEX % size) % size
  let s := s.put ING_HCJ_TAIL_INDEX (bits tail 0 10)
  if s.flag ING_HCJ_CTL_ENABLE then
    ({ s with ing := { s.ing with hostDescs := s.ing.hostDescs ++ (List.range n).map fun i => descs.getD i [] } }).hostTurn
  else s

/-! ## Island reset of ING (R498, corner cases) -/

/-- What an ING reset drops: landing and verifying positions become EMPTY, compressions and host jobs are abandoned. -/
def State.dropIngest (s : State) : State :=
  let s := (List.range 8).foldl (fun s q => s.stopQueue q) s
  let s := State.abortHostJobs 4 s
  let s := { s with pnd := { s.pnd with
    contexts := s.pnd.contexts.filter fun (x : Ctx) => x.kind ≠ CtxKind.verification
    pages := s.pnd.pages.map fun (p : Page) => { p with tiles := p.tiles.map fun (t : Tile) =>
      if t.state = TileState.verifying then { t.clear with state := TileState.empty } else t } } }
  let again := s.ing.compressors.map fun (c : Compressor) => (c.page, c.ch, c.col, c.band)
  let s := again.foldl (fun (s : State) (q : Word × Nat × Nat × Nat) => s.updTile q.1 q.2.1 q.2.2.1 q.2.2.2 fun t => { t with listed := true }) s
  ({ s with ing := { s.ing with compressors := [], hostDescs := [], list := s.ing.list ++ again } }).syncContexts.settleAll

/-! ## Meanings -/

/-- TILE_ARRIVAL (R128 to R130). -/
def execTileArrival (queue : Fin 8) (s : State) : Host.Outcome State Fault Refusal := s.done (s.parseTile queue.val)

/-- TILE_LANDED (R132). -/
def execTileLanded (queue : Fin 8) (s : State) : Host.Outcome State Fault Refusal := s.done (s.landTile queue.val)

/-- VERIFY_DONE (R132). -/
def execVerifyDone (page : Word) (ch : Fin 8) (col : Fin 13) (band : BitVec 12) (mem : MemRead) (s : State) :
    Host.Outcome State Fault Refusal :=
  s.done (if s.runs 6 then s.verified (s.keyOf page) ch.val col.val band.toNat mem else s)

/-- LANDING_RESUME (R135). -/
def execLandingResume (queue : Fin 8) (s : State) : Host.Outcome State Fault Refusal := s.done (s.resumeLanding queue.val)

/-- COMPRESS_START (R136). -/
def execCompressStart (unit : Fin 32) (s : State) : Host.Outcome State Fault Refusal := s.done (s.startCompressor unit.val)

/-- COMPRESS_TEST (R139). -/
def execCompressTest (unit : Fin 32) (mem : MemRead) (s : State) : Host.Outcome State Fault Refusal :=
  s.done (s.testCompressor unit.val mem)

/-- COMPRESS_DONE (R140). -/
def execCompressDone (unit : Fin 32) (s : State) : Host.Outcome State Fault Refusal := s.done (s.finishCompressor unit.val)

/-- WEIR_WAIT_TIMEOUT (R143). -/
def execWeirWaitTimeout (unit : Fin 32) (s : State) : Host.Outcome State Fault Refusal := s.done (s.weirTimeout unit.val)

/-- WEIR_RESUME (R143). -/
def execWeirResume (unit : Fin 32) (s : State) : Host.Outcome State Fault Refusal := s.done (s.weirArrives unit.val)

/-- QUEUE_ENABLE (R127). -/
def execQueueEnable (by_ : By) (queue : Fin 8) (s : State) : Host.Outcome State Fault Refusal :=
  s.done (s.hostWrite by_ ING_CTL fun s => s.putFlag (qEn queue.val) true)

/-- QUEUE_DISABLE (R127). -/
def execQueueDisable (by_ : By) (queue : Fin 8) (s : State) : Host.Outcome State Fault Refusal :=
  s.done (s.hostWrite by_ ING_CTL fun s => s.stopQueue queue.val)

/-- HCJ_DOORBELL (R144). -/
def execHcjDoorbell (by_ : By) (tail : Word) (descs : List (List Byte)) (s : State) : Host.Outcome State Fault Refusal :=
  s.done (s.hostWrite by_ ING_HCJ_TAIL fun s => s.offerHostJobs tail descs)

/-- HCJ_DONE (R145). -/
def execHcjDone (input : List Byte) (hostErr : Bool) (s : State) : Host.Outcome State Fault Refusal :=
  s.done (s.endHostJob input hostErr)

/-- HCJ_DISABLE (R145). -/
def execHcjDisable (by_ : By) (s : State) : Host.Outcome State Fault Refusal :=
  s.done (s.hostWrite by_ ING_HCJ_CTL State.stopHostJobs)

end Sys2Proof.Machine
end

