-- ==== Sys2Proof/Machine/Power.lean ====
section
/-! DEFINITION. Fire rails (R356 to R362): rail commands, claims on the press supply, admission, and switching off. -/

namespace Sys2Proof.Machine

/-- The setpoint written for a carrier; outside 5,000 to 60,000 the nearer limit (R374). -/
def State.setMvOf (s : State) (n : Nat) : Nat := max 5000 (min 60000 (s.get (PWR_C_RAIL_SET_MV n)))

/-- Send the rail command of a carrier (R356). -/
def State.railCommand (s : State) (n : Nat) (enable : Bool) (mv : Nat) : State :=
  let b := s.get (PWR_C_RAIL_RAMP_MA_MS n) * 2 ^ 48 + s.get (PWR_CH_WARM_WARM_C (n / 2)) * 2 ^ 40
    + bit enable * 2 ^ 33 + bit enable * 2 ^ 32 + mv * 2 ^ 16
  let s := if !enable && (s.carrier n).enabled then s.mark (.claim n) else s
  let s := s.updCarrier n fun c => { c with enabled := enable, setMv := mv, leaving := !enable && (c.leaving || c.enabled) }
  (s.mark (.rail n)).sendMsg n 1 [b, 0]

/-- PWR_SUP_USED: the claims of all admitted carriers (R359). -/
def State.syncClaims (s : State) : State :=
  s.put PWR_SUP_USED_VALUE ((List.range 16).map fun n => (s.carrier n).claim).sum

/-- Sum of RAMP_MA_MS over the ramping carriers (R359). -/
def State.rampSum (s : State) : Nat :=
  ((List.range 16).map fun n => if (s.carrier n).ramping then s.get (PWR_C_RAIL_RAMP_MA_MS n) else 0).sum

/-- The rate of rise a carrier adds fits the slew (R359). -/
def State.slewFits (s : State) (n : Nat) : Bool :=
  s.rampSum + s.get (PWR_C_RAIL_RAMP_MA_MS n) ≤ s.get PWR_SUP_SLEW_VALUE

/-- The claim of a carrier fits the budget (R359). -/
def State.claimFits (s : State) (n : Nat) : Bool :=
  s.get PWR_SUP_USED_VALUE + 10 * s.get (PWR_C_CLAIM_CLAIM_CA n) ≤ s.get PWR_SUP_BUDGET_VALUE

/-- A warm-up starts (R359): every carrier of an enabled channel waits. -/
def State.startWarmUp (s : State) : State :=
  let s := s.carriers.foldl (fun s n => s.updCarrier n fun c => { c with warm := false, steady := 0 }) s
  let w := s.carriers.foldl (fun v n => putBit v n true) (0 : BitVec 16)
  ({ s with pwr := { s.pwr with waiting := w, waitRaised := false } }).putFlag PWR_STAT_WARMING true

/-- Admit a carrier (R359). -/
def State.admitNext (s : State) (n : Nat) : State :=
  let s := { s with pwr := { s.pwr with waiting := putBit s.pwr.waiting n false } }
  let s := s.updCarrier n fun c => { c with
    claim := 10 * s.get (PWR_C_CLAIM_CLAIM_CA n), ramping := true, overs := 0, off := 0, dev := 0, steady := 0 }
  ((s.putFlag PWR_STAT_SUPPLY_WAIT false).railCommand n true (s.setMvOf n)).syncClaims

/-- The supply keeps the lowest-numbered waiting carrier from admission (R359). -/
def State.supplyWaits (s : State) : State :=
  let s := s.putFlag PWR_STAT_SUPPLY_WAIT true
  if s.pwr.waitRaised then s
  else ({ s with pwr := { s.pwr with waitRaised := true } }).raise 192

/-- Send a carrier a changed setpoint; it ramps until its next record in regulation (R357, R362). -/
def State.sendSetpoint (s : State) (n : Nat) : State :=
  let s := { s with pwr := { s.pwr with setWait := putBit s.pwr.setWait n false } }
  (s.updCarrier n fun c => { c with ramping := true, overs := 0, off := 0, dev := 0 }).railCommand n true (s.setMvOf n)

/-- SET_MV of a carrier has changed: a ramping carrier is sent it at once, an enabled one as the supply admits it (R362). -/
def State.setpointChanged (s : State) (n : Nat) : State :=
  if (s.carrier n).ramping then s.sendSetpoint n
  else if (s.carrier n).enabled then { s with pwr := { s.pwr with setWait := putBit s.pwr.setWait n true } }
  else s

/-- The command of a carrier as last given, with what its registers say now (R356). -/
def State.resendRail (s : State) (n : Nat) : State :=
  if s.carrierOn n then s.railCommand n (s.carrier n).enabled (s.carrier n).setMv else s

/-- The admission check (R359, R362, R446). -/
def State.admission (s : State) : State :=
  match bitList s.pwr.waiting with
  | n :: _ =>
    if !s.flag SAF_STAT_START_OK then s
    else if s.claimFits n && s.slewFits n then s.admitNext n
    else s.supplyWaits
  | [] =>
    match bitList s.pwr.setWait with
    | n :: _ => if s.slewFits n then s.sendSetpoint n else s
    | [] => s

/-- Release a carrier's claim (R361). -/
def State.releaseClaim (s : State) (n : Nat) : State :=
  (s.updCarrier n fun c => { c with claim := 0, ramping := false, warm := false, leaving := false }).syncClaims

/-- Send ENABLE = 0 to every enabled carrier at once; no carrier waits any more (R361). -/
def State.disableAll (s : State) : State :=
  let s := { s with pwr := { s.pwr with waiting := 0, setWait := 0 } }
  let s := (s.putFlag PWR_STAT_WARMING false).putFlag PWR_STAT_SUPPLY_WAIT false
  (List.range 16).foldl (fun s n =>
    if (s.carrier n).enabled then (s.updCarrier n fun c => { c with ramping := false }).railCommand n false (s.carrier n).setMv
    else s) s

/-- Whether every carrier that was sent ENABLE = 0 has reported it or waited 2 s, so that every claim is released. -/
def State.claimsGone (s : State) : Bool := (List.range 16).all fun n => !(s.carrier n).leaving && !(s.carrier n).enabled

/-- Whether the warm-up of every carrier of every enabled channel has ended (R360). -/
def State.allWarm (s : State) : Bool := s.carriers.all fun n => (s.carrier n).warm && s.flag (JGL_C_STAT_UP n)

/-- A carrier's warm-up has ended: its claim falls to HOLD_CA (R359, R360). -/
def State.warmUpEnds (s : State) (n : Nat) : State :=
  (s.updCarrier n fun c => { c with warm := true, claim := 10 * s.get (PWR_C_CLAIM_HOLD_CA n) }).syncClaims

end Sys2Proof.Machine
end

