-- ==== Sys2Proof/Machine/Islands.lean ====
section
/-! DEFINITION. Islands (R25 to R28, R48, R64, R354, R498): what an island loses when its reset handshake runs, and what it
holds when it starts again. The numbers of sensors' frames go on (R301). -/

namespace Sys2Proof.Machine

/-- Registers an island reset keeps: the barge registers (R458), the stream offsets of ingest (R127), the pool, its repairs and
error counts (R176, R178), and the number of steps is TIM's own. -/
def keptByReset (off : Nat) : Bool :=
  (0x80000 ≤ off && off < 0xC0000) || off = PND_POOL || off = PND_MEM_REPAIR || off = PND_MEM_CE || off = PND_MEM_UE
    || (List.range 8).any (fun q => off = ING_Q_CONS q)

/-- Return the registers of an island to their reset values. -/
def State.dropRegs (s : State) (i : Nat) : State :=
  let stay (a : Nat) : Bool := islandOf a ≠ i || keptByReset a
  let other (a : Nat) : Bool := islandOf a ≠ i
  { s with
    regs := s.regs.filter fun p => stay p.1
    active := s.active.filter fun p => stay p.1
    live := s.live.filter fun p => other p.1
    captures := s.captures.filter fun p => other p.1
    latches := s.latches.filter fun p => other p.1 }

/-- Put the word the bar record loads into the loaded bits of a register, staged and active (R8; log entry 7, DESIGN CHOICE). -/
def State.loadReg (s : State) (a : Nat) (v : Word) : State :=
  match rowOf a with
  | none => s
  | some r =>
    let m := BitVec.ofNat 32 r.load
    let put (old : Word) : Word := (old &&& ~~~ m) ||| (v &&& m)
    let s := s.setReg a (put (s.reg a))
    if (setOf a).isSome then s.setAct a (put (s.act a)) else s

/-- Fill the loaded fields of an island's registers. -/
def State.loadIsland (s : State) (i : Nat) : State :=
  s.sys.loads.foldl (fun s q => if islandOf q.1 = i then s.loadReg q.1 q.2 else s) s

/-- Work in flight that a reset of MEM ends (R498): store accesses fail, decode contexts are lost, landing tiles are
POISONED, compressions rejoin the list, host jobs end ABORTED. -/
def State.dropMemory (s : State) : State :=
  let s := s.loseContexts
  let s := (List.range 8).foldl (fun s q =>
    match (s.queue q).landing with
    | some (id, ch, col, band) =>
      let n := pad64 (32 + (s.queue q).payload)
      let s := ((s.takeStream q n).consume q n).updQueue q fun x => { x with landing := none, payload := 0 }
      (((s.putFlag (qActive q) false).unstall q)).poison id ch col band 8
    | none => s) s
  let again := s.ing.compressors.map fun (c : Compressor) => (c.page, c.ch, c.col, c.band)
  let s := again.foldl (fun (s : State) (q : Word × Nat × Nat × Nat) =>
    s.updTile q.1 q.2.1 q.2.2.1 q.2.2.2 fun t => { t with listed := true }) s
  let s := { s with ing := { s.ing with compressors := [], list := s.ing.list ++ again } }
  (State.abortHostJobs 4 s).syncBusy

/-- Sub-state that a reset of an island returns to its reset value. The event log, which CTL holds, stays (R458), and so do
the page table, the jobs and the positions (R498). -/
def State.dropState (s : State) (i : Nat) : State :=
  match i with
  | 3 => { s with evt := { Evt.reset with log := s.evt.log } }
  | 4 => s
  | 7 => { s with asm := Asm.reset }
  | 8 => { s with fir := Fir.reset, pos := Pos.reset }
  | 9 =>
    let keep (c : Carrier) : Carrier := { Carrier.reset with
      claim := c.claim, ramping := c.ramping, enabled := c.enabled, setMv := c.setMv, warm := c.warm }
    { s with jgl := ⟨Jgl.reset.lanes, s.jgl.carriers.map keep⟩ }
  | 10 =>
    let keep (x : Sensor) : Sensor := { Sensor.reset with next := x.next }
    { s with cam := { Cam.reset with sensors := s.cam.sensors.map keep }, ins := Ins.reset }
  | 11 => { s with tim := { Tim.reset with epoch := s.tim.epoch, startedOnce := s.tim.startedOnce } }
  | _ => s

/-- The shadowed block of an island, whose pending sets its reset discards (R40). -/
def islandBlock (i : Nat) : Option ShdBlk :=
  match i with
  | 3 => some .brg
  | 5 => some .arb
  | 7 => some .asm
  | 8 => some .fir
  | 10 => some .cam
  | _ => none

/-- Show what an island's registers take from state that its reset keeps. -/
def State.resyncIsland (s : State) (i : Nat) : State :=
  match i with
  | 3 => s.put EVT_LOG_STAT_COUNT s.evt.log.length
  | 4 => s.syncBusy
  | 5 =>
    let s := ((s.syncStore).syncReprint).syncContexts
    let s := (List.range 32).foldl (fun s l => s.syncLock l) s
    (List.range 16).foldl (fun s o => s.syncOwner o) s
  | 6 => s.syncContexts
  | _ => s

/-- The reset handshake of an island (R28, R389): its work is dropped, its locks are released BROKEN, its registers return to
their reset values, and it stands in reset. -/
def State.holdIsland (s : State) (i : Nat) : State :=
  if !s.runs i then s
  else
    let s := if i = 3 then s.bargeLink else s
    let s := if i = 4 then s.dropIngest else if i = 5 then s.dropMemory else if i = 6 then s.loseContexts else s
    let s := s.breakLocks fun r => r.island = i || i = 5
    let s := (islandBlock i).elim s s.clearSets
    let s := ((s.dropState i).dropRegs i).resetArbiters i
    let s := { s with running := putBit s.running i false }
    s.resyncIsland i

/-- A start of TIM (R423): the clock restarts at 0, UNSET, in a new epoch unless it is the first since a cold reset. -/
def State.startTime (s : State) : State :=
  let e := if s.tim.startedOnce then s.tim.epoch + 1 else s.tim.epoch
  let t := { Tim.reset with epoch := e, startedOnce := true, history := [(s.cycle, 0, 0)], since := s.cycle }
  let s := ({ s with tim := t }).put TIM_EPOCH_EPOCH e.toNat
  (List.range 2).foldl (fun s p =>
    let m := Config.macAddress p
    (s.setReg (TIM_P_MAC_LO p) (m.setWidth 32)).put (TIM_P_MAC_HI_ADDR p) (m.toNat / 2 ^ 32)) s

/-- Train the lanes of an enabled carrier, but for one its mode leaves off (R272, R277). -/
def State.trainCarrier (s : State) (n : Nat) : State :=
  let m := s.get (JGL_C_CFG_MODE n)
  let s := s.updCarrier n fun c => { c with mode := m }
  let s := if m = 3 then s else s.laneDetect (2 * n)
  if m = 2 then s else s.laneDetect (2 * n + 1)

/-- An island is ungated, its clock starts and its reset handshake ends (R354). After boot, JGL trains its lanes again and CAM
runs discovery again, since Ready has both running (R48; log entry 18, DESIGN CHOICE). -/
def State.startIsland (s : State) (i : Nat) : State :=
  if s.runs i then s
  else
    let s := State.startArbiters { s with running := putBit s.running i true } i
    let s := (s.loadIsland i).resyncIsland i
    let s := if i = 11 then s.startTime else s
    let s := if i = 7 then s.ntFill else s
    let s := if i = 8 then s.switchPort (s.get POS_SEL_PRIMARY) else s
    if s.sys.step < 17 then s
    else if i = 9 then s.carriers.foldl (fun s n => s.trainCarrier n) s
    else if i = 10 then s.discoverPorts 15
    else s

/-- Islands a mode clocks (R48, R355); at the retry limit TIM stays in reset unless its step completed (R73). -/
def State.clocked (s : State) (m : Mode) : BitVec 12 :=
  match m with
  | .off => 0
  | .boot => s.running
  | .safe => if s.sys.bootLimit && !(13 < s.sys.step && s.get (PWR_BJ_ENTRY_STATUS 13) = 2) then 0x00F else 0x80F
  | .standby => 0x00F
  | .service => 0x00F ||| BitVec.ofNat 12 (s.get PWR_ISL_CTL_EN)
  | _ => 0xFFF

/-- Gate and start islands for a set: gating runs the reset handshake, and islands come up in the order of R354. An island
held by a clock fault that is still present is not started (R449). -/
def State.gateIslands (s : State) (on : BitVec 12) : State :=
  let s := (List.range 12).foldl (fun s i => if on.getLsbD i then s else s.holdIsland i) s
  [3, 5, 4, 6, 7, 8, 9, 10, 11].foldl (fun s i =>
    if on.getLsbD i && !s.saf.clock.getLsbD i then s.startIsland i else s) s

end Sys2Proof.Machine
end

