-- ==== Sys2Proof/Machine/Modes.lean ====
section
/-! DEFINITION. Modes (R48 to R63, R104, R109, R495): the fire-energy outputs, the idle boundary, changes of the chip's mode and
of channel modes, stopping a print, and the end of jobs. -/

namespace Sys2Proof.Machine

/-! ## Pending commands -/

/-- Settle the result of pending commands of an opcode that satisfy `p` and have none yet (R101). -/
def State.resolveIf (s : State) (op : Nat) (p : PendingCmd → Bool) (st : Status) (detail : Nat) : State :=
  { s with cmd := { s.cmd with table := s.cmd.table.map fun (c : PendingCmd) =>
      if c.opcode.toNat = op && c.result.isNone && p c then { c with result := some (st, detail) } else c } }

/-- Settle the result of every pending command of an opcode. -/
def State.resolve (s : State) (op : Nat) (st : Status) (detail : Nat) : State := s.resolveIf op (fun _ => true) st detail

/-- A safety event abandons every command that is ACCEPTED (R111). -/
def State.abortCommands (s : State) : State :=
  { s with cmd := { s.cmd with table := s.cmd.table.map fun (c : PendingCmd) =>
      if c.result.isNone then { c with result := some (Status.aborted, 2) } else c } }

/-- Commands whose island has been taken into reset end ABORTED, DETAIL 1 (R101, R103; log entry 105, DEDUCED): TIME_ACCEPT_JUMP of
TIM, LANE_RETRAIN of JGL and CAM_DISCOVER of CAM. -/
def State.endStranded (s : State) : State :=
  [(11, 0x0701), (9, 0x0901), (10, 0x0500)].foldl (fun (s : State) (q : Nat × Nat) =>
    if s.runs q.1 then s else s.resolve q.2 .aborted 1) s

/-! ## Modes and outputs -/

/-- Show the Safe causes that follow from a state of the chip: ESTOP, CLOCK_FAULT and BOOT_LIMIT (R449). -/
def State.syncCauses (s : State) : State :=
  let v := bit (!s.saf.okA || !s.saf.okB) + 8 * bit (s.saf.clock ≠ 0) + 16 * bit s.sys.bootLimit
  s.put SYS_SAFE_CAUSE_PRESENT ((s.get SYS_SAFE_CAUSE_PRESENT &&& 0xE6) ||| v)

/-- Whether the thermal cause of a sensor is present (R369). -/
def State.thermal (s : State) : Bool := s.saf.thermalIsland || s.saf.thermalStack

/-- Causes end as SYS_MODE changes to Safe (R449): FIRE_INHIBIT, SAFETY_FAULT but for a lockout and the thermal cause,
ENCODER_FAULT, WEB_REVERSE_FAULT, ISLAND_RESET, and clock faults of islands not clocked in Safe. -/
def State.endCauses (s : State) : State :=
  let s := { s with saf := { s.saf with clock := s.saf.clock &&& s.clocked .safe } }
  (s.put SYS_SAFE_CAUSE_PRESENT (4 * bit (s.flag SAF_STAT_LOCKOUT || s.thermal))).syncCauses

/-- Put a Safe cause present, by its CAUSE code. -/
def State.setCause (s : State) (cause : Nat) : State :=
  s.put SYS_SAFE_CAUSE_PRESENT (s.get SYS_SAFE_CAUSE_PRESENT ||| 2 ^ (cause - 16))

/-! ## The idle boundary (R31, R39) -/

/-- Program sets at an idle boundary (R406, R407): due on a running channel, handed over at once on any other. -/
def State.bargeIdle (s : State) : State :=
  (List.finRange 32).foldl (fun s n =>
    match s.pendingSet .brg n.val with
    | some p =>
      if s.bargeRuns n.val then (s.updBarge n.val fun b => { b with due := some none }).cutWait n
      else (s.handSet p none).enterBank n.val
    | none => s) s

/-- An idle boundary: every pending set and single shadow is handed over, phasing completes, print banks latch PARTIAL, the
primary encoder port may return, and lane modes and striping are taken (R31, R39, R44, R226, R254, R277, R280). -/
def State.idleBoundary (s : State) : State :=
  let s := s.shadows.foldl (fun (s : State) (p : Pending) => if p.blk = ShdBlk.brg then s else s.handSet p none) s
  let s := s.bargeIdle
  let s := if s.runs 8 then ((List.range 8).foldl (fun s c => s.rampFinish c) s).reselectIdle else s
  let s := if s.runs 9 then (List.range 16).foldl (fun s n =>
      (List.range 2).foldl (fun s k => if (s.lane (2 * n + k)).rejoin && !s.printing (n / 2) then s.laneJoin (2 * n + k) else s) (s.takeMode n)) s
    else s
  s.handTables.handGains.latchPartial

/-- Modes on whose entry an idle boundary occurs: those in which no channel fires. -/
def idleMode (code : Nat) : Bool := 2 ≤ code && code ≤ 5 || code = 10

/-! ## The change itself (R60) -/

/-- Write SYS_CH_MODE, raising vector 1 where it changes (R51, R459); compare unit 0 follows (R214). -/
def State.setChModes (s : State) (f : Nat → Nat) : State :=
  let v := BitVec.ofNat 32 (((List.range 8).map fun c => if s.sys.channels.getLsbD c then f c * 16 ^ c else 0).sum)
  if s.reg SYS_CH_MODE = v then s else ((s.setReg SYS_CH_MODE v).raiseData 1 v.toNat).syncUnit0

/-- The run is over (R104, R497): no job is started or closed, and none waits. -/
def State.endRun (s : State) : State :=
  State.settleAll { s with
    pnd := { s.pnd with jobs := s.pnd.jobs.map fun j => { j with closed := false, running := false, went := false } }
    fir := { s.fir with waiting := none, restart := none, later := [] } }

/-- What entry to Warm settles: a stop is over, its jobs end ABORTED, and STOP_PRINT and calibration commands complete. -/
def State.enterWarm (s : State) : State :=
  let s := if s.sys.stop.isSome then s.resolve 0x0200 .aborted 3 else s.resolve 0x0200 .ok 0
  let s := s.resolve 0x0201 .ok 0
  let s := { s with sys := { s.sys with stop := none } }
  let s := s.endRun
  if s.runs 8 then s.putFlag FIR_STAT_WAIT_TRIGGER false else s

/-- The end of a calibration run, with its RESULT (R334): vector 216 on success, 217 on failure; the line clock stops. -/
def State.closeCal (s : State) (result : Nat) : State :=
  let s := ({ s with cal := { s.cal with run := none } }).putFlag CAL_STAT_RUNNING false
  let s := (s.put CAL_STAT_RESULT result).raise (if result = 1 then 216 else 217)
  if s.flag FIR_STAT_RUNNING then s.haltClock else s

/-- What entry to Safe settles. -/
def State.enterSafe (s : State) : State :=
  let s := if s.cal.run.isSome then { s.closeCal 2 with cal := { (s.closeCal 2).cal with queue := [] } } else s
  let s := ((s.mark .safe).endCauses.endRun).resolve 0x0800 .ok 0
  let s := [0x0102, 0x0103, 0x0200, 0x0201, 0x0400, 0x0401].foldl (fun s op => s.resolve op .aborted 2) s
  { s with sys := { s.sys with stop := none, safeTo := none, degradeDue := 0 }
           saf := { s.saf with stopping := false, waiting := false, reactFrom := none, passed := 0 } }

/-- The chip's mode changes (R60): MODE, PREVIOUS and CAUSE in one cycle, vector 0, the channel modes that follow, START_OK,
the outputs, the islands, barge channels, and the idle boundary of a mode in which no channel fires. -/
def State.setChipMode (s : State) (target cause : Nat) : State :=
  let old := s.modeCode
  let w := BitVec.ofNat 32 (old * 2 ^ 20 + cause * 2 ^ 8 + target)
  let s := (s.setReg SYS_MODE w).raiseData 0 (target + cause * 256)
  let s := if !energised target then
      { s.putFlag SAF_STAT_START_OK false with saf := { s.saf with test := 0 } }
    else s
  let s := if 6 ≤ target ∧ target ≤ 9 then s else s.setChModes fun _ => target
  let s := if target = 5 then s.enterWarm else if target = 2 then s.enterSafe else s
  let s := s.syncOutputs
  let s := if target = 2 ∨ target = 3 then s.bargeStopAll else s
  let s := (s.gateIslands (s.clocked (Mode.ofCode target))).endStranded
  if idleMode target then s.idleBoundary else s

/-- A mode change begins (R60). -/
def State.beginChange (s : State) (target : Nat) : State :=
  (((s.putFlag SYS_MODE_TRANSITION true).put SYS_MODE_TARGET target).mark .warmUp).syncOutputs

/-- A mode change in progress is abandoned (R63). -/
def State.abandonChange (s : State) : State :=
  ((({ s with saf := { s.saf with test := 0 } }).putFlag SYS_MODE_TRANSITION false).put SYS_MODE_TARGET 0).syncOutputs

/-- Whether the change in progress may complete (R360, R361, R444, R471). -/
def State.changeReady (s : State) : Bool :=
  match s.get SYS_MODE_TARGET with
  | 2 => s.saf.waiting && s.claimsGone && s.get DBG_STAT_HALTED = 0
  | 4 => (s.modeCode ≠ 5 && s.modeCode ≠ 4) || s.claimsGone
  | 5 => s.flag SAF_STAT_START_OK && s.pwr.waiting = 0 && s.allWarm
  | _ => true

/-- The change in progress completes, if it may; SET_MODE and CLEAR_SAFE end OK. A return to Ready from Ready is that of a warm-up that
has timed out (R61). -/
def State.completeChange (s : State) : State :=
  if !s.flag SYS_MODE_TRANSITION || !s.changeReady then s
  else
    let t := s.get SYS_MODE_TARGET
    let cause := if t = 2 then (s.sys.safeTo.map fun c => c.toNat).getD 0 else if t = 4 && s.modeCode = 4 then 7 else 1
    let s := if t = 5 then s.putFlag PWR_STAT_WARMING false else s
    let s := s.setChipMode t cause
    if t = 2 then s else (s.resolve 0x0102 .ok 0).resolve 0x0103 .ok 0

/-- A change to Warm or Safe, or one to Ready that waits for the carriers, completes as soon as it may. -/
def State.tryChange (s : State) : State :=
  let t := s.get SYS_MODE_TARGET
  if t = 2 ∨ t = 5 ∨ (t = 4 ∧ (s.modeCode = 5 ∨ s.modeCode = 4)) then s.completeChange else s

/-! ## Channel modes (R51 to R58, R495) -/

/-- Whether a Degraded cause is present within a channel's scope (R58). -/
def State.degraded (s : State) (c : Nat) : Bool :=
  s.flag SYS_DEGRADE_ENC_BACKUP || (BitVec.ofNat 8 (s.get SYS_DEGRADE_LANE_CH)).getLsbD c || s.sys.railReduced.getLsbD c

/-- The mode that channel modes give the chip (R52). -/
def State.modeOfChannels (s : State) : Nat :=
  let ms := s.enabled.map s.chMode
  if ms.contains 8 || s.flag SYS_DEGRADE_CAMERA_LOST then 8
  else if ms.contains 7 then 7
  else if ms.contains 9 then 9
  else 6

/-- CAUSE of a change that follows from channel modes (R495). -/
def State.followCause (s : State) (new : Nat) : Nat :=
  if new = 8 ∨ (s.modeCode = 8 ∧ new = 7) then 6
  else if new = 9 ∨ new = 5 then (s.sys.stop.map fun c => c.toNat).getD 3
  else 1

/-- The inspection station has passed its page boundary out of the last page any channel fired (R56). -/
def State.stationDone (s : State) : Bool := !s.sys.inspection || s.fir.firedEnd < s.fir.camNext

/-- Drain ends in Warm once R56 holds. -/
def State.drainCheck (s : State) : State :=
  if s.modeCode = 9 && !s.flag SYS_MODE_TRANSITION && (s.enabled.all fun c => s.chMode c = 9 || s.chMode c = 5)
      && s.stationDone then
    s.setChipMode 5 (s.followCause 5)
  else s

/-- The chip's mode follows its channel modes (R52). -/
def State.follow (s : State) : State :=
  if s.flag SYS_MODE_TRANSITION || !(6 ≤ s.modeCode && s.modeCode ≤ 9) then s
  else
    let m := s.modeOfChannels
    (if m = s.modeCode then s else s.setChipMode m (s.followCause m)).drainCheck

/-- Change the modes of channels, and with them the chip's (R51, R52). -/
def State.moveChannels (s : State) (f : Nat → Nat) : State := (s.setChModes f).follow

/-- Change one channel's mode. -/
def State.moveChannel (s : State) (c m : Nat) : State := s.moveChannels fun d => if d = c then m else s.chMode d

/-- Record a change of the Degraded causes of channels: those in Print that gain one are due to enter Degraded (R58), and the
chip's mode follows a chip-scope cause. -/
def State.degradeDue (s : State) (chs : BitVec 8) : State :=
  ({ s with sys := { s.sys with degradeDue := s.sys.degradeDue ||| chs } }).follow

/-! ## Stopping a print (R55, R57, R104, R109, R152) -/

/-- Run line of a channel's first line not yet fixed. -/
def State.firstUnfixed (s : State) (c : Nat) : Int := (s.fch c).fix - ((s.fch c).a0.getD 0)

/-- A channel enters Drain on a stop: pages others have begun that it will not fire in full are INCOMPLETE (R57), and its
readers of lines it will not fire finish (R152). -/
def State.drainOnStop (s : State) (c : Nat) (j : Int) : State :=
  let s := s.pnd.pages.foldl (fun s p =>
    let mine := ((s.jobOf p).map fun b => b.mask.getLsbD c).getD false
    if p.begun ≠ 0 && mine && !p.fired.getLsbD c && !p.queued then s.defect p.id (chBit c) 6 false else s) s
  s.abandonChannel c j

/-- A stop has been accepted: data already assembled or held of pages channel c has not begun is not fired. -/
def State.dropAhead (s : State) (c : Nat) : State :=
  let mine (id : Word) : Bool := ((s.page? id).map fun p => p.begun.getLsbD c).getD false
  { s with
    asm := { s.asm with lines := s.asm.lines.map fun (l : AsmLine) =>
      if l.ch = c && !(l.page.map mine).getD false then { l with fires := [] } else l }
    fir := { s.fir with held := s.fir.held.map fun (h : HeldRow) =>
      if h.ch = c && !mine h.page then { h with dead := true } else h } }

/-- Discard the pages no channel has begun (R104): no line of theirs will be fired, so no reader holds them. -/
def State.discardQueued (s : State) (p : Page → Bool) : State :=
  s.pnd.pages.foldl (fun s q => if q.queued && p q then s.dropPage q.id else s) s

/-- Whether a job has been started and has not passed its end. -/
def State.started (s : State) (id : BitVec 16) : Bool := ((s.job? id).map fun j => j.running).getD false

/-- Whether a stop has something to stop (R109): a channel in Prime, Print or Degraded. -/
def State.stoppable (s : State) : Bool := s.enabled.any fun c => 6 ≤ s.chMode c && s.chMode c ≤ 8

/-- STOP_PRINT takes effect, or what acts as it (R55, R66, R104, R109, R229, R369); with `now` every channel blanks from its
first line not yet fixed, whose marker carries DISCARD, and enters Drain at once. -/
def State.stopPrint (s : State) (cause : Nat) (now : Bool) : State :=
  if !s.stoppable || (s.sys.stop.isSome && !now) then s
  else
    let s := if s.sys.stop.isSome then s
      else
        let s := { s with sys := { s.sys with stop := some (BitVec.ofNat 8 cause) } }
        let s := s.enabled.foldl (fun s c => s.dropAhead c) s
        let s := s.discardQueued fun p => s.started p.job
        let s := { s with fir := { s.fir with waiting := none, restart := none, later := [] } }
        let s := s.putFlag FIR_STAT_WAIT_TRIGGER false
        { s with pnd := { s.pnd with jobs := s.pnd.jobs.map fun j => { j with closed := false } } }
    let gone := s.enabled.filter fun c => s.chMode c = 6 || (now && 6 ≤ s.chMode c && s.chMode c ≤ 8)
    let s := gone.foldl (fun s c =>
      let s := s.drainOnStop c (s.firstUnfixed c)
      if now then s.blankFrom c else s) s
    (s.settleAll).moveChannels fun c => if gone.contains c then 9 else s.chMode c

/-! ## Job boundaries (R30, R31) -/

/-- Whether a started job has passed its job boundary: it went, and no page of it is queued, unfired on a channel of its mask
that is enabled, or still before the station. -/
def State.jobOver (s : State) (j : Job) : Bool :=
  j.running && j.went && s.pnd.pages.all fun p =>
    p.job ≠ j.id || (!p.queued && (j.mask &&& s.sys.channels &&& ~~~p.fired = 0) && (p.seen || !s.sys.inspection))

/-- Let every job that has passed its boundary end: its START_JOB is OK, and it is closed no more. With no channel in a page
of the next job yet, an idle boundary follows (R31). -/
def State.jobCheck (s : State) : State :=
  let ids := (s.pnd.jobs.filter s.jobOver).map fun j => j.id
  if ids.isEmpty then s
  else
    let s := ids.foldl (fun (s : State) (id : BitVec 16) =>
      let s := s.updJob id fun j => { j with running := false, closed := false, went := false }
      if s.sys.stop.isSome then s else s.resolveIf 0x0200 (fun c => c.arg = id.toNat) .ok 0) s
    let none_ := s.pnd.pages.all fun p => p.begun = 0 || !s.started p.job
    if s.modeCode = 7 && none_ then s.idleBoundary else s

end Sys2Proof.Machine
end

