-- ==== Sys2Proof/Machine/Saf.lean ====
section
/-! DEFINITION. The safety island (R433 to R452): conditions and the reaction to them, lockouts, emergency stop, the start test,
proof tests, and the events that SAF itself meets. -/

namespace Sys2Proof.Machine

/-- CAUSE of a SOURCE of SAF_LAST (R434). -/
def causeOf : Nat → Nat
  | 1 => 0x11
  | 2 => 0x10
  | 9 => 0x15
  | 10 => 0x16
  | 11 => 0x13
  | 12 => 0x17
  | _ => 0x12

/-! ## The reaction (R444, R501) -/

/-- Whether a fire under a marker already sent to channel c is still due. -/
def State.fireDue (s : State) (c : Nat) : Bool := (s.fch c).fired.any fun f => s.cycle < f.2

/-- FIR is told to stop channel c (R62, R235, R444, R501): where its lines are being fixed, the first line not yet fixed and
all later ones are blank; otherwise its carriers are sent DISCARD at once and it counts as past its boundary. -/
def State.stopChannel (s : State) (c : Nat) : State :=
  let s := s.abandonChannel c (s.firstUnfixed c)
  let lines := s.fixing c
  let s := s.blankFrom c
  if lines then s
  else
    let s := if s.fireDue c then s.putFlag SAF_LAST_CUT true else s
    let s := if s.runs 9 then ((s.sendAlign (2 * c) true).sendAlign (2 * c + 1) true) else s
    let s := (s.discardHeld (2 * c)).discardHeld (2 * c + 1)
    { s with saf := { s.saf with passed := putBit s.saf.passed c true } }

/-- Record the time from the condition to both outputs low (R445, R453), in 0.1 µs. -/
def State.recordReact (s : State) : State :=
  match s.saf.reactFrom with
  | none => s
  | some t =>
    let r := min 65535 ((s.cycle - t) / 80)
    let s := (s.put SAF_REACT_LAST r).put SAF_REACT_WORST (max r (s.get SAF_REACT_WORST))
    { s with saf := { s.saf with reactFrom := none } }

/-- Both outputs go low, PWR switches every carrier off, and the chip waits for them before it enters Safe (R444). -/
def State.finishStop (s : State) : State :=
  let s := (s.drive false false).recordReact
  let s := { s with saf := { s.saf with stopping := false, waiting := true } }
  ((s.disableAll).mark .safeWait).tryChange

/-- Both outputs go low once every enabled channel has passed its stop boundary. -/
def State.checkStopped (s : State) : State :=
  if s.saf.stopping && (s.sys.channels &&& ~~~s.saf.passed = 0) then s.finishStop else s

/-- Channel c passes the boundary of its stop line. -/
def State.passStop (s : State) (c : Nat) : State :=
  if s.saf.stopping then ({ s with saf := { s.saf with passed := putBit s.saf.passed c true } }).checkStopped else s

/-- Record a condition (R444): SAF_LAST, SAF_LAST_TIME, SAF_STAT.CAUSE and vector 224. -/
def State.recordCondition (s : State) (source carrier die : Nat) : State :=
  let cause := causeOf source
  let place := if 3 ≤ source ∧ source ≤ 6 then carrier * 16 + (if source ≤ 4 then die * 256 else 0) else 0
  let s := s.setReg SAF_LAST (BitVec.ofNat 32 (cause * 2 ^ 24 + source * 2 ^ 16 + place))
  let s := s.setPair SAF_LAST_TIME_LO SAF_LAST_TIME_HI s.cycle
  (s.put SAF_STAT_CAUSE cause).raiseData 224 cause

/-- The proof tests in progress end (R451). -/
def State.endProof (s : State) : State :=
  ({ s with saf := { s.saf with proof := [], proofAll := false, proofSeen := 0 } }).putFlag SAF_STAT_TEST_ACTIVE false

/-- A condition ends every proof test, the armed one too, with ABORTED (R451). -/
def State.abortProof (s : State) : State :=
  let s := s.endProof
  ({ s with saf := { s.saf with proofArmed := false } }).resolve 0x0802 .aborted 2

/-- The change to Safe begins (R62, R441, R444): any change in progress is abandoned, pages in progress are flagged, and FIR
stops; an ESTOP demand drives both outputs low at once. -/
def State.beginSafe (s : State) (source : Nat) : State :=
  let estop := source = 2
  let s := [0x0102, 0x0103].foldl (fun (s : State) op => s.resolve op .aborted 2) s
  let s := { s with
    sys := { s.sys with safeTo := some (BitVec.ofNat 8 (causeOf source)) }
    pwr := { s.pwr with waiting := 0 }
    saf := { s.saf with test := 0, stopping := true, passed := 0, reactFrom := some s.cycle } }
  let s := s.mark .grace
  let s := (s.putFlag SYS_MODE_TRANSITION true).put SYS_MODE_TARGET 2
  let s := if estop then (s.drive false false).recordReact else s
  let s := s.flagInProgress 7
  let s := s.enabled.foldl (fun s c => s.stopChannel c) s
  (s.settleAll).checkStopped

/-- A condition of R434 reaches SAF (R63, R111, R444, R449, R503). Every safety event abandons the commands that are ACCEPTED; a
FIRE_INHIBIT, source 1, is one of them itself and abandons mode changes and proof tests alone. -/
def State.condition (s : State) (source carrier die : Nat) : State :=
  if s.modeCode = 0 then s
  else
    let s := (s.recordCondition source carrier die).abortProof
    let s := if source = 1 then s else s.abortCommands
    let code := causeOf source
    if s.modeCode = 1 then
      let s := if source = 2 then s.syncCauses else s.setCause code
      { s with sys := { s.sys with bootCauses := s.sys.bootCauses ++ [BitVec.ofNat 8 code] } }
    else if s.modeCode = 2 then
      let s := s.syncCauses
      if s.flag SYS_MODE_TRANSITION then s.abandonChange.setChipMode 2 code else s.syncOutputs
    else
      let s := if source = 2 then s.syncCauses else s.setCause code
      if s.sys.safeTo.isSome then (if source = 2 then s.drive false false else s)
      else s.beginSafe source

/-- A lockout (R438): its fault bit, LOCKOUT, vector 227 the first time, and the condition it is. -/
def State.lockout (s : State) (f : Fld) : State :=
  let first := !s.flag SAF_STAT_LOCKOUT
  let s := (s.putFlag f true).putFlag SAF_STAT_LOCKOUT true
  if first then ((s.setCause 0x12).raise 227).condition 13 0 0 else s

/-! ## Emergency stop (R441, R442) -/

/-- Show the filtered levels; the raw levels are those of the latest change (R441). -/
def State.syncIn (s : State) : State :=
  let s := (s.putFlag SAF_IN_ESTOP_A_OK s.saf.okA).putFlag SAF_IN_ESTOP_B_OK s.saf.okB
  (s.putFlag SAF_IN_ESTOP_A_RAW s.saf.okA).putFlag SAF_IN_ESTOP_B_RAW s.saf.okB

/-- Set a filtered level; the filtered inputs differ from here on, or no longer. -/
def State.setEstop (s : State) (input : Nat) (high : Bool) : State :=
  let s := if input = 0 then { s with saf := { s.saf with okA := high } } else { s with saf := { s.saf with okB := high } }
  (if s.saf.okA = s.saf.okB then s else s.mark .differ).syncIn

/-- Vector 225 for a change of a filtered level (R452). -/
def State.estopEvent (s : State) : State := s.raiseData 225 (s.reg SAF_IN).toNat

/-- The result of a proof test (R451). -/
def State.proofResult (s : State) (t : Nat) (pass : Bool) : State :=
  let s := s.put SAF_PROOF_LAST t
  let p := s.get SAF_PROOF_PASSED
  let f := s.get SAF_PROOF_FAILED
  let s := if pass then (s.put SAF_PROOF_PASSED (p ||| 2 ^ t)).put SAF_PROOF_FAILED (if f.testBit t then f - 2 ^ t else f)
    else s.put SAF_PROOF_FAILED (f ||| 2 ^ t)
  if s.get SAF_PROOF_PASSED &&& 0x7E = 0x7E then
    ((s.put SAF_PROOF_PASSED 0).setReg SAF_PROOF_HOURS 0).putFlag SAF_STAT_PROOF_DUE false
  else s

/-- Settle the result of the PROOF_TEST whose test runs; that of test 1, or of test 0xFFFF once it is armed, waits for the start
test (R451). -/
def State.resolveProof (s : State) (st : Status) (detail : Nat) : State :=
  s.resolveIf 0x0802 (fun c => c.arg ≠ 1 && (c.arg ≠ 0xFFFF || s.saf.proofAll)) st detail

/-- The proof test under way ends with its result: vector 229, and the next of the list, with test 1 armed at the end of the
list of test 0xFFFF. An ESTOP input that stands low after test 2 is a demand (log entry 150, DEDUCED). -/
def State.proofEnds (s : State) (pass : Bool) : State :=
  match s.saf.proof with
  | [] => s
  | t :: rest =>
    let s := (s.proofResult t pass).raise 229
    if pass then
      let all := s.saf.proofAll
      let s := if rest.isEmpty && !all then s.resolveProof .ok 0 else s
      let s := { s with saf := { s.saf with
        proof := rest, proofSeen := 0, proofArmed := s.saf.proofArmed || (all && rest.isEmpty), proofAll := all && !rest.isEmpty } }
      if rest.isEmpty then s.putFlag SAF_STAT_TEST_ACTIVE false else s.mark .proof
    else
      let s := (s.resolveProof .fault 3).endProof
      if s.saf.okA && s.saf.okB then s else s.condition 2 0 0

/-- Whether proof test t runs. -/
def State.proofRuns (s : State) (t : Nat) : Bool := s.saf.proof.head? = some t

/-- A running proof test finds its own injection (R449, R451): it is recorded and changes no mode. Found within its time it counts, in
channel or monitor k, and the next injection begins; found later, the test has failed. -/
def State.found (s : State) (source k limit need : Nat) : State :=
  let s := s.recordCondition source 0 0
  if s.since .proof + limit < s.cycle then s.proofEnds false
  else
    let s := ({ s with saf := { s.saf with proofSeen := putBit s.saf.proofSeen k true } }).mark .proof
    if s.saf.proofSeen.toNat = need then s.proofEnds true else s

/-- Channel that a test injects into in turn: A first. -/
def State.turn (s : State) : Nat := bit (s.saf.proofSeen.getLsbD 0)

/-- DISC_MS in cycles. -/
def State.discTime (s : State) : Nat := s.get SAF_P_ESTOP_DISC_MS * 800000

/-- An input goes low in proof test 2 (R451): with the other, where that went low at most DISC_MS before, else as the first. -/
def State.seeInput (s : State) (input : Nat) : State :=
  if s.saf.proofSeen ≠ 0 && s.cycle ≤ s.since .seen + s.discTime then
    { s with saf := { s.saf with proofSeen := putBit s.saf.proofSeen input true } }
  else ({ s with saf := { s.saf with proofSeen := putBit 0 input true } }).mark .seen

/-- An input has been low for ESTOP_FILT (R441); in proof test 2 the demand is the test's own. -/
def State.estopDemand (s : State) (input : Nat) : State :=
  let ok := if input = 0 then s.saf.okA else s.saf.okB
  if !ok then s
  else
    let s := s.setEstop input false
    let s := if s.flag SAF_FAULT_ESTOP_DISC && !s.saf.okA && !s.saf.okB then
        { s with saf := { s.saf with bothLow := true } }
      else s
    if s.modeCode = 0 then s
    else if s.proofRuns 2 then ((s.estopEvent).recordCondition 2 0 0).seeInput input
    else (s.estopEvent).condition 2 0 0

/-- An input has been high for ESTOP_FILT (R441, R442). -/
def State.estopRelease (s : State) (input : Nat) : State :=
  let ok := if input = 0 then s.saf.okA else s.saf.okB
  if ok then s
  else
    let s := s.setEstop input true
    let both := s.saf.okA && s.saf.okB
    let s := if both && s.saf.bothLow then
        ({ s with saf := { s.saf with bothLow := false } }).putFlag SAF_FAULT_ESTOP_DISC false
      else s
    if s.modeCode = 0 then s
    else
      let s := s.estopEvent
      if s.proofRuns 2 then (if both && s.saf.proofSeen = 3 then s.proofEnds true else s)
      else (s.syncCauses).syncOutputs

/-- The filtered inputs have differed for more than DISC_MS (R442). -/
def State.estopDiffer (s : State) : State :=
  if s.modeCode = 0 || s.saf.okA = s.saf.okB || s.flag SAF_FAULT_ESTOP_DISC then s
  else
    let s := s.waitFor .differ (s.discTime + 1)
    let s := ((s.putFlag SAF_FAULT_ESTOP_DISC true).raise 226).syncOutputs
    if s.proofRuns 2 then s.proofEnds false else s

/-! ## Diagnostics (R434, R437, R440, R443, R447, R449) -/

/-- The command of channel x. -/
def State.commanded (s : State) (x : Nat) : Bool := s.flag (if x = 0 then SAF_STAT_EN_A else SAF_STAT_EN_B)

/-- A readback of channel x is judged 10 µs or more after a change of its command (R437). -/
def State.readback_ (s : State) (x : Nat) (level : Bool) : State :=
  let s := s.putFlag (if x = 0 then SAF_IN_RB_A else SAF_IN_RB_B) level
  if s.since (.output x) + 8000 ≤ s.cycle && level ≠ s.commanded x then s.lockout (if x = 0 then SAF_FAULT_OUT_A else SAF_FAULT_OUT_B)
  else s

/-- The compare of the two channels due every 10 µs (R437). In proof test 3 the disagreement is the test's own. -/
def State.compare (s : State) (agree rbA rbB : Bool) : State :=
  if s.modeCode = 0 then s
  else
    let s := s.every .compare 8000
    let n := if agree then 0 else s.saf.disagree + 1
    let s := { s with saf := { s.saf with disagree := if n = 3 && s.proofRuns 3 then 0 else n } }
    let s := if n ≠ 3 then s else if s.proofRuns 3 then s.found 13 s.turn 24000 3 else s.lockout SAF_FAULT_CROSS
    ((s.readback_ 0 rbA).readback_ 1 rbB).syncOutputs

/-- Whether a feedback level shows contactor x closed (R440); it is shown. -/
def State.closed (s : State) (x : Nat) (level : Bool) : Bool := level ≠ s.flag (if x = 0 then SAF_P_EDM_POL_A else SAF_P_EDM_POL_B)

def State.showFeedback (s : State) (x : Nat) (level : Bool) : State :=
  s.putFlag (if x = 0 then SAF_IN_EDM_A_IN else SAF_IN_EDM_B_IN) (s.closed x level)

/-- EDM_MS in cycles. -/
def State.edmTime (s : State) : Nat := s.get SAF_P_ESTOP_EDM_MS * 800000

/-- Contactor feedback EDM_MS after a change of an output (R440). -/
def State.edm (s : State) (x : Nat) (level : Bool) : State :=
  if s.modeCode = 0 || !s.flag SAF_P_EDM_EN then s
  else
    let s := (s.waitFor (.output x) s.edmTime).showFeedback x level
    if s.closed x level = s.commanded x then s else s.lockout (if x = 0 then SAF_FAULT_EDM_A else SAF_FAULT_EDM_B)

/-- The fault bit a condition of SAF's own shows in SAF_FAULT (R453). -/
def State.markSource (s : State) (source : Nat) : State :=
  match source with
  | 3 => s.putFlag SAF_FAULT_DIE_TRIP true
  | 4 => s.putFlag SAF_FAULT_TELEM_STALE true
  | 8 => s.putFlag SAF_FAULT_WATCHDOG true
  | _ => s

/-- A dangerous condition reaches SAF, by its SOURCE number; 0 is no source. -/
def State.dangerous (s : State) (source carrier die : Nat) : State :=
  if source = 0 then s else (s.markSource source).condition source carrier die

/-- The watchdog has not been served (R434); while a pair is halted it is not tested (R471), before firmware runs the outputs are low
already (R449), and in proof test 4 the service is withheld by the test. -/
def State.watchdog (s : State) : State :=
  if s.get DBG_STAT_HALTED ≠ 0 || (s.modeCode = 1 && s.sys.step ≤ 7) then s
  else if s.proofRuns 4 then s.found 8 0 (s.get SAF_P_WATCH_WD_US * 800) 1
  else s.dangerous 8 0 0

/-- A SAFETY_CONDITION; a die reading at DIE_TRIP in proof test 5 is the one the test feeds, into A's check first. -/
def State.reported (s : State) (source carrier die : Nat) : State :=
  if source = 3 && s.proofRuns 5 then s.found 3 s.turn (s.cycle - s.since .proof) 3 else s.dangerous source carrier die

/-- STALE_US runs from the later of the latest valid reading, or record, and START_OK (R443). -/
def State.staleFrom (s : State) (n d : Nat) : Nat := max (s.saf.readAt.getD (27 * n + d) 0) (s.since .startOk)

/-- Stale die telemetry (R443): tested while START_OK is set and both outputs are asserted, on enabled carriers; die 31 is the
carrier's record. -/
def State.stale (s : State) (carrier die : Nat) : State :=
  if s.flag SAF_STAT_START_OK && s.flag SAF_STAT_EN_A && s.flag SAF_STAT_EN_B && (s.carrier carrier).enabled
      && (die < 26 || die = 31) then
    (s.tickTo (s.staleFrom carrier (min die 26) + s.get SAF_P_WATCH_STALE_US * 800)).dangerous 4 carrier die
  else s

/-- An island's clock has been within limits for 1 ms, from the later of its reset handshake and the entry into Safe (R449): in Safe its cause ends, and the island starts again. -/
def State.clockGood (s : State) (i : Nat) : State :=
  if !s.saf.clock.getLsbD i || s.modeCode ≠ 2 then s
  else
    let s := s.tickTo (max (s.since (.island i)) (s.since .safe) + 800000)
    let s := ({ s with saf := { s.saf with clock := putBit s.saf.clock i false } }).syncCauses
    (s.gateIslands (s.clocked .safe)).syncOutputs

/-! ## Start test (R446) -/

/-- A phase of the start test begins: 1 A asserted alone, 2 A low, 3 B asserted alone, 4 B low. -/
def State.phase (s : State) (k : Nat) : State := (({ s with saf := { s.saf with test := k } }).syncOutputs).mark .phase

/-- The start test begins. -/
def State.startTest (s : State) : State := s.phase 1

/-- Test 1 of R451, where it is armed, ends with the start test; it passes with EDM enabled. -/
def State.armedEnds (s : State) (pass : Bool) : State :=
  if s.saf.proofArmed then
    let ok := pass && s.flag SAF_P_EDM_EN
    let s := (({ s with saf := { s.saf with proofArmed := false } }).proofResult 1 ok).raise 229
    s.resolveIf 0x0802 (fun c => c.arg = 1 || (c.arg = 0xFFFF && !s.saf.proofAll)) (if ok then .ok else .fault) (if ok then 0 else 3)
  else s

/-- The start test has failed on channel x, by its readback or by its feedback. -/
def State.testFails (s : State) (x : Nat) (readback : Bool) : State :=
  ((s.armedEnds false).raise 228).lockout
    (if readback then (if x = 0 then SAF_FAULT_OUT_A else SAF_FAULT_OUT_B) else (if x = 0 then SAF_FAULT_EDM_A else SAF_FAULT_EDM_B))

/-- The start test has passed: both outputs are asserted, START_OK is set, and carriers may be admitted. -/
def State.testPasses (s : State) : State :=
  let s := (({ s with saf := { s.saf with test := 0 } }).putFlag SAF_STAT_START_OK true).syncOutputs
  let s := ((s.mark .startOk).raise 228).armedEnds true
  s.startWarmUp.tryChange

/-- A phase of the start test ends: 5 ms of an asserted output, then 10 µs of a low one, or EDM_MS with contactor monitoring. The
readback must match, and so must the feedback where EDM_MS has passed (R437, R440). -/
def State.testPhase (s : State) (readback feedback : Bool) : State :=
  if s.saf.test = 0 then s
  else
    let x := if s.saf.test ≤ 2 then 0 else 1
    let high := s.saf.test % 2 = 1
    let edm := s.flag SAF_P_EDM_EN
    let s := s.waitFor .phase (if high then 4000000 else if edm then s.edmTime else 8000)
    let s := s.putFlag (if x = 0 then SAF_IN_RB_A else SAF_IN_RB_B) readback
    let s := if edm then s.showFeedback x feedback else s
    if readback ≠ high then s.testFails x true
    else if edm && (!high || s.edmTime ≤ 4000000) && s.closed x feedback ≠ high then s.testFails x false
    else if s.saf.test < 4 then s.phase (s.saf.test + 1)
    else s.testPasses

/-! ## Meanings -/

/-- ESTOP_DEMAND (R441). -/
def execEstopDemand (input : Fin 2) (s : State) : Host.Outcome State Fault Refusal := s.done (s.estopDemand input.val)

/-- ESTOP_RELEASE (R441). -/
def execEstopRelease (input : Fin 2) (s : State) : Host.Outcome State Fault Refusal := s.done (s.estopRelease input.val)

/-- ESTOP_DISC (R442). -/
def execEstopDisc (s : State) : Host.Outcome State Fault Refusal := s.done s.estopDiffer

/-- CROSS_COMPARE (R437). -/
def execCrossCompare (agree rbA rbB : Bool) (s : State) : Host.Outcome State Fault Refusal := s.done (s.compare agree rbA rbB)

/-- EDM_CHECK (R440). -/
def execEdmCheck (channel : Fin 2) (level : Bool) (s : State) : Host.Outcome State Fault Refusal :=
  s.done (s.edm channel.val level)

/-- SAFETY_CONDITION (R434, R444). -/
def execSafetyCondition (source : Fin 14) (carrier : Fin 16) (die : Fin 32) (s : State) : Host.Outcome State Fault Refusal :=
  s.done (s.reported source.val carrier.val die.val)

/-- GRACE_US have passed since the condition (R444): the line in progress is cut, unless an ESTOP demand had cut it already. -/
def State.graceEnds (s : State) : State :=
  if s.saf.stopping then
    let s := s.waitFor .grace (s.get SAF_P_TIMING_GRACE_US * 800)
    (if s.saf.reactFrom.isSome then s.putFlag SAF_LAST_CUT true else s).finishStop
  else s

/-- 2 s have passed since ENABLE = 0 was sent (R444): every claim is released and the chip enters Safe. -/
def State.safeWaitEnds (s : State) : State :=
  if s.saf.waiting then
    ((List.range 16).foldl (fun s n => s.releaseClaim n) (s.waitFor .safeWait 1600000000)).tryChange
  else s

/-- One more hour of operation (R451). -/
def State.proofHour (s : State) : State :=
  if s.modeCode = 0 then s
  else
    let s := (s.every .proofHour 2880000000000).incSat SAF_PROOF_HOURS_HOURS
    if s.get SAF_P_PROOF_PROOF_H ≤ s.get SAF_PROOF_HOURS_HOURS && !s.flag SAF_STAT_PROOF_DUE then
      (s.putFlag SAF_STAT_PROOF_DUE true).raise 230
    else s

/-- The check of the parameter set due every 5 ms (R447). -/
def State.paramCheck (s : State) (intact : Bool) : State :=
  if s.modeCode = 0 then s
  else
    let s := s.every .params 4000000
    if intact then s else s.lockout SAF_FAULT_PARAM

/-- GRACE_EXPIRY (R444). -/
def execGraceExpiry (s : State) : Host.Outcome State Fault Refusal := s.done s.graceEnds

/-- SAFE_WAIT_TIMEOUT (R444). -/
def execSafeWaitTimeout (s : State) : Host.Outcome State Fault Refusal := s.done s.safeWaitEnds

/-- START_TEST_PHASE (R446). -/
def execStartTestPhase (readback feedback : Bool) (s : State) : Host.Outcome State Fault Refusal :=
  s.done (s.testPhase readback feedback)

/-- WATCHDOG_EXPIRY (R434). -/
def execWatchdogExpiry (s : State) : Host.Outcome State Fault Refusal := s.done s.watchdog

/-- PARAM_CHECK (R447). -/
def execParamCheck (intact : Bool) (s : State) : Host.Outcome State Fault Refusal :=
  s.done (s.paramCheck intact)

/-- TELEM_STALE (R443). -/
def execTelemStale (carrier : Fin 16) (die : Fin 32) (s : State) : Host.Outcome State Fault Refusal :=
  s.done (s.stale carrier.val die.val)

/-- PROOF_HOURS_TICK (R451). -/
def execProofHoursTick (s : State) : Host.Outcome State Fault Refusal := s.done s.proofHour

/-- CLOCK_WITHIN_LIMITS (R449). -/
def execClockWithinLimits (island : Fin 12) (s : State) : Host.Outcome State Fault Refusal := s.done (s.clockGood island.val)

end Sys2Proof.Machine
end

