-- ==== Sys2Proof/Machine/Supply.lean ====
section
/-! DEFINITION. Admission under the supply budget, the repeat of rail commands, thermal limits, wear monitors and the islands of
Service (R355, R356, R359 to R362, R369 to R372). -/

namespace Sys2Proof.Machine

/-! ## Admission and rail commands -/

/-- The check due every 100 µs; a change to Warm whose last carrier is warm completes. -/
def State.supplyCheck (s : State) : State := ((s.every .admission 80000).admission).tryChange

/-- The repeat of a carrier's rail command 100 ms after the latest (R356). -/
def State.repeatRail (s : State) (n : Nat) : State :=
  if s.carrierOn n then (s.waitFor (.rail n) 80000000).resendRail n else s

/-- Two seconds after ENABLE = 0 the claim is released (R361). -/
def State.claimExpires (s : State) (n : Nat) : State :=
  if (s.carrier n).leaving then ((s.waitFor (.claim n) 1600000000).releaseClaim n).tryChange else s

/-! ## Thermal limits (R369) -/

/-- A threshold with its hysteresis: reached at `thr`, left below `thr` − 5. -/
def crosses (on : Bool) (thr t : Int) : Bool := decide (thr ≤ t) || (on && decide (thr - 5 ≤ t))

/-- Hottest reading and its row, the lowest row among equals. -/
def hottest (l : List Int) : Int × Nat :=
  l.zipIdx.foldl (fun (m : Int × Nat) q => if m.1 < q.1 then q else m) (l.getD 0 (-128), 0)

/-- Which thermal causes of Safe are present; in Safe SAFETY_FAULT ends with the last of them (R369, R449). -/
def State.setThermal (s : State) (island stack : Bool) : State :=
  let s := { s with saf := { s.saf with thermalIsland := island, thermalStack := stack } }
  if s.modeCode = 2 && !s.thermal && !s.flag SAF_STAT_LOCKOUT then
    (s.put SYS_SAFE_CAUSE_PRESENT (s.get SYS_SAFE_CAUSE_PRESENT &&& 0xFB)).syncOutputs
  else s

/-- What a threshold newly reached does: WARN, STOP and CRIT of the islands or of the stack, with the vector of its WARN. -/
def State.thermalRises (s : State) (stack warn stop crit : Bool) (vec : Nat) : State :=
  let s := if warn then s.raise vec else s
  let s := if stop then (s.raise 200).stopPrint 4 false else s
  if crit then (((s.raise 200).setThermal (s.saf.thermalIsland || !stack) (s.saf.thermalStack || stack)).condition 7 0 0) else s

/-- The sensors are read (R369): registers, thresholds, the refresh rate of the stack, and the minute's mean (R370). -/
def State.thermalRead (s : State) (islands : List (BitVec 8)) (stack : BitVec 8) : State :=
  let s := s.every .thermal 800000
  let h := hottest ((islands.take 12).map fun b => signed 8 b.toNat)
  let k := signed 8 stack.toNat
  let s := ((s.put PWR_TEMP_LOGIC_C (unsigned 8 h.1)).put PWR_TEMP_HOT_ISLAND h.2).put PWR_TEMP_HBM_C stack.toNat
  let old := s.pwr
  let stopL : Int := s.get PWR_THERM_STOP
  let stopK : Int := s.get PWR_HBM_THERM_STOP
  let new := { old with
    warnLogic := crosses old.warnLogic (s.get PWR_THERM_WARN) h.1
    stopLogic := crosses old.stopLogic stopL h.1
    critLogic := crosses old.critLogic (s.get PWR_THERM_CRIT) h.1
    warnStack := crosses old.warnStack (s.get PWR_HBM_THERM_WARN) k
    stopStack := crosses old.stopStack stopK k
    critStack := crosses old.critStack (s.get PWR_HBM_THERM_CRIT) k
    refresh := crosses old.refresh 85 k
    tempSum := old.tempSum + h.1
    tempCount := old.tempCount + 1 }
  let s := { s with pwr := new }
  let s := (s.putFlag PWR_STAT_THERM_STOP (new.stopLogic || new.stopStack)).putFlag PWR_STAT_THERM_CRIT (new.critLogic || new.critStack)
  let s := s.thermalRises false (new.warnLogic && !old.warnLogic) (new.stopLogic && !old.stopLogic) (new.critLogic && !old.critLogic) 198
  let s := s.thermalRises true (new.warnStack && !old.warnStack) (new.stopStack && !old.stopStack) (new.critStack && !old.critStack) 199
  let island := s.saf.thermalIsland && !decide (h.1 < stopL - 5)
  let onStack := s.saf.thermalStack && !decide (k < stopK - 5)
  if s.thermal then s.setThermal island onStack else s

/-! ## Wear (R370 to R372) -/

/-- e^x for x in 2^-96, in 2^-96: the series of e^(x ÷ 128) to its 24th term, squared seven times. -/
def expFixed (x : Int) : Int :=
  let y := x / 128
  let e := (List.range 24).foldr (fun (k : Nat) (acc : Int) => 2 ^ 96 + y * acc / (((k : Int) + 1) * 2 ^ 96)) (2 ^ 96)
  (List.range 7).foldl (fun (z : Int) _ => z * z / 2 ^ 96) e

/-- The factor of the equivalent-hours law at the mean of `count` readings that add up to `sum` °C (R370), in 2^-32, rounded down: 368.15 is
7,363 ÷ 20, and T + 273.15 is (20 × sum + 5,463 × count) ÷ (20 × count). -/
def wearFactor (sum : Int) (count : Nat) : Nat :=
  let x := 8123 * 20 * 2 ^ 96 / 7363 - 8123 * 20 * (count : Int) * 2 ^ 96 / (20 * sum + 5463 * (count : Int))
  (expFixed x / 2 ^ 64).toNat

/-- A case of R371 is present: WEAR_WARN and vector 201. -/
def State.wearWarn (s : State) (b : Bool) : State :=
  if b && !s.flag PWR_STAT_WEAR_WARN then (s.putFlag PWR_STAT_WEAR_WARN true).raise 201 else s

/-- Whether the oscillators or the grids have reached their warning level. -/
def State.wearReached (s : State) : Bool :=
  s.get PWR_WEAR_WARN_RO_WARN ≤ s.get PWR_WEAR_LIFE_RO_SHIFT || s.get PWR_WEAR_WARN_EM_WARN ≤ s.get PWR_WEAR_EM_EM_USED

/-- Boot step 4 has said how many spare columns are left. -/
def State.spareWarn (s : State) : State :=
  s.wearWarn (decide (10 * s.get PWR_WEAR_SPARE_SRAM_LEFT < s.get PWR_WEAR_SPARE_SRAM_TOTAL))

/-- The largest slowing of a stressed oscillator against its unstressed one over the same time, in 0.01 % (R371), rounded down. -/
def slowing (rings : List (Nat × Nat)) : Nat :=
  (rings.map fun r => (r.2 - r.1) * 10000 / r.2).foldl max 0

/-- Show the equivalent hours and LIFE_USED from the total. -/
def State.syncWear (s : State) : State :=
  let h := s.pwr.wear / (60 * 2 ^ 32)
  (s.put PWR_WEAR_EQH_HOURS (min (2 ^ 32 - 1) h)).put PWR_WEAR_LIFE_LIFE_USED
    (min 65535 (s.pwr.wear * 10000 / (60 * 2 ^ 32 * 350640)))

/-- EM_USED: the largest grid total, in 1/10,000 of its design budget (R371). -/
def State.emUsed (s : State) : Nat :=
  (s.pwr.grids.zipIdx.map fun g => g.1 * 10000 / (Config.emBudget g.2 * 2 ^ 32)).foldl max 0

/-- A minute has passed: its mean temperature weighs it, and the monitors are read. `core` and `sram` are the mean squares of I ÷ I_design
over the minute, in 2^-16 (log entry 145, PRESUMED). -/
def State.wearMinute (s : State) (rings : List (Nat × Nat)) (core sram : BitVec 24) : State :=
  let s := s.every .minute 48000000000
  let w := if s.pwr.tempCount = 0 then 0 else wearFactor s.pwr.tempSum s.pwr.tempCount
  let grids := (s.pwr.grids.zip [core, sram]).map fun g => g.1 + g.2.toNat * w / 2 ^ 16
  let s := State.syncWear { s with pwr := { s.pwr with wear := s.pwr.wear + w, grids := grids, tempSum := 0, tempCount := 0 } }
  let s := (s.put PWR_WEAR_LIFE_RO_SHIFT (min 65535 (slowing rings))).put PWR_WEAR_EM_EM_USED (min 65535 s.emUsed)
  s.wearWarn s.wearReached

/-- The wear totals as mirrored, and with them PROOF_HOURS (R451). -/
def State.wearTotals (s : State) : List Word :=
  [s.reg PWR_WEAR_LIFE, s.reg PWR_WEAR_EM, s.reg PWR_WEAR_SPARE, s.reg SAF_PROOF_HOURS]
    ++ (s.pwr.wear :: s.pwr.grids).flatMap fun w => (List.range 3).map fun k => BitVec.ofNat 32 (w / 2 ^ (32 * k))

/-- The hourly mirror write. -/
def State.mirrorWear (s : State) (ok : Bool) : State :=
  let s := s.every .hour 2880000000000
  if ok then ({ s with flash := { s.flash with wear := s.wearTotals } }).emit (.flashWrite 0xFFC000)
  else (s.putFlag PWR_STAT_MIRROR_ERR true).raise 202

/-! ## Islands of Service (R355) -/

/-- A write of PWR_ISL_CTL: bits 3:0 read 1; in Service it takes effect at once. -/
def State.writeIslEn (s : State) (v : Word) : State :=
  let s := s.put PWR_ISL_CTL_EN (bits v 0 12 ||| 0xF)
  if s.modeCode = 10 then s.gateIslands (s.clocked .service) else s

/-- SUPPLY_ADMIT (R359). -/
def execSupplyAdmit (s : State) : Host.Outcome State Fault Refusal := s.done (if s.runs 0 then s.supplyCheck else s)

/-- RAIL_CMD_REPEAT (R356). -/
def execRailCmdRepeat (carrier : Fin 16) (s : State) : Host.Outcome State Fault Refusal := s.done (s.repeatRail carrier.val)

/-- CLAIM_TIMEOUT (R361). -/
def execClaimTimeout (carrier : Fin 16) (s : State) : Host.Outcome State Fault Refusal := s.done (s.claimExpires carrier.val)

/-- THERMAL_READ (R369). -/
def execThermalRead (islands : List (BitVec 8)) (stack : BitVec 8) (s : State) : Host.Outcome State Fault Refusal :=
  s.done (if s.runs 0 then s.thermalRead islands stack else s)

/-- WEAR_UPDATE (R370, R371). -/
def execWearUpdate (rings : List (Nat × Nat)) (core sram : BitVec 24) (s : State) : Host.Outcome State Fault Refusal :=
  s.done (if s.runs 0 then s.wearMinute rings core sram else s)

/-- WEAR_MIRROR (R372). -/
def execWearMirror (ok : Bool) (s : State) : Host.Outcome State Fault Refusal := s.done (if s.runs 0 then s.mirrorWear ok else s)

/-- ISL_EN_WRITE (R355). -/
def execIslEnWrite (by_ : By) (value : Word) (s : State) : Host.Outcome State Fault Refusal :=
  s.done (s.hostWrite by_ PWR_ISL_CTL fun s => s.writeIslEn value)

end Sys2Proof.Machine
end

