-- ==== Sys2Proof/Machine/Boot.lean ====
section
/-! DEFINITION. Starts and boot (R64 to R76, R353, R450, R503): the journal, the choice of each step's way, what each step leaves,
the retry limit, and cold and warm resets. -/

namespace Sys2Proof.Machine

/-! ## The journal (R71, R75, R82) -/

/-- Step facts of R68: time limit in ms, whether optional, whether it has an alternate way. -/
def stepLimit (n : Nat) : Nat :=
  [0, 5, 20, 10, 30, 10, 400, 5, 150, 20, 240000, 500, 3000, 50, 500, 200, 10].getD n 0
def stepOptional (n : Nat) : Bool := n = 13 || n = 15
def stepAlternate (n : Nat) : Bool := [4, 5, 6, 8, 9, 11, 12, 14].contains n

/-- The journal words that are mirrored: header, control and the sixteen entries. -/
def State.journal (s : State) : List Word :=
  s.reg PWR_BJ_HDR :: s.reg PWR_BJ_CTL :: (List.range 16).map fun i => s.reg (PWR_BJ_ENTRY (i + 1))

/-- Mirror the journal to the next of the two sectors, or set MIRROR_ERR (R71). -/
def State.mirror (s : State) (fails : Bool) : State :=
  if fails then s.putFlag PWR_BJ_HDR_MIRROR_ERR true
  else
    let at_ := if s.flash.second then 0xFFF000 else 0xFFE000
    ({ s with flash := { s.flash with journal := some s.journal, second := !s.flash.second } }).emit (.flashWrite at_)

/-- An update of the journal is mirrored once step 5 of this start has completed. -/
def State.journalUpdate (s : State) (fails : Bool) : State :=
  if s.sys.step ≥ 6 || s.get (PWR_BJ_ENTRY_STATUS 5) = 2 && s.sys.step = 5 then s.mirror fails else s

/-- Set RETRY_LIMIT; a 0 is stored as 1 (R75). -/
def State.setLimit (s : State) (n : Nat) : State := s.put PWR_BJ_CTL_RETRY_LIMIT (max 1 (n % 8))

/-- Restore the journal from the flash mirror after a cold reset: the entries, BOOT_COUNT and RETRY_LIMIT (R71, R75); TARGET has no
source before step 9 (R82). With no valid mirror RETRY_LIMIT is 3. -/
def State.restoreJournal (s : State) : State :=
  match s.flash.journal with
  | some (hdr :: ctl :: entries) =>
    let s := s.setReg PWR_BJ_HDR (hdr &&& 0xFFFF0000#32)
    let s := entries.zipIdx.foldl (fun (s : State) (p : Word × Nat) => s.setReg (PWR_BJ_ENTRY (p.2 + 1)) p.1) s
    (s.setLimit (bits ctl 0 3)).putFlag PWR_BJ_HDR_FROM_FLASH true
  | _ => s.setLimit 3

/-- Wear totals, PROOF_HOURS and the repair list from flash after a cold reset (R178, R372, R451). -/
def State.restoreTotals (s : State) : State :=
  let s := { s with pnd := { s.pnd with repair := s.flash.repair } }
  match s.flash.wear with
  | life :: em :: spare :: hours :: totals =>
    let w (k : Nat) : Nat := field (totals.flatMap fun (x : Word) => leBytes 4 x.toNat) (12 * k) 12
    let s := { s with pwr := { s.pwr with wear := w 0, grids := [w 1, w 2] } }
    let s := ((s.setReg PWR_WEAR_LIFE life).setReg PWR_WEAR_EM em).setReg PWR_WEAR_SPARE spare
    (s.setReg SAF_PROOF_HOURS hours).syncWear
  | _ => s

/-! ## The bar configuration record and the safety set (R68, R450) -/

/-- Registers a bar configuration record fills. -/
def recordRegs : List Nat :=
  (List.range 8).map ASM_CH_CFG ++ [FIR_CPL_LO, FIR_CPL_HI] ++ (List.range 8).map FIR_CH_FDIE ++ [POS_SEL, POS_REV_FAULT]
    ++ (List.range 4).map POS_PORT_CFG ++ (List.range 4).map POS_PORT_INDEX ++ [CAL_K] ++ (List.range 16).map PWR_C_RAIL
    ++ (List.range 16).map PWR_C_CLAIM ++ (List.range 16).map PWR_C_LOAD ++ (List.range 8).map PWR_CH_WARM
    ++ [PWR_BJ_CTL, PWR_SUP_BUDGET, PWR_SUP_SLEW, TIM_CTL] ++ (List.range 2).map TIM_P_CFG ++ (List.range 2).map TIM_P_ASYM ++ (List.range 2).map TIM_P_LAT
    ++ (List.range 2).map TIM_P_IP4

/-- The factory record: all channels disabled, no cameras, RETRY_LIMIT 3, and MODE 0 of TIM. -/
def factoryRecord : BarRecord where
  channels := 0
  sensors := 0
  inspection := false
  loads := recordRegs.map fun a =>
    let v := Config.factoryLoad a
    (a, if a = PWR_BJ_CTL then withBits v 0 3 3
        else if a = TIM_CTL then withBits v 16 2 0
        else if a = POS_REV_FAULT then 204800
        else if (List.range 4).any fun p => a = POS_PORT_CFG p then withBits (withBits v 0 13 1) 31 1 0
        else v)
  debugKey := []
  safetyKey := Config.factorySafetyKey
  bytes := Config.factoryRecord

/-- The first 60 bytes of the factory safety set. -/
def factorySafety : List Byte :=
  leBytes 4 1 ++ [20, 100] ++ leBytes 2 100 ++ leBytes 2 200 ++ leBytes 2 1000 ++ leBytes 2 1500 ++ leBytes 2 30
    ++ [0, 0, 2, 0] ++ leBytes 4 8760 ++ List.replicate 36 0

/-- The factory safety set with its CRC. -/
def factorySafetySet : List Byte := factorySafety ++ leBytes 4 (crc32c factorySafety).toNat

/-- Whether a stored set passes both checks under a safety key digest. -/
def safetyGood (key set : List Byte) : Bool :=
  set.length = 160 && decide (field set 60 4 = (crc32c (set.take 60)).toNat)
    && Config.verifies key (set.take 64) (set.drop 64)

/-- A parameter set becomes active and its registers show it (R453). -/
def State.takeSafety (s : State) (p : List Byte) : State :=
  let s := { s with saf := { s.saf with params := p } }
  let s := s.setReg SAF_P_TIMING (BitVec.ofNat 32 (field p 4 1 * 2 ^ 24 + field p 5 1 * 2 ^ 16 + field p 8 2))
  let s := s.setReg SAF_P_WATCH (BitVec.ofNat 32 (field p 10 2 * 2 ^ 16 + field p 12 2))
  let s := s.setReg SAF_P_ESTOP (BitVec.ofNat 32 (field p 6 2 * 2 ^ 16 + field p 14 2))
  let s := s.setReg SAF_P_EDM (BitVec.ofNat 32 (field p 18 1 % 8 * 2 ^ 8 + field p 17 1 % 8 * 2 ^ 4 + field p 16 1 % 8))
  s.setReg SAF_P_PROOF (BitVec.ofNat 32 (field p 20 4))

/-- A bar configuration record takes effect: what it configures, and its loads on every island that runs. -/
def State.takeRecord (s : State) (r : BarRecord) : State :=
  let loads := r.loads.filter fun (q : Nat × Word) => recordRegs.contains q.1
  let s := { s with sys := { s.sys with
    channels := r.channels, sensors := r.sensors, inspection := r.inspection, loads := loads, debugKey := r.debugKey
    safetyKey := r.safetyKey } }
  let s := (List.range 12).foldl (fun s i => if s.runs i then s.loadIsland i else s) s
  let s := s.setLimit (s.get PWR_BJ_CTL_RETRY_LIMIT)
  s.setChModes fun _ => s.modeCode

/-- Step 9 (R68, R76, R450): none where a check fails in the normal way. -/
def State.configure (s : State) (record : Option BarRecord) : Option State :=
  let alt := s.get (PWR_BJ_ENTRY_WAY 9) = 1
  let r := record.getD factoryRecord
  let set := s.flash.safety.filter fun p => safetyGood r.safetyKey p
  if !alt && (record.isNone || set.isNone) then none
  else
    let p := set.getD factorySafetySet
    some ((((s.takeSafety p).takeRecord r).extend 3 p).extend 4 r.bytes)

/-! ## The memory stack (R178) -/

/-- Step 12: in the normal way each listed row is repaired while spare rows last; where they have run out, which were repaired
is open (log entry 1, DESIGN CHOICE). -/
def State.stackTest (s : State) (spares : BitVec 8) : State :=
  let rows := s.pnd.repair
  let (k, s) :=
    if s.get (PWR_BJ_ENTRY_WAY 12) = 1 || rows.isEmpty then (0, s)
    else if spares ≠ 0 then (rows.length, s)
    else (s.draw.1.toNat % (rows.length + 1), s.draw.2)
  let left := rows.drop k
  let s := { s with pnd := { s.pnd with repair := left, rowErrors := [] }, flash := { s.flash with repair := left } }
  let s := if k = 0 then s else s.emit (.flashWrite 0xFFD000)
  let n := retiredCount left s.heldList
  let s := s.put PND_POOL_BLOCKS (poolSize - n)
  let s := ((s.put PND_MEM_REPAIR_SPARES_LEFT spares.toNat).put PND_MEM_REPAIR_PENDING left.length).put PND_MEM_REPAIR_RETIRED
    (min 65535 n)
  (s.wearWarn (decide (spares.toNat < 8))).syncStore

/-! ## The carriers (R70) -/

/-- Whether every enabled carrier is through with its training. -/
def State.carriersSettled (s : State) : Bool := s.carriers.all fun n => (s.carrier n).boot = 3

/-- The end of step 14: a carrier with no lane disables its channel. The lowest failed carrier, and whether any runs on one lane. -/
def State.bringUp (s : State) : Option Nat × Bool × State :=
  let on := s.carriers
  let lanes (n : Nat) : Nat := s.get (JGL_C_STAT_LANES n)
  let dead := on.filter fun n => lanes n = 0
  let chs := dead.foldl (fun (v : BitVec 8) n => putBit v (n / 2) false) s.sys.channels
  let s := { s with sys := { s.sys with channels := chs } }
  let s := (s.setChModes fun _ => s.modeCode).syncLanes
  (dead.head?, on.any fun n => lanes n = 1 || lanes n = 2, s)

/-! ## Steps (R68, R72, R73) -/

/-- A start stops at its retry limit (R73). -/
def State.limitReached (s : State) (n : Nat) : State :=
  if n ≤ 3 then
    let s := { s with sys := { s.sys with held := true } }
    if n = 3 then s.lockout SAF_FAULT_SELFTEST else s
  else
    let s := { s with sys := { s.sys with bootLimit := true, rom := n ≤ 8 } }
    (s.syncCauses).setChipMode 2 0x14

/-- The island a step starts or works on, where that is not AON, SAF or CTL (R68). -/
def stepIsland : Nat → Option Nat
  | 8 => some 3
  | 10 => some 5
  | 11 => some 5
  | 12 => some 5
  | 13 => some 11
  | 14 => some 9
  | 15 => some 10
  | _ => none

/-- Start an island for a step, unless its clock fault holds it in reset (R449, R503). -/
def State.startFor (s : State) (i : Nat) : State := if s.saf.clock.getLsbD i then s else s.startIsland i

/-- What the start of a step does before its outcome: the island it needs, and the training or discovery it runs. -/
def State.prepare (s : State) (n : Nat) : State :=
  match n with
  | 3 => if s.flag SAF_STAT_LOCKOUT then s else s.putFlag SAF_FAULT_SELFTEST false
  | 8 => s.startFor 3
  | 10 => { s.startFor 5 with sys := { (s.startFor 5).sys with warming := false } }
  | 13 => s.startFor 11
  | 14 =>
    let s := s.startFor 9
    let k := if s.get (PWR_BJ_ENTRY_WAY 14) = 1 then 2 else 1
    if s.runs 9 then s.carriers.foldl (fun s c => (s.trainCarrier c).updCarrier c fun x => { x with boot := k }) s else s
  | 15 => let s := s.startFor 10; if s.runs 10 then s.discoverPorts 15 else s
  | _ => s

/-- A step begins (R72): its way is chosen from its entry as the previous start left it. A skipped step has its entry written
only. -/
def State.enterStep (s : State) (n : Nat) (fails : Bool) : State :=
  let st := s.get (PWR_BJ_ENTRY_STATUS n)
  let r := s.get (PWR_BJ_ENTRY_RETRIES n)
  let r := if st = 1 || st = 3 || st = 5 then min (r + 1) 7 else r
  let s := s.put (PWR_BJ_ENTRY_RETRIES n) r
  let s := (({ s with sys := { s.sys with step := n } }).put SYS_BOOT_STAT_LAST_STEP n)
  let way := if r = 0 then 0 else if stepOptional n then 2 else if stepAlternate n then 1 else 0
  let limit := if n ≤ 8 then s.sys.limit else s.get PWR_BJ_CTL_RETRY_LIMIT
  if !stepOptional n && limit ≤ r then (s.journalUpdate fails).limitReached n
  else
    let s := (s.put (PWR_BJ_ENTRY_WAY n) way).put (PWR_BJ_ENTRY_DETAIL n) 0
    let s := s.put (PWR_BJ_ENTRY_DURATION n) 0
    if way = 2 then
      ((s.put (PWR_BJ_ENTRY_STATUS n) 4).putFlag SYS_BOOT_STAT_SKIP_USED true).journalUpdate fails
    else ((s.put (PWR_BJ_ENTRY_STATUS n) 1).journalUpdate fails).prepare n

/-- Boot goes on with step n, or with the step after it where n is skipped. -/
def State.beginStep (s : State) (n : Nat) (fails : Bool) : State :=
  let s := s.enterStep n fails
  if s.modeCode = 1 && s.get (PWR_BJ_ENTRY_STATUS n) = 4 && s.sys.step = n then s.enterStep (n + 1) fails else s

/-- A step's entry is closed with a STATUS, its duration and its DETAIL (R71). -/
def State.closeStep (s : State) (n st ms detail : Nat) (fails : Bool) : State :=
  let s := (s.put (PWR_BJ_ENTRY_STATUS n) st).put (PWR_BJ_ENTRY_DURATION n) (min ms (2 ^ 20 - 1))
  let s := if n = 15 then { s with cam := { s.cam with discovering := 0 } } else s
  (s.put (PWR_BJ_ENTRY_DETAIL n) detail).journalUpdate fails

/-- A step has failed: boot goes on after an optional step, and makes a warm reset 10 ms after a mandatory one (R72). -/
def State.failStep (s : State) (n st ms detail : Nat) (fails : Bool) : State :=
  let s := if n = 3 then s.putFlag SAF_FAULT_SELFTEST true else s
  let s := s.closeStep n st ms detail fails
  if stepOptional n then s.beginStep (n + 1) fails else State.mark { s with sys := { s.sys with restartDue := true } } .restart

/-- The rail groups whose enables a run of step 2 leaves asserted (R351, R352, R482): DETAIL names the group that failed. -/
def enablesAfter (ok : Bool) (detail : Nat) : BitVec 6 :=
  let g := if ok then 6 else if 8 < detail then detail - 8 else detail
  BitVec.ofNat 6 (2 ^ (min g 6) - 1)

/-- Step 2 asserts the enables that are low, in the order of their groups (R351). -/
def State.assertEnables (s : State) (on : BitVec 6) : State :=
  let s := (bitList ((on &&& ~~~s.pwr.enables).setWidth 8)).foldl (fun s g => s.emit (.railEnable (g + 1) true)) s
  { s with pwr := { s.pwr with enables := s.pwr.enables ||| on } }

/-- Boot is over (R68, R76, R503): slot 5 is extended, vector 3 tells of an alternate or a skip, and the chip enters Safe where a
cause is present, and its target mode otherwise. -/
def State.finishBoot (s : State) : State :=
  let s := s.extend 5 ((List.range 16).map fun i => BitVec.ofNat 8 (s.get (PWR_BJ_ENTRY_WAY (i + 1))))
  let s := { s with sys := { s.sys with step := 17 } }
  let s := if s.flag SYS_BOOT_STAT_ALT_USED || s.flag SYS_BOOT_STAT_SKIP_USED then
      s.raiseData 3 (s.reg SYS_BOOT_STAT).toNat
    else s
  let present := s.get SYS_SAFE_CAUSE_PRESENT
  if present ≠ 0 then
    let lowest := 16 + ((List.range 8).find? fun k => present.testBit k).getD 0
    let first := (s.sys.bootCauses.map fun c => c.toNat).find? fun c => present.testBit (c - 16)
    s.setChipMode 2 (first.getD lowest)
  else s.setChipMode (if s.flag PWR_BJ_CTL_TARGET then 4 else 3) 2

/-- What a step that succeeded leaves (R68, R76). -/
def State.stepEffect (s : State) (n : Nat) (f : BootFound) : State :=
  match n with
  | 1 => if s.get PWR_BJ_HDR_LAST_RESET = 1 || s.get PWR_BJ_HDR_LAST_RESET = 5 then s.restoreTotals else s
  | 2 => s.assertEnables (enablesAfter true 0)
  | 4 => ((s.put PWR_WEAR_SPARE_SRAM_LEFT f.sramLeft.toNat).put PWR_WEAR_SPARE_SRAM_TOTAL f.sramTotal.toNat).spareWarn.extend 0 Config.bootRomBytes
  | 6 =>
    let image := s.flash.images.getD (s.get (PWR_BJ_ENTRY_WAY 6)) none
    let s := { s with sys := { s.sys with image := image } }
    (s.extend 1 (image.elim f.manifest Config.imageManifest)).extend 2 (image.elim f.firmware Config.imageFirmware)
  | 12 => s.stackTest f.spares
  | _ => s

/-- A step has succeeded: RETRIES returns to 0 in the normal way only, an alternate shows in ALT_USED, and the next step begins. -/
def State.passStep (s : State) (n ms detail : Nat) (fails : Bool) : State :=
  let way := s.get (PWR_BJ_ENTRY_WAY n)
  let s := if way = 0 then s.put (PWR_BJ_ENTRY_RETRIES n) 0 else s
  let s := if way = 1 then s.putFlag SYS_BOOT_STAT_ALT_USED true else s
  let s := s.closeStep n 2 ms detail fails
  if n = 16 then s.finishBoot else (s.beginStep (n + 1) fails).syncOutputs

/-- Step 14 ends (R70): it fails as a whole only where every enabled channel has been disabled. -/
def State.carriersStep (s : State) (ms : Nat) (f : BootFound) : State :=
  let had := s.sys.channels
  let retries := s.get (PWR_BJ_ENTRY_WAY 14) = 0
  let r := s.bringUp
  let s := r.2.2
  let detail := r.1.getD 0
  let s := if r.2.1 then (s.put (PWR_BJ_ENTRY_WAY 14) 1).putFlag SYS_BOOT_STAT_ALT_USED true else s
  if had ≠ 0 && s.sys.channels = 0 then s.failStep 14 3 ms detail f.mirrorFails
  else
    let s := if retries then s.put (PWR_BJ_ENTRY_RETRIES 14) 0 else s
    s.passStep 14 ms detail f.mirrorFails

/-- Step 10 (R69): warming only where the stack reads below 0 °C, until it reads 5 °C or more; otherwise done at once. -/
def State.warmStack (s : State) (ms : Nat) (f : BootFound) : State :=
  let s := s.put PWR_TEMP_HBM_C f.stack.toNat
  if s.sys.warming then
    if 5 ≤ f.stack.toInt then ({ s with sys := { s.sys with warming := false } }).passStep 10 ms 0 f.mirrorFails else s
  else if 0 ≤ f.stack.toInt then s.passStep 10 0 0 f.mirrorFails
  else { s with sys := { s.sys with warming := true } }

/-- Whether a boot step is running. -/
def State.stepping (s : State) : Bool :=
  s.modeCode = 1 && 1 ≤ s.sys.step && s.sys.step ≤ 16 && !s.sys.held && !s.sys.restartDue

/-- The running step ends. -/
def State.stepDone (s : State) (ok : Bool) (ms : Nat) (f : BootFound) : State :=
  let n := s.sys.step
  if !s.stepping then s
  else if stepLimit n < ms then s.failStep n 5 ms f.detail.toNat f.mirrorFails
  else if !ok || (stepIsland n).any fun i => !s.runs i then
    let s := if n = 2 then s.assertEnables (enablesAfter false f.detail.toNat) else s
    s.failStep n 3 ms f.detail.toNat f.mirrorFails
  else if n = 10 then s.warmStack ms f
  else if n = 9 then
    match s.configure f.record with
    | some t => t.passStep 9 ms 0 f.mirrorFails
    | none => s.failStep 9 3 ms f.detail.toNat f.mirrorFails
  else if n = 14 then if s.carriersSettled then s.carriersStep ms f else s
  else (s.stepEffect n f).passStep n ms 0 f.mirrorFails

/-! ## Resets and starts (R64, R65, R74, R441) -/

/-- A start begins: BOOT_COUNT advances, LAST_RESET names the reset, the serial number is shown, an ESTOP input already low is a
demand at once, and step 1 begins. -/
def State.start (s : State) (why : Nat) : State :=
  let n := min 65535 (s.get PWR_BJ_HDR_BOOT_COUNT + 1)
  let s := ((s.put PWR_BJ_HDR_BOOT_COUNT n).put PWR_BJ_HDR_LAST_RESET why).putFlag PWR_BJ_HDR_MIRROR_ERR false
  let s := s.put SYS_BOOT_STAT_BOOT_COUNT n
  let s := s.setPair SYS_SERIAL_LO SYS_SERIAL_HI Config.serial.toNat
  let s := { s with sys := { s.sys with limit := s.get PWR_BJ_CTL_RETRY_LIMIT } }
  let s := s.syncIn
  let s := if s.flag SAF_STAT_LOCKOUT then { s with sys := { s.sys with bootCauses := [0x12] } } else s
  let s := if s.saf.okA && s.saf.okB then s else s.condition 2 0 0
  s.beginStep 1 false

/-- What a reset leaves outside the die and at its pins: the commands waiting, the outputs sent, the free values drawn, flash,
the pin levels, and the TAP. -/
def State.bare (s : State) : State :=
  { State.reset with
    pending := s.pending
    free := s.free
    outs := s.outs
    flash := s.flash
    sys := { State.reset.sys with webReady := s.sys.webReady }
    saf := { State.reset.saf with okA := s.saf.okA, okB := s.saf.okB }
    dbg := { State.reset.dbg with tap := s.dbg.tap, scan := s.dbg.scan, boundary := s.dbg.boundary } }

/-- The outputs fall at the start of a reset (R65). -/
def State.outputsLow (s : State) : State :=
  let t := if s.flag SAF_STAT_EN_A then s.mark (.output 0) else s
  let t := if s.flag SAF_STAT_EN_B then t.mark (.output 1) else t
  if s.flag SAF_STAT_EN_A || s.flag SAF_STAT_EN_B then t.emit (.safeOutputs false false) else s

/-- The enables of the chip's rails that are asserted fall in reverse order, 100 µs apart (R353). -/
def State.dropEnables (s : State) : State :=
  let on := (bitList (s.pwr.enables.setWidth 8)).reverse
  let s := on.zipIdx.foldl (fun s q => (if q.2 = 0 then s else s.tick 80000).emit (.railEnable (q.1 + 1) false)) s
  { s with pwr := { s.pwr with enables := 0 } }

/-- A cold reset (R64), and the start that follows it; it drops no enable (R351; log entry 143, DEDUCED). -/
def State.coldReset (s : State) (why : Nat) : State :=
  let t := s.outputsLow.bare.restoreJournal
  State.start { t with pwr := { t.pwr with enables := s.pwr.enables } } why

/-- A warm reset keeps AON and SAF: their registers, AON retention (journal, keys, epoch, wear, the repair list), the claims, and the
failures of R469; SAF deasserts its outputs and clears START_OK. A start held at steps 1 to 3 ends only by a cold reset (R73). -/
def State.warmReset (s : State) (why : Nat) : State :=
  if s.modeCode = 0 || s.sys.held then s
  else
    let o := s.outputsLow
    let keep (a : Nat) : Bool := islandOf a = 0 || islandOf a = 1
    let r := o.bare
    let t := { r with
      cycle := s.cycle
      timers := o.timers
      regs := s.regs.filter fun p => keep p.1
      cmd := { r.cmd with keys := s.cmd.keys }
      pnd := { r.pnd with repair := s.pnd.repair }
      jgl := { r.jgl with carriers := s.jgl.carriers.map fun (c : Carrier) => { Carrier.reset with
        claim := c.claim, leaving := c.enabled || c.leaving } }
      pwr := { s.pwr with
        waiting := 0, setWait := 0, waitRaised := false, prev := r.pwr.prev, energy := r.pwr.energy, plans := [] }
      saf := { s.saf with
        test := 0, disagree := 0, reactFrom := none, stopping := false, passed := 0, waiting := false, clock := 0,
        hot := [], readAt := Saf.reset.readAt, proof := [], proofArmed := false, proofAll := false, proofSeen := 0 }
      tim := { r.tim with epoch := s.tim.epoch, startedOnce := s.tim.startedOnce } }
    let t := (t.put DBG_STAT_FAILS (s.get DBG_STAT_FAILS)).putFlag DBG_STAT_REFUSING (s.flag DBG_STAT_REFUSING)
    let t := (t.putFlag SAF_STAT_START_OK false).putFlag SAF_STAT_TEST_ACTIVE false
    let t := ((t.putFlag SAF_STAT_EN_A false).putFlag SAF_STAT_EN_B false)
    let t := (t.putFlag SAF_STAT_SAFE_A true).putFlag SAF_STAT_SAFE_B true
    let t := (t.putFlag PWR_STAT_WARMING false).putFlag PWR_STAT_SUPPLY_WAIT false
    let t := t.put SYS_SAFE_CAUSE_PRESENT (4 * bit (s.flag SAF_STAT_LOCKOUT || s.thermal))
    let t := t.putFlag PWR_BJ_HDR_FROM_FLASH false
    t.start why

/-- The chip is Off (R48, R59): nothing is kept on the die, and both outputs are low. -/
def State.powerOff (s : State) : State :=
  let s := s.outputsLow.dropEnables.bare
  let s := (s.setReg SYS_MODE 0).setReg SAF_STAT 0
  { s with running := 0 }

/-! ## The commands -/

/-- PORST_RELEASE (R59): from Off, or from the state right after a cold reset. -/
def execPorstRelease (s : State) : Host.Outcome State Fault Refusal :=
  s.done (if s.modeCode = 0 || (s.modeCode = 1 && s.sys.step = 0) then s.coldReset 1 else s)

/-- PORST_ASSERT (R64, R353). -/
def execPorstAssert (s : State) : Host.Outcome State Fault Refusal := s.done s.powerOff

/-- SUPPLY_LOSS (R64). -/
def execSupplyLoss (s : State) : Host.Outcome State Fault Refusal := s.done s.powerOff

/-- BOOT_STEP_DONE (R68). -/
def execBootStepDone (ok : Bool) (ms : Nat) (found : BootFound) (s : State) : Host.Outcome State Fault Refusal :=
  s.done (s.stepDone ok ms found)

/-- BOOT_STEP_TIMEOUT (R68). -/
def execBootStepTimeout (ms : Nat) (s : State) : Host.Outcome State Fault Refusal :=
  s.done (if s.stepping then s.failStep s.sys.step 5 ms 0 false else s)

/-- BOOT_RESTART (R72): 10 ms after the step failed. -/
def execBootRestart (s : State) : Host.Outcome State Fault Refusal :=
  s.done (if s.sys.restartDue then (s.waitFor .restart 8000000).warmReset 3 else s)

/-- LOCKSTEP_MISMATCH (R64, R434). -/
def execLockstepMismatch (s : State) : Host.Outcome State Fault Refusal := s.done (s.warmReset 4)

/-- POWER_GOOD_LOSS (R353, R483): after step 2 the enables drop and a cold reset follows; in step 2 the step fails, with the group in
DETAIL. -/
def execPowerGoodLoss (group : Fin 6) (s : State) : Host.Outcome State Fault Refusal :=
  s.done (if s.modeCode = 0 || s.sys.step ≤ 1 then s
    else if s.sys.step = 2 && s.modeCode = 1 then
      if s.stepping then s.failStep 2 3 0 (group.val + 1) false else s
    else s.dropEnables.coldReset 5)

end Sys2Proof.Machine
end

