-- ==== Sys2Proof/Machine/Due.lean ====
section
/-! DEFINITION. Bands falling due (R136, R159, R169): firing contexts are made, blank positions need none, and what is not usable
is poisoned. -/

namespace Sys2Proof.Machine

/-- GUARD in force (R158, R179). -/
def State.guard (s : State) : Nat := max 1 (s.get PND_CTL_GUARD)

/-- REF_GUARD in force (R163, R179). -/
def State.refGuard (s : State) : Nat := max 1 (min 32 (s.get PND_CTL_REF_GUARD))

/-- A position without raster: no engine is used, and its readers are through with it. -/
def State.noReader (s : State) (id : Word) (c col b : Nat) : State := (s.finishFired id c col b).finishReferenced id c col b

/-- A position that is not usable at its due time (R169). -/
def State.lateTile (s : State) (p : Page) (c col b : Nat) : State :=
  let s := s.dropContext .verification p.id c col b
  let s := match s.tile? p.id c col b with
    | some t => if t.state = TileState.landing then s.unstall t.queue else s
    | none => s
  let s := s.poisonTile p c col b
  (s.deadlineMiss p c col b 0 true).noReader p.id c col b

/-- One position at its band's due time. -/
def State.dueTile (s : State) (p : Page) (c b col : Nat) : State :=
  match ((s.tile? p.id c col b).map fun t => t.state).getD .empty with
  | .blank => s.noReader p.id c col b
  | .poisoned => (s.blankTile p c col b 0).noReader p.id c col b
  | .stored => s.newContext .firing p.id c col b
  | .landed =>
    let s := if s.ing.list.contains (p.id, c, col, b) then
        { s with ing := { s.ing with list := s.ing.list.filter fun q => q ≠ (p.id, c, col, b) } }.storedRaw p.id c col b
      else s
    s.newContext .firing p.id c col b
  | _ => s.lateTile p c col b

/-- A pass whose page has been queued again reads the positions that the page table holds: their images are brought over. -/
def State.shareBand (s : State) (p : Page) (c b : Nat) : State :=
  match s.nextPass p with
  | none => s
  | some q => q.tiles.foldl (fun s t =>
      if t.ch = c && t.band = b then s.updTile p.id c t.col b fun _ => { t with chain := [], old := [], listed := false } else s) s

/-- Band b of a page falls due on channel c (R159). -/
def State.dueBand (s : State) (p : Page) (c b : Nat) : State :=
  let s := s.shareBand p c b
  let s := { s with pnd := { s.pnd with due := s.pnd.due ++ [(p.id, c, b)] } }
  let s := (List.range 13).foldl (fun s col => s.dueTile p c b col) s
  if b + 1 = p.bands then s.updPage p.id fun p => { p with done := putBit p.done c true } else s

/-- Whether channel c is to fire lines of a page: it is in Prime, Print or Degraded, and with a stop pending it has begun it. -/
def State.willFire (s : State) (p : Page) (c : Nat) : Bool :=
  6 ≤ s.chMode c && s.chMode c ≤ 8 && (s.sys.stop.isNone || p.begun.getLsbD c) && (s.fch c).stop.isNone
    && (((s.jobOf p).map fun j => j.mask.getLsbD c).getD false)

/-- Every band of channel c whose due line is at or before absolute line a, and which has not fallen due; a due time before the
channel's entry into Prime is that entry, with a = −1. -/
def State.dueBands (s : State) (c : Nat) (a : Int) : State :=
  match (s.fch c).a0 with
  | none => s
  | some a0 =>
    if !(s.fch c).on then s
    else
      let l := s.pnd.pages.flatMap fun p =>
        match p.first with
        | none => []
        | some f =>
          if !s.willFire p c then []
          else ((List.range p.bands).filter fun (b : Nat) =>
              decide (a0 + f + 256 * (b : Int) ≤ a + 256 + s.guard) && !s.pnd.due.contains (p.id, c, b)).map fun (b : Nat) => (p, b)
      if l.isEmpty then s else (l.foldl (fun s q => s.dueBand q.1 c q.2) s).settleAll

/-- Bands due on every channel of the run at its latest line boundary. -/
def State.dueNow (s : State) : State := (List.range 8).foldl (fun s c => s.dueBands c ((s.fch c).next - 1)) s

end Sys2Proof.Machine
end

