-- ==== Sys2Proof/Machine/Placement.lean ====
section
/-! DEFINITION. Where and when a die-row fires (R218 to R220), and what PWR plans of it: the firing-load forecast (R363 to R368). -/

namespace Sys2Proof.Machine

/-! ## Dies and rows (R218 to R220) -/

/-- Q of row j of die d of channel c in 2^-32 counts, and whether it was clamped (R218). -/
def State.rowPos (s : State) (c d j : Nat) : Nat × Bool :=
  let f := s.fch c
  let q := f.diepos.getD d 0 + f.rowpos.getD j 0
  let m := 1024 * s.fir.cl - 2 ^ 32
  (min q m, decide (m < q))

/-- Line delay I (R218). -/
def State.lineDelay (s : State) (c d j : Nat) : Nat := (s.rowPos c d j).1 / s.fir.cl

/-- Ejection advance of a die (R219). -/
def State.advance (s : State) (c d : Nat) : Nat := (s.fch c).width.getD d 960 * bits (s.fch c).strobe 24 8 / 256

/-- The period in force, in 24.8 fixed point; while the reach has none, that of the channel's latest fixed line (R198). -/
def State.periodNow (s : State) (c : Nat) : Nat :=
  match s.params with
  | some a => if a.p = 0 then (s.fch c).p else a.p
  | none => (s.fch c).p

/-- P of a channel in whole cycles (R198). -/
def State.linePeriod (s : State) (c : Nat) : Nat := s.periodNow c / 256

/-- Timing code DLY of row j of die d, with the die's phase (R220, R365). -/
def State.dly (s : State) (c d j phase : Nat) : Int :=
  let f := (s.rowPos c d j).1 % s.fir.cl
  clampInt 9 (2 ^ 25 - 1) ((s.lead : Int) + (f * s.periodNow c / (256 * s.fir.cl) : Nat) - s.advance c d + phase)

/-- Least and greatest line delays of the rows of a carrier (R366). -/
def State.delayRange (s : State) (n : Nat) : Nat × Nat :=
  let l := (List.range 26).flatMap fun d => (List.range (s.depth (n / 2))).map fun j => s.lineDelay (n / 2) (26 * (n % 2) + d) j
  (l.foldl min (l.headD 0), l.foldl max 0)

/-- The test of R367: NOTICE_SHORT of a channel. -/
def State.noticeCheck (s : State) (c : Nat) : State :=
  let ok (n : Nat) : Bool := 2 * s.reachLen ≤ (s.delayRange n).1
  s.put ⟨PWR_STAT, 16 + c, 1⟩ (bit (!(ok (2 * c) && ok (2 * c + 1))))

/-! ## Counts of lines, and data lost to a blanked die (R43, R236) -/

/-- Count in the live bank of FIR for a line of a page. -/
def State.firCount (s : State) (f : Fld) (n : Nat) (page : Option Word) : State := s.countFor FIR_STB_INFO FIR_CTL_STAT_CH f n page

/-- A page loses data on a die: its columns are marked DIE_HOT, and it is flagged and entered. -/
def State.markHot (s : State) (page : Word) (c d : Nat) : State :=
  if (s.page? page).isNone then s
  else
    let s := if s.fir.hotMarks.contains (page, c, d) then s
      else { s with fir := { s.fir with hotMarks := s.fir.hotMarks ++ [(page, c, d)] } }
    s.defect page (chBit c) 8 false

/-- A die-line with data is blanked. -/
def State.hotLine (s : State) (page : Word) (c d : Nat) : State := (s.firCount FIR_STB_HOT_LINES_COUNT 1 (some page)).markHot page c d

/-! ## Staged lines (R157, R159, R363) -/

/-- The staged segment of a line and tile column. -/
def State.segment? (s : State) (c : Nat) (a : Int) (col : Nat) : Option Segment :=
  s.pnd.staging.find? fun g => g.ch = c && g.line = a && g.col = col

/-- The page of absolute line a of channel c that the channel is to fire, if any. -/
def State.firePage (s : State) (c : Nat) (a : Int) : Option Page :=
  match (s.fch c).a0 with
  | none => none
  | some a0 => (s.pageAt c (a - a0)).filter fun p => s.willFire p c

/-- Band and tile line of an absolute line in its page. -/
def State.placeIn (s : State) (p : Page) (c : Nat) (a : Int) : Nat × Nat :=
  let l := (a - (s.fch c).a0.getD 0 - p.first.getD 0).toNat
  (l / 256, l % 256)

/-- Whether a tile's line is fired blank: a BLANK position, or one fired blank from an earlier line. -/
def tileBlank (t : Option Tile) (line : Nat) : Bool :=
  match t with
  | none => false
  | some t => t.state = .blank || decide (t.blankFrom ≤ line)

/-- Whether every segment of an absolute line is VALID. -/
def State.lineStaged (s : State) (c : Nat) (a : Int) : Bool :=
  match s.firePage c a with
  | none => true
  | some p =>
    let q := s.placeIn p c a
    (List.range 13).all fun col => tileBlank (p.tile? c col q.1) q.2 || (s.segment? c a col).isSome

/-! ## The plan (R363, R364) -/

/-- Energies of levels 1 to 3 in 0.1 µJ, each at least the one before (R206). -/
def State.levelE (s : State) (c : Nat) : Nat × Nat × Nat :=
  let e1 := max 1 (s.getA (ASM_CH_LEVEL_E_E_1 c))
  let e2 := max e1 (s.getA (ASM_CH_LEVEL_E_E_2 c))
  (e1, e2, max e2 (s.getA (ASM_CH_LEVEL_E_E_3 c)))

/-- lam(m): the greatest energy of a phase slot (R364). -/
def lam (e : List Nat) (m : Nat) : Nat :=
  ((List.range m).map fun k => ((e.zipIdx.filter fun q => q.2 % m = k).map fun q => q.1).sum).foldl max 0

/-- cur(m): slot current in mA at a line rate and setpoint. -/
def slotCurrent (e : List Nat) (m rate mv : Nat) : Nat := lam e m * 4 * rate / (5 * mv)

/-- A plan: its slots, caps S(d), I_prev after it, whether it is capped and whether limited. -/
structure PlanResult where
  slots : Nat
  caps : List Nat
  current : Nat
  capped : Bool
  limited : Bool
deriving DecidableEq, Repr

/-- The plan of R364. -/
def makePlan (e : List Nat) (floor_ limit rate mv spread : Nat) : PlanResult :=
  match ([1, 2, 4, 8].filter fun m => m ≤ 2 ^ min 3 spread).find? fun m => slotCurrent e m rate mv ≤ limit with
  | some m => ⟨m, List.replicate 26 0xFFFFF, slotCurrent e m rate mv, false, false⟩
  | none =>
    let m := 2 ^ min 3 spread
    let t := limit * 5 * mv / (4 * rate)
    let caps := e.map fun x => x * t / lam e m
    let i := slotCurrent ((e.zip caps).map fun q => min q.1 (max q.2 floor_)) m rate mv
    ⟨m, caps, i, true, decide (limit < i)⟩

/-- Count and report what the plan of a reach shows (R368); the line of a page causes it where the reach is planned at one (R43). -/
def State.reportPlan (s : State) (r : PlanResult) (part : Bool) (page : Option Word) : State :=
  let count (s : State) (f : Fld) : State := s.countFor PWR_STB_INFO PWR_CTL_STAT_CH f 1 page
  let s := if r.slots > 1 || r.capped then
      let s := count s PWR_STB_LOAD_SHAPED_COUNT
      if s.pwr.once195 then s else ({ s with pwr := { s.pwr with once195 := true } }).raise 195
    else s
  let s := if r.capped then count s PWR_STB_LOAD_CAPPED_COUNT else s
  let s := if r.limited then
      let s := count s PWR_STB_LOAD_LIMITED_COUNT
      if s.pwr.once196 then s else ({ s with pwr := { s.pwr with once196 := true } }).raise 196
    else s
  if part then
    let s := count s PWR_STB_FC_PARTIAL_COUNT
    if s.pwr.once197 then s else ({ s with pwr := { s.pwr with once197 := true } }).raise 197
  else s

/-- E(d) of carrier n for reach q, with the number of its lines staged (R363); rounded down. -/
def State.reachEnergy (s : State) (n : Nat) (q : Int) (lines : Nat) : List Nat :=
  if lines = 0 then s.pwr.energy.getD n []
  else (List.range 26).map fun d =>
    ((s.asm.energy.filter fun e => e.1 = n / 2 && e.2.1 = 26 * (n % 2) + d && e.2.2.1 = q).map fun e => e.2.2.2).sum / (2 * lines)

/-- Plan reach q of carrier n and send the forecast (R363 to R366): its caps. `a` is the reach's first absolute line. -/
def State.planCarrier (s : State) (n : Nat) (q a : Int) (lines : Nat) : List Nat × State :=
  let e := s.reachEnergy n q lines
  let period := s.periodNow (n / 2)
  let rate := 204800000000 / period
  let mv := s.setMvOf n
  let limit := min (s.pwr.prev.getD n 0 + 10 * s.get (PWR_C_LOAD_STEP_CA n)) (10 * s.get (PWR_C_LOAD_SLOT_MAX_CA n))
  let r := makePlan e (1056 * (s.levelE (n / 2)).1) limit rate mv (s.get PWR_CTL_SPREAD_LOG2)
  let part := decide (lines < s.reachLen)
  let s := { s with pwr := { s.pwr with
    prev := s.pwr.prev.set n r.current
    energy := s.pwr.energy.set n e
    plans := (s.pwr.plans.filter fun (p : Plan) => p.carrier ≠ n || decide (q - 16 < p.reach ∧ p.reach < q)) ++ [Plan.mk n q r.slots] } }
  let flags := bit (r.slots > 1 || r.capped) + 2 * bit r.capped + 4 * bit r.limited + 8 * bit part
  let ca := min 65535 (r.current / 10)
  let s := s.setReg (PWR_C_FC n) (BitVec.ofNat 32 (ca * 65536 + flags * 16 + r.slots))
  let s := (s.liveMax PWR_STB_SLOT_MAX_COUNT ca).reportPlan r part ((s.firePage (n / 2) a).map fun p => p.id)
  let i := s.delayRange n
  let mean := min 65535 (e.sum * rate / (10 * mv) / 10)
  let aq := q * s.reachLen + (s.fch (n / 2)).a0.getD 0
  let b0 := unsigned 32 (aq + s.reachLen - 1 + i.2) * 2 ^ 32 + unsigned 32 (aq + i.1)
  let b1 := ca * 2 ^ 48 + mean * 2 ^ 32 + period % 2 ^ 32
  let s := if s.runs 9 then s.sendMsg n 2 [b0, b1, flags * 2 ^ 52 + r.slots * 2 ^ 48] else s
  (r.caps, s)

/-- Caps of the 52 dies of a channel for reach q that begins at absolute line a: planned where FC_EN is 1. -/
def State.planReach (s : State) (c : Nat) (q a : Int) : List Nat × State :=
  if !s.flag PWR_CTL_FC_EN then
    (List.replicate 52 0xFFFFF, { s with pwr := { s.pwr with
      plans := s.pwr.plans.filter fun (p : Plan) => p.carrier / 2 ≠ c || decide (p.reach < q) } })
  else
    let last := (q + 1) * s.reachLen - 1 + (s.fch c).a0.getD 0
    let n := min s.reachLen (last - a + 1).toNat
    let lines := ((List.range n).filter fun k => s.lineStaged c (a + (k : Int))).length
    let l := s.planCarrier (2 * c) q a lines
    let r := l.2.planCarrier (2 * c + 1) q a lines
    (l.1 ++ r.1, r.2)

/-- Target phase of die d of channel c at absolute line a in cycles, from the plan of the line's reach (R365). -/
def State.phaseTarget (s : State) (c d : Nat) (a : Int) : Nat :=
  let q := (a - (s.fch c).a0.getD 0) / (s.reachLen : Int)
  match s.pwr.plans.find? fun p => p.carrier = 2 * c + d / 26 && p.reach = q with
  | some p => d % 26 % max 1 p.slots * (s.linePeriod c / 8)
  | none => 0

/-- A data line's step of the phases of a carrier's dies (R365): a rise acts at once, a fall by at most floor(P ÷ 1,024). -/
def State.phaseStep (s : State) (n : Nat) (a : Int) : State :=
  let c := n / 2
  let step (f : FirCh) (d : Nat) : Nat :=
    if d / 26 = n % 2 then max (s.phaseTarget c d a) (f.phase.getD d 0 - s.linePeriod c / 1024) else f.phase.getD d 0
  s.updFch c fun f => { f with phase := (List.range 52).map (step f) }

end Sys2Proof.Machine
end

