-- ==== Sys2Proof/Machine/TestPage.lean ====
section
/-! DEFINITION. Stitch zones, the slot gap (R18, R198, R199), and the test pages that a calibration run prints (R331 to R333): which nozzles
fire on which line. The layout of the pages is the model's own (log entry 24, DESIGN CHOICE). -/

namespace Sys2Proof.Machine

/-- The stitch zone of logical column k (R18): its left die and z. -/
def zoneOf (k : Nat) : Option (Nat × Nat) :=
  let d := k / 1024
  let r := k % 1024
  if 1008 ≤ r ∧ d < 51 then some (d, r - 1008)
  else if r < 16 ∧ 0 < d then some (d - 1, r + 16)
  else none

/-- Physical column of logical column k on die d (R17). -/
def columnOn (k d : Nat) : Nat := k + 16 - 1024 * d

/-- Minimum slot gap g under line period P in whole cycles (R198). -/
def State.slotGap (s : State) (c : Nat) : Nat :=
  let p := s.linePeriod c
  ceilDiv (ceilDiv 800000000 (s.fdie c)) (p - p / 256)

/-- Dies that may print a logical column: its own, or the two of its stitch zone. -/
def homeDies (k : Nat) : List Nat :=
  match zoneOf k with
  | none => [k / 1024]
  | some (d, _) => [d, d + 1]

/-! ## Test pages -/

/-- Whether a kind prints (R333): LADDER, DENSITY, REGISTRATION and DIMENSION. -/
def calPrints (kind : Nat) : Bool := kind = 1 || kind = 2 || kind = 3 || kind = 6

/-- Whether a ladder run fires a nozzle in a state (R332). -/
def ladderFires (retest : Bool) (st : Nat) : Bool := st = 0 || st = 1 || st = 2 || st = 6 || (retest && (st = 3 || st = 4))

/-- MIN_SOLO in force. -/
def State.minSolo (s : State) : Nat := max 1 (s.get INS_TRIM_MIN_SOLO)

/-- M, the run lines between the two marks: LINES below 1,024 acts as 1,024 (R350). -/
def State.dimLines (s : State) : Nat := max 1024 (s.get CAL_DIM_LINES)

/-- Camera lines of a density patch: as many as give MIN_SOLO samples to a column that have neighbours above and below. -/
def State.patchLines (s : State) : Nat := 2 * (s.minSolo + 2)

/-- Run lines of a test page: the slots of a ladder, 18 patches for each of two dies' parities, the row and zone marks, or two marks. -/
def State.testLength (s : State) (run : CalRun) : Nat :=
  match run.kind with
  | 1 => 108 * (16 * max 1 run.gap + 8)
  | 2 => 36 * s.patchLines
  | 3 => 896
  | _ => s.dimLines + 128

/-- Channels that have a test page, in order: one page each, and DIMENSION prints on its first channel alone. -/
def State.testChannels (s : State) (run : CalRun) : List Nat :=
  let l := bitList (run.mask &&& s.sys.channels)
  if run.kind = 6 then l.take 1 else l

/-- Test page and page line of run line j of channel c; each channel has its own range of run lines (R332). -/
def State.testPlace (s : State) (run : CalRun) (c : Nat) (j : Int) : Option (Nat × Nat) :=
  let m := (s.testChannels run).idxOf c
  let n := s.testLength run
  let from_ : Int := (m * n : Nat)
  if c ∈ s.testChannels run ∧ from_ ≤ j ∧ j < from_ + (n : Int) then some (m, (j - from_).toNat) else none

/-- Nozzles of logical column k that a run fires, as (die, row). -/
def State.firedRows (s : State) (run : CalRun) (c k : Nat) : List (Nat × Nat) :=
  (homeDies k).flatMap fun d => ((List.range (s.depth c)).filter fun j =>
    ladderFires (run.kind = 1 && run.retest) (recGet (s.nozzle (recordIndex c d j (columnOn k d))) 0)).map fun j => (d, j)

/-- Fires of line x of the test page of channel c. Ladder slots take every ninth column, so that no two fired columns lie within 8 of each
other (R332). -/
def State.testFires (s : State) (run : CalRun) (c x : Nat) : List Fire :=
  let g := max 1 run.gap
  let fire (v k : Nat) (z : Nat × Nat) : Fire := ⟨z.1, columnOn k z.1, z.2, v⟩
  let cols := List.range 53248
  match run.kind with
  | 1 =>
    let slot := x / (16 * g + 8)
    let r := x % (16 * g + 8)
    if r % g ≠ 0 ∨ 16 ≤ r / g then []
    else cols.filterMap fun k => if k % 9 ≠ slot % 9 then none else ((s.firedRows run c k)[slot / 9]?).map (fire 3 k)
  | 2 =>
    let b := x / s.patchLines
    if x % g ≠ 0 then []
    else cols.flatMap fun k =>
      ((s.firedRows run c k).filter fun z => z.2 = b / 6 && z.1 % 2 = b % 2).map (fire (b / 2 % 3 + 1) k)
  | 3 =>
    let b := x / 64
    if x % 64 ≠ 16 then []
    else if b < 12 then cols.flatMap fun k => ((s.firedRows run c k).filter fun z => z.2 = b / 2 && z.1 % 2 = b % 2).map (fire 3 k)
    else cols.filterMap fun k =>
      match zoneOf k with
      | some (_, z) => if 8 ≤ z ∧ z < 24 then ((s.firedRows run c k).find? fun z => z.1 % 2 = b % 2).map (fire 3 k) else none
      | none => none
  | _ => if x = 64 ∨ x = 64 + s.dimLines then cols.filterMap fun k => (s.firedRows run c k).head?.map (fire 3 k) else []

/-- The reference of a test page, made on the chip (R333): the level of logical column k on line x. -/
def State.testLevel (s : State) (run : CalRun) (c k x : Nat) : Nat :=
  (((s.testFires run c x).find? fun f => f.col + 1024 * f.die = k + 16).map fun f => f.level).getD 0

/-- The calibration run that prints on channel c, if one does. -/
def State.testing (s : State) (c : Nat) : Option CalRun := s.cal.run.filter fun run => calPrints run.kind && run.mask.getLsbD c

/-- Run line j of channel c in a printing run: the slot gap is fixed with the run's first line, a page that begins takes its ID (R333), and
the line's fires. -/
def State.testLine (s : State) (run : CalRun) (c : Nat) (j : Int) : List Fire × State :=
  let run := if run.gap = 0 then { run with gap := ((s.testChannels run).map s.slotGap).foldl max 1 } else run
  match s.testPlace run c j with
  | none => ([], { s with cal := { s.cal with run := some run } })
  | some (m, x) =>
    let new := !run.ids.any fun q => q.1 = m
    let id := s.reg CAL_PAGE_ID
    let run' := if new then { run with ids := run.ids ++ [(m, id)] } else run
    let s := { s with cal := { s.cal with run := some run' } }
    (s.testFires run c x, if new then s.setReg CAL_PAGE_ID (id + 1) else s)

end Sys2Proof.Machine
end

