-- ==== Sys2Proof/Machine/Assembly.lean ====
section
/-! DEFINITION. Line assembly (R157, R158, R180 to R207): reading a staged line, the schedule, the density trim, the flank boost,
the energy cap, and the hand-over of the die-lines. -/

namespace Sys2Proof.Machine

/-! ## Stage 1: read (R117, R157, R158) -/

/-- Level of pixel x of a tile line (R117). -/
def pixelOf (b : List Byte) (x : Nat) : Nat := (b.getD (x / 4) 0).toNat / 4 ^ (x % 4) % 4

/-- Levels of one segment of absolute line a; one that is not VALID is a deadline miss and reads as level 0. -/
def State.readSegment (s : State) (p : Page) (c : Nat) (a : Int) (col : Nat) : List Nat × State :=
  let q := s.placeIn p c a
  if tileBlank (s.tile? p.id c col q.1) q.2 then (List.replicate 4096 0, s)
  else
    match s.segment? c a col with
    | some g => ((List.range 4096).map (pixelOf g.bytes), s)
    | none => (List.replicate 4096 0, s.deadlineMiss p c col q.1 q.2 false)

/-- The levels of absolute line a of channel c; the read frees its slot. -/
def State.readLine (s : State) (c : Nat) (a : Int) : List Nat × State :=
  let r := match s.firePage c a with
    | none => (List.replicate 53248 0, s)
    | some p => (List.range 13).foldl (fun (r : List Nat × State) col =>
        let q := r.2.readSegment p c a col
        (r.1 ++ q.1, q.2)) ([], s)
  (r.1, { r.2 with pnd := { r.2.pnd with
    staging := r.2.pnd.staging.filter fun (g : Segment) => !(g.ch = c && decide (g.line ≤ a)) } })

/-! ## Stage 2: live nozzles and the schedule (R197 to R202) -/

/-- Whether assembly takes a die as blanked: blanked, and not returning (R197, R237). -/
def State.asmHot (s : State) (c d : Nat) : Bool := s.hot c d && !(s.fir.returning.any fun r => r.1 = c && r.2.1 = d)

/-- Live rows of a die at a physical column, lowest first (R197). -/
def State.liveRows (s : State) (c d m : Nat) : List (Nat × Nat) :=
  if s.asmHot c d then []
  else ((List.range (s.depth c)).filter fun j => recGet (s.nozzle (recordIndex c d j m)) 0 < 3).map fun j => (d, j)

/-- Two lists in alternation, what is left of the longer at the end. -/
def alternate (a b : List (Nat × Nat)) : List (Nat × Nat) :=
  ((a.zip b).flatMap fun q => [q.1, q.2]) ++ a.drop b.length ++ b.drop a.length

/-- Code of zone position z (R199). -/
def State.stitchCode (s : State) (c z : Nat) : Nat :=
  if z < 16 then bits (s.act (ASM_CH_STITCH_LO c)) (2 * z) 2 else bits (s.act (ASM_CH_STITCH_HI c)) (2 * (z - 16)) 2

/-- The live list of logical column k as (die, row), for a slot gap g (R199). -/
def State.liveList (s : State) (c k g : Nat) : List (Nat × Nat) :=
  match zoneOf k with
  | none => s.liveRows c (k / 1024) (columnOn k (k / 1024))
  | some (d, z) =>
    let l := s.liveRows c d (columnOn k d)
    let r := s.liveRows c (d + 1) (columnOn k (d + 1))
    let e := match s.stitchCode c z with
      | 1 => l
      | 2 => r
      | _ => alternate l r
    if e.length < g then alternate l r else e

/-- What the schedule gives one column in one line: the column after it, the nozzle, whether a slot was left empty by the seam
rule, and whether a rotation step was limited. -/
structure Slot where
  col : Col
  noz : Option (Nat × Nat)
  skipped : Bool
  limited : Bool
deriving DecidableEq, Repr

/-- The start of a cycle (R200 to R202): for a new live list without rotation, else with the pending step of the reach. -/
def Col.startCycle (x : Col) (live : List (Nat × Nat)) (g : Nat) : Col × Bool :=
  let n := live.length
  if live ≠ x.list then
    ({ x with s := 0, o := x.o % max n 1, g := max n g, seam := true, list := live }, false)
  else if x.s = 0 then
    let want := x.step.getD 0 % max n 1
    let applied := min want (x.g - g)
    ({ x with o := (x.o + applied) % max n 1, g := max n g, step := none, seam := false }, decide (applied < want))
  else (x, false)

/-- One column of one line (R200 to R202); `taken` is the STEP of a reach that starts at the line (R201). -/
def Col.slot (x : Col) (live : List (Nat × Nat)) (g : Nat) (taken : Option Nat) (line : Int) : Slot :=
  let (x, limited) := ({ x with step := taken.or x.step }).startCycle live g
  let n := live.length
  let next := { x with s := (x.s + 1) % max x.g 1 }
  if x.s < n then
    let z := live.getD ((x.s + x.o) % n) (0, 0)
    let near := x.recent.any fun r => r.1 = z.1 && r.2.1 = z.2 && decide (line - r.2.2 < (g : Int))
    if x.seam && near then ⟨next, none, true, limited⟩
    else
      let recent := (z.1, z.2, line) :: x.recent.filter fun r => !(r.1 = z.1 && r.2.1 = z.2)
      ⟨{ next with recent := recent }, some z, false, limited⟩
  else ⟨next, none, false, limited⟩

/-- STEP of a reach on channel c (R201). -/
def State.rotStep (s : State) (c : Nat) (q : Int) : Nat :=
  let w := s.asm.rot.getD c (0x11111111, 0x11111111)
  let i := (q % 16).toNat
  if i < 8 then bits w.1 (4 * i) 3 else bits w.2 (4 * (i - 8)) 3

/-- A column of the line in work: logical column, its nozzle, level, and whether stage 4 raised it. -/
structure Px where
  k : Nat
  noz : Option (Nat × Nat)
  lev : Nat
  raised : Bool
deriving DecidableEq, Repr

/-- Count in the live bank of ASM. -/
def State.asmCount (s : State) (f : Fld) (n : Nat) (page : Option Word) : State := s.countFor ASM_STB_INFO ASM_CTL_STAT_CH f n page

/-- Stage 2 of a line: the columns with their nozzles and levels. -/
def State.schedule (s : State) (c : Nat) (a q : Int) (newReach : Bool) (levels : List Nat) (page : Option Word) : List Px × State :=
  let g := s.slotGap c
  let taken := if newReach then some (s.rotStep c q) else none
  let old := s.asm.cols.getD c []
  let cols := if old.isEmpty then List.replicate 53248 (Col.mk 0 0 0 none false [] []) else old
  let out := cols.zipIdx.map fun x => x.1.slot (s.liveList c x.2 g) g taken a
  let s := { s with asm := { s.asm with cols := s.asm.cols.set c (out.map fun (o : Slot) => o.col) } }
  let s := s.asmCount ASM_STB_SEAM_SKIP_COUNT (out.countP fun (o : Slot) => o.skipped) page
  let s := if out.any (fun o => o.limited) && !s.asm.limited.getLsbD c then
      ({ s with asm := { s.asm with limited := putBit s.asm.limited c true } }).asmCount ASM_STB_ROT_LIMITED_COUNT 1 page
    else s
  let px := (out.zip levels).zipIdx.map fun x => (⟨x.2, x.1.1.noz, x.1.2, false⟩ : Px)
  let s := s.asmCount ASM_STB_DEFICIENT_COUNT (px.countP fun (x : Px) => x.noz.isNone && decide (1 ≤ x.lev)) page
  (px, s)

/-! ## Stage 3: density trims (R204) -/

/-- Record number of a column's nozzle. -/
def Px.record (x : Px) (c : Nat) (z : Nat × Nat) : Nat := recordIndex c z.1 z.2 (columnOn x.k z.1)

/-- Stage 3 of one column: the level, the accumulator, and the counts of promotions and demotions. -/
def trimPixel (r : Rec) (lev : Nat) : Nat × Int × Nat × Nat :=
  let t := signed 6 (recGet r (lev + 1))
  let a := daccOf (recGet r 5) + (if lev = 3 then min 0 t else t)
  if 64 ≤ a then (min (lev + 1) 3, a - 128, 1, 0)
  else if a < -64 then (lev - 1, a + 128, 0, 1)
  else (lev, a, 0, 0)

/-- Stage 3 of a line. -/
def State.trim (s : State) (c : Nat) (px : List Px) (page : Option Word) : List Px × State :=
  if !(s.getA (ASM_CH_CFG_TRIM_EN c) = 1) then (px, s)
  else
    let r := px.foldl (fun (r : List Px × State × Nat × Nat) x =>
      match x.noz with
      | none => (x :: r.1, r.2)
      | some z =>
        if x.lev = 0 then (x :: r.1, r.2)
        else
          let n := x.record c z
          let old := r.2.1.nozzle n
          let t := trimPixel old x.lev
          ({ x with lev := t.1 } :: r.1, r.2.1.setNozzle n (recPut old 5 (unsigned 8 t.2.1)), r.2.2.1 + t.2.2.1,
            r.2.2.2 + t.2.2.2)) ([], s, 0, 0)
    let s := r.2.1.asmCount ASM_STB_TRIM_PROMOTE_COUNT r.2.2.1 page
    (r.1.reverse, s.asmCount ASM_STB_TRIM_DEMOTE_COUNT r.2.2.2 page)

/-! ## Stage 4: flank boost (R205) -/

/-- A share added to an accumulator, and whether it was cut at 255. -/
def faccAdd (f share : Nat) : Nat × Nat := if 255 < f + share then (255, 1) else (f + share, 0)

/-- Level by which a column is deficient; 0 where it is not, or is no column. -/
def deficit (x : Option Px) : Nat :=
  match x with
  | some x => if x.noz.isNone then x.lev else 0
  | none => 0

/-- Stage 4 of a line of a page. -/
def State.flank (s : State) (c : Nat) (px : List Px) (page : Option Word) : List Px × State :=
  if !(s.getA (ASM_CH_CFG_FLANK_EN c) = 1) then (px, s)
  else
    let old := s.asm.facc.getD c []
    let facc := if old.isEmpty then List.replicate px.length 0 else old
    let left : List (Option Px) := none :: px.map some
    let right : List (Option Px) := (px.drop 1).map some ++ [none]
    let out := (((px.zip facc).zip (left.zip right))).map fun q =>
      let x := q.1.1
      match x.noz with
      | none => (x, q.1.2, 0, 0)
      | some z =>
        let gain := recGet (s.nozzle (x.record c z)) 11
        let l := if deficit q.2.1 = 0 then (q.1.2, 0) else faccAdd q.1.2 (deficit q.2.1 * gain)
        let r := if deficit q.2.2 = 0 then (l.1, 0) else faccAdd l.1 (deficit q.2.2 * gain)
        let up := min (3 - x.lev) (r.1 / 16)
        ({ x with lev := x.lev + up, raised := decide (0 < up) }, r.1 - 16 * up, up, l.2 + r.2)
    let s := { s with asm := { s.asm with facc := s.asm.facc.set c (out.map fun (o : Px × Nat × Nat × Nat) => o.2.1) } }
    let s := s.asmCount ASM_STB_FLANK_PROMOTE_COUNT (out.map fun (o : Px × Nat × Nat × Nat) => o.2.2.1).sum page
    (out.map fun o => o.1, s.asmCount ASM_STB_FLANK_LOST_COUNT (out.map fun (o : Px × Nat × Nat × Nat) => o.2.2.2).sum page)

/-! ## Stage 5: energy cap (R206, R207) -/

/-- A fired column of a die-line: physical column, row, level, flank-raised. -/
abbrev Dot := Nat × Nat × Nat × Bool

/-- Energy of a level. -/
def energyOf (e : Nat × Nat × Nat) (lev : Nat) : Nat :=
  match lev with
  | 0 => 0
  | 1 => e.1
  | 2 => e.2.1
  | _ => e.2.2

/-- One pass of R207 over a die-line in its order, from a level, over raised or other columns: its dots, energy and demotions. -/
def capPass (e : Nat × Nat × Nat) (cap lev : Nat) (raised : Bool) (r : List Dot × Nat × Nat) : List Dot × Nat × Nat :=
  let q := r.1.foldl (fun (q : List Dot × Nat × Nat) (x : Dot) =>
    if cap < q.2.1 && x.2.2.1 = lev && x.2.2.2 = raised then
      ((x.1, x.2.1, lev - 1, x.2.2.2) :: q.1, q.2.1 - (energyOf e lev - energyOf e (lev - 1)), q.2.2 + 1)
    else (x :: q.1, q.2)) ([], r.2)
  (q.1.reverse, q.2)

/-- Stage 5 of a die-line of absolute line a, its dots in rising order of column; and the number of demotions. -/
def capLine (e : Nat × Nat × Nat) (cap : Nat) (a : Int) (l : List Dot) : List Dot × Nat :=
  let s0 := (a * 37 % 1056).toNat
  let turned := (l.filter fun x => s0 ≤ x.1) ++ l.filter fun x => x.1 < s0
  let sum := (l.map fun x => energyOf e x.2.2.1).sum
  let r := capPass e cap 2 true (capPass e cap 2 false (capPass e cap 3 true (capPass e cap 3 false (turned, sum, 0))))
  ((r.1.filter fun x => x.1 < s0) ++ r.1.filter fun x => s0 ≤ x.1, r.2.2)

/-- The cap of die d of channel c for a reach under a shaping cap (R206), and whether the shaping cap sets it. -/
def State.dieCap (s : State) (c d shape : Nat) : Nat × Nat × Nat :=
  let e := s.getA (ASM_CH_ECAP_ECAP c)
  let over_ := (((s.fch c).temp.getD d none).map fun t => (max 0 (t - (s.getA (ASM_CH_THERM_WARN c) : Int))).toNat).getD 0
  let t := e - e * s.getA (ASM_CH_THERM_DERATE c) * over_ / 64
  let floor_ := 1056 * (s.levelE c).1
  (max floor_ (min t shape), bit (decide (shape < t)), t)

/-- At the first line of a reach: the plan of PWR, and the caps of the 52 dies (R206, R363). -/
def State.startReach (s : State) (c : Nat) (q a : Int) : State :=
  let s := { s with asm := { s.asm with
    reach := s.asm.reach.set c (some q), limited := putBit s.asm.limited c false
    energy := s.asm.energy.filter fun (e : Nat × Nat × Int × Nat) => !(e.1 = c && decide (e.2.2.1 < q)) } }
  let r := s.planReach c q a
  { r.2 with asm := { r.2.asm with caps := r.2.asm.caps.set c ((List.range 52).map fun d => r.2.dieCap c d (r.1.getD d 0xFFFFF)) } }

/-- Stage 5 of a line: the fires of its 52 die-lines. -/
def State.cap (s : State) (c : Nat) (a : Int) (px : List Px) (page : Option Word) : List Fire × State :=
  let dots (d : Nat) : List Dot := px.filterMap fun x =>
    match x.noz with
    | some z => if z.1 = d ∧ 0 < x.lev then some (columnOn x.k d, z.2, x.lev, x.raised) else none
    | none => none
  let on := s.getA (ASM_CH_CFG_CAP_EN c) = 1
  let e := s.levelE c
  let lines := (List.range 52).map fun d =>
    let cap := (s.asm.caps.getD c []).getD d (0xFFFFF, 0, 0)
    let r := if on then capLine e cap.1 a (dots d) else (dots d, 0)
    (r.1.map fun x => (⟨d, x.1, x.2.1, x.2.2.1⟩ : Fire), r.2, decide (cap.2.1 = 1))
  let shaped := ((lines.filter fun l => l.2.2).map fun l => l.2.1).sum
  let capped := ((lines.filter fun l => !l.2.2).map fun l => l.2.1).sum
  let s := (s.asmCount ASM_STB_SHAPE_DEMOTE_COUNT shaped page).asmCount ASM_STB_CAP_DEMOTE_COUNT capped page
  let s := if 0 < shaped + capped ∧ ¬ s.flag ⟨ASM_STAT, 16 + c, 1⟩ then (s.put ⟨ASM_STAT, 16 + c, 1⟩ 1).raise 98 (page.getD 0) else s
  (lines.flatMap fun l => l.1, s)

/-! ## Stage 6 and the line (R180, R187, R192, R203, R237) -/

/-- One fire is handed over (R187): FIRE_CNT of its nozzle counts with probability 2^-14 (log entry 1, DESIGN CHOICE). -/
def State.countFire (s : State) (c : Nat) (f : Fire) : State :=
  let d := s.draw
  if d.1.toNat % 16384 = 0 then
    let n := recordIndex c f.die f.row f.col
    let r := d.2.nozzle n
    d.2.setNozzle n (recPut r 10 (min (2 ^ 32 - 1) (recGet r 10 + 1)))
  else d.2

/-- RESUME of a channel; at or above LIMIT it acts as LIMIT − 1 (R237). -/
def State.resumeAt (s : State) (c : Nat) : Int :=
  let l : Int := s.get (FIR_CH_HOT_LIMIT c)
  min (s.get (FIR_CH_HOT_RESUME c)) (l - 1)

/-- Blanked dies whose latest report is below RESUME return with the page whose first line is assembled now (R237). -/
def State.markReturns (s : State) (c : Nat) (a : Int) : State :=
  let l := (List.range 52).filter fun d =>
    s.hot c d && !(s.fir.returning.any fun r => r.1 = c && r.2.1 = d)
      && (((s.fch c).temp.getD d none).map fun t => decide (t < s.resumeAt c)).getD false
  { s with fir := { s.fir with returning := s.fir.returning ++ l.map fun (d : Nat) => (c, d, a) } }

/-- The run number of a page, given at its first assembled line on any channel (R37). -/
def State.numberPage (s : State) (id : Word) : State :=
  if ((s.page? id).map fun p => p.seq).getD 1 = 0 then
    ({ s with asm := { s.asm with seq := s.asm.seq + 1 } }).updPage id fun p => { p with seq := s.asm.seq + 1 }
  else s

/-- Run number of a page. -/
def State.pageSeq (s : State) (id : Word) : Nat := ((s.page? id).map fun p => p.seq).getD 0

/-- What the first line of a page brings before it is assembled: the page-bound sets of the channel hand over (R192), blanked
dies return, and the page's flags and accumulators start again. -/
def State.enterPageAsm (s : State) (c : Nat) (a : Int) (p : Page) : State :=
  let s := s.numberPage p.id
  let q := s.pageSeq p.id
  let s := (s.handChannel .asm c q p.name).markReturns c a
  let s := { s with asm := { s.asm with facc := s.asm.facc.set c [], chSeq := s.asm.chSeq.set c q } }
  (s.put ⟨ASM_STAT, 16 + c, 1⟩ 0).put ⟨ASM_STAT, 8 + c, 1⟩ 0

/-- Columns without a live nozzle, counted at the first line of a page (R203). -/
def State.countUncovered (s : State) (c : Nat) (page : Option Word) : State :=
  let n := (s.asm.cols.getD c []).countP fun x => x.list.isEmpty
  if n = 0 then s
  else ((s.asmCount ASM_STB_UNCOVERED_COUNT n page).put ⟨ASM_STAT, 8 + c, 1⟩ 1).raise 99 (page.getD 0)

/-- Groups of 32 logical columns that a line adds to the exclusion map (R325): with a deficient or flank-raised pixel, or one whose
level stage 5 changed. -/
def excludedGroups (px : List Px) (fires : List Fire) : List Nat :=
  ((px.filter fun x =>
    match x.noz with
    | none => decide (1 ≤ x.lev)
    | some z => x.raised || (decide (0 < x.lev) && !fires.contains ⟨z.1, columnOn x.k z.1, z.2, x.lev⟩)).map fun x => x.k / 32).dedup

/-- A line of a page loses the data of dies that assembly takes as blanked: columns of theirs that no nozzle prints (R236). -/
def State.loseHot (s : State) (c : Nat) (page : Option Word) (px : List Px) : State :=
  match page with
  | none => s
  | some id =>
    ((List.range 52).filter fun d => s.asmHot c d && px.any fun x => x.noz.isNone && decide (1 ≤ x.lev) && (homeDies x.k).contains d).foldl
      (fun s d => s.hotLine id c d) s

/-- Record a line of a page in the exclusion map. -/
def State.exclude (s : State) (c : Nat) (a : Int) (page : Option Page) (px : List Px) (fires : List Fire) : State :=
  match page with
  | none => s
  | some p =>
    let b := (s.placeIn p c a).1
    let mark (g : Nat) : Word × Nat × Nat × Nat := (p.id, c, g, b)
    let new := ((excludedGroups px fires).map mark).filter fun e => !s.asm.excluded.contains e
    { s with asm := { s.asm with excluded := s.asm.excluded ++ new } }

/-- Assemble absolute line a of channel c (R180); a line without raster has every level 0 and needs no flank boost. -/
def State.assemble (s : State) (c : Nat) (a : Int) (ecc : List (Nat × Bool)) : State :=
  let s := ecc.foldl (fun s e => if e.1 ≤ lastRecord then s.ntEcc e.1 e.2 else s) s
  let s := s.put ⟨ASM_STAT, c, 1⟩ 1
  let j : Int := a - (s.fch c).a0.getD 0
  let page := s.firePage c a
  let id := page.map fun p => p.id
  let first := (page.map fun p => decide (p.first = some j)).getD false
  let s := match page with
    | some p => if first then s.enterPageAsm c a p else s
    | none => s
  let q : Int := j / (s.reachLen : Int)
  let new : Bool := (s.asm.reach.getD c none : Option Int) != some q
  let s := if new then s.startReach c q a else s
  let r := s.readLine c a
  let r := r.2.schedule c a q new r.1 id
  let s := r.2.loseHot c id r.1
  let s := if first then s.countUncovered c id else s
  let r := s.trim c r.1 id
  let r := if page.isSome then r.2.flank c r.1 id else r
  let px := r.1
  let r := r.2.cap c a px id
  let r := match r.2.testing c with
    | some run => r.2.testLine run c j
    | none => r
  let s := (r.1.foldl (fun s f => s.countFire c f) r.2).exclude c a page px r.1
  let l : AsmLine := ⟨c, a, id, r.1, s.linePeriod c, !s.fir.late.contains (2 * c, a), !s.fir.late.contains (2 * c + 1, a)⟩
  let s := if l.left || l.right then { s with asm := { s.asm with lines := s.asm.lines ++ [l] } } else s
  let s := { s with fir := { s.fir with late := s.fir.late.filter fun (x : Nat × Int) => !(x.1 / 2 = c && decide (x.2 ≤ a)) } }
  s.updFch c fun f => { f with asm := a + 1 }

/-- The first GUARD lines of a channel, for which no line boundary stands GUARD lines before, are assembled once the channel's line 0
is fixed on the grid (log entry 100, DEDUCED). -/
def State.openLines (s : State) : State :=
  (List.range 8).foldl (fun s c =>
    if (s.fch c).on && (s.fch c).a0.isSome && (s.fch c).asm = 0 && (s.fch c).fix = 0 && s.runs 7 then
      (List.range s.guard).foldl (fun s (i : Nat) => s.assemble c i []) s
    else s) s

end Sys2Proof.Machine
end

