-- ==== Sys2Proof/Machine/Anchors.lean ====
section
/-! DEFINITION. Anchors of the line clock (R213 to R216, R219, R228, R229, R233, R238, R249) and the common fire of a compare
unit (R256, R257). -/

namespace Sys2Proof.Machine

/-! ## Compare units (R256 to R258) -/

/-- H − TGT of a unit, in 2^-32 counts, read as signed. -/
def State.cmpDiff (s : State) (n : Nat) : Int := signed 80 (unsigned 80 (s.hwm * 2 ^ 32 - s.pos.target.getD n 0))

/-- Whether a unit that is armed has reached its target. -/
def State.cmpDue (s : State) (n : Nat) : Bool := s.flag (POS_CMP_CTL_EN n) && 0 ≤ s.cmpDiff n

/-- Count in the live bank of POS. -/
def State.posCount (s : State) (f : Fld) (n : Nat) : State := s.liveAdd POS_STB_INFO f n

/-- Queue the pulse of a fire (R257): a unit holds up to 8. -/
def State.queuePulse (s : State) (n : Nat) : State :=
  let l := s.pos.pulses.getD n []
  if l.length ≥ 8 then (s.putFlag (POS_CMP_STAT_PULSE_LOST n) true).posCount POS_STB_PULSE_LOST_COUNT 1
  else
    let p : Pulse := ⟨s.cycle + s.get (POS_CMP_DELAY_CYCLES n), false⟩
    { s with pos := { s.pos with pulses := s.pos.pulses.set n (l ++ [p]) } }

/-- Extra steps past H: each is counted, and vector 113 is raised once per page of STAT_CH. -/
def State.cmpSkip (s : State) (k : Nat) : State :=
  if k = 0 then s
  else
    let s := s.posCount POS_STB_CMP_SKIPPED_COUNT k
    if s.pos.once113 then s else ({ s with pos := { s.pos with once113 := true } }).raise 113

/-- Advance the target of a unit by STEP, and further to the first value beyond H; with STEP 0 the unit disarms. -/
def State.cmpAdvance (s : State) (n : Nat) : State :=
  let step := s.pos.step.getD n 0
  if step = 0 then s.putFlag (POS_CMP_CTL_EN n) false
  else
    let d := s.cmpDiff n - step
    let k : Nat := if 0 ≤ d then d.toNat / step + 1 else 0
    let t : Int := s.pos.target.getD n 0 + ((step * (k + 1) : Nat) : Int)
    ({ s with pos := { s.pos with target := s.pos.target.set n (signed 80 (unsigned 80 t)) } }).cmpSkip k

/-- Count a fire of a unit with a COUNT: at 0 the unit disarms. -/
def State.cmpCountDown (s : State) (n : Nat) : State :=
  let c := s.pos.count.getD n 0
  if c = 0 then s
  else
    let s := { s with pos := { s.pos with count := s.pos.count.set n (c - 1) } }
    if c = 1 then s.putFlag (POS_CMP_CTL_EN n) false else s

/-- A unit fires (R256). -/
def State.fireUnit (s : State) (n : Nat) : State :=
  let s := (s.setPair (POS_CMP_TIME_LO n) (POS_CMP_TIME_HI n) s.cycle).incWrap (POS_CMP_STAT_FIRES n)
  let s := s.queuePulse n
  let s := if s.flag (POS_CMP_CTL_EVT n) then s.raise 115 else s
  (s.cmpAdvance n).cmpCountDown n

/-! ## Anchors -/

/-- Whether the line rate of a period exceeds D × f_die of channel c (R228). -/
def State.overspeed (s : State) (c p : Nat) : Bool := p ≠ 0 && decide (s.depth c * s.fdie c * p < 256 * 800000000)

/-- OVERSPEED of each channel of the run, judged at an anchor; vector 101 once per page (R228). -/
def State.judgeSpeed (s : State) (p : Nat) : State :=
  (List.range 8).foldl (fun s c =>
    let fast := (s.fch c).on && s.overspeed c p
    let s := s.put ⟨FIR_STAT, 16 + c, 1⟩ (bit fast)
    if fast && !s.fir.once101.getLsbD c then
      ({ s with fir := { s.fir with once101 := putBit s.fir.once101 c true } }).raise 101
    else s) s

/-- An anchor with a line rate above 384,000 lines/s stops printing at once (R229). -/
def State.judgeOverrun (s : State) (p : Nat) : State :=
  let on := (List.range 8).filter fun c => (s.fch c).on && (s.fch c).stop.isNone
  if p = 0 ∨ 533333 ≤ p ∨ on.isEmpty then s
  else
    let s := (s.putFlag FIR_STAT_OVERRUN true).raise 102
    let s := s.stopPrint 4 true
    on.foldl (fun s c => s.blankFrom c) s

/-- Make an anchor at a position and this cycle (R214, R216): its parameters come into force 256 cycles later. -/
def State.makeAnchor (s : State) (y : Int) (r : Int) : State :=
  let a := s.mkAnchor y s.cycle r
  let s := { s with fir := { s.fir with coming := s.fir.coming ++ [(a, s.cycle + 256)] } }
  let s := (s.fixOrigins a).dueNow.openLines
  (s.judgeSpeed a.p).judgeOverrun a.p

/-- A forced anchor (R216): the counter value and this cycle replace Y_r and t_r, the reach number stays. -/
def State.forceAnchor (s : State) : State :=
  match s.newestAnchor with
  | none => s
  | some a =>
    let s := s.liveAdd FIR_STB_INFO FIR_STB_ANCHOR_FORCED_COUNT 1
    let s := if s.fir.once100 then s else ({ s with fir := { s.fir with once100 := true } }).raise 100
    s.makeAnchor (s.runPos a) a.reach

/-- Compare unit 0 reaches the next reach's anchor (R214, R219, R238, R259). -/
def State.reachAnchor (s : State) : State :=
  let r := s.fir.nextReach
  let s := s.fireUnit 0
  let s := (s.strobeStep).leaderPulse 40
  let s := s.makeAnchor (s.anchorAt r) r
  if s.flag FIR_STAT_RUNNING then ({ s with fir := { s.fir with nextReach := r + 1 } }).loadUnit0 else s

/-- Whether the line clock runs and is not paused. -/
def State.clockRuns (s : State) : Bool := s.runs 8 && s.flag FIR_STAT_RUNNING && !s.flag POS_STAT_PAUSED

end Sys2Proof.Machine
end

