-- ==== Sys2Proof/Machine/Pos.lean ====
section
/-! DEFINITION. Web position and speed (R241 to R259): motion, index checking, faults of encoder ports and the backup, reversal,
and the compare units. -/

namespace Sys2Proof.Machine

/-! ## Motion -/

/-- A motion event of a port at a raw count and cycle (R250): its own window takes it, and that of the chip where the port is active
and without fault. -/
def State.pushEvent (s : State) (p : Nat) (x : Int) (t : Nat) (forward : Bool) : State :=
  let keep := 2 * s.window + 1
  let s := s.updPort p fun q => { q with events := addEvent keep q.events q.forward forward x t, forward := forward }
  if p ≠ s.activePort || s.portFault p then s
  else ({ s with pos := { s.pos with
    events := addEvent keep s.pos.events s.pos.forward forward x t, forward := forward } }).syncSpeed

/-- Accumulate POS_TRACK_DEV while a backup is enabled (R255). -/
def State.trackMotion (s : State) (p : Nat) (d : Int) : State :=
  if !s.backupOn then s
  else
    let d := if p = s.activePort then d else if p = s.otherPort then -d else 0
    let tol := s.get POS_TRACK_TOL_COUNTS
    let was := decide (s.pos.track.natAbs > tol)
    let s := ({ s with pos := { s.pos with track := s.pos.track + d } }).syncTrack
    if decide (s.pos.track.natAbs > tol) && !was then (s.putFlag POS_FAULT_TRACK_DEV true).raise 114 else s

/-- Depth of reversal (R248). -/
def State.revDepth (s : State) : Nat := (diff48 s.hwm s.counter).toNat

/-- The depth exceeds LIMIT × C_L ÷ 256 (R249). -/
def State.beyondLimit (s : State) : Bool :=
  decide (max 1 (s.get POS_REV_LIMIT) * s.fir.cl < s.revDepth * 256 * 2 ^ 32)

/-- A pause begins (R249). -/
def State.beginPause (s : State) : State :=
  let s := (s.putFlag POS_FAULT_WEB_REVERSE true).putFlag POS_STAT_PAUSED true
  (s.posCount POS_STB_WEB_REVERSE_COUNT 1).raise 108

/-- What follows the counter's move while the line clock runs (R249); `old` is H before it. -/
def State.judgeReversal (s : State) (old : Int) : State :=
  let s := if s.flag POS_STAT_PAUSED then
      if 0 < diff48 s.counter old then
        ((({ s with pos := { s.pos with revFault := false } }).putFlag POS_STAT_PAUSED false)).forceAnchor
      else s
    else if s.beyondLimit then s.beginPause
    else s
  if s.get POS_REV_FAULT_COUNTS < s.revDepth ∧ ¬ s.pos.revFault then
    ((({ s with pos := { s.pos with revFault := true } }).putFlag POS_FAULT_REV_FAULT true).raise 109).dangerous 10 0 0
  else s

/-- The counter moves with the active port (R247 to R249). -/
def State.moveCounter (s : State) (d : Int) : State :=
  let old := s.hwm
  let s := s.setPos48 POS_COUNT_LO POS_COUNT_HI (s.counter + d)
  let s := if !s.flag FIR_STAT_RUNNING || 0 < diff48 s.counter old then s.setPos48 POS_HWM_LO POS_HWM_HI s.counter else s
  let s := s.put POS_REV_DEPTH_COUNTS (min (2 ^ 32 - 1) s.revDepth)
  let s := s.liveMax POS_STB_REV_MAX_COUNT s.revDepth
  if s.flag FIR_STAT_RUNNING then s.judgeReversal old else s

/-- Bring the raw count of a port up to this cycle, and with it the position counter where the port is active; the counter holds while
the active port has a fault (R244, R247, R253). -/
def State.bringPort (s : State) (p : Nat) : State :=
  let d := s.ahead p
  if d = 0 then s
  else
    let n := s.stepsNow p
    let s := s.setPos48 (POS_PORT_RAW_LO p) (POS_PORT_RAW_HI p) (s.rawCount p + d)
    let s := (s.updPort p fun q => { q with shown := n }).trackMotion p d
    if p ≠ s.activePort || s.portFault p then s else s.moveCounter d

/-! ## Faults (R252, R253) -/

/-- The active port has taken a fault: the backup takes over, or it is a safety event while the line clock runs. -/
def State.activeFails (s : State) : State :=
  if s.backupUsable then
    let s := s.switchPort (s.get POS_SEL_BACKUP)
    let s := s.setDegrade (withBits (s.reg SYS_DEGRADE) 0 1 1)
    (s.raise 112).degradeDue s.sys.channels
  else if s.flag FIR_STAT_RUNNING then s.dangerous 9 0 0
  else s

/-- Set fault bits of ports in one cycle, each (port, bit of POS_FAULT): vector 110, and what R253 lays down. -/
def State.setFaults (s : State) (l : List (Nat × Nat)) : State :=
  let was := s
  let s := l.foldl (fun s f => s.put ⟨POS_FAULT, f.2, 1⟩ 1) s
  let s := l.foldl (fun s _ => s.raise 110) s
  let fresh (p : Nat) : Bool := !was.portFault p && s.portFault p
  let a := s.activePort
  let b := s.otherPort
  let s := if s.backupOn && b ≠ a && fresh b && !fresh a then
      if b = s.get POS_SEL_BACKUP then (s.putFlag POS_FAULT_BACKUP_LOST true).raise 114 else s
    else s
  (if fresh a then s.activeFails else s).syncValid

/-- The counts of the window are judged, and start again on every port. -/
def State.faultWindow (s : State) : State :=
  let l := (List.range 4).flatMap fun p =>
    (if s.get POS_FAULT_CTL_ILL_MAX < (s.port p).ill ∧ ¬ s.flag ⟨POS_FAULT, 4 + p, 1⟩ then [(p, 4 + p)] else [])
      ++ (if p < 2 ∧ s.get POS_FAULT_CTL_AMP_MAX < (s.port p).amp ∧ ¬ s.flag ⟨POS_FAULT, 8 + p, 1⟩ then [(p, 8 + p)] else [])
  let s := (List.range 4).foldl (fun s p => s.updPort p fun x => { x with ill := 0, amp := 0 }) s
  s.setFaults l

/-- Cycles of a window: WIN_US. -/
def State.windowLen (s : State) : Nat := 800 * max 1 (s.get POS_FAULT_CTL_WIN_US)

/-- Judge the window in progress where it has ended; the windows follow each other without gap (R252). -/
def State.rollWindow (s : State) : State :=
  let n := (s.cycle - s.pos.windowAt) / s.windowLen
  if n = 0 then s
  else ({ s with pos := { s.pos with windowAt := s.pos.windowAt + n * s.windowLen } }).faultWindow

/-- A transition a port cannot resolve (R243, R245). -/
def State.illegalOn (s : State) (p : Nat) : State :=
  let s := s.rollWindow.updPort p fun x => { x with ill := x.ill + 1 }
  (s.incSat (POS_PORT_STAT_ILLEGAL p)).posCount POS_STB_ILLEGAL_EDGE_COUNT 1

/-- A bad sample of an analog port (R243). -/
def State.badSample (s : State) (p : Nat) : State :=
  let s := s.rollWindow.updPort p fun x => { x with amp := x.amp + 1, badAt := some s.cycle }
  (s.posCount POS_STB_AMP_BAD_COUNT 1).syncValid

/-! ## Signals (R242 to R245) -/

/-- Report the quarter periods an analog port has crossed up to a position reached in this cycle (R250). -/
def State.crossQuarters (s : State) (p : Nat) (to_ : Int) : State :=
  let x := s.port p
  let forward := decide (x.steps < to_) != s.flag (POS_PORT_CFG_INVERT p)
  (quarterCrossings x.quarter x.steps to_).foldl (fun s q =>
    let s := s.updPort p fun y => { y with quarter := some (q.1, decide (x.steps < to_)) }
    s.pushEvent p (s.rawCount p + (q.2 - (s.port p).shown) * s.scaleSigned p) (crossTime x.steps to_ x.sampleAt s.cycle q.2) forward) s

/-- A good sample moves the position of its port (R242); one that no good sample comes before, since the port was enabled or an
unresolved jump, is the new reference, and whole periods stay. -/
def State.takePhase (s : State) (p phi : Nat) : State :=
  let x := s.port p
  match x.phi with
  | none =>
    (s.updPort p fun y => { y with steps := y.steps / 4096 * 4096 + phi, phi := some phi, sampleAt := s.cycle }).bringPort p
  | some old =>
    let d := signed 12 (unsigned 12 ((phi : Int) - old))
    if 1024 < d.natAbs then (s.illegalOn p).updPort p fun y => { y with phi := none }
    else
      let s := if d = 0 then s else s.crossQuarters p (x.steps + d)
      (s.updPort p fun y => { y with steps := y.steps + d, phi := some phi, sampleAt := s.cycle }).bringPort p

/-- A sample of an analog port (R242, R243). The phase of a sample at the centre is open (log entry 1, DESIGN CHOICE). -/
def State.takeSample (s : State) (p : Nat) (sin cos : BitVec 14) : State :=
  let sc := s.sampleSC p sin.toInt cos.toInt
  if s.radiusBad p sc then s.badSample p
  else if sc = (0, 0) then s.draw.2.takePhase p (s.draw.1.toNat % 4096)
  else s.takePhase p (phaseOf sc.1 sc.2)

/-- One filtered edge of a digital port at a cycle: ±1 step, and a motion event (R245, R250). -/
def State.portEdge (s : State) (p : Nat) (step : Int) (t : Nat) : State :=
  let x := s.rawCount p + step * s.scaleSigned p
  let s := s.updPort p fun y => { y with steps := y.steps + step }
  (s.pushEvent p x t (0 < step * s.scaleSigned p)).bringPort p

/-- The changes of A and B that have been stable for FILT cycles pass the filter, in their order (R245). -/
def State.passEdges (s : State) (p : Nat) : State :=
  let x := s.port p
  match x.filtered with
  | none => s
  | some (a, b) =>
    let ta := x.since.1 + s.filt p
    let tb := x.since.2 + s.filt p
    let da := x.raw.1 ≠ a ∧ ta ≤ s.cycle
    let db := x.raw.2 ≠ b ∧ tb ≤ s.cycle
    let put (s : State) (a b : Bool) : State := s.updPort p fun y => { y with filtered := some (a, b) }
    if da ∧ db ∧ ta = tb then (put s x.raw.1 x.raw.2).illegalOn p
    else if da ∧ db ∧ ta < tb then
      (((put s x.raw.1 b).portEdge p (edgeStep true x.raw.1 b) ta).updPort p fun y => { y with filtered := some x.raw }).portEdge p
        (edgeStep false x.raw.1 x.raw.2) tb
    else if da ∧ db then
      (((put s a x.raw.2).portEdge p (edgeStep false a x.raw.2) tb).updPort p fun y => { y with filtered := some x.raw }).portEdge p
        (edgeStep true x.raw.1 x.raw.2) ta
    else if da then (put s x.raw.1 b).portEdge p (edgeStep true x.raw.1 b) ta
    else if db then (put s a x.raw.2).portEdge p (edgeStep false a x.raw.2) tb
    else s

/-- Levels of A and B of a digital port from this cycle on (R245); the first levels an enabled port sees are no change. -/
def State.takeLevels (s : State) (p : Nat) (a b : Bool) : State :=
  let s := s.passEdges p
  let x := s.port p
  if x.filtered.isNone then s.updPort p fun y => { y with filtered := some (a, b), raw := (a, b), since := (s.cycle, s.cycle) }
  else
    (s.updPort p fun y => { y with
      raw := (a, b)
      since := (if a = x.raw.1 then x.since.1 else s.cycle, if b = x.raw.2 then x.since.2 else s.cycle) }).passEdges p

/-- What an enabled port receives. -/
def State.takeInput (s : State) (p : Nat) (i : EncInput) : State :=
  if !s.flag (POS_PORT_CFG_EN p) then s
  else
    match i with
    | .sample sin cos => if p < 2 then s.takeSample p sin cos else s
    | .levels a b => if p < 2 then s else s.takeLevels p a b

/-- Bring every port, the counter and what follows it up to this cycle. -/
def State.posNow (s : State) : State :=
  if !s.runs 8 then s
  else (List.range 4).foldl (fun s p => if s.flag (POS_PORT_CFG_EN p) then (s.passEdges p).bringPort p else s) s

/-- A write of 1 to fault bits (R252): a port of which one clears has its window counts and CONSEC reset, and with SLIP its grid
is fixed anew. -/
def State.clearFaults (s : State) (v : Word) : State :=
  let clears (k : Nat) : Bool := v.getLsbD k && (s.reg POS_FAULT).getLsbD k
  let s := s.setReg POS_FAULT (s.reg POS_FAULT &&& ~~~v)
  let s := (List.range 4).foldl (fun s p =>
    if clears (4 + p) || clears (8 + p) || clears (12 + p) then
      let slip := clears (12 + p)
      let s := s.updPort p fun x => { x with ill := 0, amp := 0, grid := if slip then none else x.grid }
      let s := s.put (POS_PORT_STAT_CONSEC p) 0
      if slip then s.putFlag (POS_PORT_STAT_GRID p) false else s
    else s) s
  s.syncValid

/-! ## Index (R246) -/

/-- A crossing of a port's index: Z of a digital port passes its filter (R245), and an index crossed backward is ignored. -/
def State.crossIndex (s : State) (p stable : Nat) : State :=
  let per := s.get (POS_PORT_INDEX_PERIOD p)
  if !s.flag (POS_PORT_CFG_EN p) || !s.flag (POS_PORT_INDEX_EN p) || per = 0 || (2 ≤ p && decide (stable < s.filt p))
      || !(s.port p).forward then s
  else
    let x := s.rawCount p
    match (s.port p).grid with
    | none => (s.updPort p fun q => { q with grid := some x }).putFlag (POS_PORT_STAT_GRID p) true
    | some g =>
      let m := per * s.perPeriod p
      let e := g + roundDiv (diff48 x g) m * m
      let dev := diff48 x e
      let s := s.setReg (POS_PORT_INDEX_DEV p) (BitVec.ofInt 32 (clampInt (-(2 ^ 31)) (2 ^ 31 - 1) dev))
      if dev.natAbs ≤ 2 * s.perPeriod p then s.put (POS_PORT_STAT_CONSEC p) 0
      else
        let s := (s.incSat (POS_PORT_STAT_MISMATCH p)).posCount POS_STB_INDEX_MISMATCH_COUNT 1
        let s := (s.addSat (POS_PORT_STAT_CONSEC p) 1).raise 111
        if s.get (POS_PORT_STAT_CONSEC p) = 3 ∧ ¬ s.flag ⟨POS_FAULT, 12 + p, 1⟩ then s.setFaults [(p, 12 + p)] else s

/-! ## Registers with an effect of their own -/

/-- A write of POS_SEL (R254): PRIMARY, BACKUP and BACKUP_EN are discarded while a channel prints; RESELECT is refused while the
primary port has a fault. A PRIMARY written while the backup is not active becomes the active port. -/
def State.writeSel (s : State) (v : Word) : State :=
  let s := if s.anyPrinting then s
    else
      let s := s.setReg POS_SEL (v &&& 0x133#32)
      if !s.flag POS_STAT_ON_BACKUP && s.activePort ≠ s.get POS_SEL_PRIMARY then s.switchPort (s.get POS_SEL_PRIMARY) else s
  if !v.getLsbD 12 || s.portFault (s.get POS_SEL_PRIMARY) then s.syncValid
  else if s.anyPrinting then s.putFlag POS_STAT_RESELECT_PENDING true
  else s.reselect

/-- Load the position counter (R247); H equals it (R248). -/
def State.loadCounter (s : State) (x : Int) : State :=
  if s.flag FIR_STAT_RUNNING then s
  else (s.setPos48 POS_COUNT_LO POS_COUNT_HI x).setPos48 POS_HWM_LO POS_HWM_HI x

/-- Masks of the units that hold a started pulse, joined by OR. -/
def State.drivenBy (s : State) (f : Nat → Fld) : Nat :=
  (List.range 16).foldl (fun v n => if (s.pos.pulses.getD n []).any fun p => p.started then v ||| s.get (f n) else v) 0

/-- Levels of TRIG_0 to TRIG_15 and MARK_0 to MARK_7. -/
def State.outLevels (s : State) : BitVec 16 × BitVec 8 :=
  (BitVec.ofNat 16 (s.drivenBy POS_CMP_CTL_TRIG ^^^ s.get POS_OUT_POL_TRIG_POL),
    BitVec.ofNat 8 (s.drivenBy POS_CMP_CTL_MARK ^^^ s.get POS_OUT_POL_MARK_POL))

/-- Record the levels of the outputs where a write has changed them. -/
def State.redrive (s : State) (old : BitVec 16 × BitVec 8) : State :=
  if s.outLevels = old then s else s.emit (.levels s.outLevels.1 s.outLevels.2)

/-- A write of POS_CMP_n_CTL (R256, R258); unit 0 takes none while FIR owns it. -/
def State.writeCmp (s : State) (n : Nat) (v : Word) (same : Bool) : State :=
  if s.flag (POS_CMP_STAT_OWNED n) then s
  else
    let s := (s.setReg (POS_CMP_CTL n) (v &&& 0xA0FFFFFF#32)).redrive s.outLevels
    if !v.getLsbD 30 then s
    else
      let t : Int := s.pos48 (POS_CMP_TGT_LO n) (POS_CMP_TGT_HI n) * 2 ^ 32
      let st := s.getPair (POS_CMP_STEP_LO n) (POS_CMP_STEP_HI n)
      let s := { s with pos := { s.pos with
        target := s.pos.target.set n t, step := s.pos.step.set n st, count := s.pos.count.set n (s.reg (POS_CMP_COUNT n)).toNat } }
      if same then s.putFlag (POS_CMP_STAT_LATE n) true else s

/-! ## Pulses (R257) -/

/-- Record a unit's pulse edge with the levels of the outputs after it. -/
def State.emitPulse (s : State) (n : Nat) (high : Bool) : State := s.emit (.pulse n high s.outLevels.1 s.outLevels.2)

/-- The pulse of a fire starts, DELAY cycles after it. -/
def State.startPulse (s : State) (n : Nat) : State :=
  let l := s.pos.pulses.getD n []
  match l.findIdx? fun p => !p.started && decide (p.start ≤ s.cycle) with
  | none => s
  | some i => ({ s with pos := { s.pos with pulses := s.pos.pulses.set n (l.set i ⟨s.cycle, true⟩) } }).emitPulse n true

/-- The oldest pulse of a unit that began WIDTH cycles ago ends. -/
def State.endPulse (s : State) (n : Nat) : State :=
  let l := s.pos.pulses.getD n []
  match l.findIdx? fun p => p.started && decide (p.start + max 1 (s.get (POS_CMP_PULSE_WIDTH n)) ≤ s.cycle) with
  | none => s
  | some i => ({ s with pos := { s.pos with pulses := s.pos.pulses.set n (l.eraseIdx i) } }).emitPulse n false

/-! ## Meanings -/

/-- ENCODER_MOTION (R241 to R250). -/
def execEncoderMotion (port : Fin 4) (input : EncInput) (dt : Nat) (s : State) : Host.Outcome State Fault Refusal :=
  s.done (let s := s.tick dt; if s.runs 8 then s.takeInput port.val input else s)

/-- INDEX_CROSSING (R246). -/
def execIndexCrossing (port : Fin 4) (stable : Nat) (dt : Nat) (s : State) : Host.Outcome State Fault Refusal :=
  s.done (let s := (s.tick dt).posNow; if s.runs 8 then s.crossIndex port.val stable else s)

/-- FAULT_WINDOW_END (R252, R253). -/
def execFaultWindowEnd (dt : Nat) (s : State) : Host.Outcome State Fault Refusal :=
  s.done (let s := s.tick dt; if s.runs 8 then (s.tickTo (s.pos.windowAt + s.windowLen)).rollWindow else s)

/-- SPEED_STALE (R250): POS_SPEED and POS_ACCEL are written with the estimates of this cycle. -/
def execSpeedStale (dt : Nat) (s : State) : Host.Outcome State Fault Refusal :=
  s.done (let s := (s.tick dt).posNow; if s.runs 8 then s.syncSpeed else s)

/-- ILLEGAL_EDGE (R243, R245): the input is judged as any other is. -/
def execIllegalEdge (port : Fin 4) (input : EncInput) (dt : Nat) (s : State) : Host.Outcome State Fault Refusal :=
  s.done (let s := s.tick dt; if s.runs 8 then s.takeInput port.val input else s)

/-- AMP_BAD (R243): the sample is judged as any other is. -/
def execAmpBad (port : Fin 4) (sin cos : BitVec 14) (dt : Nat) (s : State) : Host.Outcome State Fault Refusal :=
  s.done (let s := s.tick dt; if s.runs 8 then s.takeInput port.val (.sample sin cos) else s)

/-- CMP_FIRE (R256): of a unit the line clock does not own. -/
def execCmpFire (unit : Fin 16) (dt : Nat) (s : State) : Host.Outcome State Fault Refusal :=
  s.done (let s := (s.tick dt).posNow
    if s.runs 8 && s.cmpDue unit.val && !s.flag (POS_CMP_STAT_OWNED unit.val) then s.fireUnit unit.val else s)

/-- CMP_PULSE (R256, R257). -/
def execCmpPulse (unit : Fin 16) (dt : Nat) (s : State) : Host.Outcome State Fault Refusal :=
  s.done (let s := s.tick dt; if s.runs 8 then s.startPulse unit.val else s)

/-- CMP_LOAD (R258). -/
def execCmpLoad (by_ : By) (unit : Fin 16) (value : Word) (same : Bool) (s : State) : Host.Outcome State Fault Refusal :=
  s.done (s.hostWrite by_ (POS_CMP_CTL unit.val) fun s => s.writeCmp unit.val (value ||| 0x40000000#32) same)

/-- ENC_RESELECT (R254). -/
def execEncReselect (by_ : By) (value : Word) (s : State) : Host.Outcome State Fault Refusal :=
  s.done (s.hostWrite by_ POS_SEL fun s => s.writeSel (value ||| 0x1000#32))

/-- POS_COUNT_LOAD (R247). -/
def execPosCountLoad (by_ : By) (count : BitVec 48) (s : State) : Host.Outcome State Fault Refusal :=
  s.done (s.hostWrite by_ POS_COUNT_HI fun s => s.loadCounter (signed 48 count.toNat))

/-- POS_FAULT_CLEAR (R252). -/
def execPosFaultClear (by_ : By) (value : Word) (s : State) : Host.Outcome State Fault Refusal :=
  s.done (s.hostWrite by_ POS_FAULT fun s => s.clearFaults value)

/-- REACH_ANCHOR (R214, R259). -/
def execReachAnchor (dt : Nat) (s : State) : Host.Outcome State Fault Refusal :=
  s.done (let s := (s.tick dt).posNow
    if s.runs 8 && s.flag FIR_STAT_RUNNING && s.flag (POS_CMP_STAT_OWNED 0) && s.cmpDue 0 then s.rollAnchor.reachAnchor else s)

/-- FORCED_ANCHOR (R216). -/
def execForcedAnchor (dt : Nat) (s : State) : Host.Outcome State Fault Refusal :=
  s.done (let s := (s.tick dt).posNow
    if s.clockRuns && (s.newestAnchor.map s.strays).getD false then s.rollAnchor.forceAnchor else s)

end Sys2Proof.Machine
end

