-- ==== Sys2Proof/Machine/Frames.lean ====
section
/-! DEFINITION. Frames, markers and the fixing of lines (R217, R218 to R226, R234 to R236, R268 to R270, R284 to R286), and the start
and end of a run of the line clock (R231 to R234, R500). -/

namespace Sys2Proof.Machine

/-! ## Over-temperature (R236) -/

/-- Lines and pages of the rows a carrier holds for a die, each once. -/
def State.heldLines (s : State) (c d : Nat) : List (Int × Word) :=
  ((s.fir.held.filter fun h => h.ch = c && h.die = d && !h.dead).map fun h => (h.line, h.page)).eraseDups

/-- A die is blanked (R236): its held rows are withheld from the next marker on. A die on its way back is blanked anew. -/
def State.blankDie (s : State) (c d : Nat) : State :=
  let back := s.fir.returning.any fun r => r.1 = c && r.2.1 = d
  if s.hot c d && !back then s
  else
    let lines := s.heldLines c d
    let s := (s.setHot c d true).raise 104
    let s := { s with fir := { s.fir with
      returning := s.fir.returning.filter fun (r : Nat × Nat × Int) => !(r.1 = c && r.2.1 = d)
      held := s.fir.held.map fun (h : HeldRow) => if h.ch = c && h.die = d then { h with dead := true } else h } }
    lines.foldl (fun s l => s.hotLine l.2 c d) s

/-- Whether data of absolute line a on a die are blanked (R236, R237). -/
def State.hotAt (s : State) (c d : Nat) (a : Int) : Bool :=
  s.hot c d && !(s.fir.returning.any fun r => r.1 = c && r.2.1 = d && decide (r.2.2 ≤ a))

/-! ## Fire intervals (R224) -/

/-- Cycle in which a held row fires at the marker of a line whose boundary is t. -/
def State.fireTime (s : State) (t : Nat) (h : HeldRow) : Int := t + h.dly - s.lead

/-- Check a held row against the previous fire of its die-row; whether it is withheld, and the state after. -/
def State.checkRow (s : State) (t : Nat) (h : HeldRow) : Bool × State :=
  let f := s.fch h.ch
  let fire := s.fireTime t h
  let prev := (f.fired.find? fun e => e.1 = (h.die, h.row)).map fun e => e.2
  if (prev.map fun p => decide (fire - p < (h.p - h.p / 256 : Nat))).getD false then
    let s := (s.firCount FIR_STB_PERIOD_STEP_COUNT 1 (some h.page)).raise 103 h.page
    (true, s.defect h.page (chBit h.ch) 1 false)
  else
    (false, s.updFch h.ch fun f => { f with
      fired := ((h.die, h.row), fire.toNat) :: f.fired.filter fun e => e.1 ≠ (h.die, h.row) })

/-- Check rows due at one line in turn; the withheld die-rows. -/
def State.checkRows (s : State) (t : Nat) (l : List HeldRow) : List (Nat × Nat) × State :=
  l.foldl (fun (r : List (Nat × Nat) × State) h =>
    let q := r.2.checkRow t h
    (if q.1 then r.1 ++ [(h.die, h.row)] else r.1, q.2)) ([], s)

/-! ## The frame builder (R218 to R221, R284, R285) -/

/-- (die, row) pairs of a line that have data on a carrier, in the order of its frame. -/
def frameRows (n : Nat) (l : AsmLine) : List (Nat × Nat) :=
  (List.range 26).flatMap fun d =>
    ((List.range 6).filter fun j => l.fires.any fun f => f.die = 26 * (n % 2) + d && f.row = j).map fun j => (26 * (n % 2) + d, j)

/-- One row block of a frame. -/
def State.rowBlock (s : State) (l : AsmLine) (z : Nat × Nat) : RowBlock :=
  let f := s.fch l.ch
  { die := z.1 % 26, row := z.2, delay := s.lineDelay l.ch z.1 z.2
    dly := s.dly l.ch z.1 z.2 (f.phase.getD z.1 0), width := f.width.getD z.1 960
    data := (l.fires.filter fun f => f.die = z.1 && f.row = z.2).map fun f => (f.col, f.level) }

/-- Strobe width and pre-fire pulse of each die of carrier n in the header of a frame (R221, R284). -/
def State.dieHeads (s : State) (n : Nat) (pre : Bool) : List (Nat × Nat) :=
  (List.range 26).map fun d =>
    let w := (s.fch (n / 2)).width.getD (26 * (n % 2) + d) 960
    (w, if pre then w * bits (s.fch (n / 2)).strobeT 24 8 / 256 else 0)

/-- The row a carrier now holds. -/
def State.heldRow (s : State) (l : AsmLine) (b : RowBlock) (side : Nat) : HeldRow :=
  { ch := l.ch, die := 26 * side + b.die, row := b.row, line := l.line
    at_ := l.line - (s.fch l.ch).a0.getD 0 + b.delay, dly := b.dly, p := l.p, page := l.page.getD 0, dead := false }

/-- Carrier n holds a row; where the line it fires at is fixed already, it is checked now (R224). -/
def State.hold (s : State) (n : Nat) (h : HeldRow) : State :=
  let a := h.at_ + (s.fch h.ch).a0.getD 0
  let s := { s with fir := { s.fir with held := s.fir.held ++ [h] } }
  match s.fir.lines.find? fun f => f.ch = h.ch && f.line = a && (if n % 2 = 0 then f.left else f.right) with
  | none => s
  | some f =>
    let r := s.checkRow f.t h
    if r.1 then
      { r.2 with fir := { r.2.fir with lines := r.2.fir.lines.map fun (x : FixedLine) =>
          if x.ch = h.ch && x.line = a then { x with withheld := x.withheld ++ [(h.die, h.row)] } else x } }
    else r.2

/-- A line's frame for a carrier is no longer to be sent; the line is dropped once both are gone. -/
def State.frameGone (s : State) (n : Nat) (a : Int) : State :=
  let sent (l : AsmLine) : AsmLine :=
    if l.ch = n / 2 && l.line = a then (if n % 2 = 0 then { l with left := false } else { l with right := false }) else l
  let ls := (s.asm.lines.map sent).filter fun (l : AsmLine) => l.left || l.right
  { s with asm := { s.asm with lines := ls } }

/-- The oldest assembled line whose frame for a carrier is still to be sent. -/
def State.nextFrame (s : State) (n : Nat) : Option AsmLine :=
  s.asm.lines.find? fun l => l.ch = n / 2 && (if n % 2 = 0 then l.left else l.right)

/-- Send the frame of a line to carrier n (R220, R221, R284); rows of blanked dies are left out (R236), and a line from the
channel's stop on carries nothing. -/
def State.sendFrame (s : State) (n : Nat) (l : AsmLine) : State :=
  let c := n / 2
  let s := s.phaseStep n l.line
  let stopped := (((s.fch c).stop).map fun x => decide (x ≤ l.line)).getD false
  let rows := if stopped then [] else frameRows n l
  let dead := ((rows.filter fun z => s.hotAt c z.1 l.line).map fun z => z.1).eraseDups
  let live := rows.filter fun z => !s.hotAt c z.1 l.line
  let s := if live.any fun z => (s.rowPos c z.1 z.2).2 then s.putFlag FIR_STAT_Q_RANGE true else s
  let blocks := live.map fun z => s.rowBlock l z
  let s := dead.foldl (fun s d => s.hotLine (l.page.getD 0) c d) s
  let pre := decide (l.line < (s.fch c).a0.getD 0) && 0 < bits (s.fch c).strobeT 24 8
  let s := s.emit (.frame n l.line pre blocks)
  let frame := frameOf l.line (s.dieHeads n pre) blocks
  let s := if s.runs 9 then (s.queueItem n ⟨some l.line, frame⟩).liveMax JGL_STB_FRAME_MAX_COUNT frame.length else s
  let s := (blocks.map fun b => s.heldRow l b (n % 2)).foldl (fun s h => s.hold n h) s
  let phased := live.any fun z => 0 < (s.fch c).phase.getD z.1 0
  let j := l.line - (s.fch c).a0.getD 0
  let s := if phased then { s with ins := { s.ins with noMarks := s.ins.noMarks ++ [(c, j, j)] } } else s
  s.frameGone n l.line

/-! ## Markers (R222, R223, R268, R269) -/

/-- The oldest fixed line whose marker carrier n still waits for. -/
def State.nextMarker (s : State) (n : Nat) : Option FixedLine :=
  s.fir.lines.find? fun l => l.ch = n / 2 && (if n % 2 = 0 then l.left else l.right)

/-- A line is fired blank on a carrier because its frame is late. -/
def State.countLate (s : State) (n : Nat) (page : Option Word) : State :=
  let s := (s.firCount FIR_STB_FRAME_LATE_COUNT 1 page).raise 106 (page.getD 0)
  match page with
  | none => s
  | some id => s.defect id (chBit (n / 2)) 1 false

/-- The frame of a line is not complete when its marker is due (R223): it is not sent any more, also where the line is not assembled
yet, or where it is under way; the carrier then has no rows of it. -/
def State.lateFrame (s : State) (n : Nat) (a : Int) : State :=
  if s.frameUnderWay n a then
    let s := s.cutFrame n a
    ({ s with fir := { s.fir with
      held := s.fir.held.filter fun (h : HeldRow) => !(h.ch = n / 2 && h.die / 26 = n % 2 && decide (h.line = a)) } }).countLate n
        ((s.firePage (n / 2) a).map fun (p : Page) => p.id)
  else
  match s.asm.lines.find? fun l => l.ch = n / 2 && l.line = a && (if n % 2 = 0 then l.left else l.right) with
  | some l => (s.frameGone n a).countLate n l.page
  | none =>
    if a < (s.fch (n / 2)).asm then s
    else ({ s with fir := { s.fir with late := s.fir.late ++ [(n, a)] } }).countLate n ((s.firePage (n / 2) a).map fun (p : Page) => p.id)

/-- Rows of carrier n due at the marker of run line j. -/
def State.dueRows (s : State) (n : Nat) (j : Int) : List HeldRow :=
  s.fir.held.filter fun h => h.ch = n / 2 && h.die / 26 = n % 2 && h.at_ = j

/-- Send the marker of a fixed line to carrier n. -/
def State.sendMarker (s : State) (n : Nat) (l : FixedLine) : State :=
  let c := n / 2
  let j := l.line - (s.fch c).a0.getD 0
  let s := (s.drain n).lateFrame n l.line
  let s := if l.discard then s.discardHeld n else s
  let due := s.dueRows n j
  let wh := ((l.withheld.filter fun z => z.1 / 26 = n % 2) ++ (due.filter fun h => h.dead).map fun h => (h.die, h.row)).eraseDups
  let kind := if (s.carrier n).started then 0 else 2
  let s := if kind = 2 then s.discardHeld n else s
  let s := (s.updCarrier n fun x => { x with started := true }).queueMarker n ⟨kind, l.line, wh.map fun z => (z.1 % 26, z.2), l.discard⟩
  { s with fir := { s.fir with
      held := s.fir.held.filter fun (h : HeldRow) => !(h.ch = c && h.die / 26 = n % 2 && decide (h.at_ ≤ j))
      lines := (s.fir.lines.map fun (x : FixedLine) =>
        if x.ch = c && x.line = l.line then (if n % 2 = 0 then { x with left := false } else { x with right := false })
        else x).filter fun (x : FixedLine) => x.left || x.right || !x.passed } }

/-! ## Fixing a line (R217, R224 to R226, R228) -/

/-- At the fix of a page's first line the FIR set of the channel hands over (R225), and PWR tests R367. -/
def State.enterPageFir (s : State) (c : Nat) (p : Page) : State :=
  let s := s.numberPage p.id
  let q := s.pageSeq p.id
  let had := (s.pendingSet .fir c).isSome
  let s := s.handChannel .fir c q p.name
  let s := s.updFch c fun f => { f with seq := q }
  if had then s.noticeCheck c else s

/-- Fix the next line of channel c under the parameters in force (R217). -/
def State.fixLine (s : State) (c : Nat) (p : Anchor) : State :=
  let a := (s.fch c).fix
  let j := a - (s.fch c).a0.getD 0
  let page := s.firePage c a
  let s := match page with
    | some q => if q.first = some j then s.enterPageFir c q else s
    | none => s
  let phasing := s.ramps c
  let s := s.rampStep c (p.p / 256)
  let s := if phasing then
      ({ s with ins := { s.ins with noMarks := s.ins.noMarks ++ [(c, j, j)] } }).firCount FIR_STB_RAMP_LINES_COUNT 1 (page.map fun (q : Page) => q.id)
    else s
  let f := s.fch c
  let t := max (s.lineTime p c a) (max ((f.t : Int) + 1) (s.cycle + s.lead + s.dMax c)) |>.toNat
  let blank := (f.stop.map fun x => decide (x ≤ a)).getD false
  let r := if blank then ([], s)
    else s.checkRows t (s.fir.held.filter fun h => h.ch = c && h.at_ = j && !h.dead)
  let s := if s.overspeed c p.p then r.2.firCount FIR_STB_OVERSPEED_LINES_COUNT 1 (page.map fun p => p.id) else r.2
  let l : FixedLine :=
    { ch := c, line := a, t := t, p := p.p, page := (page.map fun p => p.id).getD 0, passed := false
      discard := f.stop = some a, blank := blank, withheld := r.1, left := true, right := true }
  let s := { s with fir := { s.fir with lines := s.fir.lines ++ [l] } }
  s.updFch c fun f => { f with fix := a + 1, t := t, p := p.p }

/-! ## A run starts (R231 to R233, R500) -/

/-- Lay out the first page of a job that continues the run: the first run line that keeps START_DIST and R232 from X_s (R500). A
tandem leader, which knows X_s now, gives the start pulse (log entry 101, DEDUCED). -/
def State.continueRun (s : State) (job : BitVec 16) (xs : Int) : State :=
  match s.job? job with
  | none => s
  | some j =>
    let cl : Int := s.fir.cl
    let up (x : Int) : Int := -((-x) / cl)
    let xs := (s.newestAnchor.map fun a => near48 (a.y / 2 ^ 32) xs).getD xs
    let far := up ((xs + s.startDist - s.fir.w0) * 2 ^ 32)
    let each := (bitList j.mask).map fun c => up (64 * cl + (xs - s.fir.w0) * 2 ^ 32 - s.offsetActive c)
    let base := if s.fir.laid then s.fir.endLine + j.gap else s.fir.endLine
    let first := each.foldl max (max base far)
    let s := { s with fir := { s.fir with endLine := if s.fir.laid then first - j.gap else first } }
    (s.layOut job).leaderPulse 160

/-- Channels that have entered Prime enter the run and count their lines anew (R53, R54). -/
def State.enterChannels (s : State) : State :=
  (List.range 8).foldl (fun s c =>
    if s.chMode c = 6 && (s.fir.entering.getLsbD c || !(s.fch c).on) then s.enterRun c else s) s

/-- X_s is known: the job that waits starts, and jobs queued behind it follow on its run lines. -/
def State.beginRun (s : State) (xs : Int) : State :=
  match s.fir.waiting with
  | none => s
  | some job =>
    let later := s.fir.later
    let s := ({ s with fir := { s.fir with waiting := none, later := [] } }).putFlag FIR_STAT_WAIT_TRIGGER false
    let s := if s.flag FIR_STAT_RUNNING then s.continueRun job xs else s.startClock job xs
    let s := later.foldl (fun s id => s.layOut id) s.enterChannels
    s.dueNow.openLines

/-- Whether the start waits for a trigger or a start pulse (R231, R239). -/
def State.startWaits (s : State) : Bool := s.ctlGet FIR_CTL_TANDEM = 2 || s.ctlGet FIR_CTL_START_MODE = 1

/-- A job starts a run, or continues one, at once or at its trigger. -/
def State.startJobRun (s : State) (job : BitVec 16) : State :=
  let s := { s with fir := { s.fir with waiting := some job } }
  if s.startWaits then s.putFlag FIR_STAT_WAIT_TRIGGER true else (s.posNow).beginRun s.posNow.counter

/-! ## A run ends (R234, R500) -/

/-- Whether nothing of channel c is still to be assembled into a frame, held or marked. -/
def State.trailDone (s : State) (c : Nat) : Bool :=
  (s.chMode c = 9 || s.chMode c = 5 || s.chMode c = 2 || s.fir.entering.getLsbD c)
    && (s.asm.lines.all fun l => l.ch ≠ c || l.fires.isEmpty)
    && (s.fir.held.all fun h => h.ch ≠ c || h.dead)
    && (s.fir.lines.all fun l => l.ch ≠ c || (!l.left && !l.right))

/-- Channels whose blank trailer is done leave the run; with all gone and the station through, the line clock stops, and a job
that waits for that starts afresh. -/
def State.endTrail (s : State) : State :=
  if !s.flag FIR_STAT_RUNNING then s
  else
    let s := (List.range 8).foldl (fun s c =>
      if (s.fch c).on && s.trailDone c then (s.updFch c fun f => { f with on := false }).put ⟨ASM_STAT, c, 1⟩ 0 else s) s
    let busy := (List.range 8).any fun c => (s.fch c).on || decide ((s.fch c).next < (s.fch c).fix)
    if busy || s.fir.waiting.isSome || !s.stationDone then s
    else
      let restart := s.fir.restart
      let s := { s.stopClock with fir := { s.stopClock.fir with restart := none } }
      match restart with
      | some job => s.startJobRun job
      | none => s

/-! ## Meanings -/

/-- LINE_FIX (R217). -/
def execLineFix (ch : Fin 8) (dt : Nat) (s : State) : Host.Outcome State Fault Refusal :=
  s.done (let s := (s.tick dt).rollAnchor
    match s.params with
    | none => s
    | some p =>
      if s.clockRuns && (s.fch ch.val).on && (s.fch ch.val).a0.isSome && p.p ≠ 0
          && decide (s.fixTime p ch.val (s.fch ch.val).fix ≤ s.cycle) then
        (s.fixLine ch.val p).endTrail
      else s)

/-- MARKER_SEND (R222). -/
def execMarkerSend (carrier : Fin 16) (dt : Nat) (s : State) : Host.Outcome State Fault Refusal :=
  s.done (let s := s.tick dt
    match s.nextMarker carrier.val with
    | none => s
    | some l =>
      if s.runs 8 && s.runs 9 && decide (l.t ≤ s.cycle + s.lead + s.latency carrier.val) then
        (s.sendMarker carrier.val l).endTrail
      else s)

/-- FRAME_SEND (R221, R284). -/
def execFrameSend (carrier : Fin 16) (dt : Nat) (s : State) : Host.Outcome State Fault Refusal :=
  s.done (let s := s.tick dt
    match s.nextFrame carrier.val with
    | none => s
    | some l => if s.runs 8 && s.runs 9 then (s.sendFrame carrier.val l).endTrail else s)

/-- START_TRIGGER (R231). -/
def execStartTrigger (gpi : Fin 8) (rising : Bool) (dt : Nat) (s : State) : Host.Outcome State Fault Refusal :=
  s.done (let s := (s.tick dt).posNow
    if s.runs 8 && s.flag FIR_STAT_WAIT_TRIGGER && s.ctlGet FIR_CTL_TANDEM ≠ 2 && s.ctlGet FIR_CTL_START_GPI = gpi.val
        && decide (s.ctlGet FIR_CTL_START_EDGE = 1) = !rising then
      s.beginRun s.counter
    else s)

/-- A start pulse of the leader (R239): taken in Prime, by a follower that waits for it. -/
def State.startPulseIn (s : State) : State :=
  if s.modeCode ≠ 6 then s.raise 107
  else if s.flag FIR_STAT_WAIT_TRIGGER then s.beginRun s.counter
  else s

/-- An anchor pulse of the leader (R239). -/
def State.anchorPulseIn (s : State) : State :=
  if !s.flag FIR_STAT_RUNNING then s
  else
    let dev := signed 80 (unsigned 80 (s.counter * 2 ^ 32 - s.anchorAt s.fir.nextReach)) / 2 ^ 32
    let s := s.setReg FIR_SYNC_DEV (BitVec.ofInt 32 (clampInt (-(2 ^ 31)) (2 ^ 31 - 1) dev))
    if s.get FIR_SYNC_CTL_SYNC_TOL < dev.natAbs then s.raise 107 else s

/-- LINE_SYNC_PULSE (R239). -/
def execLineSyncPulse (width : Nat) (dt : Nat) (s : State) : Host.Outcome State Fault Refusal :=
  s.done (let s := (s.tick dt).posNow
    if !s.runs 8 || s.ctlGet FIR_CTL_TANDEM ≠ 2 then s
    else if 100 < width then s.startPulseIn
    else if 20 ≤ width then s.anchorPulseIn
    else s)

end Sys2Proof.Machine
end

