-- ==== Sys2Proof/Machine/Boundary.lean ====
section
/-! DEFINITION. The line boundary of a channel and the page boundaries that fall on it (R30, R32, R43, R53 to R58, R158, R159, R237,
R282, R444). -/

namespace Sys2Proof.Machine

/-- Whether channel c takes page boundaries: it is in Prime, Print or Degraded. -/
def State.takesPages (s : State) (c : Nat) : Bool := 6 ≤ s.chMode c && s.chMode c ≤ 8

/-- Whether channel c is of the job of a page. -/
def State.pageOf (s : State) (p : Page) (c : Nat) : Bool := ((s.jobOf p).map fun j => j.mask.getLsbD c).getD false

/-- The page that begins at run line j on channel c, unless a stop keeps the channel from it. -/
def State.pageFrom (s : State) (c : Nat) (j : Int) : Option Page :=
  if s.sys.stop.isSome then none else s.pnd.pages.find? fun p => p.first = some j && s.pageOf p c && !p.begun.getLsbD c

/-- Whether channel c prints a page of the run that begins at run line j or later. -/
def State.printsAfter (s : State) (c : Nat) (j : Int) : Bool :=
  s.sys.stop.isNone && s.pnd.pages.any fun p => ((p.first.map fun f => decide (j ≤ f)).getD false) && s.pageOf p c

/-- The page of the live interval of channel c, and the run line after its last. -/
def State.pageEnd (s : State) (c : Nat) : Option Int :=
  ((s.sys.livePage.getD c none).bind s.page?).bind fun p => p.first.map fun f => f + p.lines

/-- What a page boundary of channel c restarts beside its bank: the once-per-page vectors, lanes that join traffic, and retrains
that wait for it (R282). -/
def State.restartPage (s : State) (c : Nat) : State :=
  let s := if s.get FIR_CTL_STAT_CH = c then { s with fir := { s.fir with once100 := false } } else s
  let s := { s with fir := { s.fir with once101 := putBit s.fir.once101 c false } }
  let s := if s.get POS_CTL_STAT_CH = c then { s with pos := { s.pos with once113 := false } } else s
  let s := if s.get PWR_CTL_STAT_CH = c then
      { s with pwr := { s.pwr with once195 := false, once196 := false, once197 := false } }
    else s
  [4 * c, 4 * c + 1, 4 * c + 2, 4 * c + 3].foldl (fun s l =>
    let s := if (s.lane l).rejoin then s.laneJoin l else s
    if (s.lane l).wanted && s.flag JGL_CTL_AUTO_RETRAIN then s.updLane l fun x => { x with due := true } else s) s

/-- Channel c leaves the page of its live interval: every line of it has been fired. -/
def State.leavePage (s : State) (c : Nat) : State :=
  match s.sys.livePage.getD c none with
  | none => s.latchPage c none false
  | some id =>
    let s := (s.latchPage c (some id) false).setLivePage c none
    let s := s.updPage id fun p => { p with fired := putBit p.fired c true }
    match s.page? id with
    | none => s
    | some p =>
      if (((s.jobOf p).map fun j => j.mask &&& s.sys.channels &&& ~~~p.fired).getD 1) = 0 then
        s.updJob p.job fun j => { j with nFired := j.nFired + 1 }
      else s

/-- Blanked dies return at their page boundary, absolute line a (R237). -/
def State.returnDies (s : State) (c : Nat) (a : Int) : State :=
  let back := s.fir.returning.filter fun r => r.1 = c && r.2.2 = a
  let s := { s with fir := { s.fir with returning := s.fir.returning.filter fun (r : Nat × Nat × Int) => !(r.1 = c && r.2.2 = a) } }
  back.foldl (fun s r => (s.setHot c r.2.1 false).raise 105) s

/-- Channel c begins page p at absolute line a. -/
def State.beginPage (s : State) (c : Nat) (a : Int) (p : Page) : State :=
  let s := s.updPage p.id fun q => { q with begun := putBit q.begun c true, queued := false }
  let s := s.updJob p.job fun j => { j with went := true }
  let s := s.setLivePage c (some p.id)
  let s := { s with
    sys := { s.sys with lastPage := s.sys.lastPage.set c p.name }
    fir := { s.fir with firedEnd := max s.fir.firedEnd (p.first.getD 0 + p.lines) } }
  (s.returnDies c a).bargePage c p.name

/-- Mode of channel c after its page boundary into a page (R53, R58). -/
def State.printMode (s : State) (c : Nat) : Nat := if s.degraded c then 8 else 7

/-- The page boundary of channel c at absolute line a, if one falls there: into a page, or out of one with none to follow. -/
def State.pageBoundary (s : State) (c : Nat) (a : Int) : State :=
  let j := a - (s.fch c).a0.getD 0
  if !s.takesPages c then s
  else
    match s.pageFrom c j with
    | some p =>
      let s := ((s.leavePage c).restartPage c).beginPage c a p
      let s := s.moveChannel c (s.printMode c)
      { s with sys := { s.sys with degradeDue := putBit s.sys.degradeDue c false } }
    | none =>
      match s.pageEnd c with
      | none => s
      | some e =>
        if e ≤ j && !s.printsAfter c j then
          let s := (s.leavePage c).restartPage c
          let s := if s.sys.stop.isSome then s.drainOnStop c j else s
          s.moveChannel c 9
        else s

/-- A channel in Print with a Degraded cause detected since its last line boundary enters Degraded (R58). -/
def State.degradeLine (s : State) (c : Nat) : State :=
  if s.sys.degradeDue.getLsbD c then
    let s := { s with sys := { s.sys with degradeDue := putBit s.sys.degradeDue c false } }
    if s.chMode c = 7 && s.degraded c then s.moveChannel c 8 else s
  else s

/-- The boundary of a fixed line passes. -/
def State.passLine (s : State) (l : FixedLine) : State :=
  let s := s.updFch l.ch fun f => { f with bt := l.t, next := l.line + 1 }
  { s with fir := { s.fir with
      lines := (s.fir.lines.map fun (x : FixedLine) => if x.ch = l.ch && x.line = l.line then { x with passed := true } else x).filter
        fun (x : FixedLine) => x.left || x.right || !x.passed } }

/-- What a line boundary of channel c at absolute line a does, its line having passed. -/
def State.lineBoundary (s : State) (c : Nat) (a : Int) (ecc : List (Nat × Bool)) : State :=
  let s := (s.degradeLine c).pageBoundary c a
  let s := s.setReg (FIR_CH_LINE c) (BitVec.ofInt 32 a)
  let s := if s.get FIR_CTL_STAT_CH = c then s.firCount FIR_STB_LINES_COUNT 1 (s.sys.livePage.getD c none) else s
  let s := s.dueBands c a
  let s := if s.runs 7 then s.assemble c (a + s.guard) ecc else s
  let s := if (s.fch c).stop.any fun x => decide (x ≤ a) then s.passStop c else s
  ((s.settleAll.jobCheck).follow).endTrail

/-- LINE_BOUNDARY (R30, R158, R217). -/
def execLineBoundary (ch : Fin 8) (dt : Nat) (ecc : List (Nat × Bool)) (s : State) : Host.Outcome State Fault Refusal :=
  s.done (let s := s.tick dt
    match s.fir.lines.find? fun l => l.ch = ch.val && l.line = (s.fch ch.val).next && !l.passed with
    | none => s
    | some l => if s.runs 8 && decide (l.t ≤ s.cycle) then (s.passLine l).lineBoundary ch.val l.line ecc else s)

end Sys2Proof.Machine
end

