-- ==== Sys2Proof/Machine/Web.lean ====
section
/-! DEFINITION. The stages of the image pipeline as functions of lines (R314), and the analyser feed (R318): what a frame shows at a place of
the web. Log entries 22 and 137 name what the stages leave open. -/

namespace Sys2Proof.Machine

/-- A quotient the formulas leave unrounded, in a stage. -/
def camDiv (stage a b : Nat) : Nat := if b = 0 then 0 else if Config.roundUp stage then ceilDiv a b else a / b

/-- A little-endian u16 at an offset of a table. -/
def tableU16 (l : List Byte) (off : Nat) : Nat := (l.getD off 0).toNat + 256 * (l.getD (off + 1) 0).toNat

/-- Stage 1: a pixel as sent to 12 bits. -/
def unpackPixel (w : Nat) (p : BitVec 12) : BitVec 12 := BitVec.ofNat 12 (p.toNat % 2 ^ w * 2 ^ (12 - w))

/-- Whether (x, y) is in a defect map. -/
def inDefectMap (l : List Byte) (x y : Nat) : Bool :=
  (List.range 1024).any fun i => tableU16 l (4 * i) = x && tableU16 l (4 * i + 2) = y

/-- Stage 2: black level. -/
def blackLine (black : Nat) (l : List (BitVec 12)) : List Nat := l.map fun p => p.toNat - black

/-- Stage 3 of line y: the line after it and the pixels fixed without the map. `step` is the distance of same-colour neighbours. -/
def defectLine (map : List Byte) (thr step y : Nat) (l : List Nat) : List Nat × Nat :=
  let w := l.length
  let one (x p : Nat) : Nat × Nat :=
    let sides := (if step ≤ x then [l.getD (x - step) 0] else []) ++ (if x + step < w then [l.getD (x + step) 0] else [])
    let mean := camDiv 3 sides.sum sides.length
    if inDefectMap map x y then (if sides.isEmpty then p else mean, 0)
    else if thr ≠ 0 ∧ sides.length = 2 ∧ ((sides.all fun q => q + thr < p) ∨ sides.all fun q => p + thr < q) then (mean, 1)
    else (p, 0)
  let r := l.zipIdx.map fun q => one q.2 q.1
  (r.map fun q => q.1, (r.map fun q => q.2).sum)

/-! ## Colours -/

/-- Colour plane of a pixel, in reading order of the filter array: 0 to 3; mono is plane 0. -/
def planeOf (cfa x y : Nat) : Nat := if cfa = 0 then 0 else 2 * (y % 2) + x % 2

/-- Which of R, GR, GB and B stands in a plane. -/
def planeGain (cfa plane : Nat) : Nat :=
  match cfa with
  | 2 => [1, 0, 3, 2].getD plane 0
  | 3 => [2, 3, 0, 1].getD plane 0
  | 4 => [3, 2, 1, 0].getD plane 0
  | 1 => plane
  | _ => 0

/-- Colour at a pixel: 0 red, 1 green, 2 blue. -/
def colourAt (cfa x y : Nat) : Nat := [0, 1, 1, 2].getD (planeGain cfa (planeOf cfa x y)) 0

/-- Stage 4 of line y: flat field and gain. -/
def flatLine (cfa y : Nat) (ff : List Byte) (g : List Nat) (l : List Nat) : List Nat :=
  l.zipIdx.map fun q =>
    min 4095 (camDiv 4 (q.1 * tableU16 ff (2 * q.2) * g.getD (planeGain cfa (planeOf cfa q.2 y)) 0) (4096 * 1024))

/-- A pixel of a plane; none outside it. -/
def pixelIn (l : List (List Nat)) (x y : Nat) : Option Nat := (l[y]?).bind fun (r : List Nat) => r[x]?

/-- Stage 5: a colour at a pixel by bilinear interpolation: the pixel's own, or the mean of those next to it. -/
def colourOf (cfa : Nat) (l : List (List Nat)) (c x y : Nat) : Nat :=
  if colourAt cfa x y = c then (pixelIn l x y).getD 0
  else
    let near := (List.range 3).flatMap fun j => (List.range 3).filterMap fun i =>
      if 1 ≤ x + i ∧ 1 ≤ y + j ∧ colourAt cfa (x + i - 1) (y + j - 1) = c then pixelIn l (x + i - 1) (y + j - 1) else none
    if near.isEmpty then (Config.noColour c x y).toNat else camDiv 5 near.sum near.length

/-- A colour plane of a frame. -/
def colourPlane (cfa : Nat) (l : List (List Nat)) (c : Nat) : List (List Nat) :=
  l.zipIdx.map fun q => (List.range q.1.length).map fun x => colourOf cfa l c x q.2

/-- Stage 6: luminance of every pixel, each line under the coefficients it entered with. -/
def luminance (cfa : Nat) (l lums : List (List Nat)) : List (List Nat) :=
  if cfa = 0 then l
  else l.zipIdx.map fun q => (List.range q.1.length).map fun x =>
    let t := lums.getD q.2 []
    min 4095 (camDiv 6 ((List.range 3).map fun c => t.getD c 0 * colourOf cfa l c x q.2).sum 1024)

/-! ## Stage 7: the web grid -/

/-- Entry k of a geometry table's affine map. -/
def geoEntry (t : List Byte) (k : Nat) : ℚ := (signed 32 (field t (4 * k) 4) : ℚ) / 2 ^ 16

/-- Cross-track correction k of a geometry table, in web columns. -/
def geoKnot (t : List Byte) (k : Nat) : ℚ := (signed 16 (field t (24 + 2 * k) 2) : ℚ) / 256

/-- Column and line of the sensor at a column and output line of the web grid (log entry 137, DESIGN CHOICE): the affine map, after the
correction interpolated between 33 knots spread evenly over the sensor's width. -/
def sensorPoint (t : List Byte) (width : Nat) (i j : ℚ) : ℚ × ℚ :=
  let across (u : ℚ) : ℚ := geoEntry t 0 * u + geoEntry t 1 * j + geoEntry t 2
  let at_ : ℚ := max 0 (min 32 (across i * 32 / ((width : ℚ) - 1)))
  let k := min 31 ⌊at_⌋.toNat
  let u := i + geoKnot t k + (geoKnot t (k + 1) - geoKnot t k) * (at_ - k)
  (across u, geoEntry t 3 * u + geoEntry t 4 * j + geoEntry t 5)

/-- The value of a plane between its pixels, by bilinear interpolation; none outside it. -/
def bilinear (l : List (List Nat)) (p : ℚ × ℚ) : Option Nat :=
  if p.1 < 0 ∨ p.2 < 0 then none
  else
    let x := ⌊p.1⌋.toNat
    let y := ⌊p.2⌋.toNat
    let fx := p.1 - x
    let fy := p.2 - y
    let two (a b : Option Nat) (f : ℚ) : Option ℚ :=
      if f = 0 then a.map fun (v : Nat) => (v : ℚ)
      else a.bind fun (v : Nat) => b.map fun (w : Nat) => (v : ℚ) + f * ((w : ℚ) - v)
    let top := two (pixelIn l x y) (pixelIn l (x + 1) y) fx
    let low := if fy = 0 then top else two (pixelIn l x (y + 1)) (pixelIn l (x + 1) (y + 1)) fx
    let v := top.bind fun (v : ℚ) => low.map fun (w : ℚ) => v + fy * (w - v)
    v.map fun (v : ℚ) => if Config.roundUp 10 then ⌈v⌉.toNat else ⌊v⌋.toNat

/-- A plane at a column and output line of the web grid; none outside the sensor's coverage. -/
def webPixel (l : List (List Nat)) (geo : List Byte) (width col line : Nat) : Option Nat :=
  bilinear l (sensorPoint geo width col line)

/-! ## The analyser feed (R318) -/

/-- Web position of an output line, in 2^-32 counts (R314, stage 7): lines follow TRIG_POS at the pitch of 600 to the inch. -/
def FeedFrame.pos (f : FeedFrame) (line : Nat) : Int := f.trigPos * 2 ^ 32 + (line : Int) * f.step

/-- Y of the feed at a web column and output line. -/
def FeedFrame.luma (f : FeedFrame) (col line : Nat) : Option Nat := webPixel f.plane f.geo f.width col line

/-- Whether what stands there draws on a line marked CRC_ERR. -/
def FeedFrame.torn (f : FeedFrame) (col line : Nat) : Bool :=
  let y := ⌊(sensorPoint f.geo f.width col line).2⌋.toNat
  f.marked.contains y || f.marked.contains (y + 1)

/-- A line of the feed: what each carries. -/
structure FeedLine where
  sensor : Nat
  frame : Nat
  tag : BitVec 16
  pos : Int
  /-- Web columns with their Y. -/
  cols : List (Nat × Nat)
  crcErr : Bool
  unknown : Bool
deriving DecidableEq, Repr

/-- Output line k of a frame in the feed. -/
def FeedFrame.line (f : FeedFrame) (k : Nat) : FeedLine where
  sensor := f.sensor
  frame := f.number
  tag := f.tag
  pos := f.pos k
  cols := (List.range 26624).filterMap fun i => (f.luma i k).map fun v => (i, v)
  crcErr := (List.range 26624).any fun i => (f.luma i k).isSome && f.torn i k
  unknown := f.unknown

end Sys2Proof.Machine
end

