-- ==== Sys2Proof/Machine/Analysis.lean ====
section
/-! DEFINITION. What the analysers find in the feed (R323 to R326, R336, R339): camera pixels of a page beside its reference, solo and paper
pixels, deficits, the marks of registration, and regions that differ from what the reference predicts. Log entry 138 names what the
spec leaves open. -/

namespace Sys2Proof.Machine

/-! ## The reference under a camera pixel -/

/-- A reference: the level of a channel, logical column and page line. -/
abbrev RefFn := Nat → Nat → Nat → Nat

/-- The reference decoded for a page; a position without raster has level 0. -/
def State.refLevel (s : State) (page : Word) : RefFn := fun c k x =>
  match s.ins.refs.find? fun (g : RefSeg) => g.page = page && g.ch = c && g.line = x && g.col = k / 4096 with
  | some g => (g.bytes.getD (k % 4096 / 4) 0).toNat / 4 ^ (k % 4) % 4
  | none => 0

/-- Camera lines of a page. -/
def PageView.height (v : PageView) : Nat := ceilDiv v.lines v.lpp

/-- Levels on channel c of the print pixels that camera pixel (i, y) covers; outside the page nothing is printed. -/
def covered (v : PageView) (r : RefFn) (c : Nat) (i y : Int) : List Nat :=
  if i < 0 ∨ y < 0 ∨ 26624 ≤ i ∨ (v.height : Int) ≤ y then [0]
  else (((List.range v.lpp).map fun t => v.lpp * y.toNat + t).filter fun x => x < v.lines).flatMap fun x =>
    [r c (2 * i.toNat) x, r c (2 * i.toNat + 1) x]

/-- Whether a camera pixel and its 8 neighbours cover level v on channel c and level 0 on every other (R323); v = 0 is paper. -/
def solo (w : PageView) (r : RefFn) (c v : Nat) (i y : Int) : Bool :=
  [-1, 0, 1].all fun dy => [-1, 0, 1].all fun dx => (List.range 8).all fun k =>
    (covered w r k (i + dx) (y + dy)).all fun l => l = if k = c then v else 0

/-- Channel and level that a camera pixel is solo for; level 0 is paper. -/
def soloOf (w : PageView) (r : RefFn) (i y : Nat) : Option (Nat × Nat) :=
  let here := (List.range 8).filterMap fun c =>
    match (covered w r c i y).headD 0 with
    | 0 => none
    | v => some (c, v)
  match here with
  | [] => if solo w r 0 0 i y then some (0, 0) else none
  | q :: _ => if solo w r q.1 q.2 i y then some q else none

/-! ## Camera pixels of a page -/

/-- A camera pixel of a page: its web column and camera line, what saw it, its Y, where on the web its line lies behind the page's first, in
2^-32 counts, the marks of its line and frame, and what it is solo for. -/
structure Pix where
  col : Nat
  line : Nat
  sensor : Nat
  luma : Nat
  off : Int
  torn : Bool
  unknown : Bool
  solo : Option (Nat × Nat)
deriving DecidableEq, Repr

/-- A difference of web positions in 2^-32 counts, read as signed 48-bit counts (R247). -/
def diff80 (a b : Int) : Int := signed 80 (unsigned 80 (a - b))

/-- What the feed shows of camera pixel (i, y): the first frame that covers it, at its line nearest the pixel's. -/
def State.pixAt (s : State) (v : PageView) (r : RefFn) (i y : Nat) : Option Pix :=
  s.ins.feed.findSome? fun (f : FeedFrame) =>
    let k := roundDiv (diff80 (v.pos + (v.lpp * y : Nat) * (v.cl : Int)) (f.trigPos * 2 ^ 32)) f.step
    if k < 0 then none
    else (f.luma i k.toNat).map fun l =>
      ⟨i, y, f.sensor, l, diff80 (f.pos k.toNat) v.pos, f.torn i k.toNat, f.unknown, soloOf v r i y⟩

/-- Whether a region covers a camera pixel. -/
def BlankRegion.covers (g : BlankRegion) (v : PageView) (i y : Nat) : Bool :=
  g.page = v.page && decide (g.col = i / 2048 ∧ 256 * g.band + g.first < v.lpp * (y + 1) ∧ v.lpp * y ≤ 256 * g.band + g.last)

/-- Camera pixels of a page that a frame covers. -/
def State.covering (s : State) (v : PageView) (r : RefFn) : List Pix :=
  if s.ins.feed.isEmpty then []
  else (List.range v.height).flatMap fun y => (List.range 26624).filterMap fun i => s.pixAt v r i y

/-- Whether the reference left a pixel uninspected (R171). -/
def State.unseen (s : State) (v : PageView) (p : Pix) : Bool := s.ins.blind.any fun (g : BlankRegion) => g.covers v p.col p.line

/-- Whether the columns of a pair are of a die that a page marks DIE_HOT. -/
def State.pairHot (s : State) (page : Word) (c i : Nat) : Bool :=
  s.fir.hotMarks.any fun h => h.1 = page && h.2.1 = c && decide (1024 * h.2.2 ≤ 2 * i + 17 ∧ 2 * i + 16 < 1024 * h.2.2 + 1056)

/-- The exclusions of R325 other than the map, for channel c: regions fired blank, blanked dies, CRC_ERR lines and SETTINGS_UNKNOWN frames. -/
def State.outOf (s : State) (v : PageView) (c : Nat) (p : Pix) : Bool :=
  p.torn || p.unknown || s.pairHot v.page c p.col
    || s.pnd.regions.any fun (g : BlankRegion) => g.ch = c && g.covers v p.col p.line

/-- The exclusion map at a pixel (R325). -/
def State.mapped (s : State) (v : PageView) (c : Nat) (p : Pix) : Bool :=
  s.asm.excluded.contains (v.page, c, p.col / 16, v.lpp * p.line / 256)

/-- Whether a content sample of channel c is discarded (R325). -/
def State.discards (s : State) (v : PageView) (c : Nat) (p : Pix) : Bool := s.outOf v c p || s.mapped v c p

/-! ## Expected luminance (R324) -/

/-- INK_Y of a channel and level. -/
def State.ink (s : State) (c v : Nat) : Nat := tableU16 (s.calTable 0x0700) (8 * c + 2 * v)

/-- INK_Y[c][v] over INK_Y[c][0]. -/
def State.inkShare (s : State) (c v : Nat) : ℚ :=
  if s.ink c 0 = 0 then (Config.inkRatio c v : ℚ) / 2 ^ 16 else (s.ink c v : ℚ) / (s.ink c 0 : ℚ)

/-- The camera pixels of a page that inspection may use, and the paper mean of each sensor that has one. -/
structure Sight where
  pix : List Pix
  papers : List (Nat × ℚ)

/-- PAPER of a page and sensor, for channel c (R324). -/
def State.paper (s : State) (x : Sight) (c sensor : Nat) : ℚ :=
  ((x.papers.find? fun q => q.1 = sensor).map fun q => q.2).getD (s.ink c 0)

/-- The mean of numbers; none without one. -/
def meanOf (l : List Nat) : Option ℚ := if l.isEmpty then none else some ((l.sum : ℚ) / (l.length : ℚ))

/-- Mean Y of paper pixels of each sensor that has 4,096 of them. -/
def State.paperMeans (s : State) (v : PageView) (l : List Pix) : List (Nat × ℚ) :=
  let white := l.filter fun p => p.solo.any (fun q => q.2 = 0) && !(bitList v.mask).any fun c => s.discards v c p
  (List.range 16).filterMap fun n =>
    let m := (white.filter fun p => p.sensor = n).map fun p => p.luma
    if m.length < 4096 then none else (meanOf m).map fun y => (n, y)

/-- What inspection sees of a page. -/
def State.sight (s : State) (v : PageView) (r : RefFn) : Sight :=
  let l := (s.covering v r).filter fun p => !s.unseen v p
  ⟨l, s.paperMeans v l⟩

/-- The deficit of a pixel solo for channel c at level v, in level steps (R324). -/
def State.deficitOf (s : State) (x : Sight) (c v : Nat) (p : Pix) : ℚ :=
  let w := s.paper x c p.sensor
  let a := s.inkShare c (v - 1) * w
  let b := s.inkShare c v * w
  if a = b then (Config.openDeficit p.luma (s.ink c (v - 1)) (s.ink c v) : ℚ) / 2 ^ 16 else ((p.luma : ℚ) - b) / (a - b)

/-- A deficit sample: channel, column pair, level, the camera pixel's line, and d. -/
structure Deficit where
  ch : Nat
  pair : Nat
  level : Nat
  line : Nat
  d : ℚ

/-- The deficit samples of a page, and the groups and bands of those discarded (R325, R326). -/
def State.deficits (s : State) (v : PageView) (x : Sight) : List Deficit × List (Nat × Nat × Nat) :=
  let l := x.pix.filterMap fun p =>
    match p.solo with
    | some (c, k + 1) => some (c, k + 1, p)
    | _ => none
  (((l.filter fun q => !s.discards v q.1 q.2.2).map fun q => ⟨q.1, q.2.2.col, q.2.1, q.2.2.line, s.deficitOf x q.1 q.2.1 q.2.2⟩),
    ((l.filter fun q => s.discards v q.1 q.2.2).map fun q => (q.1, q.2.2.col / 16, v.lpp * q.2.2.line / 256)).dedup)

/-- N and S of the samples under each key (R326). -/
def sumsBy {α : Type} [DecidableEq α] (key : Deficit → α) (l : List Deficit) : List (α × Nat × ℚ) :=
  (l.map key).dedup.map fun k =>
    let m := l.filter fun d => key d = k
    (k, m.length, (m.map fun (d : Deficit) => d.d).sum)

/-- A rational rounded to an integer, halves away from zero (R14). -/
def roundRat (x : ℚ) : Int := roundDiv x.num x.den

/-! ## Centroids and marks (R336) -/

/-- The mean of positions under weights; none where they weigh nothing. -/
def centre (l : List (ℚ × ℚ)) : Option ℚ :=
  let w := (l.map fun q => q.1).sum
  if w ≤ 0 then none else some ((l.map fun q => q.1 * q.2).sum / w)

/-- How much darker than paper a pixel is. -/
def State.dark (s : State) (x : Sight) (c : Nat) (p : Pix) : ℚ := max 0 (s.paper x c p.sensor - p.luma)

/-- A registration mark as found: Δy in counts and Δx in 0.1 µm. -/
structure Mark where
  dy : ℚ
  dx : ℚ

/-- Length of 600 dpi pixel in 0.1 µm. -/
def pixelPitch : ℚ := 1270 / 3

/-- Channel of a registration window of CAL table 0x0600, its columns and its page lines; none where the entry declares no area. -/
def State.markWindow (s : State) (w : Nat) : Option (Nat × Nat × Nat × Nat × Nat) :=
  let e := ((s.calTable 0x0600).drop (16 * w)).take 16
  if field e 6 2 = 0 ∨ field e 12 2 = 0 ∨ 8 ≤ field e 0 1 then none
  else some (field e 0 1, field e 4 2, field e 6 2, field e 8 4, field e 12 2)

/-- The mark of window w, where it is valid and none of its lines was fixed while RAMPING. -/
def State.markOf (s : State) (v : PageView) (r : RefFn) (x : Sight) (c w : Nat) : Option Mark :=
  match s.markWindow w with
  | none => none
  | some (ch, col, cols, line, lines) =>
    let l := x.pix.filter fun p => decide (col ≤ p.col ∧ p.col < col + cols ∧ line ≤ v.lpp * p.line ∧ v.lpp * p.line < line + lines)
    let mine := l.countP fun p => p.solo.any fun q => q.1 = c && q.2 ≠ 0
    if ch ≠ c || mine < 64 || v.noMarks.any (fun q => q.1 = c && decide (line ≤ q.2 ∧ q.2 < line + lines)) then none
    else
      let seen (p : Pix) : ℚ := s.dark x c p
      let drawn (p : Pix) : ℚ := ((covered v r c p.col p.line).sum : ℚ)
      let at_ (p : Pix) : ℚ := ((v.lpp * p.line * v.cl : Nat) : ℚ)
      match centre (l.map fun p => (seen p, (p.off : ℚ))), centre (l.map fun p => (drawn p, at_ p)),
          centre (l.map fun p => (seen p, (p.col : ℚ))), centre (l.map fun p => (drawn p, (p.col : ℚ))) with
      | some y, some y0, some z, some z0 => some ⟨(y - y0) / 2 ^ 32, (z - z0) * pixelPitch⟩
      | _, _, _, _ => none

/-- Marks of channel c that count. -/
def State.marks (s : State) (v : PageView) (r : RefFn) (x : Sight) (c : Nat) : List Mark :=
  (List.range 32).filterMap fun w => s.markOf v r x c w

/-! ## Regions (R339) -/

/-- Predicted luminance of a pixel: PAPER times the share that the ink of each channel leaves of it. -/
def State.predicted (s : State) (v : PageView) (r : RefFn) (x : Sight) (p : Pix) : ℚ :=
  let first := (bitList v.mask).headD 0
  (bitList v.mask).foldl (fun y c =>
    let l := covered v r c p.col p.line
    y * ((l.map fun k => s.inkShare c k).sum / (l.length : ℚ))) (s.paper x first p.sensor)

/-- A flagged pixel: its place, its difference from what is predicted, and the channel it is solo for. -/
structure Flagged where
  col : Nat
  line : Nat
  diff : ℚ
  solo : Option Nat

/-- Pixels that differ from what the reference predicts by more than THR; the exclusions other than the map apply. -/
def State.flagged (s : State) (v : PageView) (r : RefFn) (x : Sight) : List Flagged :=
  (x.pix.filter fun p => !(bitList v.mask).any fun c => s.outOf v c p).filterMap fun p =>
    let d := (p.luma : ℚ) - s.predicted v r x p
    let own := p.solo.bind fun q => if q.2 = 0 then none else some q.1
    if (s.get INS_DEFECT_THR : ℚ) < |d| then some ⟨p.col, p.line, d, own⟩ else none

/-- Whether two pixels are neighbours. -/
def Flagged.near (a b : Flagged) : Bool := decide (a.col ≤ b.col + 1 ∧ b.col ≤ a.col + 1 ∧ a.line ≤ b.line + 1 ∧ b.line ≤ a.line + 1)

/-- Flagged pixels joined by any of their neighbours. -/
def joined (l : List Flagged) : List (List Flagged) :=
  l.foldl (fun g p =>
    let mine := g.filter fun q => q.any p.near
    ((p :: mine.flatten) :: g.filter fun q => !q.any p.near)) []

/-- A region of flagged pixels (R339): its place, pixels, pixels lighter than predicted, largest difference, and channels with solo
pixels in it. -/
structure Region where
  colFirst : Nat
  cols : Nat
  lineFirst : Nat
  lines : Nat
  area : Nat
  lighter : Nat
  peak : Nat
  solo : BitVec 8
deriving DecidableEq, Repr

/-- The region of joined pixels. -/
def regionOf (v : PageView) (l : List Flagged) : Region :=
  let low (f : Flagged → Nat) : Nat := (l.map f).foldl min ((l.map f).headD 0)
  let high (f : Flagged → Nat) : Nat := (l.map f).foldl max 0
  let col (p : Flagged) : Nat := p.col
  let line (p : Flagged) : Nat := p.line
  let peak := l.foldl (fun (m : ℚ) p => max m |p.diff|) 0
  { colFirst := low col
    cols := high col + 1 - low col
    lineFirst := v.lpp * low line
    lines := high line + 1 - low line
    area := l.length
    lighter := l.countP fun p => decide (0 < p.diff)
    peak := if Config.roundUp 11 then ⌈peak⌉.toNat else ⌊peak⌋.toNat
    solo := l.foldl (fun m p => match p.solo with
      | some c => putBit m c true
      | none => m) 0 }

/-- The regions of a page. -/
def State.regionsOf (s : State) (v : PageView) (r : RefFn) (x : Sight) : List Region := (joined (s.flagged v r x)).map (regionOf v)

end Sys2Proof.Machine
end

