-- ==== Sys2Proof/Machine/Cam.lean ====
section
/-! DEFINITION. Camera capture (R295 to R313), the image pipeline as far as records and streams need it (R314 to R321), the settings
pipeline (R304 to R309), and the sensor buses (R298 to R300). -/

namespace Sys2Proof.Machine

/-! ## Sensors and their fields -/

/-- A sensor beside its registers. -/
def State.sensor (s : State) (n : Nat) : Sensor := s.cam.sensors.getD n Sensor.reset

/-- Change a sensor. -/
def State.updSensor (s : State) (n : Nat) (f : Sensor → Sensor) : State :=
  { s with cam := { s.cam with sensors := s.cam.sensors.modify n f } }

/-- Change a numbered frame of a sensor. -/
def State.updFrame (s : State) (n k : Nat) (f : Frame → Frame) : State :=
  s.updSensor n fun x => { x with frames := x.frames.map fun (y : Frame) => if y.number = k then f y else y }

/-- WIDTH in force: the nearer limit outside 16 to 8,192. -/
def State.snsWidth (s : State) (n : Nat) : Nat := max 16 (min 8192 (s.get (CAM_SNS_GEOM_WIDTH n)))

/-- LINES in force; 0 acts as 1, and no frame has more than 16,384. -/
def State.snsLines (s : State) (n : Nat) : Nat := max 1 (min 16384 (s.get (CAM_SNS_GEOM_LINES n)))

/-- Declared rate in Mpixel/s (R310). -/
def State.snsRate (s : State) (n : Nat) : Nat := ceilDiv (s.snsWidth n * 1000) (max 100 (s.get (CAM_SNS_TIMING_LINE_NS n)))

/-- CFA in force; 5 to 7 act as mono. -/
def State.snsCfa (s : State) (n : Nat) : Nat := if s.get (CAM_SNS_CFG_CFA n) < 5 then s.get (CAM_SNS_CFG_CFA n) else 0

/-- Bits of a pixel of the sensor's data type: 8, 10 or 12. -/
def State.snsBits (s : State) (n : Nat) : Nat := [8, 10, 12, 12].getD (s.get (CAM_SNS_CFG_DT n)) 12

/-- The enabled sensor on a port and virtual channel (R295). -/
def State.snsAt (s : State) (port vc : Nat) : Option Nat :=
  (List.range 16).find? fun n => s.snsOn n && s.get (CAM_SNS_CFG_PORT n) = port && s.get (CAM_SNS_CFG_VC n) = vc

/-- Whether a port receives. -/
def State.camPortOn (s : State) (p : Nat) : Bool := s.flag ⟨CAM_PORT_CTL, 4 * p + 3, 1⟩

/-- Whether a frame is in flight (R310): from its FS until its last line enters the pipeline. -/
def Frame.inFlight (f : Frame) : Bool := f.started && f.admitted && !(f.ended && f.entered = f.got)

/-- Frames in flight, with their sensor. -/
def State.flying (s : State) : List (Nat × Frame) :=
  (List.range 16).flatMap fun n => ((s.sensor n).frames.filter Frame.inFlight).map fun f => (n, f)

/-- Show INFLIGHT and LOAD. -/
def State.syncFlight (s : State) : State :=
  let l := s.flying
  let m := ((List.range 16).map fun n => if l.any fun q => q.1 = n then 2 ^ n else 0).sum
  (s.put CAM_STAT_INFLIGHT m).put CAM_STAT_LOAD (l.map fun q => s.snsRate q.1).sum

/-! ## CAMERA_LOST (R58) -/

/-- Show CAMERA_LOST. -/
def State.syncCamera (s : State) : State :=
  let lost := (List.range 16).any fun n => (s.sensor n).gone && s.sys.sensors.getLsbD n
  (s.setDegrade (withBits (s.reg SYS_DEGRADE) 2 1 (bit lost))).follow

/-- An expected frame was not delivered. -/
def State.frameMissed (s : State) (n : Nat) : State :=
  (s.updSensor n fun x => { x with missed := x.missed + 1, gone := x.gone || 64 ≤ x.missed + 1, clean := false }).syncCamera

/-- A frame was delivered. -/
def State.frameDelivered (s : State) (n : Nat) : State := s.updSensor n fun x => { x with missed := 0, fresh := true }

/-- A page boundary of the station: a lost sensor that has delivered its frames for one full page is back. -/
def State.cameraPage (s : State) : State :=
  ((List.range 16).foldl (fun s n => s.updSensor n fun x =>
    { x with gone := x.gone && !(x.clean && x.fresh), clean := true, fresh := false }) s).syncCamera

/-! ## Lines enter the pipeline (R314) -/

/-- Gains R, GR, GB and B of a frame's words. -/
def Frame.gains (f : Frame) : List Nat :=
  let lo := f.words.getD 1 0
  let hi := f.words.getD 2 0
  [bits lo 0 16, bits lo 16 16, bits hi 0 16, bits hi 16 16]

/-- Stages 1 to 4 of a frame's next line, under the tables then in force; its first line takes the geometry and the tone bank along (log
entry 137, DESIGN CHOICE). -/
def State.pipeLine (s : State) (n : Nat) (f : Frame) : Frame :=
  let cfa := s.snsCfa n
  let full := (2 ^ s.snsBits n - 1) * 2 ^ (12 - s.snsBits n)
  let y := f.entered
  let raw := f.lines.getD y []
  let w0 := f.words.getD 0 0
  let black := blackLine (bits w0 0 12) raw
  let fixed := defectLine (s.calTable (0x100 + n)) (bits w0 16 12) (if cfa = 0 then 1 else 2) y black
  let lum := s.calTable 0x400
  { f with
    entered := y + 1
    buffered := f.buffered - 1
    done := f.done ++ [flatLine cfa y (s.calTable (0x200 + n)) f.gains fixed.1]
    lums := f.lums ++ [[tableU16 lum 0, tableU16 lum 2, tableU16 lum 4]]
    sat := f.sat + raw.countP fun (x : BitVec 12) => x.toNat = full
    dark := f.dark + black.count 0
    fixed := f.fixed + fixed.2
    geo := if y = 0 then s.calTable (0x300 + n) else f.geo
    tone := if y = 0 then s.calTable (0x500 + bits (f.words.getD 4 0) 0 2) else f.tone }

/-! ## Frame records (R319 to R321) -/

/-- Flags of a record. -/
def Frame.flags (f : Frame) (dropped lost : Bool) : Nat :=
  bit dropped + 2 * bit lost + 4 * bit f.truncated + 8 * bit f.crcErr + 16 * bit f.unknown + 32 * bit f.extra

/-- Sum of differences of neighbours in a line. -/
def focusLine (l : List Nat) : Nat := ((l.zip (l.drop 1)).map fun q => max q.1 q.2 - min q.1 q.2).sum

/-- What a record counts of a frame's pixels. -/
structure PixStats where
  means : List Nat
  sat : Nat
  dark : Nat
  focus : Nat
  fixed : Nat
  hist : List Nat
deriving DecidableEq, Repr

/-- Statistics of a frame's pixels; all 0 for one that has no line. -/
def State.pixStats (s : State) (n : Nat) (f : Frame) : PixStats :=
  let cfa := s.snsCfa n
  let plane (k : Nat) : List Nat := f.done.zipIdx.flatMap fun q => (q.1.zipIdx.filter fun x => planeOf cfa x.2 q.2 = k).map fun x => x.1
  let y := luminance cfa f.done f.lums
  let all := y.flatten
  { means := (List.range 4).map fun k => camDiv 7 (plane k).sum (plane k).length
    sat := f.sat
    dark := f.dark
    focus := min (2 ^ 32 - 1) (camDiv 8 (y.map focusLine).sum 256)
    fixed := min 65535 f.fixed
    hist := (List.range 64).map fun b => all.countP fun v => v / 64 = b }

/-- The 320 bytes of a record. -/
def State.recordBytes (s : State) (n : Nat) (f : Frame) (flags : Nat) (p : PixStats) (lines : Nat) : List Byte :=
  leBytes 8 f.number ++ leBytes 1 n ++ leBytes 1 flags ++ leBytes 2 f.tag.toNat ++ leBytes 2 lines ++ leBytes 2 (s.snsWidth n)
    ++ leBytes 8 (unsigned 64 f.trigPos) ++ f.stamp.bytes ++ p.means.flatMap (leBytes 2) ++ leBytes 4 p.sat ++ leBytes 4 p.dark
    ++ leBytes 4 p.focus ++ leBytes 2 (min 65535 f.bad) ++ leBytes 2 p.fixed ++ p.hist.flatMap (leBytes 4)

/-- Write a record to the host ring (R320); `err` where the host reports a PCIe error. A write while the link is down is one too. -/
def State.ringRecord (s : State) (b : List Byte) (err : Bool) : State :=
  if !s.flag CAM_SR_CTL_ENABLE then s
  else
    let size := 2 ^ max 1 (min 12 (s.get CAM_SR_CTL_LOG2_SIZE))
    let tail := s.get CAM_SR_TAIL_INDEX
    if (tail + 1) % size = s.get CAM_SR_HEAD_INDEX % size then (s.incSat CAM_SR_CTL_DROPS).raise 165
    else if err || !s.flag HST_LINK_UP then ((s.putFlag CAM_SR_CTL_ERR true).putFlag CAM_SR_CTL_ENABLE false).raise 165
    else
      let base := s.getPair CAM_SR_BASE_LO CAM_SR_BASE_HI / 4096 * 4096
      let s := (s.emit (.hostWrite (base + 320 * tail) b)).put CAM_SR_TAIL_INDEX ((tail + 1) % size)
      if s.flag CAM_CTL_REC_EVT then s.raise 167 else s

/-- Write the record of a frame, and let the frame go; one whose FE is still to come stays, no longer admitted. A frame that had
no boundary has no time and tag: free values (log entry 1, DESIGN CHOICE). -/
def State.writeRecord (s : State) (n : Nat) (f : Frame) (dropped lost : Bool) (err : Bool := false) : State :=
  let (f, s) := if f.bounded then (f, s)
    else
      let d := s.draw
      let e := d.2.draw
      ({ f with stamp := ⟨d.1.setWidth 16, (d.1 >>> 16).setWidth 16, (d.1 >>> 32).setWidth 32, e.1.setWidth 48⟩
                tag := (e.1 >>> 48).setWidth 16 }, e.2)
  let lines := if dropped || lost then 0 else f.got
  let p := s.pixStats n f
  let flags := f.flags dropped lost
  let words := [bits (BitVec.ofNat 32 (f.number / 2 ^ 32)) 0 16, f.tag.toNat * 65536 + flags,
    p.means.getD 1 0 * 65536 + p.means.getD 0 0, p.means.getD 3 0 * 65536 + p.means.getD 2 0, p.sat, p.dark, p.focus,
    min 65535 f.bad * 65536 + lines]
  let s := s.ringRecord (s.recordBytes n f flags p lines) err
  let r : CamRec := ⟨f.number, words.map (BitVec.ofNat 32), dropped || lost || f.truncated⟩
  let s := s.updSensor n fun x => { x with record := some r }
  let keep := f.started && !f.closed && !lost
  let stay (y : Frame) : Frame := if y.number = f.number then { y with admitted := false, lines := [], done := [], lums := [] } else y
  let other (y : Frame) : Bool := y.number ≠ f.number
  (s.updSensor n fun x => { x with frames := if keep then x.frames.map stay else x.frames.filter other }).syncFlight

/-- A frame that received no FS is LOST (R302). -/
def State.loseFrame (s : State) (n : Nat) (f : Frame) : State := ((s.writeRecord n f false true).raise 161).frameMissed n

/-- The register bank latches at a frame boundary of its sensor (R321). -/
def State.latchFrame (s : State) (n : Nat) : State :=
  if s.get CAM_CTL_STAT_SNS ≠ n then s
  else
    match (s.sensor n).record with
    | none => s
    | some r =>
      let s := r.words.zipIdx.foldl (fun s q => s.livePut ⟨CAM_STB_FRAME_HI + 4 * q.2, 0, 32⟩ q.1.toNat) s
      let s := s.latchBank CAM_STB_SEQ 8 (BitVec.ofNat 32 r.number) 5 n r.part
      { s with cam := { s.cam with sensors := s.cam.sensors.map fun (x : Sensor) => { x with record := none } } }

/-! ## Triggers and boundaries (R301 to R303, R307) -/

/-- A new numbered frame at this cycle (R301). -/
def State.newFrame (s : State) (n : Nat) : State :=
  let f : Frame :=
    { number := (s.sensor n).next, trigPos := s.hwm, bounded := false, at_ := s.cycle, stamp := s.now, tag := 0, unknown := false
      words := [], started := false, order := 0, admitted := false, got := 0, buffered := 0, entered := 0, lines := [], marked := []
      bad := 0, extra := false, truncated := false, crcErr := false, overflow := false, ended := false, closed := false, done := [], lums := [], sat := 0, dark := 0, fixed := 0, geo := [], tone := [], takes := [] }
  s.updSensor n fun x => { x with next := (x.next + 1) % 2 ^ 48, frames := x.frames ++ [f] }

/-- The boundary of a frame (R301, R307, R308, R321): the bank, the set hand-over, its tag and its strobe. -/
def State.frameBoundary (s : State) (n : Nat) (f : Frame) : State :=
  let s := (s.latchFrame n).handOver .cam n (BitVec.ofNat 32 f.number)
  let s := (s.setReg (CAM_SNS_FRAME_LO n) (BitVec.ofNat 32 f.number)).setReg (CAM_SNS_FRAME_HI n) (BitVec.ofNat 32 (f.number / 2 ^ 32))
  let words := [CAM_SNS_BLACK n, CAM_SNS_GAIN_LO n, CAM_SNS_GAIN_HI n, CAM_SNS_STROBE n, CAM_SNS_LUT n].map s.act
  let x := s.sensor n
  let s := s.updFrame n f.number fun f => { f with
    bounded := true, at_ := s.cycle, stamp := s.now, tag := x.tag, words := words
    unknown := (x.unknown.map fun k => decide (k ≤ f.number)).getD false }
  let out := s.getA (CAM_SNS_STROBE_OUT n)
  let width := s.getA (CAM_SNS_STROBE_WIDTH n)
  s.updSensor n fun x => { x with
    latest := some f.number
    flashes := if out < 4 ∧ 0 < width then
        x.flashes ++ [(s.cycle + s.get (CAM_SNS_TIMING2_STROBE_DELAY n), out, width)]
      else x.flashes }

/-- A trigger pulse reaches a sensor: its next frame, and at a fifth held frame the oldest is LOST. -/
def State.triggerSensor (s : State) (n : Nat) : State :=
  let held := (s.sensor n).frames.filter fun (f : Frame) => !f.started
  let s := if 4 ≤ held.length then (held.head?.map fun f => s.loseFrame n f).getD s else s
  s.newFrame n

/-- A pulse starts on a trigger output. -/
def State.triggerOutput (s : State) (k : Nat) : State :=
  (List.range 16).foldl (fun s n =>
    if s.snsOn n && s.get (CAM_SNS_CFG_TRIG n) = k then s.triggerSensor n else s) s

/-- A strobe output drives the OR of the strobes of all sensors. -/
def State.strobeLevel (s : State) (out : Nat) : Bool :=
  (List.range 16).any fun n => (s.sensor n).strobes.any fun q => q.1 = out

/-- The strobe of a sensor that is next to start does so at its cycle (R303). -/
def State.startStrobe (s : State) (n : Nat) : State :=
  match (s.sensor n).flashes with
  | [] => s
  | q :: r =>
    let first := r.foldl (fun a b => if b.1 < a.1 then b else a) q
    let s := s.tickTo first.1
    let s := s.updSensor n fun x => { x with flashes := x.flashes.erase first, strobes := x.strobes ++ [(first.2.1, s.cycle + first.2.2)] }
    s.emit (.strobe first.2.1 true)

/-- The strobe of a sensor that is next to end does so at its cycle. -/
def State.endStrobe (s : State) (n : Nat) : State :=
  match (s.sensor n).strobes with
  | [] => s
  | q :: r =>
    let first := r.foldl (fun a b => if b.2 < a.2 then b else a) q
    let s := s.tickTo first.2
    let s := s.updSensor n fun x => { x with strobes := x.strobes.erase first }
    s.emit (.strobe first.1 (s.strobeLevel first.1))

/-! ## Admission and the pipeline's turns (R311 to R313) -/

/-- The candidate of R311 that is dropped first: lowest PRIO, among equals the later FS. -/
def State.dropFirst (s : State) (l : List (Nat × Frame)) : Option (Nat × Frame) :=
  l.foldl (fun o q =>
    match o with
    | none => some q
    | some p =>
      let a := s.get (CAM_SNS_CFG_PRIO q.1)
      let b := s.get (CAM_SNS_CFG_PRIO p.1)
      if a < b || (a = b && p.2.order < q.2.order) then some q else some p) none

/-- Drop a frame whole (R311). -/
def State.dropFrame (s : State) (n : Nat) (f : Frame) : State :=
  let s := s.updFrame n f.number fun f => { f with admitted := false, buffered := 0, lines := [] }
  (s.writeRecord n { f with lines := [] } true false).raiseData 160 (f.number % 2 ^ 32)

/-- Drop candidates until the declared rates fit 6,000 Mpixel/s. -/
def State.fitLoad : Nat → State → State
  | 0, s => s
  | k + 1, s =>
    let l := s.flying
    if (l.map fun q => s.snsRate q.1).sum ≤ 6000 then s
    else
      match s.dropFirst (l.filter fun q => q.2.entered = 0) with
      | none => s
      | some q => State.fitLoad k (s.dropFrame q.1 q.2)

/-- The frame whose lines a sensor now receives: the newest with FS and without FE. -/
def State.receiving (s : State) (n : Nat) : Option Frame := ((s.sensor n).frames.filter fun (f : Frame) => f.started && !f.closed).getLast?

/-- A frame ends (R302). -/
def State.endFrame (s : State) (n : Nat) (f : Frame) (closed : Bool) : State :=
  let gone := closed && !f.admitted
  let lines := s.snsLines n
  let ends (y : Frame) : Frame :=
    if y.number = f.number then
      { y with truncated := y.truncated || (!y.ended && decide (y.got < lines)), ended := true, closed := y.closed || closed }
    else y
  let other (y : Frame) : Bool := y.number ≠ f.number
  let s := s.updSensor n fun x => { x with frames := if gone then x.frames.filter other else x.frames.map ends }
  s.syncFlight

/-- A frame receives its FS. -/
def State.startFrame (s : State) (n k : Nat) : State :=
  let s := (s.updFrame n k fun f => { f with started := true, admitted := true, order := s.cam.fsCount }).frameDelivered n
  let s := { s with cam := { s.cam with fsCount := s.cam.fsCount + 1 } }
  (State.fitLoad 64 s).syncFlight

/-- An FS on a port and virtual channel (R302). A frame still without FE ends with it. -/
def State.frameStart (s : State) (port vc : Nat) : State :=
  let lost := (s.incSat ⟨CAM_PORT_ERR port, 0, 8⟩).raise 169
  match s.snsAt port vc with
  | none => lost
  | some n =>
    let s := match s.receiving n with
      | some f => s.endFrame n f true
      | none => s
    if 16 ≤ s.get (CAM_SNS_CFG_TRIG n) then
      let s := s.newFrame n
      match (s.sensor n).frames.getLast? with
      | none => s
      | some f => (s.frameBoundary n f).startFrame n f.number
    else
      match (s.sensor n).frames.find? fun (f : Frame) => !f.started with
      | none => (s.incSat ⟨CAM_PORT_ERR port, 0, 8⟩).raise 169
      | some f => s.startFrame n f.number

/-! ## Streams (R316, R317) -/

/-- Bytes of a pixel in a format; 3 acts as 2. -/
def fmtBytes (f : Nat) : Nat := [1, 2, 3, 3].getD f 3

/-- The definition of stream n in force. -/
def State.streamDef (s : State) (n : Nat) : StreamDef where
  stream := n
  fmt := min 2 (s.getA (CAM_OS_CFG_FMT n))
  scale := 2 ^ s.getA (CAM_OS_CFG_SCALE n)
  colFirst := s.getA (CAM_OS_CROP_COL_COL_FIRST n)
  cols := s.getA (CAM_OS_CROP_COL_COLS n)
  lineFirst := s.getA (CAM_OS_CROP_LINE_LINE_FIRST n)
  lines := s.getA (CAM_OS_CROP_LINE_LINES n)

/-- Output columns, lines and padded bytes of a line of a stream. -/
def StreamDef.shape (d : StreamDef) : Nat × Nat × Nat :=
  let w := ceilDiv d.cols d.scale
  (w, ceilDiv d.lines d.scale, ceilDiv (w * fmtBytes d.fmt) 64 * 64)

/-- Whole size of a frame of a stream. -/
def StreamDef.size (d : StreamDef) : Nat := 32 + d.shape.2.1 * d.shape.2.2

/-- Change a stream. -/
def State.updStream (s : State) (n : Nat) (f : OutStream → OutStream) : State :=
  let s := { s with cam := { s.cam with streams := s.cam.streams.modify n f } }
  s.put (CAM_OS_LEVEL_BYTES n) (s.cam.streams.getD n ⟨[], 0, 0⟩).fifo.length

/-- The first line of a frame enters the pipeline: each stream of its sensor takes the frame whole, or skips it. -/
def State.streamFrame (s : State) (n : Nat) (f : Frame) : State :=
  (List.range 4).foldl (fun s k =>
    if !(s.getA (CAM_OS_CFG_EN k) = 1 && s.getA (CAM_OS_CFG_SENSOR k) = n) then s
    else
      let x := s.cam.streams.getD k ⟨[], 0, 0⟩
      let s := s.updStream k fun x => { x with seen := x.seen + 1 }
      if x.seen % max 1 (s.getA (CAM_OS_CFG_DECIM k)) ≠ 0 then s
      else if (s.streamDef k).size + x.fifo.length + x.reserved ≤ 524288 then
        let d := s.streamDef k
        (s.updStream k fun x => { x with reserved := x.reserved + d.size }).updFrame n f.number fun f => { f with takes := f.takes ++ [d] }
      else (s.incSat (CAM_OS_STAT_SKIPPED k)).raise 168) s

/-- A component after stage 8 at a web-grid column and output line; outside the sensor's coverage it is 0. -/
def Frame.streamPixel (f : Frame) (width : Nat) (plane : List (List Nat)) (col line : Nat) : Nat :=
  match webPixel plane f.geo width col line with
  | none => 0
  | some v => tableU16 f.tone (2 * (v % 4096)) % 4096

/-- Planes of a stream's format: luminance, or red, green and blue; mono repeats luminance. -/
def Frame.streamPlanes (f : Frame) (cfa fmt : Nat) : List (List (List Nat)) :=
  let y := luminance cfa f.done f.lums
  if fmt < 2 then [y]
  else if cfa = 0 then [y, y, y]
  else (List.range 3).map (colourPlane cfa f.done)

/-- The bytes of a frame in a stream. -/
def State.streamBytes (s : State) (n : Nat) (d : StreamDef) (f : Frame) : List Byte :=
  let q := d.scale
  let (w, h, pad) := d.shape
  let planes := f.streamPlanes (s.snsCfa n) d.fmt
  let value (plane : List (List Nat)) (x y : Nat) : Nat :=
    let xs := (List.range q).filter fun i => q * x + i < d.cols
    let ys := (List.range q).filter fun i => q * y + i < d.lines
    let all := ys.flatMap fun j => xs.map fun i =>
      f.streamPixel (s.snsWidth n) plane (d.colFirst + q * x + i) (d.lineFirst + q * y + j)
    camDiv 9 all.sum all.length
  let pixel (x y : Nat) : List Byte :=
    if d.fmt = 1 then (planes.flatMap fun p => leBytes 2 (value p x y)) else planes.flatMap fun p => leBytes 1 (value p x y / 16)
  let line (y : Nat) : List Byte :=
    let b := (List.range w).flatMap fun x => pixel x y
    b ++ List.replicate (pad - b.length) 0
  leBytes 8 f.number ++ leBytes 1 n ++ leBytes 1 d.fmt ++ leBytes 2 f.tag.toNat ++ leBytes 2 w ++ leBytes 2 h ++ f.stamp.bytes
    ++ (List.range h).flatMap line

/-- The last line of a frame has left the pipeline: the streams that took it hold it whole. -/
def State.streamEnds (s : State) (n : Nat) (f : Frame) : State :=
  f.takes.foldl (fun s d =>
    let b := s.streamBytes n d f
    (s.updStream d.stream fun x => { x with fifo := x.fifo ++ b, reserved := x.reserved - b.length }).incWrap
      (CAM_OS_STAT_FRAMES d.stream)) s

/-- The analysers have the whole of an admitted frame that is not truncated (R318). Frames are kept while a page or a calibration run may
show in them. -/
def State.feedFrame (s : State) (n : Nat) (f : Frame) : State :=
  if f.truncated then s
  else
    let x : FeedFrame := ⟨n, f.number, f.tag, f.unknown, f.trigPos, s.cplOf true, s.snsWidth n, f.geo, luminance (s.snsCfa n) f.done f.lums,
      f.marked⟩
    let old := if s.pnd.pages.isEmpty && s.cal.run.isNone then [] else s.ins.feed
    { s with ins := { s.ins with feed := old ++ [x] } }

/-! ## Lines (R302, R312, R313) -/

/-- Whether a sensor has a buffered line of an admitted frame. -/
def State.hasLine (s : State) (n : Nat) : Bool := (s.sensor n).frames.any fun (f : Frame) => f.admitted && 0 < f.buffered

/-- The sensor whose line enters the pipeline next, and what its turn leaves after it (R312). -/
def State.nextTurn (s : State) : Option (Nat × Nat) :=
  if 0 < s.cam.turnLeft && s.hasLine s.cam.turn then some (s.cam.turn, s.cam.turnLeft - 1)
  else
    (((List.range 16).map fun i => (s.cam.turn + 1 + i) % 16).find? fun n => s.hasLine n).map fun n =>
      (n, s.get (CAM_SNS_CFG_PRIO n))

/-- The next line of a numbered frame enters the pipeline. -/
def State.enterLine (s : State) (n k : Nat) : State :=
  match (s.sensor n).frames.find? fun (f : Frame) => f.number = k with
  | none => s
  | some f => (if f.entered = 0 then s.streamFrame n f else s).updFrame n k (s.pipeLine n)

/-- One line enters the pipeline. -/
def State.takeLine (s : State) : State :=
  match s.nextTurn with
  | none => s
  | some (n, left) =>
    let s := { s with cam := { s.cam with turn := n, turnLeft := left } }
    match (s.sensor n).frames.find? fun (f : Frame) => f.admitted && 0 < f.buffered with
    | none => s
    | some f => (s.enterLine n f.number).syncFlight

/-- Lines enter the pipeline. -/
def State.takeLines : Nat → State → State
  | 0, s => s
  | k + 1, s => State.takeLines k s.takeLine

/-- A line of a frame is received. -/
def State.receiveLine (s : State) (port n : Nat) (f : Frame) (pixels : List (BitVec 12)) (crcOk : Bool) : State :=
  if !f.admitted then s
  else if f.ended then s.updFrame n f.number fun f => { f with extra := true }
  else if f.overflow then s
  else if 8 ≤ ((s.sensor n).frames.map fun (f : Frame) => f.buffered).sum then
    (s.updFrame n f.number fun f => { f with overflow := true, truncated := true }).raise 164
  else
    let w := s.snsWidth n
    let l := ((pixels.take w).map (unpackPixel (s.snsBits n))) ++ List.replicate (w - pixels.length) 0
    let l := if crcOk then l else f.lines.getLastD (List.replicate w 0)
    let s := if crcOk then s
      else if f.crcErr then s
      else s.raiseDetail 163 port
    let s := s.updFrame n f.number fun f => { f with
      got := f.got + 1, buffered := f.buffered + 1, lines := f.lines ++ [l]
      marked := if crcOk then f.marked else f.marked ++ [f.got]
      crcErr := f.crcErr || !crcOk, bad := if crcOk then f.bad else f.bad + 1 }
    if f.got + 1 = s.snsLines n then s.endFrame n { f with got := f.got + 1 } false else s

/-- A header with an uncorrectable ECC error (R297). -/
def State.eccFailed (s : State) (p : Nat) : State :=
  let s := s.incSat ⟨CAM_PORT_ERR p, 16, 8⟩
  let due := ((s.cam.eccAt.getD p none).map fun t => decide (t + 800000 ≤ s.cycle)).getD true
  if due then ({ s with cam := { s.cam with eccAt := s.cam.eccAt.set p (some s.cycle) } }).raiseDetail 163 p else s

/-- What a header's ECC leaves of a packet: none where it is discarded (R297). -/
def State.checkHeader (s : State) (p : Nat) (ecc : EccResult) : Option State × State :=
  match ecc with
  | .failed => (none, s.eccFailed p)
  | .corrected => (some (s.incSat ⟨CAM_PORT_ERR p, 24, 8⟩), s)
  | .good => (some s, s)

/-- Do something with a packet whose header is not discarded. -/
def State.withHeader (s : State) (p : Nat) (ecc : EccResult) (f : State → State) : State :=
  match s.checkHeader p ecc with
  | (some t, _) => f t
  | (none, t) => t

/-- A packet of a line (R296, R297, R302). -/
def State.linePacket (s : State) (port vc : Nat) (dataType : BitVec 6) (pixels : List (BitVec 12)) (crcOk : Bool) : State :=
  let s := if crcOk then s else s.incSat ⟨CAM_PORT_ERR port, 8, 8⟩
  if dataType = 0x12 then s
  else
    match s.snsAt port vc with
    | none => if dataType = 0x2A || dataType = 0x2B || dataType = 0x2C then s else s.incSat ⟨CAM_PORT_ERR port, 0, 8⟩
    | some n =>
      let want : BitVec 6 := [0x2A, 0x2B, 0x2C, 0x2C].getD (s.get (CAM_SNS_CFG_DT n)) 0x2C
      if dataType ≠ want then s.incSat ⟨CAM_PORT_ERR port, 0, 8⟩
      else
        match s.receiving n with
        | none => s
        | some f => s.receiveLine port n f pixels crcOk

/-! ## The settings pipeline (R304 to R309) -/

/-- Number of a sensor's latest frame boundary; −1 before the first. -/
def State.latestFrame (s : State) (n : Nat) : Int := ((s.sensor n).latest.map fun k => (k : Int)).getD (-1)

/-- Number of the frame of a sensor's next boundary. -/
def State.comingFrame (s : State) (n : Nat) : Nat :=
  (((s.sensor n).frames.find? fun (f : Frame) => !f.bounded).map fun f => f.number).getD (s.sensor n).next

/-- SET_LAT of a sensor. -/
def State.setLat (s : State) (n : Nat) : Nat := s.get (CAM_SNS_CFG_SET_LAT n)

/-- Show PENDING. -/
def State.syncReqs (s : State) (n : Nat) : State := s.put (CAM_SNS_TAG_PENDING n) (s.sensor n).reqs.length

/-- Change a sensor's oldest request. -/
def State.updReq (s : State) (n : Nat) (f : SetReq → SetReq) : State :=
  s.updSensor n fun x => { x with reqs := match x.reqs with
    | [] => []
    | r :: l => f r :: l }

/-- The handling of a sensor's oldest request begins: its E (R306). -/
def State.beginReq (s : State) (n : Nat) : State :=
  let b := s.latestFrame n
  s.updReq n fun r => { r with e := (max r.f (max (b + 1 + s.setLat n) (s.sensor n).eLast)).toNat }

/-- The oldest request is over. -/
def State.endReq (s : State) (n : Nat) : State :=
  ((s.updSensor n fun x => { x with reqs := x.reqs.drop 1 }).beginReq n).syncReqs n

/-- A request is accepted (R304, R305): its target frame is the number nearest after the latest boundary. -/
def State.acceptReq (s : State) (n frame : Nat) (r : SetReq) : State :=
  let b := s.latestFrame n
  let low := b + 1 - 2 ^ 31
  let f := low + (((frame : Int) - low) % 2 ^ 32)
  let first := (s.sensor n).reqs.isEmpty
  let s := s.updSensor n fun x => { x with reqs := x.reqs ++ [{ r with f := f }] }
  (if first then s.beginReq n else s).syncReqs n

/-- What a write of a request sends: the register and its value, of as many bytes as BYTES says. -/
def writeOut (n : Nat) (w : Nat × Nat × Nat) : Out := .busWrite n w.1 w.2.1 (w.2.2 % 2 ^ (8 * w.2.1))

/-- The front of a request's writes goes to the bus. -/
def State.sendWrite (s : State) (n : Nat) : State :=
  match ((s.sensor n).reqs.head?.map fun (r : SetReq) => r.writes).getD [] with
  | [] => s
  | w :: _ => s.emit (writeOut n w)

/-- Whether settings writes are pending on a bus port. -/
def State.settingsBusy (s : State) (b : Nat) : Bool :=
  (List.range 16).any fun n => s.get (CAM_SNS_BUS_BUSPORT n) = b
    && ((s.sensor n).reqs.head?.map fun (r : SetReq) => r.sending && !r.writes.isEmpty).getD false

/-- Whether an access of CAM_BUS_CMD is on a bus port. -/
def State.accessOn (s : State) (b : Nat) : Bool :=
  (s.cam.access.map fun (a : BusAccess) => a.started && decide (s.get (CAM_SNS_BUS_BUSPORT a.sensor) = b)).getD false

/-- The boundary a sensor's oldest request waits for has passed (R306), and its bus is free. -/
def State.sendReq (s : State) (n : Nat) : State :=
  let b := s.get (CAM_SNS_BUS_BUSPORT n)
  match (s.sensor n).reqs.head? with
  | none => s
  | some r =>
    if r.sending || !(decide ((r.e : Int) - s.setLat n - 1 ≤ s.latestFrame n)) || s.settingsBusy b || s.accessOn b then s
    else (s.updReq n fun r => { r with sending := true }).sendWrite n

/-- The values a request selects, staged into the sensor's set with its TAG (R306, R308). -/
def State.stageReq (s : State) (n : Nat) (r : SetReq) : State :=
  let on (k : Nat) : Bool := r.valid.getLsbD k
  let s := if on 0 then s.put (CAM_SNS_BLACK_BLACK n) r.black else s
  let s := if on 1 then
      (((s.put (CAM_SNS_GAIN_LO_GAIN_R n) (r.gains.getD 0 0)).put (CAM_SNS_GAIN_LO_GAIN_GR n) (r.gains.getD 1 0)).put
        (CAM_SNS_GAIN_HI_GAIN_GB n) (r.gains.getD 2 0)).put (CAM_SNS_GAIN_HI_GAIN_B n) (r.gains.getD 3 0)
    else s
  let s := if on 2 then s.put (CAM_SNS_STROBE_WIDTH n) r.strobe else s
  let s := if on 3 then s.put (CAM_SNS_LUT_BANK n) r.lut else s
  let s := if on 4 then s.put (CAM_SNS_BLACK_DPC_THR n) r.dpc else s
  s.updSensor n fun x => { x with staged := some r.tag }

/-- The last write of a request has completed: E is final, and its values are staged. -/
def State.writesDone (s : State) (n : Nat) : State :=
  match (s.sensor n).reqs.head? with
  | none => s
  | some r =>
    if !r.sending || r.sent || !r.writes.isEmpty then s
    else
      let e := max r.e (s.comingFrame n + s.setLat n)
      let s := (s.updReq n fun r => { r with sent := true, e := e }).updSensor n fun x => { x with eLast := e }
      let s := if (e : Int) = r.f then s else s.raiseWith 162 (some n) (some (e % 2 ^ 32)) 0
      s.stageReq n r

/-- The cycle after the boundary of frame E − 1 (R306). -/
def State.commitReq (s : State) (n : Nat) : State :=
  match (s.sensor n).reqs.head? with
  | none => s
  | some r =>
    if !r.sent || !(decide ((r.e : Int) - 1 ≤ s.latestFrame n)) then s
    else
      ((s.updSensor n fun x => { x with unknown := none }).commitNow .cam n).endReq n

/-! ## Bus accesses (R298, R300, R309) -/

/-- A bus error. -/
def State.busError (s : State) : State := (s.incSat CAM_BUS_STAT_NACKS).raise 166

/-- What an access of CAM_BUS_CMD sends. -/
def BusAccess.out (a : BusAccess) : Out := if a.read then .busRead a.sensor a.reg a.bytes else .busWrite a.sensor a.reg a.bytes a.value

/-- The access of CAM_BUS_CMD goes to the bus unless settings writes are pending there; a write takes the value in CAM_BUS_DATA. -/
def State.startAccess (s : State) : State :=
  match s.cam.access with
  | none => s
  | some a =>
    if a.started || s.settingsBusy (s.get (CAM_SNS_BUS_BUSPORT a.sensor)) then s
    else
      let a := { a with started := true, value := bits (s.reg CAM_BUS_DATA) 0 (8 * a.bytes) }
      { s with cam := { s.cam with access := some a } }.emit a.out

/-- A write of CAM_BUS_CMD (R300). -/
def State.busCommand (s : State) (v : Word) : State :=
  if bits v 31 1 = 0 then s
  else if s.flag CAM_BUS_STAT_BUSY then s.putFlag CAM_BUS_STAT_ERR true
  else
    let a : BusAccess := ⟨bits v 24 4, bits v 30 1 = 1, [1, 2, 4, 4].getD (bits v 28 2) 4, bits v 0 16, 0, false⟩
    (({ s with cam := { s.cam with access := some a } }).putFlag CAM_BUS_STAT_BUSY true).startAccess

/-- An access is sent once more for each NACK of its first two attempts (R298). -/
def State.retry (s : State) (nacks : Nat) (o : Out) : State := (List.range (min 2 nacks)).foldl (fun s _ => s.emit o) s

/-- A settings write ends after so many NACKs (R306, R309). -/
def State.settingsWrite (s : State) (n nacks : Nat) : State :=
  match (s.sensor n).reqs.head? with
  | none => s
  | some r =>
    match r.writes with
    | [] => s
    | w :: l =>
      if !r.sending then s
      else
        let s := s.retry nacks (writeOut n w)
        if nacks < 3 then ((s.updReq n fun r => { r with writes := l }).sendWrite n).startAccess
        else
          let from_ := s.comingFrame n + s.setLat n
          let s := s.updSensor n fun x => { x with unknown := some ((x.unknown.map fun k => min k from_).getD from_) }
          ((s.busError).endReq n).startAccess

/-- The access of CAM_BUS_CMD ends after so many NACKs. -/
def State.accessEnds (s : State) (n nacks : Nat) (value : Word) : State :=
  match s.cam.access with
  | none => s
  | some a =>
    if a.sensor ≠ n || !a.started then s
    else
      let s := (({ s with cam := { s.cam with access := none } }).putFlag CAM_BUS_STAT_BUSY false).retry nacks a.out
      if 3 ≤ nacks then (s.putFlag CAM_BUS_STAT_ERR true).busError
      else if a.read then s.setReg CAM_BUS_DATA (BitVec.ofNat 32 (bits value 0 (8 * a.bytes)))
      else s

/-! ## Discovery (R299) -/

/-- Give the joined targets of a bus their addresses, from 0x10 upward, past those of its I2C targets; DISEC disables an unlisted one. -/
def State.joinBus (s : State) (b : Nat) (joined : List (BitVec 16)) : State :=
  let taken := ((s.busSensors b).filter fun n => !s.flag (CAM_SNS_BUS_I3C n)).map fun n => s.get (CAM_SNS_BUS_ADDR n)
  let free := (List.range 0x6E).filterMap fun i => if taken.contains (0x10 + i) then none else some (0x10 + i)
  let find (id : BitVec 16) : Option Nat :=
    (s.busSensors b).find? fun n => s.flag (CAM_SNS_BUS_I3C n) && s.get (CAM_SNS_BUS_PID_LO n) = id.toNat
  let s := (joined.filter fun id => (find id).isNone).foldl (fun s id => s.emit (.busCcc b (.disec id))) s
  ((joined.filterMap find).zip free).foldl (fun s q => (s.put (CAM_SNS_BUS_ADDR q.1) q.2).putFlag (CAM_SNS_BUS_PRESENT q.1) true) s

/-- Discovery of every named port is done. -/
def State.discovered (s : State) (answered : BitVec 16) (joined : List (Fin 4 × BitVec 16)) : State :=
  let ports := bitList s.cam.discovering
  if ports.isEmpty then s
  else
    let s := ports.foldl (fun s b =>
      let s := (s.busSensors b).foldl (fun s n =>
        s.putFlag (CAM_SNS_BUS_PRESENT n) (!s.flag (CAM_SNS_BUS_I3C n) && answered.getLsbD n)) s
      s.joinBus b ((joined.filter fun q => q.1.val = b).map fun q => q.2)) s
    (({ s with cam := { s.cam with discovering := 0 } }).raise 171).resolve 0x0500 .ok 0

/-! ## Meanings -/

/-- TRIGGER_PULSE (R301): a pulse has started on an output a compare unit drives. -/
def execTriggerPulse (output : Fin 16) (dt : Nat) (s : State) : Host.Outcome State Fault Refusal :=
  s.done (let s := (s.tick dt).posNow
    if s.runs 10 && (s.drivenBy POS_CMP_CTL_TRIG).testBit output.val then s.triggerOutput output.val else s)

/-- FRAME_BOUNDARY (R301, R307). -/
def execFrameBoundary (sensor : Fin 16) (dt : Nat) (s : State) : Host.Outcome State Fault Refusal :=
  s.done (let s := s.tick dt
    match (s.sensor sensor.val).frames.find? fun (f : Frame) => !f.bounded with
    | none => s
    | some f =>
      if s.runs 10 then (s.tickTo (f.at_ + s.get (CAM_SNS_TIMING_EXP_DELAY sensor.val))).frameBoundary sensor.val f else s)

/-- STROBE_PULSE (R303). -/
def execStrobePulse (sensor : Fin 16) (dt : Nat) (s : State) : Host.Outcome State Fault Refusal :=
  s.done (let s := s.tick dt
    if s.runs 10 then s.startStrobe sensor.val else s)

/-- PULSE_END (R257, R303). -/
def execPulseEnd (pulse : PulseKind) (dt : Nat) (s : State) : Host.Outcome State Fault Refusal :=
  s.done (let s := s.tick dt
    match pulse with
    | .compare unit => if s.runs 8 then s.endPulse unit.val else s
    | .strobe sensor => if s.runs 10 then s.endStrobe sensor.val else s
    | .lineSync => if s.runs 8 then s.endSync else s)

/-- FRAME_START (R301, R302, R311). -/
def execFrameStart (port : Fin 4) (vc : Fin 16) (ecc : EccResult) (dt : Nat) (s : State) : Host.Outcome State Fault Refusal :=
  s.done (let s := (s.tick dt).posNow
    if s.runs 10 && s.camPortOn port.val then s.withHeader port.val ecc fun s => s.frameStart port.val vc.val else s)

/-- FRAME_LINE (R302, R312). -/
def execFrameLine (port : Fin 4) (vc : Fin 16) (dataType : BitVec 6) (pixels : List (BitVec 12)) (ecc : EccResult)
    (crcOk : Bool) (taken : Nat) (dt : Nat) (s : State) : Host.Outcome State Fault Refusal :=
  s.done (let s := s.tick dt
    if s.runs 10 then
      let s := State.takeLines taken s
      if s.camPortOn port.val then s.withHeader port.val ecc fun s => s.linePacket port.val vc.val dataType pixels crcOk else s
    else s)

/-- FRAME_END (R297, R302). -/
def execFrameEnd (port : Fin 4) (vc : Fin 16) (ecc : EccResult) (dt : Nat) (s : State) : Host.Outcome State Fault Refusal :=
  s.done (let s := s.tick dt
    if !(s.runs 10 && s.camPortOn port.val) then s
    else s.withHeader port.val ecc fun s =>
      match s.snsAt port.val vc.val with
      | none => s
      | some n =>
        match s.receiving n with
        | none => s
        | some f => s.endFrame n f true)

/-- FS_TIMEOUT (R302): FS_TIMEOUT µs after the boundary of the oldest held frame. -/
def execFsTimeout (sensor : Fin 16) (dt : Nat) (s : State) : Host.Outcome State Fault Refusal :=
  s.done (let s := s.tick dt
    match (s.sensor sensor.val).frames.find? fun (f : Frame) => !f.started with
    | none => s
    | some f =>
      if s.runs 10 && f.bounded then
        (s.tickTo (f.at_ + 800 * max 1 (s.get (CAM_SNS_TIMING2_FS_TIMEOUT sensor.val)))).loseFrame sensor.val f
      else s)

/-- FRAME_RECORD (R317 to R320): the lines still buffered have entered and left the pipeline; `err` where the host reports a PCIe error. -/
def execFrameRecord (sensor : Fin 16) (err : Bool) (s : State) : Host.Outcome State Fault Refusal :=
  s.done (match (s.sensor sensor.val).frames.find? fun (f : Frame) => f.admitted && f.ended with
    | none => s
    | some f =>
      if s.runs 10 then
        let n := sensor.val
        let s := (List.range (f.got - f.entered)).foldl (fun s _ => s.enterLine n f.number) s
        let f := ((s.sensor n).frames.find? fun (g : Frame) => g.number = f.number).getD f
        ((s.streamEnds n f).feedFrame n f).writeRecord n f false false err
      else s)

/-- SETTINGS_SEND (R306). -/
def execSettingsSend (sensor : Fin 16) (s : State) : Host.Outcome State Fault Refusal :=
  s.done (if s.runs 10 then s.sendReq sensor.val else s)

/-- SETTINGS_WRITES_DONE (R306). -/
def execSettingsWritesDone (sensor : Fin 16) (s : State) : Host.Outcome State Fault Refusal :=
  s.done (if s.runs 10 then s.writesDone sensor.val else s)

/-- SETTINGS_COMMIT (R306 to R308). -/
def execSettingsCommit (sensor : Fin 16) (s : State) : Host.Outcome State Fault Refusal :=
  s.done (if s.runs 10 then s.commitReq sensor.val else s)

/-- BUS_ACCESS (R300). -/
def execBusAccess (by_ : By) (value : Word) (s : State) : Host.Outcome State Fault Refusal :=
  s.done (s.hostWrite by_ CAM_BUS_CMD fun s => s.busCommand value)

/-- BUS_ACCESS_DONE (R298, R300, R309). -/
def execBusAccessDone (sensor : Fin 16) (settings : Bool) (nacks : Fin 4) (value : Word) (s : State) :
    Host.Outcome State Fault Refusal :=
  s.done (if !s.runs 10 then s
    else if settings then s.settingsWrite sensor.val nacks.val
    else s.accessEnds sensor.val nacks.val value)

/-- IN_BAND_INTERRUPT (R298). -/
def execInBandInterrupt (sensor : Fin 16) (s : State) : Host.Outcome State Fault Refusal :=
  s.done (if s.runs 10 && s.flag (CAM_SNS_BUS_I3C sensor.val) then (s.emit (.ibiAck sensor.val)).raiseDetail 170 sensor.val else s)

/-- HOT_JOIN (R298): acknowledged only during discovery. -/
def execHotJoin (bus : Fin 4) (s : State) : Host.Outcome State Fault Refusal :=
  s.done (if s.runs 10 && s.cam.discovering.getLsbD bus.val then s.emit (.hotJoinAck bus.val) else s)

/-- DISCOVERY_DONE (R299). -/
def execDiscoveryDone (answered : BitVec 16) (joined : List (Fin 4 × BitVec 16)) (s : State) :
    Host.Outcome State Fault Refusal := s.done (if s.runs 10 then s.discovered answered joined else s)

end Sys2Proof.Machine
end

