-- ==== Sys2Proof/Machine/Engines.lean ====
section
/-! DEFINITION. The decompression engines (R157, R160 to R167, R171, R208), patrol scrub (R177), and the keeper's registers of the
reprint queue (R172, R175). -/

namespace Sys2Proof.Machine

/-! ## Deadlines (R163) -/

/-- Line period of the current reach in 2^-8 cycle, where the line clock runs and has one. -/
def State.clockPeriod (s : State) : Option Nat :=
  if !s.flag FIR_STAT_RUNNING then none
  else
    match s.params with
    | some p => if p.p = 0 then none else some p.p
    | none => none

/-- T_c(n) of a channel; none while it is infinite. -/
def State.chTime (s : State) (c : Nat) (n : Int) : Option Int :=
  let f := s.fch c
  if !f.on || f.next = 0 then none
  else s.clockPeriod.map fun p => (f.bt : Int) + (n - (f.next - 1)) * p / 256

/-- T_I(n) of the camera line, by run line. -/
def State.camTime (s : State) (n : Int) : Option Int :=
  if s.fir.camNext = 0 then none
  else s.clockPeriod.map fun p => (s.fir.camT : Int) + (n - (s.fir.camNext - 1)) * p / 256

/-- Run line of line n of a context's tile; none while its page is not laid out. -/
def State.ctxRun (s : State) (x : Ctx) (n : Nat) : Option Int :=
  ((s.page? x.page).bind fun p => p.first).map fun f => f + 256 * (x.band : Int) + n

/-- Absolute line of line n of a context's tile. -/
def State.ctxLine (s : State) (x : Ctx) (n : Nat) : Option Int :=
  (s.ctxRun x n).bind fun j => ((s.fch x.ch).a0).map fun a0 => j + a0

/-- DEADLINE of a context. -/
def State.deadline (s : State) (x : Ctx) : Option Int :=
  match x.kind with
  | .firing => (s.ctxLine x x.line).bind fun a => s.chTime x.ch (a - s.guard)
  | .reference => (s.ctxRun x x.line).bind fun j => s.camTime (j - s.refGuard)
  | .verification => (s.ctxLine x 0).bind fun a => s.chTime x.ch (a - 256 - s.guard)

/-! ## Ready contexts and the pick (R161, R162) -/

/-- Rank of a kind. -/
def CtxKind.rank : CtxKind → Nat
  | .firing => 0
  | .reference => 1
  | .verification => 2

/-- Lines of a context's tile. -/
def State.ctxLines (s : State) (x : Ctx) : Nat := ((s.page? x.page).map fun p => p.bandLines x.band).getD 0

/-- Whether a context is ready. A verification beyond the first 32 waits (R160); one that has decoded its tile waits for its
end (R132). -/
def State.ctxReady (s : State) (x : Ctx) : Bool :=
  match x.kind with
  | .firing => ((s.ctxLine x x.line).map fun a => decide (a < (s.fch x.ch).asm + 256)).getD false
  | .reference => ((s.ctxRun x x.line).map fun j => decide (j - 64 ≤ s.pnd.consumed.getD x.ch (-1))).getD false
  | .verification => decide (x.line < s.ctxLines x)
      && (((s.pnd.contexts.filter fun y => y.kind = .verification).take 32).contains x)

/-- The key of R162: an infinite deadline comes after every finite one. -/
def State.ctxKey (s : State) (x : Ctx) : List Int :=
  match s.deadline x with
  | some t => [0, t, x.kind.rank, x.ch, x.col, x.order]
  | none => [1, 0, x.kind.rank, x.ch, x.col, x.order]

/-- Lexicographic order of keys. -/
def keyLess : List Int → List Int → Bool
  | a :: l, b :: m => decide (a < b) || (decide (a = b) && keyLess l m)
  | [], _ :: _ => true
  | _, [] => false

/-- The ready context of smallest key. -/
def State.pickContext (s : State) : Option Ctx :=
  (s.pnd.contexts.filter s.ctxReady).foldl (fun o x =>
    match o with
    | none => some x
    | some y => if keyLess (s.ctxKey x) (s.ctxKey y) then some x else some y) none

/-! ## One quantum (R162, R165 to R167) -/

/-- The output of a tile's decode, and the cause of R172 with which its stream fails. -/
def tileImage (t : Tile) : List Byte × Option Nat :=
  if t.deflate then
    match inflate t.rawSize t.bytes with
    | (l, some .expansion) => (l, some 2)
    | (l, some .bad) => (l, some 4)
    | (l, none) => (l, none)
  else (t.bytes, none)

/-- One line of a tile's decode: its 1,024 bytes, or the cause with which the decode fails in it. -/
def tileLine (t : Tile) (line last : Nat) : Except Nat (List Byte) :=
  let r := tileImage t
  if r.1.length < 1024 * (line + 1) then .error (r.2.getD 4)
  else if line < last then .ok ((r.1.drop (1024 * line)).take 1024)
  else
    match r.2 with
    | some e => .error e
    | none => if crc32c r.1 = t.crc then .ok ((r.1.drop (1024 * line)).take 1024) else .error 3

/-- Advance a context. -/
def State.ctxStep (s : State) (x : Ctx) (n : Nat) : State :=
  { s with pnd := { s.pnd with contexts := s.pnd.contexts.map fun (y : Ctx) =>
      if y.order = x.order then { y with line := y.line + n } else y } }

/-- Output bytes are counted (PND_STB_DEC_BYTES). -/
def State.decBytes (s : State) (n : Nat) (page : Word) : State :=
  let s := s.liveAddPair PND_STB_INFO PND_STB_DEC_BYTES_LO_BYTES PND_STB_DEC_BYTES_HI_BYTES n
  if s.sys.livePage.getD (s.get PND_CTL_STAT_CH) none = some page then s else s.livePut ⟨PND_STB_INFO, 26, 1⟩ 1

/-- Energy of a staged segment per die, doubled (R208): a stitch column of code 0 counts half on each of its dies. -/
def State.segmentEnergy (s : State) (g : Segment) : List (Nat × Nat) :=
  let e := s.levelE g.ch
  let w (l : Nat) : Nat := if l = 0 then 0 else if l = 1 then e.1 else if l = 2 then e.2.1 else e.2.2
  let all := (List.range 4096).flatMap fun x =>
    let k := 4096 * g.col + x
    let v := w (pixelOf g.bytes x)
    match zoneOf k with
    | none => [(k / 1024, 2 * v)]
    | some (d, z) =>
      match s.stitchCode g.ch z with
      | 1 => [(d, 2 * v)]
      | 2 => [(d + 1, 2 * v)]
      | _ => [(d, v), (d + 1, v)]
  ((List.range 6).map fun i => 4 * g.col - 1 + i).filterMap fun d =>
    let n := ((all.filter fun q => q.1 = d).map fun q => q.2).sum
    if n = 0 then none else some (d, n)

/-- Add to the energy sum of a die and reach. -/
def State.addEnergy (s : State) (c d : Nat) (q : Int) (n : Nat) : State :=
  let old := ((s.asm.energy.find? fun e => e.1 = c && e.2.1 = d && e.2.2.1 = q).map fun e => e.2.2.2).getD 0
  { s with asm := { s.asm with
    energy := (c, d, q, old + n) :: s.asm.energy.filter fun (e : Nat × Nat × Int × Nat) => !(e.1 = c && e.2.1 = d && e.2.2.1 = q) } }

/-- A segment of the staging ring becomes VALID (R157, R208). -/
def State.stageSegment (s : State) (g : Segment) (run : Int) : State :=
  let s := { s with pnd := { s.pnd with staging := s.pnd.staging ++ [g] } }
  if s.runs 7 then (s.segmentEnergy g).foldl (fun s e => s.addEnergy g.ch e.1 (run / (s.reachLen : Int)) e.2) s else s

/-- A context fails (R166, R167, R171). -/
def State.ctxFails (s : State) (p : Page) (x : Ctx) (cause : Nat) : State :=
  match x.kind with
  | .firing => (s.firingFails p x.ch x.col x.band (s.unread p x.ch x.band) cause).settleAll
  | .reference => (s.referenceMiss p x.ch x.col x.band x.line 7).settleAll
  | .verification => s

/-- A context has written its tile's last line. -/
def State.ctxEnds (s : State) (x : Ctx) : State :=
  let s := s.dropContext x.kind x.page x.ch x.col x.band
  match x.kind with
  | .firing => (s.finishFired x.page x.ch x.col x.band).settleAll
  | .reference => (s.finishReferenced x.page x.ch x.col x.band).settleAll
  | .verification => s

/-- One line of a firing or reference context. -/
def State.decodeLine (s : State) (p : Page) (t : Tile) (x : Ctx) : State :=
  let n := p.bandLines x.band
  match tileLine t x.line (n - 1) with
  | .error e => s.ctxFails p x e
  | .ok b =>
    let run := (s.ctxRun x x.line).getD 0
    let s := (s.ctxStep x 1).decBytes 1024 p.id
    let s := match x.kind with
      | .firing => s.stageSegment ⟨x.ch, (s.ctxLine x x.line).getD 0, x.col, b⟩ run
      | _ => { s with pnd := { s.pnd with reference := s.pnd.reference ++ [Segment.mk x.ch run x.col b] } }
    if x.line + 1 = n then s.ctxEnds x else s

/-- One quantum of a context, with how its store reads end. The end of a verification is its own event (R132), but a read that fails
ends it here (R133, R176). -/
def State.runContext (s : State) (x : Ctx) (mem : MemRead) : State :=
  match s.page? x.page, s.tile? x.page x.ch x.col x.band with
  | some p, some t =>
    if x.kind = .verification then
      let s := s.memRead mem
      if memFailed mem then s.poison x.page x.ch x.col x.band 8
      else s.ctxStep x (min 16 (p.bandLines x.band - x.line))
    else
      let s := s.memRead mem
      if memFailed mem then s.ctxFails p x 5 else s.decodeLine p t x
  | _, _ => s

/-- DECODE_QUANTUM (R162): every engine is alike. -/
def execDecodeQuantum (_engine : Fin 96) (mem : MemRead) (s : State) : Host.Outcome State Fault Refusal :=
  s.done (if !(s.runs 6 && s.runs 5) then s
    else
      match s.pickContext with
      | none => s
      | some x => s.runContext x mem)

/-! ## Patrol scrub (R177, R178) -/

/-- Whether patrol scrub reads a block: the descriptor table, and every held pool block. -/
def State.scrubs (s : State) (b : Nat) : Bool := b < 2304 || s.heldList.contains b

/-- SCRUB_READ (R177). -/
def execScrubRead (block : BitVec 22) (mem : MemRead) (s : State) : Host.Outcome State Fault Refusal :=
  s.done (if s.runs 5 && s.flag PND_SCRUB_EN && s.scrubs block.toNat then s.memRead mem else s)

/-! ## Reprint registers (R172, R175) -/

/-- A write of PND_RPQ_POP: the oldest entry goes; its page stays pinned. -/
def State.popReprint (s : State) : State := ({ s with pnd := { s.pnd with reprints := s.pnd.reprints.drop 1 } }).syncReprint

/-- A write of PND_RPR_RELEASE (R175). -/
def State.releaseReprint (s : State) (name : Word) : State :=
  let id := s.keyOf name
  match s.stored? name with
  | none => s
  | some p =>
    if !(p.pinned || p.heldAt.isSome) then s
    else
      let s := ({ s with pnd := { s.pnd with reprints := s.pnd.reprints.filter fun (e : Reprint) => e.page ≠ id } }).syncReprint
      let s := s.updPage id fun p => { p with pinned := false, released := true, heldAt := none }
      match s.jobOf p with
      | none => s.evictPage id
      | some j =>
        if (j.mask &&& ~~~p.done = 0) && p.tiles.all (tileDone (s.inspects j)) then (s.evictPage id).settleAll else s.settleAll

/-- RPQ_POP (R172). -/
def execRpqPop (by_ : By) (s : State) : Host.Outcome State Fault Refusal :=
  s.done (s.hostWrite by_ PND_RPQ_POP fun s => s.popReprint)

/-- RPR_RELEASE (R175). -/
def execRprRelease (by_ : By) (page : Word) (s : State) : Host.Outcome State Fault Refusal :=
  s.done (s.hostWrite by_ PND_RPR_RELEASE fun s => s.releaseReprint page)

end Sys2Proof.Machine
end

