-- ==== Sys2Proof/Machine/Ins.lean ====
section
/-! DEFINITION. The quality loop: the camera line and the inspection station's page boundaries, the analysis of a page, streaks,
trims, registration and defects (R30, R32, R56, R171, R323 to R342, R349). -/

namespace Sys2Proof.Machine

/-! ## Changes of nozzle records by the loop (R330, R342) -/

/-- Count in the live bank of INS. -/
def State.insCount (s : State) (f : Fld) (n : Nat) : State := if n = 0 then s else s.liveAdd INS_STB_INFO f n

/-- A change of a record the loop wants. -/
def loopChange (index : Nat) (mask : BitVec 12) (v : Rec) : Change := ⟨index / 329472, index, mask, v, false⟩

/-- Whether a change of a record to this STATE is already staged. -/
def State.stateComing (s : State) (index st : Nat) : Bool :=
  s.asm.changes.any fun x => x.index = index && x.mask.getLsbD 0 && recGet x.value 0 = st

/-- Stage one change of the loop; with the buffer full it is kept for after the next inspected page (R342). -/
def State.loopStage (s : State) (x : Change) : State :=
  if s.bufRoom = 0 then
    let s := ({ s.bufFull with ins := { s.ins with restage := s.ins.restage ++ [x] } }).insCount INS_STB_LOOP_DROPPED_COUNT 1
    s.raise 177
  else
    let s := if x.mask.getLsbD 0 && recGet x.value 0 ≠ recGet (s.nozzle x.index) 0 then s.insCount INS_STB_STATE_CHANGES_COUNT 1 else s
    let trims := bit (x.mask.getLsbD 2) + bit (x.mask.getLsbD 3) + bit (x.mask.getLsbD 4)
    (s.insCount INS_STB_TRIM_UPDATES_COUNT trims).stageChange x.index x.mask x.value

/-- Stage changes of the loop and commit the sets they belong to. -/
def State.loopApply (s : State) (l : List Change) : State :=
  let room := s.bufRoom
  let s := l.foldl (fun s x => s.loopStage x) s
  ((l.take room).map fun (x : Change) => x.set).dedup.foldl (fun s c => s.commitNow .asm c) s

/-- STATE and CAUSE of a record under a mask of both. -/
def stateChange (index st cause : Nat) : Change := loopChange index 0x003 (recPut (recPut defaultRec 0 st) 1 cause)

/-! ## Pairs of columns (R327) -/

/-- Dies that a logical column lies on. -/
def diesOf (k : Nat) : List Nat :=
  match zoneOf k with
  | some (d, _) => [d, d + 1]
  | none => [k / 1024]

/-- Live nozzles of channel c on columns 2i and 2i + 1, as record numbers. -/
def State.livePair (s : State) (c i : Nat) : List Nat :=
  ([2 * i, 2 * i + 1].filter fun k => k < 53248).flatMap fun k => (diesOf k).flatMap fun d =>
    (s.liveRows c d (columnOn k d)).map fun z => recordIndex c d z.2 (columnOn k d)

/-- Channel and column pair of a record; a column off the bar's edge has none. -/
def pairOf (index : Nat) : Option (Nat × Nat) :=
  let k := 1024 * (index / 6336 % 52) + index % 1056
  if 16 ≤ k ∧ k < 53264 then some (index / 329472, (k - 16) / 2) else none

/-- Whether a pair with these sums is streaked (R327). -/
def State.streaked (s : State) (n : Nat) (d : ℚ) : Bool :=
  s.minSolo ≤ n && decide ((s.get INS_STREAK_STREAK_THR : ℚ) * n ≤ 256 * d)

/-- A streak finding's changes: WEAK_CNT of every live nozzle, and GOOD ones go to SUSPECT with CAUSE STREAK. -/
def State.streakChanges (s : State) (c i : Nat) : List Change :=
  (s.livePair c i).map fun x =>
    let r := s.nozzle x
    let w := recPut r 8 (min 255 (recGet r 8 + 1))
    if recGet r 0 = 0 then loopChange x 0x103 (recPut (recPut w 0 1) 1 2) else loopChange x 0x100 w

/-- Nozzles SUSPECT by STREAK whose pair has been clear for CLEAR_PAGES pages. -/
def State.clearChanges (s : State) : List Change :=
  s.asm.table.filterMap fun q =>
    match pairOf q.1 with
    | none => none
    | some k =>
      let last := ((s.ins.streaks.find? fun t => t.1 = k.1 && t.2.1 = k.2).map fun t => t.2.2.2).getD 0
      if recGet q.2 0 = 1 && recGet q.2 1 = 2 && decide (last + max 1 (s.get INS_STREAK_CLEAR_PAGES) ≤ s.ins.pages)
          && !s.stateComing q.1 0 then
        some (stateChange q.1 0 2)
      else none

/-- The streak test of a page (R327): its findings are counted and raised, and its changes wanted. -/
def State.streakTest (s : State) (sums : List ((Nat × Nat) × Nat × ℚ)) : List Change × State :=
  let n := s.ins.pages + 1
  let hit := (sums.filter fun q => s.streaked q.2.1 q.2.2).map fun q => q.1
  let run (k : Nat × Nat) : Nat := ((s.ins.streaks.find? fun t => t.1 = k.1 && t.2.1 = k.2).map fun t => t.2.2.1).getD 0
  let old := (s.ins.streaks.filter fun t => !hit.contains (t.1, t.2.1)).map fun t => (t.1, t.2.1, 0, t.2.2.2)
  let kept := old.filter fun (t : Nat × Nat × Nat × Nat) => decide (n < t.2.2.2 + max 1 (s.get INS_STREAK_CLEAR_PAGES))
  let new := hit.map fun (k : Nat × Nat) => (k.1, k.2, run k + 1, n)
  let found := hit.filter fun k => max 1 (s.get INS_STREAK_STREAK_PAGES) ≤ run k + 1
  let s := { s with ins := { s.ins with pages := n, streaks := kept ++ new } }
  let s := found.foldl (fun s _ => (s.insCount INS_STB_STREAK_FOUND_COUNT 1).raise 172) s
  if s.flag INS_CTL_AUTO_STATE then ((found.flatMap fun k => s.streakChanges k.1 k.2) ++ s.clearChanges, s) else ([], s)

/-! ## Density trims (R328) -/

/-- Trim step of a level's sums. -/
def State.trimDelta (s : State) (n : Nat) (d : ℚ) : Int :=
  let m : Int := s.get INS_TRIM_TRIM_STEP
  clampInt (-m) m (roundRat ((s.get INS_TRIM_TRIM_GAIN : ℚ) * 8 * d / n))

/-- A trim of level v of one record by a step. -/
def State.trimChange (s : State) (index v : Nat) (delta : Int) : Change :=
  let t := signed 6 (recGet (s.nozzle index) (v + 1)) + delta
  let t := clampInt (-32) 31 (if v = 3 then min t 0 else t)
  loopChange index (BitVec.ofNat 12 (2 ^ (v + 1))) (recPut defaultRec (v + 1) (unsigned 6 t))

/-- The trims of a page. -/
def State.trimChanges (s : State) (sums : List ((Nat × Nat × Nat) × Nat × ℚ)) : List Change :=
  if !s.flag INS_CTL_AUTO_TRIM then []
  else sums.flatMap fun q =>
    let delta := s.trimDelta q.2.1 q.2.2
    if q.1.2.2 = 0 || q.2.1 < s.minSolo || delta = 0 then []
    else (s.livePair q.1.1 q.1.2.1).map fun x => s.trimChange x q.1.2.2 delta

/-! ## Registration (R336 to R338) -/

/-- The offset of a channel moves by a step of whole counts, staged and committed (R337). -/
def State.stepOffset (s : State) (c : Nat) (step : Int) : State :=
  let x := unsigned 48 (s.offsetActive c / 2 ^ 32 + step)
  let s := (s.setReg (FIR_CH_OFFSET_LO c) (BitVec.ofNat 32 x)).put (FIR_CH_OFFSET_HI_COUNTS c) (x / 2 ^ 32)
  (s.commitNow .fir c).insCount INS_STB_REG_UPDATES_COUNT 1

/-- Registration of one channel from its marks on a page: the means, the correction, and whether the page has a defect of class 4. -/
def State.register (s : State) (c : Nat) (l : List Mark) : Bool × State :=
  let n := l.length
  if n < max 1 (s.get INS_REG2_MIN_MARKS) then (false, s)
  else
    let dy := (l.map fun (m : Mark) => m.dy).sum / (n : ℚ)
    let dx := (l.map fun (m : Mark) => m.dx).sum / (n : ℚ)
    let s := s.setReg (INS_REG_DY c) (BitVec.ofInt 32 (clampInt (-2 ^ 31) (2 ^ 31 - 1) (roundRat dy)))
    let s := s.setReg (INS_REG_DX c) (BitVec.ofNat 32 (n * 65536 + unsigned 16 (roundRat dx)))
    let s := if 50 < |dx| then s.raise 178 else s
    let s := if s.flag INS_CTL_AUTO_REG && decide ((s.get INS_REG_DEADBAND : ℚ) < |dy|) then
        let step := roundRat (-(s.get INS_REG_REG_GAIN : ℚ) * dy / 16)
        let m : Int := s.get INS_REG_MAX_STEP
        let s := if m < |step| then (s.putFlag INS_STAT_REG_ALARM true).raise 175 else s
        s.stepOffset c (clampInt (-m) m step)
      else s
    (decide ((s.get INS_REG2_REG_TOL : ℚ) < |dy|), s)

/-! ## Defects (R339 to R341) -/

/-- Class of a region of flagged pixels. -/
def regionClass (r : Region) : Nat :=
  if 64 ≤ r.lines ∧ r.cols ≤ 4 then 1
  else if r.area < 2 * r.lighter then 2
  else 3

/-- The channel byte of a record: the one channel with solo pixels, or 0xFF. -/
def regionChannel (r : Region) : Nat :=
  match bitList r.solo with
  | [c] => c
  | _ => 0xFF

/-- The 20 bytes of a region's record. -/
def regionBytes (r : Region) : List Byte :=
  leBytes 2 r.colFirst ++ leBytes 2 r.cols ++ leBytes 4 r.lineFirst ++ leBytes 2 r.lines
    ++ leBytes 1 (regionClass r) ++ leBytes 1 (regionChannel r) ++ leBytes 4 r.area ++ leBytes 2 r.peak ++ [0, 0]

/-- The record of a class-4 defect: its channel; the spec gives it no place, area and peak (log entry 1, DESIGN CHOICE). -/
def State.registerRecord (s : State) (c : Nat) : List Byte × State :=
  let a := s.draw
  let b := a.2.draw
  (leBytes 8 a.1.toNat ++ leBytes 2 (a.1.toNat / 2 ^ 48) ++ [4, BitVec.ofNat 8 c] ++ leBytes 6 b.1.toNat ++ [0, 0], b.2)

/-- Page lines that a camera line covers: two in a job at 1,200 lines per inch. -/
def linesPer (j : Option Job) : Nat := if (j.map fun j => j.lpi600).getD false then 1 else 2

/-- Whether a region lies inside one for which its page is already flagged (R340): blank-filled, or of a blanked die. -/
def State.known (s : State) (page : Word) (lpp : Nat) (r : Region) : Bool :=
  let lo := r.lineFirst
  let hi := lo + lpp * r.lines
  let a := r.colFirst
  let b := a + r.cols
  (s.pnd.regions.any fun g => g.page = page && decide (2048 * g.col ≤ a ∧ b ≤ 2048 * g.col + 2048
      ∧ 256 * g.band + g.first ≤ lo ∧ hi ≤ 256 * g.band + g.last + 1))
    || s.fir.hotMarks.any fun h => h.1 = page && decide (1024 * h.2.2 ≤ 2 * a + 16 ∧ 2 * b + 16 ≤ 1024 * h.2.2 + 1056)

/-- Whether a class causes reprint. -/
def State.classReprints (s : State) (n : Nat) : Bool := (BitVec.ofNat 4 (s.get INS_DEFECT_REPRINT)).getLsbD (n - 1)

/-- Keep the records of a page: 64 of it, of the last 256 pages. -/
def State.keepDefects (s : State) (page : Word) (l : List (List Byte)) : State :=
  let all := s.ins.defects ++ [⟨page, l.take 64, decide (64 < l.length)⟩]
  { s with ins := { s.ins with defects := all.drop (all.length - 256) } }

/-- The defects of a page: those of content and those of registration on some channels. -/
def State.pageDefects (s : State) (p : Page) (regions : List Region) (late : List Nat) : State :=
  let job := s.jobOf p
  let regions := if s.flag INS_CTL_EN_DEFECT then
      regions.filter fun r => max 1 (s.get INS_DEFECT_AREA) ≤ r.area
    else []
  let recs := late.foldl (fun (q : List (List Byte) × State) c =>
    let r := q.2.registerRecord c
    (q.1 ++ [r.1], r.2)) (regions.map regionBytes, s)
  let s := recs.2.keepDefects p.name recs.1
  let n := recs.1.length
  let s := (s.insCount INS_STB_DEFECTS_COUNT n).put INS_STAT_DEFECTS (min 127 n)
  let every := (job.map fun j => j.mask).getD 0
  let bad := regions.filter fun r => s.classReprints (regionClass r) && !s.known p.id (linesPer job) r
  let mask := bad.foldl (fun (m : BitVec 8) (r : Region) => m ||| (if r.solo = 0 then every else r.solo)) 0
  let lateBits := if s.classReprints 4 then late else []
  let mask := lateBits.foldl (fun (m : BitVec 8) (c : Nat) => m ||| chBit c) mask
  let hit := !bad.isEmpty || !lateBits.isEmpty
  let s := s.putFlag INS_STAT_DEFECTIVE hit
  if hit then ((s.defect p.id mask 9 false).insCount INS_STB_REPRINT_COUNT 1).raise 174 p.id else s

/-! ## The analysis of a page (R326) -/

/-- The end of the analysis of a page, from what the feed and the reference show of it. -/
def State.analysed (s : State) (p : Page) (v : PageView) : State :=
  let r := s.refLevel p.id
  let x := s.sight v r
  let partly := p.uninspected || decide ((s.covering v r).length < 26624 * v.height)
  let kept := s.ins.restage
  let d := s.deficits v x
  let regions := s.regionsOf v r x
  let marks := (List.range 8).map fun c => s.marks v r x c
  let s := ({ s with ins := { s.ins with restage := [], lastJob := p.job } }).setReg INS_PAGE_LAST p.name
  let s := s.insCount INS_STB_EXCLUDED_COUNT d.2.length
  let sums := if s.flag INS_CTL_EN_DENSITY then d.1 else []
  let pairs := sumsBy (fun d => (d.ch, d.pair)) sums
  let levels := sumsBy (fun d => (d.ch, d.pair, d.level)) sums
  let r := if s.flag INS_CTL_EN_STREAK then s.streakTest pairs else ([], s)
  let s := r.2.loopApply (kept ++ r.1 ++ r.2.trimChanges levels)
  let r := if s.flag INS_CTL_EN_REG then
      marks.zipIdx.foldl (fun (q : List Nat × State) m =>
        let x := q.2.register m.2 m.1
        (if x.1 then q.1 ++ [m.2] else q.1, x.2)) ([], s)
    else ([], s)
  let s := r.2.pageDefects p regions r.1
  let s := s.putFlag INS_STAT_UNINSPECTED partly
  let s := s.updPage p.id fun q => { q with uninspected := partly }
  let s := s.updJob p.job fun j => { j with nInspected := j.nInspected + 1 }
  { s with asm := { s.asm with excluded := s.asm.excluded.filter fun (e : Word × Nat × Nat × Nat) => e.1 ≠ p.id } }

/-- What the analysers keep for a page is let go; frames stay while another page or a calibration run may show in them. -/
def State.forget (s : State) (id : Word) : State :=
  let more := s.cal.run.isSome || s.pnd.pages.any fun p =>
    p.id ≠ id && ((s.jobOf p).map fun j => s.inspects j).getD false && (!p.seen || s.ins.waiting.contains p.id)
  { s with ins := { s.ins with
      refs := s.ins.refs.filter fun (g : RefSeg) => g.page ≠ id
      blind := s.ins.blind.filter fun (g : BlankRegion) => g.page ≠ id
      views := s.ins.views.filter fun (v : PageView) => v.page ≠ id
      feed := if more then s.ins.feed else [] } }

/-- PAGE_ANALYSIS_DONE: the end of the analysis of a page that waits for it. -/
def State.analysisDone (s : State) (name : Word) : State :=
  let id := (s.ins.waiting.find? fun k => s.nameOf k = name).getD name
  if !s.ins.waiting.contains id || !s.runs 10 then s
  else
    let s := match s.page? id, s.ins.views.find? fun (v : PageView) => v.page = id with
      | some p, some v => s.analysed p v
      | _, _ => s
    let s := s.forget id
    let s := { s with ins := { s.ins with waiting := s.ins.waiting.filter fun (x : Word) => x ≠ id } }
    (s.putFlag INS_STAT_BUSY (!s.ins.waiting.isEmpty)).settleAll

/-! ## The camera line (R30, R32, R56, R160, R171, R217) -/

/-- Predicted cycle of the camera line's boundary of run line j. -/
def State.camLineTime (s : State) (a : Anchor) (j : Int) : Int :=
  s.tau a ((s.fir.w0 + s.pos48 FIR_INS_OFFSET_LO FIR_INS_OFFSET_HI) * 2 ^ 32 + j * s.fir.cl)

/-- Reference contexts of a band whose firing contexts have been made: of the tiles in the store (R160). -/
def State.referBand (s : State) (p : Page) (c b : Nat) : State :=
  (List.range 13).foldl (fun s col =>
    match s.tile? p.id c col b with
    | none => s
    | some t =>
      if t.referenced || (t.state ≠ .stored && t.state ≠ .landed) || s.pnd.contexts.any (fun x => x.isFor .reference p.id c col b) then s
      else s.newContext .reference p.id c col b) s

/-- Bands whose reference decode may begin: those within the 64 lines of the reference rings ahead of the camera line. -/
def State.makeReferences (s : State) : State :=
  s.pnd.due.foldl (fun s q =>
    match s.page? q.1 with
    | none => s
    | some p =>
      let inspected := ((s.jobOf p).map fun j => s.inspects j).getD false
      let near := (p.first.map fun (f : Int) => decide (f + 256 * (q.2.2 : Int) - 64 ≤ s.fir.camNext - 1)).getD false
      if inspected && near then s.referBand p q.2.1 q.2.2 else s) s

/-- Reference contexts that miss their deadline at the camera line's boundary of run line j (R163, R171). -/
def State.missReferences (s : State) (j : Int) : State :=
  s.pnd.contexts.foldl (fun s x =>
    if x.kind = .reference && (((s.ctxRun x x.line).map fun (n : Int) => decide (n ≤ j + s.refGuard)).getD false) then
      match s.page? x.page with
      | some p => s.referenceMiss p x.ch x.col x.band x.line 6
      | none => s
    else s) s

/-- GOOD nozzles whose FIRE_CNT has reached the wear limit (R330). -/
def State.wearChanges (s : State) : List Change :=
  let l := s.get INS_WEAR_LIMIT
  if l = 0 || !s.flag INS_CTL_AUTO_STATE then []
  else s.asm.table.filterMap fun q =>
    if recGet q.2 0 = 0 && decide (l ≤ recGet q.2 10) && !s.stateComing q.1 1 then some (stateChange q.1 1 5) else none

/-- The page under the camera line, unless it has passed. -/
def State.stationPage (s : State) : Option Page := s.ins.page.bind s.page?

/-- Where a page lies on the web under the camera line. -/
def State.viewOf (s : State) (p : Page) (j : Job) : PageView where
  page := p.id
  mask := j.mask
  pos := (s.fir.w0 + s.pos48 FIR_INS_OFFSET_LO FIR_INS_OFFSET_HI) * 2 ^ 32 + p.first.getD 0 * (s.fir.cl : Int)
  cl := s.fir.cl
  lines := p.lines
  lpp := if j.lpi600 then 1 else 2
  noMarks := s.ins.noMarks.flatMap fun q => (List.range p.lines).filterMap fun (x : Nat) =>
    if q.2.1 ≤ p.first.getD 0 + x ∧ p.first.getD 0 + x ≤ q.2.2 then some (q.1, x) else none

/-- The station leaves a page: it is seen, and an inspected one awaits its analysis. -/
def State.stationLeaves (s : State) (p : Page) : State :=
  let s := s.updPage p.id fun q => { q with seen := true }
  match (s.jobOf p).filter fun j => s.inspects j with
  | some j =>
    ({ s with ins := { s.ins with waiting := s.ins.waiting ++ [p.id], views := s.ins.views ++ [s.viewOf p j] } }).putFlag INS_STAT_BUSY true
  | none => s

/-- The reference lines up to run line j are inspection's (R160, R323). -/
def State.takeRefs (s : State) (j : Int) : State :=
  let passed := s.pnd.reference.filter fun (g : Segment) => decide (g.line ≤ j)
  let taken := passed.filterMap fun (g : Segment) =>
    (s.pnd.pages.find? fun (p : Page) => (p.first.map fun (f : Int) => decide (f ≤ g.line ∧ g.line < f + p.lines)).getD false).map
      fun (p : Page) => (⟨p.id, g.ch, (g.line - p.first.getD 0).toNat, g.col, g.bytes⟩ : RefSeg)
  { s with
    ins := { s.ins with refs := s.ins.refs ++ taken }
    pnd := { s.pnd with reference := s.pnd.reference.filter fun (g : Segment) => decide (j < g.line) } }

/-- A page boundary of the inspection station, into a page of this identity or out of the last. -/
def State.stationBoundary (s : State) (into : Option Page) : State :=
  let s := match s.stationPage with
    | some p => s.stationLeaves p
    | none => s
  let s := s.latchIns false
  let s := match into with
    | some p => s.handOver .cam 16 p.name
    | none => match s.ins.page with
      | some id => s.handOver .cam 16 id
      | none => s
  let s := (s.handTables.loopApply s.wearChanges).cameraPage
  { s with ins := { s.ins with page := into.map fun p => p.id } }

/-- Whether a page of the run is still to come at the camera line from run line j on. -/
def State.pageFollows (s : State) (j : Int) : Bool :=
  s.pnd.pages.any fun p => ((p.first.map fun f => decide (j ≤ f)).getD false) && !p.seen && (s.sys.stop.isNone || decide (p.begun ≠ 0))

/-- The camera line passes the boundary of run line j. -/
def State.cameraLine (s : State) (j : Int) : State :=
  let s := { s with
    fir := { s.fir with camNext := j + 1, camT := s.cycle }
    pnd := { s.pnd with consumed := List.replicate 8 j } }
  let s := (s.takeRefs j).missReferences j
  let s := if s.runs 10 then
      match s.pnd.pages.find? fun p => p.first = some j with
      | some p => s.stationBoundary (some p)
      | none =>
        match s.stationPage with
        | none => s
        | some p =>
          if ((p.first.map fun (f : Int) => decide (f + p.lines ≤ j)).getD true) && !s.pageFollows j then s.stationBoundary none else s
    else
      s.pnd.pages.foldl (fun s p =>
        if (p.first.map fun (f : Int) => decide (f + p.lines ≤ j)).getD false then s.updPage p.id fun q => { q with seen := true } else s) s
  (((s.makeReferences.settleAll.jobCheck).follow).drainCheck).endTrail

/-- CAMERA_LINE_BOUNDARY (R30, R32, R217). -/
def execCameraLineBoundary (dt : Nat) (s : State) : Host.Outcome State Fault Refusal :=
  s.done (let s := s.tick dt
    match s.params with
    | none => s
    | some a =>
      if s.clockRuns && a.p ≠ 0 && s.sys.inspection && decide (s.camLineTime a s.fir.camNext ≤ s.cycle) then s.cameraLine s.fir.camNext
      else s)

/-- PAGE_ANALYSIS_DONE (R323 to R342). -/
def execPageAnalysisDone (page : Word) (dt : Nat) (s : State) : Host.Outcome State Fault Refusal :=
  s.done ((s.tick dt).analysisDone page)

end Sys2Proof.Machine
end

