-- ==== Sys2Proof/Machine/Cal.lean ====
section
/-! DEFINITION. Calibration runs and temper runs (R331 to R335, R342 to R347, R350). -/

namespace Sys2Proof.Machine

/-- The quantity a kind calibrates (R346). -/
def calQuantity (kind : Nat) : Option Nat :=
  match kind with
  | 5 => some 0
  | 4 => some 1
  | 2 => some 2
  | 3 => some 3
  | _ => none

/-! ## Test pages as the cameras see them (R331, R333, R337) -/

/-- Where the test page of channel c, page m of a run, lies on the web under the camera line. -/
def State.testView (s : State) (run : CalRun) (c m : Nat) : PageView where
  page := 0
  mask := chBit c
  pos := (s.fir.w0 + s.pos48 FIR_INS_OFFSET_LO FIR_INS_OFFSET_HI) * 2 ^ 32 + (m * s.testLength run * s.fir.cl : Nat)
  cl := s.fir.cl
  lines := s.testLength run
  lpp := 2
  noMarks := []

/-- The reference of the test page of channel c. -/
def State.testRef (s : State) (run : CalRun) (c : Nat) : RefFn := fun k col x => if k = c then s.testLevel run c col x else 0

/-- What inspection sees of the test page of channel c: no map and no region excludes anything there. -/
def State.testSight (s : State) (run : CalRun) (c m : Nat) : Sight :=
  let v := s.testView run c m
  let l := (s.covering v (s.testRef run c)).filter fun p => !p.torn && !p.unknown
  ⟨l, s.paperMeans v l⟩

/-- Fired nozzles of a channel as (logical column, ordinal among those of the column, die, row). -/
def State.firedAll (s : State) (run : CalRun) (c : Nat) : List (Nat × Nat × Nat × Nat) :=
  (List.range 53248).flatMap fun k => (s.firedRows run c k).zipIdx.map fun q => (k, q.2, q.1.1, q.1.2)

/-! ## The ladder (R331) -/

/-- Coverage a and displacement δ in µm of a rung, from the pixels about it: its darkness over that of 16 pixels of level 3, and its cross
centroid less its logical column (log entry 24, DESIGN CHOICE). -/
def State.rung (s : State) (x : Sight) (c k from_ to_ : Nat) : Option (ℚ × ℚ) :=
  let l := x.pix.filter fun p => decide (k / 2 ≤ p.col + 2 ∧ p.col ≤ k / 2 + 2 ∧ from_ ≤ 2 * p.line + 2 ∧ 2 * p.line < to_ + 2)
  match l with
  | [] => none
  | p :: _ =>
    let full := s.paper x c p.sensor * (1 - s.inkShare c 3)
    let sum := (l.map fun q => s.paper x c q.sensor - q.luma).sum
    let a := if full = 0 then (Config.openDeficit p.luma (s.ink c 0) (s.ink c 3) : ℚ) / 2 ^ 16 else sum / (4 * full)
    let d := ((centre (l.map fun q => (s.dark x c q, (q.col : ℚ)))).map fun (z : ℚ) => (2 * z + 1 / 2 - (k : ℚ)) * 127 / 6).getD 0
    some (a, d)

/-- The record after a rung of coverage `a` and displacement `d` in µm, on a test page (R331). -/
def State.rungRecord (s : State) (r : Rec) (a d : ℚ) (page : Nat) : Rec :=
  let absent := decide (256 * a < (s.get INS_LADDER_MISS_A : ℚ))
  let displaced := !absent && decide ((s.get INS_LADDER_ASTRAY_UM : ℚ) < |d|)
  let weak := !absent && !displaced && decide (256 * a < (s.get INS_LADDER_WEAK_A : ℚ))
  let score := if absent || displaced then 0 else min 255 ⌊a * 255⌋.toNat
  let st := if absent then 3 else if displaced then 4 else if weak then 2 else 0
  let r := recPut (recPut r 0 st) 1 (if displaced then 3 else 1)
  let r := recPut r 6 ((3 * recGet r 6 + score) / 4)
  let r := if absent then recPut r 7 (min 255 (recGet r 7 + 1)) else r
  let r := if weak then recPut r 8 (min 255 (recGet r 8 + 1)) else r
  recPut r 9 (page % 65536)

/-- The changes of the rungs of channel c: STATE, CAUSE, HEALTH, the counts and LAST_PAGE. -/
def State.rungChanges (s : State) (run : CalRun) (c : Nat) : List Change :=
  let m := (s.testChannels run).idxOf c
  let x := s.testSight run c m
  let id := ((run.ids.find? fun q => q.1 = m).map fun q => q.2.toNat).getD 0
  let slot := 16 * max 1 run.gap + 8
  (s.firedAll run c).filterMap fun n =>
    let from_ := slot * (9 * n.2.1 + n.1 % 9)
    let i := recordIndex c n.2.2.1 n.2.2.2 (columnOn n.1 n.2.2.1)
    (s.rung x c n.1 from_ (from_ + 16 * max 1 run.gap)).map fun q => loopChange i 0x3C3 (s.rungRecord (s.nozzle i) q.1 q.2 id)

/-! ## Density (R328, R333) -/

/-- Patch of a density page that a page line lies in. -/
def State.patchAt (s : State) (line : Nat) : Nat := 2 * line / s.patchLines

/-- The trims of channel c, from the patches of each row alone (R328, R333). -/
def State.patchTrims (s : State) (run : CalRun) (c : Nat) : List Change :=
  let m := (s.testChannels run).idxOf c
  let x := s.testSight run c m
  let d := (s.deficits (s.testView run c m) x).1
  (s.firedAll run c).flatMap fun n => [1, 2, 3].filterMap fun v =>
    let mine := d.filter fun q => q.level = v && q.pair = n.1 / 2 && s.patchAt q.line = 6 * n.2.2.2 + 2 * (v - 1) + n.2.2.1 % 2
    let delta := s.trimDelta mine.length (mine.map fun q => q.d).sum
    if mine.length < s.minSolo || delta = 0 then none
    else some (s.trimChange (recordIndex c n.2.2.1 n.2.2.2 (columnOn n.1 n.2.2.1)) v delta)

/-- INK_Y of channel c as its page shows it: the mean Y of its solo pixels of each level, and of its paper pixels. -/
def State.stageInk (s : State) (run : CalRun) (c : Nat) : State :=
  let x := s.testSight run c ((s.testChannels run).idxOf c)
  (List.range 4).foldl (fun s v =>
    match meanOf ((x.pix.filter fun p => p.solo.any fun q => q.2 = v).map fun p => p.luma) with
    | some y => s.stageTable 0x0700 (8 * c + 2 * v) (leBytes 2 (roundRat y).toNat)
    | none => s) s

/-! ## Registration (R337) -/

/-- Pixels of a block of 64 lines of a registration page whose two logical columns lie in a span. -/
def blockPix (x : Sight) (b from_ to_ : Nat) : List Pix :=
  x.pix.filter fun p => decide (64 * b ≤ 2 * p.line ∧ 2 * p.line < 64 * b + 64 ∧ from_ ≤ 2 * p.col ∧ 2 * p.col < to_)

/-- Process error, in counts, of what a block printed in a span of logical columns: where its darkness lies, less its line 16. -/
def State.blockError (s : State) (x : Sight) (c b from_ to_ : Nat) : Option ℚ :=
  (centre ((blockPix x b from_ to_).map fun p => (s.dark x c p, (p.off : ℚ)))).map fun y =>
    (y - ((64 * b + 16 : Nat) * s.fir.cl : Nat)) / 2 ^ 32

/-- The mean of rationals; none without one. -/
def meanRat (l : List ℚ) : Option ℚ := if l.isEmpty then none else some (l.sum / (l.length : ℚ))

/-- Process errors of the rows: of each, the mean over both dies' parities. -/
def State.rowErrors (s : State) (x : Sight) (c : Nat) : List (Option ℚ) :=
  (List.range (s.depth c)).map fun j => meanRat ([0, 1].filterMap fun h => s.blockError x c (2 * j + h) 0 53248)

/-- Process errors of the dies: of each, the mean over the rows, at its stitch zones. -/
def State.dieErrors (s : State) (x : Sight) (c : Nat) : List (Option ℚ) :=
  (List.range 52).map fun d => meanRat ((List.range (s.depth c)).flatMap fun j =>
    (if d = 0 then [] else (s.blockError x c (2 * j + d % 2) (1024 * d - 16) (1024 * d + 16)).toList)
      ++ if d = 51 then [] else (s.blockError x c (2 * j + d % 2) (1024 * d + 1008) (1024 * d + 1040)).toList)

/-- Cross-track misalignment of die d + 1 against die d, in 0.1 µm: the places of what each printed alone in the zone. -/
def State.zoneError (s : State) (x : Sight) (c d : Nat) : Option ℚ :=
  let place (h : Nat) : Option ℚ :=
    centre ((blockPix x (12 + h) (1024 * d + 1000) (1024 * d + 1048)).map fun p => (s.dark x c p, (p.col : ℚ)))
  (place ((d + 1) % 2)).bind fun a => (place (d % 2)).map fun b => (a - b) * pixelPitch

/-- A position in counts less an error: what the errors have in common is the channel's offset and stays (log entry 24, DESIGN CHOICE). -/
def correctedBy (old : Word) (errors : List (Option ℚ)) (k : Nat) : Word :=
  match errors.getD k none, meanRat (errors.filterMap id) with
  | some e, some m => BitVec.ofNat 32 ((old.toNat : Int) - roundRat (e - m)).toNat
  | _, _ => old

/-- The results of a registration page. -/
def State.stageRegistration (s : State) (run : CalRun) (c : Nat) : State :=
  let x := s.testSight run c ((s.testChannels run).idxOf c)
  let rows := s.rowErrors x c
  let dies := s.dieErrors x c
  let zones := (List.range 51).map fun d => (s.zoneError x c d).map roundRat
  let s := (List.range (s.depth c)).foldl (fun s j => s.setReg (FIR_CH_ROWPOS c j) (correctedBy (s.act (FIR_CH_ROWPOS c j)) rows j)) s
  let s := (List.range 52).foldl (fun s d => s.setReg (FIR_DIEPOS c d) (correctedBy (s.act (FIR_DIEPOS c d)) dies d)) s
  zones.zipIdx.foldl (fun s z => match z.1 with
    | some e => s.stageTable (0x0800 + c) (2 * z.2) (leBytes 2 (unsigned 16 e))
    | none => s) s

/-! ## Results (R333, R335) -/

/-- Whether a CAMERA run produces a CAL table (R333). -/
def calProduces (id : Nat) : Bool := decide (0x0100 ≤ id ∧ id < 0x0300)

/-- Stage one result of a CAMERA or ELECTRICAL run, where its kind produces it. -/
def State.stageResult (s : State) (run : CalRun) (x : CalItem) : State :=
  match x with
  | .table id off b => if run.kind = 4 && calProduces id.toNat && (calTableSize id.toNat).isSome then s.stageTable id.toNat off b else s
  | .black n v => if run.kind = 4 && s.snsOn n.val then s.put (CAM_SNS_BLACK_BLACK n.val) v.toNat else s
  | .gain a v =>
    if run.kind = 5 then
      { s with cal := { s.cal with gainsNext := (a, v) :: s.cal.gainsNext.filter fun (g : Nat × Word) => g.1 ≠ a } }
    else s

/-- What the test pages of a run show is staged (R331, R333, R337). -/
def State.stagePages (s : State) (run : CalRun) : State :=
  let l := s.testChannels run
  match run.kind with
  | 1 => if s.flag INS_CTL_AUTO_STATE then (l.flatMap fun c => s.rungChanges run c).foldl (fun s x => s.loopStage x) s else s
  | 2 =>
    let changes := if s.flag INS_CTL_AUTO_TRIM then l.flatMap fun c => s.patchTrims run c else []
    changes.foldl (fun s x => s.loopStage x) (l.foldl (fun s c => s.stageInk run c) s)
  | 3 => l.foldl (fun s c => s.stageRegistration run c) s
  | _ => s

/-- Commit the sets the results of a run were staged in. -/
def State.commitResults (s : State) (run : CalRun) : State :=
  match run.kind with
  | 1 | 2 => (bitList run.mask).foldl (fun s c => s.commitNow .asm c) s
  | 3 => (bitList run.mask).foldl (fun s c => s.commitNow .fir c) s
  | 4 => ((List.range 16).filter s.snsOn).foldl (fun s n => s.commitNow .cam n) s
  | _ => s

/-! ## A run (R333, R334, R347) -/

/-- The channels of a run as a job that prints no page of the store: the line clock counts lines for them, and test pages stand on them. -/
def calJob (mask : BitVec 8) : Job where
  id := 0
  mask := mask
  flags := 0
  maxLines := 0
  gap := 0
  depth := 0
  closed := false
  running := false
  went := false
  nFired := 0
  nInspected := 0
  nDefective := 0

/-- Whether a printing run can start: WEB_READY high and a valid position. -/
def State.webMoves (s : State) : Bool := s.sys.webReady && s.validNow

/-- After a run: the next quantity due in this visit, unless it was aborted; else the return to Warm (R347). -/
def State.leaveCal (s : State) : State :=
  let s := s.setChipMode 5 1
  { s with cal := { s.cal with queue := [] } }

/-- A successful run records the temperature of its quantity (R346). -/
def State.tempered (s : State) (kind : Nat) : State :=
  match calQuantity kind with
  | none => s
  | some q =>
    let s := s.put (CAL_TMP_STAT_T_LAST q) (s.get (CAL_TMP_STAT_T_NOW q))
    let s := (s.putFlag (CAL_TMP_STAT_DUE q) false).putFlag (CAL_TMP_STAT_OVERDUE q) false
    { s with cal := { s.cal with dueFor := s.cal.dueFor.set q 0 } }

/-- The end of a run: its results, its RESULT and vector, and the command's end (R334). -/
def State.endCal (s : State) (run : CalRun) (result : Nat) (items : List CalItem) : State :=
  let s := if result = 1 then ((((items.foldl (fun s x => s.stageResult run x) s).stagePages run).commitResults run).tempered run.kind) else s
  let s := if result = 1 && run.kind = 6 then (s.putFlag CAL_DIM_PENDING true).raise 220 else s
  let s := (s.closeCal result).resolve 0x0401 .ok 0
  if run.temper then s
  else s.resolve 0x0400 (if result = 1 then .ok else if result = 2 then .aborted else .fault) (if result = 1 then 0 else 3)

/-- A run begins in Calibrate. A printing run without web or position fails at once. -/
def State.beginCal (s : State) (kind : Nat) (retest : Bool) (mask : BitVec 8) (temper : Bool) : State :=
  let run : CalRun := ⟨kind, retest, mask, temper, false, 0, []⟩
  let s := ({ s with cal := { s.cal with run := some run } }).setReg CAL_STAT
    (BitVec.ofNat 32 (2 ^ 31 + mask.toNat * 65536 + 32768 * bit retest + kind))
  if !calPrints kind then s
  else if s.webMoves then s.posNow.startGrid (calJob (mask &&& s.sys.channels)) s.posNow.counter
  else s.endCal run 3 []

/-- Begin the runs of a visit in turn until one goes on; with none left the chip returns to Warm. -/
def State.nextCal : List Nat → State → State
  | [], s => s.leaveCal
  | k :: rest, s =>
    let s := ({ s with cal := { s.cal with queue := rest } }).beginCal k false s.sys.channels true
    if s.cal.run.isSome then s else State.nextCal rest s

/-- CAL_START in Warm (R333): the chip enters Calibrate and the run begins. -/
def State.startCal (s : State) (kind : Nat) (retest : Bool) (mask : BitVec 8) : State :=
  let s := (s.setChipMode 11 1).beginCal kind retest mask false
  if s.cal.run.isSome then s else s.leaveCal

/-- CAL_RUN_END: the run in progress ends. -/
def State.runEnds (s : State) (result : Nat) (items : List CalItem) : State :=
  match s.cal.run with
  | none => s
  | some run =>
    let r := if run.aborting then 2 else result
    let s := s.endCal run r items
    if run.aborting then s.leaveCal else State.nextCal s.cal.queue s

/-! ## Temper runs (R346, R347) -/

/-- POLICY in force of quantity q: 3 acts as NOTIFY. -/
def State.policy (s : State) (q : Nat) : Nat := if s.get (CAL_TMP_CTL_POLICY q) = 3 then 1 else s.get (CAL_TMP_CTL_POLICY q)

/-- The check of one quantity, due once a second. -/
def State.temperOne (s : State) (q t : Nat) : State :=
  let s := s.put (CAL_TMP_STAT_T_NOW q) t
  let diff := |signed 8 t - signed 8 (s.get (CAL_TMP_STAT_T_LAST q))|
  if s.policy q = 0 then s
  else if !s.flag (CAL_TMP_STAT_DUE q) then
    if (max 1 (s.get (CAL_TMP_CTL_THRESH q)) : Int) ≤ diff then
      (({ s with cal := { s.cal with dueFor := s.cal.dueFor.set q 0 } }).putFlag (CAL_TMP_STAT_DUE q) true).raise 218
    else s
  else
    let n := s.cal.dueFor.getD q 0 + 1
    let s := { s with cal := { s.cal with dueFor := s.cal.dueFor.set q n } }
    if s.get (CAL_TMP_CTL_DEFER_S q) < n && !s.flag (CAL_TMP_STAT_OVERDUE q) then (s.putFlag (CAL_TMP_STAT_OVERDUE q) true).raise 219
    else s

/-- The reading of quantity 1: the highest of the enabled sensors' temperature registers, which are read over their buses (R346). -/
def hottestSensor (l : List (BitVec 8)) : Option Int := l.foldl (fun o b => some (max (o.getD (signed 8 b.toNat)) (signed 8 b.toNat))) none

/-- The check of every quantity that has a reading. -/
def State.temperCheck (s : State) (chip : BitVec 8) (sensors : List (BitVec 8)) : State :=
  let on := (List.range 16).filter s.snsOn
  let s := on.foldl (fun s n => s.emit (.busRead n (s.get (CAL_TMP_SRC_REG 1)) 1)) s.soak
  let t := [some (signed 8 chip.toNat), hottestSensor (sensors.take on.length), s.averaged 2, s.averaged 3]
  let s := { s with cal := { s.cal with heat := [(0, 0), (0, 0)], checkedAt := s.cycle } }
  t.zipIdx.foldl (fun s q => match q.1 with
    | some v => s.temperOne q.2 (unsigned 8 v)
    | none => s) s

/-- Kinds due to run at once, in ascending order of their quantity. -/
def State.temperDue (s : State) : List Nat :=
  ([(0, 5), (1, 4), (2, 2), (3, 3)].filter fun q => s.policy q.1 = 2 && s.flag (CAL_TMP_STAT_DUE q.1)).map fun q => q.2

/-- Due runs start: the chip is in Warm and no command is being executed. -/
def State.temperStart (s : State) : State :=
  if s.modeCode ≠ 5 || s.flag SYS_MODE_TRANSITION || !s.cmd.table.isEmpty || s.cal.run.isSome || s.temperDue.isEmpty then s
  else State.nextCal s.temperDue (s.setChipMode 11 1)

/-- CAL_RUN_END (R334). -/
def execCalRunEnd (result : BitVec 4) (results : List CalItem) (dt : Nat) (s : State) : Host.Outcome State Fault Refusal :=
  s.done ((s.tick dt).runEnds result.toNat results)

/-- TEMPER_CHECK (R346, R347). -/
def execTemperCheck (chip : BitVec 8) (sensors : List (BitVec 8)) (dt : Nat) (s : State) : Host.Outcome State Fault Refusal :=
  s.done (((s.tick dt).tickTo (s.cal.checkedAt + 800000000)).temperCheck chip sensors)

/-- TEMPER_RUN_START (R347). -/
def execTemperRunStart (s : State) : Host.Outcome State Fault Refusal := s.done s.temperStart

end Sys2Proof.Machine
end

