-- ==== Sys2Proof/Machine/Command.lean ====
section
/-! DEFINITION. Commands (R83 to R111): the packed reply, where a reply goes, the checks of R98 in their order, and how a command
that passes them is executed and answered. -/

namespace Sys2Proof.Machine

/-! ## Replies (R83 to R86, R89, R92, R96) -/

/-- Place of a status in the table of R103. -/
def Status.place : Status → Nat
  | .ok => 0
  | .accepted => 1
  | .badOpcode => 2
  | .badLength => 3
  | .badParam => 4
  | .badCheck => 5
  | .stateConflict => 6
  | .viewDenied => 7
  | .lockedOut => 8
  | .noResource => 9
  | .busy => 10
  | .fault => 11
  | .aborted => 12

/-- The bytes of a reply, with its CHECK (R83 to R85); zero bytes fill its parameters to a multiple of 4 (log entry 107, DEDUCED). -/
def Reply.bytes (r : Reply) : List Byte :=
  let params := leBytes 2 (Config.statusCode r.status.place).toNat ++ leBytes 2 r.detail ++ [r.modeByte, r.routeByte]
    ++ leBytes 2 r.legal.toNat ++ r.data ++ List.replicate ((4 - r.data.length % 4) % 4) 0
  let head := leBytes 2 r.opcode.toNat ++ leBytes 2 r.tag.toNat ++ leBytes 2 params.length
    ++ leBytes 2 (0x8000 + 0x4000 * bit r.final + bit r.noChange) ++ leBytes 4 r.session.toNat
  head ++ leBytes 4 (crc32c (head ++ params)).toNat ++ params

/-- CHECK of a request with an opcode (R84). -/
def packetCrc (p : Packet) (code : Nat) : Word :=
  crc32c (leBytes 2 code ++ leBytes 2 p.tag.toNat ++ leBytes 2 p.length.toNat ++ leBytes 2 p.flags.toNat
    ++ leBytes 4 p.session.toNat ++ p.params)

/-- Number of a route (R85). -/
def routeCode : Route → Nat
  | .keeper => 0
  | .crew => 1
  | .towpath _ => 2
  | .ethernet _ => 3

/-- Whether a route is a ring, and the crew's. -/
def ringOf : Route → Option Bool
  | .keeper => some false
  | .crew => some true
  | .towpath _ => none
  | .ethernet _ => none

/-- A field of a ring: that of the keeper ring or of the crew ring. -/
def ringFld (crew : Bool) (k c : Fld) : Fld := if crew then c else k

/-- ENABLE of a ring. -/
def ringEnable (crew : Bool) : Fld := ringFld crew CMD_K_RING_CTL_ENABLE CMD_C_RING_CTL_ENABLE

/-- Submission indices of a ring. -/
def sqTail (crew : Bool) : Fld := ringFld crew CMD_K_SQ_TAIL_INDEX CMD_C_SQ_TAIL_INDEX

/-- Head of the submission ring. -/
def sqHead (crew : Bool) : Fld := ringFld crew CMD_K_SQ_HEAD_INDEX CMD_C_SQ_HEAD_INDEX

/-- Completion indices of a ring. -/
def cqTail (crew : Bool) : Fld := ringFld crew CMD_K_CQ_TAIL_INDEX CMD_C_CQ_TAIL_INDEX

/-- Head of the completion ring. -/
def cqHead (crew : Bool) : Fld := ringFld crew CMD_K_CQ_HEAD_INDEX CMD_C_CQ_HEAD_INDEX

/-- Slots of a ring (R88, R112). -/
def State.ringSize (s : State) (crew : Bool) : Nat :=
  2 ^ max 2 (min 8 (s.get (ringFld crew CMD_K_RING_CTL_LOG2_SIZE CMD_C_RING_CTL_LOG2_SIZE)))

/-- Free slots of a ring's completion ring (R89). -/
def State.ringFree (s : State) (crew : Bool) : Nat :=
  let n := s.ringSize crew
  n - 1 - (s.get (cqTail crew) + n - s.get (cqHead crew)) % n

/-- Replies of a ring that wait for space (R89). -/
def State.ringWaiting (s : State) (crew : Bool) : List Reply := if crew then s.cmd.waitingC else s.cmd.waitingK

/-- Write the waiting replies of a ring. -/
def State.setWaiting (s : State) (crew : Bool) (l : List Reply) : State :=
  if crew then { s with cmd := { s.cmd with waitingC := l } } else { s with cmd := { s.cmd with waitingK := l } }

/-- Write a reply into the completion slot CQ_TAIL of a ring, and raise its vector (R89). -/
def State.putReply (s : State) (crew : Bool) (r : Reply) : State :=
  let t := s.get (cqTail crew)
  let s := (s.emit (.ringReply crew t r)).put (cqTail crew) ((t + 1) % s.ringSize crew)
  s.raise (if crew then 33 else 32)

/-- Answer on a ring: behind replies that wait, or with no free slot, the reply waits; a ring that is not enabled answers no more. -/
def State.ringAnswer (s : State) (crew : Bool) (r : Reply) : State :=
  if !s.flag (ringEnable crew) then s
  else if !(s.ringWaiting crew).isEmpty || s.ringFree crew = 0 then s.setWaiting crew (s.ringWaiting crew ++ [r])
  else s.putReply crew r

/-- Write bytes to the words of a towpath slot from an offset. -/
def State.writeSlot (s : State) (off : Nat) (l : List Byte) : State :=
  { s with cmd := { s.cmd with slots := (List.range (l.length / 4)).foldl (fun m i =>
      m.set (fun _ => 0) (off + 4 * i) (BitVec.ofNat 32 (field l (4 * i) 4))) s.cmd.slots } }

/-- Answer on the towpath (R92): the slot's reply area, the copy in host memory, DONE and vector 34. -/
def State.towpathAnswer (s : State) (slot : Nat) (r : Reply) : State :=
  let s := (s.writeSlot (0x100 * slot + 0x80) r.bytes).emit (.towpathReply slot r)
  let s := if s.flag CMD_TP_CTL_RADDR_EN then
      s.emit (.towpathPost slot (s.getPair CMD_TP_RADDR_LO CMD_TP_RADDR_HI + 0x80 * slot))
    else s
  let s := { s with cmd := { s.cmd with busy := putBit s.cmd.busy slot false } }
  (s.incWrap CMD_TP_STAT_DONE).raise 34

/-- Where a datagram came from: source address and port, and its KEY_ID. -/
structure Source where
  address : BitVec 128
  port : BitVec 16
  key : Nat

/-- A key slot (R97). -/
def State.netKey (s : State) (k : Nat) : NetKey := s.cmd.keys.getD k ⟨[], 0, 1⟩

/-- Answer an Ethernet request under its key, with the key's next reply SEQ (R96). -/
def State.netAnswer (s : State) (port : Nat) (src : Source) (r : Reply) : State :=
  let k := s.netKey src.key
  let s := s.emit (.udpReply port (s.vlanTag port) src.address src.port src.key k.replySeq r)
  { s with cmd := { s.cmd with keys := s.cmd.keys.set src.key { k with replySeq := k.replySeq + 1 } } }

/-- The source of an Ethernet request that is commanded without its datagram: open (log entry 1, DESIGN CHOICE). -/
def State.anySource (s : State) : Source × State :=
  let (a, s) := s.draw
  let (b, s) := s.draw
  let (c, s) := s.draw
  (⟨a ++ b, c.setWidth 16, c.toNat / 2 ^ 16 % 4⟩, s)

/-- Send an answer by the route of its request. -/
def State.answer (s : State) (route : Route) (src : Option Source) (r : Reply) : State :=
  match route with
  | .keeper => s.ringAnswer false r
  | .crew => s.ringAnswer true r
  | .towpath slot => s.towpathAnswer slot.val r
  | .ethernet port =>
    match src with
    | some x => s.netAnswer port.val x r
    | none => s.anySource.2.netAnswer port.val s.anySource.1 r

/-! ## Checks (R98 to R103) -/

/-- An opcode of R105: what its row gives, the checks of its own, and its effect. Parameter checks answer the offset of the first
bad parameter. -/
structure Op where
  code : Nat
  keeper : Bool
  legal : Nat
  fits : List Byte → Bool
  params : State → List Byte → Option Nat := fun _ _ => none
  /-- A SET_MODE that names a reachable target (R108). -/
  reach : State → List Byte → Bool := fun _ _ => true
  /-- Locked out by R80. -/
  locked : State → List Byte → Bool := fun _ _ => false
  /-- Answered BUSY during a mode change (R99). -/
  changes : Bool := false
  /-- Resources, and conditions that are refused. -/
  refuse : State → List Byte → Option (Status × Nat) := fun _ _ => none
  /-- What a refusal for want of room leaves behind (R196). -/
  blocked : State → State := id
  /-- The goal holds already (R100). -/
  same : State → List Byte → Bool := fun _ _ => false
  /-- Completes later (R101), and whether a final reply follows. -/
  later : Bool := false
  pends : Bool := true
  /-- What the pending entry keeps of the parameters. -/
  arg : List Byte → Nat := fun _ => 0
  /-- The effect, with the reply's data. -/
  act : Packet → State → List Byte × State
  /-- An effect that follows the reply. -/
  post : List Byte → State → State := fun _ s => s

/-- The failure a check answers, where it fails. -/
def fails (b : Bool) (st : Status) (detail : Nat) : Option (Status × Nat) := if b then some (st, detail) else none

/-- Opcodes accepted on the towpath and on Ethernet (R86). -/
def plainOps : List Nat := [0x0100, 0x0101, 0x0201, 0x0800]

/-- The recovery subset of the boot ROM (R73). -/
def recoveryOps : List Nat := [0x0100, 0x0104, 0x0106, 0x0107, 0x0A04, 0x0A05, 0x0A06]

/-- Step 4 of R98: the route (R87), and in the boot-ROM recovery state the recovery subset (R107). -/
def State.routeFails (s : State) (code : Nat) (r : Route) : Option (Status × Nat) :=
  if s.sys.rom then fails (!recoveryOps.contains code) .fault 1
  else fails ((ringOf r).isNone && !plainOps.contains code) .badOpcode 1

/-- Whether keeper rights apply (R86); the boot ROM serves its subset on the towpath alone, so it asks for none (log entry 25, DEDUCED). -/
def State.rights (s : State) (r : Route) : Bool := routeCode r = 0 || s.sys.rom

/-- Step 1 of R98. -/
def packetFormed (p : Packet) : Bool :=
  p.length.toNat ≤ 4080 && p.length.toNat % 4 = 0 && p.params.length = p.length.toNat

/-- The first check of R98 that a known opcode fails. -/
def State.check (s : State) (o : Op) (p : Packet) : Option (Status × Nat) :=
  let ring := (ringOf p.route).isSome
  let full := o.later && o.pends && ring && 32 ≤ s.cmd.table.length && !o.same s p.params
  let used := s.cmd.table.any fun (c : PendingCmd) => c.tag = p.tag && c.session = p.session
  [ fails (!packetFormed p) .badLength 1,
    fails (p.check ≠ packetCrc p o.code) .badCheck 0,
    s.routeFails o.code p.route,
    fails (o.keeper && !s.rights p.route) .viewDenied 0,
    fails (!o.fits p.params) .badLength 2,
    fails (p.flags ≠ 0) .badParam 0x8006,
    (o.params s p.params).map fun n => (Status.badParam, n),
    fails (!(o.legal.testBit s.modeCode && o.reach s p.params)) .stateConflict 0,
    fails (o.locked s p.params) .lockedOut 1,
    fails (!s.rights p.route && (s.reg CMD_CREW_CTL).getLsbD (o.code / 256)) .lockedOut 2,
    fails full .noResource 1,
    fails used .busy 2,
    fails (o.changes && s.flag SYS_MODE_TRANSITION) .busy 1,
    o.refuse s p.params ].findSome? id

/-! ## Execution -/

/-- The MODE byte of a reply (R85). -/
def State.modeByte (s : State) : BitVec 8 := BitVec.ofNat 8 (128 * s.get SYS_MODE_TRANSITION + s.modeCode)

/-- A reply to a request, with the mode and the rights of the check (R85). -/
def State.replyTo (s : State) (code legal : Nat) (p : Packet) (st : Status) (detail : Nat) (noChange : Bool)
    (data : List Byte) : Reply where
  opcode := BitVec.ofNat 16 code
  tag := p.tag
  session := p.session
  final := decide (st ≠ .accepted)
  noChange := noChange
  status := st
  detail := detail
  modeByte := s.modeByte
  routeByte := BitVec.ofNat 8 (2 * routeCode p.route + bit (s.rights p.route))
  legal := BitVec.ofNat 16 legal
  data := data

/-- Enter a command in the pending table (R101). -/
def State.pend (s : State) (o : Op) (p : Packet) : State :=
  match ringOf p.route with
  | none => s
  | some crew =>
    { s with cmd := { s.cmd with table := s.cmd.table ++
        [⟨crew, BitVec.ofNat 16 o.code, p.tag, p.session, o.arg p.params, none, false, false, s.modeByte⟩] } }

/-- Execute a command that has passed its checks, and answer it. -/
def State.execute (s : State) (o : Op) (p : Packet) (src : Option Source) : State :=
  let reply := s.replyTo o.code o.legal p
  if o.same s p.params then s.answer p.route src (reply .ok 0 true [])
  else if o.later then
    let s := if o.pends then s.pend o p else s
    o.post p.params ((o.act p s).2.answer p.route src (reply .accepted 0 false []))
  else
    let r := o.act p s
    o.post p.params (r.2.answer p.route src (reply .ok 0 false r.1))

/-- Check, execute and answer a command. -/
def State.handle (s : State) (o : Op) (p : Packet) (src : Option Source) : State :=
  match s.check o p with
  | some (st, d) =>
    let r := s.replyTo o.code o.legal p st d false []
    let s := if st = .noResource ∧ d = 2 then o.blocked s else s
    s.answer p.route src r
  | none => s.execute o p src

/-- Answer a packet whose opcode is not known (R98, R85). -/
def State.unknownOp (s : State) (code : Nat) (p : Packet) (src : Option Source) : State :=
  let r := ([fails (!packetFormed p) .badLength 1, fails (p.check ≠ packetCrc p code) .badCheck 0].findSome? id).getD (Status.badOpcode, 0)
  s.answer p.route src (s.replyTo code 0 p r.1 r.2 false [])

/-- Whether a route brings commands to the chip (R73, R86, R89, R93, R95, R471): a ring that is enabled with two completion slots
free while no core pair is halted, the towpath, or an enabled Ethernet port. -/
def State.open_ (s : State) : Route → Bool
  | .keeper => ringOpen false
  | .crew => ringOpen true
  | .towpath slot => s.runs 3 && s.flag CMD_TP_CTL_ENABLE && !s.cmd.busy.getLsbD slot.val
  | .ethernet port => s.runs 11 && !s.sys.rom && (s.reg CMD_NET_CTL).getLsbD port.val
where
  /-- Whether a ring's commands are fetched. -/
  ringOpen (crew : Bool) : Bool :=
    s.runs 3 && !s.sys.rom && s.get DBG_STAT_HALTED = 0 && s.flag (ringEnable crew) && (s.ringWaiting crew).isEmpty
      && 2 ≤ s.ringFree crew

/-- A command by a route; one that the route does not bring has no effect. -/
def State.command (s : State) (o : Op) (p : Packet) : State := if s.open_ p.route then s.handle o p none else s

/-! ## Parameters -/

/-- Whether parameters have a fixed length. -/
def exactly (n : Nat) (p : List Byte) : Bool := p.length = n

/-- The first bad parameter: the offset of the first test that fails. -/
def badAt (l : List (Bool × Nat)) : Option Nat := (l.find? fun x => !x.1).map fun x => x.2

/-- A status with no data. -/
def silent (f : State → State) (_ : Packet) (s : State) : List Byte × State := ([], f s)

/-- Modes of a class of R107. -/
def classA : Nat := 0x0FFE
/-- Class I. -/
def classI : Nat := 0x0FFC
/-- Class T. -/
def classT : Nat := 0x0FF0
/-- Class J. -/
def classJ : Nat := 0x03F0
/-- Class P. -/
def classP : Nat := 0x01E0
/-- Class N. -/
def classN : Nat := 0x041C
/-- Class M. -/
def classM : Nat := 0x0438
/-- Class W. -/
def classW : Nat := 0x0430
/-- Class Q. -/
def classQ : Nat := 0x0410
/-- Class R. -/
def classR : Nat := 0x0404
/-- Class S. -/
def classS : Nat := 0x0400
/-- Class X. -/
def classX : Nat := 0x0004
/-- Class C. -/
def classC : Nat := 0x0020
/-- Class B. -/
def classB : Nat := 0x0800

end Sys2Proof.Machine
end

