-- ==== Sys2Proof/Machine/Link.lean ====
section
/-! DEFINITION. Resets of one island, of the host link and by clock faults, the host link, and the ends of mode changes (R27, R60,
R61, R64 to R67, R111, R458). -/

namespace Sys2Proof.Machine

/-! ## The host link -/

/-- Both command rings lose ENABLE (R111, R458): what was not fetched or not yet written goes, and the pending commands run on
without a final reply. -/
def State.dropRings (s : State) : State :=
  let s := (s.putFlag CMD_K_RING_CTL_ENABLE false).putFlag CMD_C_RING_CTL_ENABLE false
  { s with cmd := { s.cmd with
      waitingK := [], waitingC := [], queueK := [], queueC := []
      table := s.cmd.table.map fun (c : PendingCmd) => { c with mute := true } } }

/-- What a host-link reset does to the block (R66, R111, R389, R404, R458). -/
def State.linkReset (s : State) : State :=
  let s := (s.dropRings.bargeLink).breakLocks fun r => r.island = 3
  let table (a : Nat) : Bool := 0x30000 ≤ a && a < 0x32000
  let s := { s with
    regs := s.regs.filter fun p => !table p.1
    evt := { s.evt with msixEnable := false, functionMask := false, config := [] } }
  if 6 ≤ s.modeCode && s.modeCode ≤ 8 then s.stopPrint 5 false else s

/-- HOST_LINK_RESET: while HST is clocked; HST_LINK.UP falls where the link goes down. -/
def State.hostReset (s : State) (down : Bool) : State :=
  if !s.runs 3 then s
  else
    let s := s.linkReset
    if down then s.setReg HST_LINK 0 else s

/-- The link has returned (R66): the firmware starts channels 0 to 7 that it cut off; at which PC the spec leaves open (log entry
106, DESIGN CHOICE). -/
def State.rearm (s : State) : State :=
  (List.range 8).foldl (fun s n =>
    if s.bargeState n = 5 && s.get (BRG_CH_STAT_CAUSE n) = 9 then s.draw.2.bargeBegin .firmware n (s.draw.1.setWidth 32) false
    else s) s

/-- LINK_TRAINED (R66, R454, R458): at most Gen3 in the alternate way of step 8, and Gen1 x1 under the boot ROM (R68, R73). -/
def State.trained (s : State) (speed width : Nat) : State :=
  if !s.runs 3 || speed = 0 then s
  else
    let cap := if s.sys.rom then 1 else if s.get (PWR_BJ_ENTRY_WAY 8) = 1 then 3 else 5
    let w := if s.sys.rom then 1 else width
    let s := ((s.putFlag HST_LINK_UP true).put HST_LINK_SPEED (min cap speed)).put HST_LINK_WIDTH w
    s.rearm

/-! ## One island (R27, R28, R67) -/

/-- Run the reset handshake of an island; that of HST also drops the link. -/
def State.handshake (s : State) (i : Nat) : State := if i = 3 then s.linkReset.holdIsland 3 else s.holdIsland i

/-- Whether a channel fires. -/
def State.firing (s : State) : Bool := s.enabled.any fun c => 7 ≤ s.chMode c && s.chMode c ≤ 9

/-- ISLAND_RESET: the handshake, after which the island starts again; of DEC, ASM, FIR or JGL while a channel fires it is a
safety event. -/
def State.resetIsland (s : State) (i : Nat) : State :=
  let fires := s.firing && 6 ≤ i && i ≤ 9
  let s := if s.runs i then ((s.handshake i).endStranded).startIsland i else s
  if fires then s.condition 12 0 0 else s

/-- CLOCK_FAULT (R27, R67, R434, R438, R449, R451): of AON or SAF a lockout, unless proof test 6 offset its monitor, of CTL a warm reset, and of another clocked island its reset
and a safety event. -/
def State.clockFails (s : State) (i : Nat) : State :=
  if s.modeCode = 0 || !s.runs i then s
  else if i ≤ 1 then (if s.proofRuns 6 then s.found 13 i 80000 3 else s.lockout SAF_FAULT_CLOCK)
  else if i = 2 then s.warmReset 2
  else
    let s := ((s.handshake i).endStranded).mark (.island i)
    ({ s with saf := { s.saf with clock := putBit s.saf.clock i true } }).condition 11 0 0

/-! ## Mode changes -/

/-- WARM_TIMEOUT (R61, R361): the rails ramp down, and the chip returns to Ready once every claim is released. -/
def State.warmFails (s : State) : State :=
  if !s.changingTo 5 then s
  else
    let s := s.waitFor .warmUp (max 1 (s.get PWR_WARM_TO_SECONDS) * 800000000)
    let s := (s.resolve 0x0102 .fault 3).put SYS_MODE_TARGET 4
    let s := { s with saf := { s.saf with test := 0 } }
    (s.syncOutputs.disableAll).tryChange

/-- A write of SYS_RESET (R64, R65). -/
def State.writeReset (s : State) (key kind : Nat) : State :=
  if key ≠ 0xA55A then s.incSat SYS_RESET_REJ_COUNT
  else if kind = 1 then s.warmReset 2
  else if kind = 2 then s.coldReset 1
  else s

/-! ## The commands -/

/-- SYS_RESET_WARM. -/
def execSysResetWarm (by_ : By) (key : BitVec 16) (s : State) : Host.Outcome State Fault Refusal :=
  s.done (s.hostWrite by_ SYS_RESET fun s => s.writeReset key.toNat 1)

/-- SYS_RESET_COLD. -/
def execSysResetCold (by_ : By) (key : BitVec 16) (s : State) : Host.Outcome State Fault Refusal :=
  s.done (s.hostWrite by_ SYS_RESET fun s => s.writeReset key.toNat 2)

/-- MODE_CHANGE_DONE. -/
def execModeChangeDone (s : State) : Host.Outcome State Fault Refusal := s.done s.completeChange

/-- WARM_TIMEOUT. -/
def execWarmTimeout (s : State) : Host.Outcome State Fault Refusal := s.done s.warmFails

/-- CLOCK_FAULT. -/
def execClockFault (island : Fin 12) (s : State) : Host.Outcome State Fault Refusal := s.done (s.clockFails island.val)

/-- HOST_LINK_RESET. -/
def execHostLinkReset (down : Bool) (s : State) : Host.Outcome State Fault Refusal := s.done (s.hostReset down)

/-- LINK_TRAINED. -/
def execLinkTrained (speed : Fin 6) (width : BitVec 5) (s : State) : Host.Outcome State Fault Refusal :=
  s.done (s.trained speed.val width.toNat)

/-- SCAN_EXIT_RESET (R466): leaving EXTEST, CLAMP or HIGHZ makes a warm reset where the instruction was in effect. -/
def execScanExitReset (s : State) : Host.Outcome State Fault Refusal :=
  s.done (
    let d := { s.dbg with tap := TapInstr.idcode, scan := false, capture := 0x18480947#64 }
    let was := s.dbg.tap = .extest || s.dbg.tap = .clamp || s.dbg.tap = .highz
    if was && s.dbg.scan then ({ s with dbg := d }).warmReset 2 else if was then { s with dbg := d } else s)

end Sys2Proof.Machine
end

