-- ==== Sys2Proof/Machine/CmdCore.lean ====
section
/-! DEFINITION. The opcodes of state, modes, resets, keys, measured firmware and safety stops: classes 0x01 and 0x0A, STOP_PRINT and
FIRE_INHIBIT (R59 to R63, R71 to R80, R97, R105, R106, R109). -/

namespace Sys2Proof.Machine

/-- The bytes of a register in a reply: as a read returns it, all ones while its island is in reset (R28). -/
def State.regBytes (s : State) (a : Nat) : List Byte :=
  leBytes 4 (if s.runs (islandOf a) then s.peek a else 0xFFFFFFFF#32).toNat

/-! ## State and events -/

/-- Job shown by QUERY_STATE: the running one whose pages are being printed; 0 where no job runs. -/
def State.jobShown (s : State) : Nat :=
  let jobs := s.pnd.jobs.filter fun j => j.running
  (((jobs.find? fun j => j.went).orElse fun _ => jobs.head?).map fun j => j.id.toNat).getD 0

/-- Data of a QUERY_STATE reply. -/
def State.queryData (s : State) (keeper : Bool) : List Byte :=
  s.regBytes SYS_MODE ++ s.regBytes SYS_CH_MODE ++ s.regBytes SYS_DEGRADE
    ++ (if keeper then s.regBytes SYS_SAFE_CAUSE else leBytes 4 0)
    ++ leBytes 2 s.jobShown ++ [0, 0] ++ (List.range 8).flatMap (fun c => leBytes 4 (s.sys.lastPage.getD c 0).toNat)
    ++ s.now.bytes

/-- QUERY_STATE. -/
def opQueryState : Op where
  code := 0x0100
  keeper := false
  legal := classA
  fits := exactly 0
  act p s := (s.queryData (s.rights p.route), s)

/-- An event record (R106). -/
def EventRec.bytes (e : EventRec) : List Byte :=
  leBytes 2 e.vector.toNat ++ leBytes 2 e.detail.toNat ++ leBytes 4 e.data.toNat ++ leBytes 4 e.page.toNat ++ [0, 0, 0, 0]
    ++ e.stamp.bytes

/-- Largest number of records a route returns (R106). -/
def eventLimit : Route → Nat
  | .keeper => 127
  | .crew => 127
  | .towpath _ => 3
  | .ethernet _ => 44

/-- GET_EVENTS: take the oldest records of the log. -/
def State.takeEvents (s : State) (n : Nat) : List Byte × State :=
  let got := s.evt.log.take n
  let rest := s.evt.log.drop n
  (leBytes 2 got.length ++ leBytes 2 rest.length ++ got.flatMap EventRec.bytes,
    ({ s with evt := { s.evt with log := rest } }).put EVT_LOG_STAT_COUNT rest.length)

/-- GET_EVENTS. -/
def opGetEvents : Op where
  code := 0x0101
  keeper := false
  legal := classA
  fits := exactly 4
  act p s := s.takeEvents (min (field p.params 0 2) (eventLimit p.route))

/-! ## Modes -/

/-- Pairs of modes SET_MODE moves between (R59). -/
def setModePairs : List (Nat × Nat) := [(3, 4), (4, 3), (4, 10), (10, 4), (4, 5), (5, 4)]

/-- Whether a tile is in ingest: landing, verifying, or in compression. -/
def State.ingesting (s : State) : Bool :=
  s.ing.queues.any (fun q => q.landing.isSome) || !s.ing.list.isEmpty || !s.ing.compressors.isEmpty
    || s.pnd.pages.any fun p => p.tiles.any fun t => t.state = .landing || t.state = .verifying

/-- Whether a thermal threshold holds the chip from printing (R369). -/
def State.tooHot (s : State) : Bool := s.pwr.stopLogic || s.pwr.stopStack

/-- Conditions of SET_MODE (R59, R369). -/
def State.setModeRefused (s : State) (p : List Byte) : Option (Status × Nat) :=
  let t := field p 0 1
  if t = s.modeCode then none
  else if t = 3 then fails (s.anyBarge || s.ingesting) .busy 4
  else if t = 5 then
    if s.tooHot then some (.fault, 3) else fails (!s.safOk || s.saf.disagree ≠ 0) .fault 4
  else none

/-- The effect of SET_MODE: on the way to Warm the start test runs (R446), on the way from it the carriers are switched off (R361). -/
def State.setMode (s : State) (t : Nat) : State :=
  if t = 5 then (s.beginChange 5).startTest
  else if s.modeCode = 5 then ((s.beginChange t).disableAll).tryChange
  else s.beginChange t

/-- SET_MODE. -/
def opSetMode : Op where
  code := 0x0102
  keeper := true
  legal := classM
  fits := exactly 4
  reach s p := field p 0 1 = s.modeCode || setModePairs.contains (s.modeCode, field p 0 1)
  locked s p := s.modeCode = 4 && field p 0 1 = 5 && !s.flag SYS_BOOT_STAT_ACKED
  changes := true
  refuse := State.setModeRefused
  same s p := field p 0 1 = s.modeCode
  later := true
  arg p := field p 0 1
  act := fun p => silent (fun s => s.setMode (field p.params 0 1)) p

/-- Whether CLEAR_SAFE is refused (R59, R63, R438, R442). -/
def State.safeHeld (s : State) : Bool :=
  s.sys.bootLimit || s.get SYS_SAFE_CAUSE_PRESENT ≠ 0 || !s.saf.okA || !s.saf.okB || s.flag SAF_STAT_LOCKOUT
    || s.flag SAF_FAULT_ESTOP_DISC || s.sys.step ≠ 17

/-- CLEAR_SAFE: the change to Standby begins, and the safety island's event bits clear (R453). -/
def State.clearSafe (s : State) : State :=
  ([SAF_FAULT_WATCHDOG, SAF_FAULT_DIE_TRIP, SAF_FAULT_TELEM_STALE].foldl (fun (s : State) f => s.putFlag f false) s).beginChange 3

/-- CLEAR_SAFE. -/
def opClearSafe : Op where
  code := 0x0103
  keeper := true
  legal := classX
  fits := exactly 0
  changes := true
  refuse s _ := fails s.safeHeld .fault 2
  later := true
  act := silent State.clearSafe

/-- RESET: no final reply. -/
def opReset : Op where
  code := 0x0104
  keeper := true
  legal := classN
  fits := exactly 4
  params _ p := badAt [(field p 0 1 = 1 || field p 0 1 = 2, 0)]
  later := true
  pends := false
  act := silent id
  post p s := if field p 0 1 = 1 then s.warmReset 2 else s.coldReset 1

/-- ISLAND_RESET: its final reply follows the handshake. -/
def opIslandReset : Op where
  code := 0x0105
  keeper := true
  legal := classN
  fits := exactly 4
  params _ p := badAt [(3 ≤ field p 0 1 && field p 0 1 ≤ 11, 0)]
  later := true
  arg p := field p 0 1
  act := silent id
  post p s := (s.resetIsland (field p 0 1)).resolveIf 0x0105 (fun c => c.arg = field p 0 1) .ok 0

/-! ## Boot journal and keys -/

/-- BOOT_JOURNAL_READ. -/
def opBootJournalRead : Op where
  code := 0x0106
  keeper := false
  legal := classI
  fits := exactly 0
  act _ s := (s.regBytes PWR_BJ_HDR ++ (List.range 16).flatMap (fun i => s.regBytes (PWR_BJ_ENTRY (i + 1))), s)

/-- BOOT_JOURNAL_CLEAR (R74): RETRIES and WAY of every entry become 0. Whether the mirror write fails is open (log entry 1, DESIGN CHOICE). -/
def State.clearJournal (s : State) : State :=
  let s := (List.range 16).foldl (fun (s : State) i =>
    (s.put (PWR_BJ_ENTRY_RETRIES (i + 1)) 0).put (PWR_BJ_ENTRY_WAY (i + 1)) 0) s
  s.draw.2.journalUpdate (s.draw.1.getLsbD 0)

/-- BOOT_JOURNAL_CLEAR. -/
def opBootJournalClear : Op where
  code := 0x0107
  keeper := true
  legal := classN
  fits := exactly 0
  act := silent State.clearJournal

/-- NET_KEY_SET (R97): an all-zero key empties the slot. -/
def State.setKey (s : State) (k : Nat) (key : List Byte) : State :=
  let stored := if key.all (fun b => b = 0) then [] else key
  { s with cmd := { s.cmd with keys := s.cmd.keys.set k ⟨stored, 0, 1⟩ } }

/-- NET_KEY_SET. -/
def opNetKeySet : Op where
  code := 0x0108
  keeper := true
  legal := classI
  fits := exactly 36
  params _ p := badAt [(field p 0 1 ≤ 3, 0)]
  act := fun p => silent (fun s => s.setKey (field p.params 0 1) (p.params.drop 4)) p

/-! ## Stops -/

/-- STOP_PRINT (R109). -/
def opStopPrint : Op where
  code := 0x0201
  keeper := false
  legal := classA
  fits := exactly 0
  same s _ := !s.stoppable || s.sys.stop.isSome
  later := true
  act := silent fun s => s.stopPrint 4 false

/-- FIRE_INHIBIT (R62, R109, R503). -/
def opFireInhibit : Op where
  code := 0x0800
  keeper := false
  legal := classA
  fits := exactly 0
  same s _ := (s.modeCode = 2 && !s.flag SYS_MODE_TRANSITION) || s.changingTo 2
  later := true
  act := silent fun s => s.condition 1 0 0

/-! ## Measured firmware (R76 to R80) -/

/-- The 48 bytes of a measurement slot. -/
def State.slot (s : State) (k : Nat) : List Byte := (List.range 12).flatMap fun w => s.regBytes (SYS_MEAS k w)

/-- The eight slots in order, and the composite digest of R77. -/
def State.slots (s : State) : List Byte := (List.range 8).flatMap s.slot

/-- C of R77. -/
def State.composite (s : State) : List Byte := sha384 s.slots

/-- FLAGS of an attestation (R78). -/
def State.attestFlags (s : State) : Nat :=
  bit (s.flag SYS_BOOT_STAT_ACKED) + 2 * bit (s.flag SYS_BOOT_STAT_ALT_USED) + 4 * bit (s.flag SYS_BOOT_STAT_SKIP_USED)
    + 8 * bit s.sys.debugUnlocked + 16 * bit (!(s.slot 7).all fun b => b = 0)

/-- Minor and patch version of the firmware that runs (R78, R105). -/
def State.firmwareVersion (s : State) : BitVec 16 := s.sys.image.elim Config.firmwareVersion Config.imageVersion

/-- The 552 bytes of an attestation (R78). -/
def State.attestation (s : State) (nonce : List Byte) : List Byte :=
  let m := leBytes 4 1 ++ leBytes 4 (2 * 2 ^ 24 + s.firmwareVersion.toNat * 2 ^ 8 + 0xB0) ++ leBytes 8 Config.serial.toNat
    ++ leBytes 4 (s.get PWR_BJ_HDR_BOOT_COUNT) ++ leBytes 4 s.attestFlags ++ nonce ++ s.now.bytes ++ s.slots
  m ++ (List.range 96).map fun i => Config.attestationByte m i

/-- GET_ATTESTATION. -/
def opGetAttestation : Op where
  code := 0x0A00
  keeper := false
  legal := classI
  fits := exactly 32
  act p s := (s.attestation p.params, s)

/-- GET_CERTIFICATE: an INDEX with no certificate is a bad parameter. -/
def opGetCertificate : Op where
  code := 0x0A01
  keeper := false
  legal := classI
  fits := exactly 4
  params _ p := badAt [((Config.certificate (field p 0 1)).isSome, 0)]
  act p s := (((Config.certificate (field p.params 0 1)).getD []).take 4072, s)

/-- EXTEND_MEASUREMENT: slot 7 is extended with the digest. -/
def opExtendMeasurement : Op where
  code := 0x0A02
  keeper := true
  legal := classI
  fits := exactly 48
  act := fun p => silent (fun s => s.extend 7 p.params) p

/-- ACK_MEASUREMENT (R79). -/
def opAckMeasurement : Op where
  code := 0x0A03
  keeper := true
  legal := classI
  fits := exactly 48
  params s p := badAt [(p = s.composite, 0)]
  act := silent fun s => s.putFlag SYS_BOOT_STAT_ACKED true

/-! ## Firmware load -/

/-- FW_LOAD_BEGIN: a load begins; one in progress is given up. -/
def opFwLoadBegin : Op where
  code := 0x0A04
  keeper := true
  legal := classR
  fits := exactly 8
  params _ p := badAt [(field p 0 1 ≤ 1, 0)]
  act := fun p => silent (fun s => { s with cmd := { s.cmd with
    fwCopy := some (BitVec.ofNat 8 (field p.params 0 1)), fwSize := field p.params 4 4, fwData := [],
    fwClosed := false } }) p

/-- FW_LOAD_DATA: bytes of the image from an offset; without a load in progress they go nowhere (log entry 26, DEDUCED). -/
def State.fwBytes (s : State) (off : Nat) (l : List Byte) : State :=
  if s.cmd.fwCopy.isNone then s
  else { s with cmd := { s.cmd with fwData := (List.range l.length).foldl (fun (m : Sparse) i =>
      m.set (fun _ => 0) (off + i) ((l.getD i 0).setWidth 32)) s.cmd.fwData } }

/-- FW_LOAD_DATA. -/
def opFwLoadData : Op where
  code := 0x0A05
  keeper := true
  legal := classR
  fits p := 8 ≤ p.length
  params s p := badAt [(s.cmd.fwCopy.isNone || field p 0 4 + (p.length - 4) ≤ s.cmd.fwSize + 3, 0)]
  act := fun p => silent (fun s => s.fwBytes (field p.params 0 4) (p.params.drop 4)) p

/-- FW_LOAD_END: the signature check and the flash write follow. -/
def opFwLoadEnd : Op where
  code := 0x0A06
  keeper := true
  legal := classR
  fits := exactly 0
  later := true
  act p s := ([], if (ringOf p.route).isSome then s else { s with cmd := { s.cmd with fwClosed := true } })

/-! ## The commands -/

/-- QUERY_STATE. -/
def execQueryState (p : Packet) (s : State) : Host.Outcome State Fault Refusal := s.done (s.command opQueryState p)

/-- GET_EVENTS. -/
def execGetEvents (p : Packet) (s : State) : Host.Outcome State Fault Refusal := s.done (s.command opGetEvents p)

/-- SET_MODE. -/
def execSetMode (p : Packet) (s : State) : Host.Outcome State Fault Refusal := s.done (s.command opSetMode p)

/-- CLEAR_SAFE. -/
def execClearSafe (p : Packet) (s : State) : Host.Outcome State Fault Refusal := s.done (s.command opClearSafe p)

/-- RESET. -/
def execResetCmd (p : Packet) (s : State) : Host.Outcome State Fault Refusal := s.done (s.command opReset p)

/-- ISLAND_RESET. -/
def execIslandReset (p : Packet) (s : State) : Host.Outcome State Fault Refusal := s.done (s.command opIslandReset p)

/-- BOOT_JOURNAL_READ. -/
def execBootJournalRead (p : Packet) (s : State) : Host.Outcome State Fault Refusal := s.done (s.command opBootJournalRead p)

/-- BOOT_JOURNAL_CLEAR. -/
def execBootJournalClear (p : Packet) (s : State) : Host.Outcome State Fault Refusal := s.done (s.command opBootJournalClear p)

/-- NET_KEY_SET. -/
def execNetKeySet (p : Packet) (s : State) : Host.Outcome State Fault Refusal := s.done (s.command opNetKeySet p)

/-- STOP_PRINT. -/
def execStopPrint (p : Packet) (s : State) : Host.Outcome State Fault Refusal := s.done (s.command opStopPrint p)

/-- FIRE_INHIBIT. -/
def execFireInhibit (p : Packet) (s : State) : Host.Outcome State Fault Refusal := s.done (s.command opFireInhibit p)

/-- GET_ATTESTATION. -/
def execGetAttestation (p : Packet) (s : State) : Host.Outcome State Fault Refusal := s.done (s.command opGetAttestation p)

/-- GET_CERTIFICATE. -/
def execGetCertificate (p : Packet) (s : State) : Host.Outcome State Fault Refusal := s.done (s.command opGetCertificate p)

/-- EXTEND_MEASUREMENT. -/
def execExtendMeasurement (p : Packet) (s : State) : Host.Outcome State Fault Refusal := s.done (s.command opExtendMeasurement p)

/-- ACK_MEASUREMENT. -/
def execAckMeasurement (p : Packet) (s : State) : Host.Outcome State Fault Refusal := s.done (s.command opAckMeasurement p)

/-- FW_LOAD_BEGIN. -/
def execFwLoadBegin (p : Packet) (s : State) : Host.Outcome State Fault Refusal := s.done (s.command opFwLoadBegin p)

/-- FW_LOAD_DATA. -/
def execFwLoadData (p : Packet) (s : State) : Host.Outcome State Fault Refusal := s.done (s.command opFwLoadData p)

/-- FW_LOAD_END. -/
def execFwLoadEnd (p : Packet) (s : State) : Host.Outcome State Fault Refusal := s.done (s.command opFwLoadEnd p)

end Sys2Proof.Machine
end

