-- ==== Sys2Proof/Machine/CmdJobs.lean ====
section
/-! DEFINITION. The opcodes of jobs and pages, class 0x02 (R53, R54, R104, R119, R120, R151, R174, R230, R231, R496, R497, R500). -/

namespace Sys2Proof.Machine

/-- A job of the parameters. -/
def jobIdOf (p : List Byte) : BitVec 16 := BitVec.ofNat 16 (field p 0 2)

/-! ## JOB_DEFINE (R119) -/

/-- The first bad field of a job block. -/
def State.badJob (s : State) (p : List Byte) : Option Nat :=
  let mask := BitVec.ofNat 8 (field p 2 1)
  badAt [
    (s.pnd.pages.all fun q => q.left || q.job ≠ jobIdOf p, 0),
    (mask ≠ 0 && (mask &&& ~~~s.sys.channels) = 0, 2),
    (field p 3 1 < 16, 3),
    (64 ≤ field p 4 4 && field p 4 4 ≤ 1048575, 4),
    (field p 8 4 ≤ 65535, 8),
    (field p 12 1 ≤ 64, 12),
    (field p 13 1 = 0, 13),
    (field p 14 1 = 0, 14),
    (field p 15 1 = 0, 15)]

/-- Define a job; an earlier definition of it is replaced, and its counts restart (R496). -/
def State.defineJob (s : State) (p : List Byte) : State :=
  let old := s.job? (jobIdOf p)
  let j : Job := {
    id := jobIdOf p, mask := BitVec.ofNat 8 (field p 2 1), flags := BitVec.ofNat 8 (field p 3 1), maxLines := field p 4 4
    gap := field p 8 4, depth := field p 12 1
    closed := (old.map fun j => j.closed).getD false
    running := (old.map fun j => j.running).getD false
    went := (old.map fun j => j.went).getD false
    nFired := 0, nInspected := 0, nDefective := 0 }
  let l := s.pnd.jobs
  { s with pnd := { s.pnd with jobs := if old.isSome then l.map fun x => if x.id = j.id then j else x else l ++ [j] } }

/-- JOB_DEFINE. -/
def opJobDefine : Op where
  code := 0x0202
  keeper := true
  legal := classJ
  fits := exactly 16
  params := State.badJob
  act := fun p => silent (fun s => s.defineJob p.params) p

/-! ## PAGE_QUEUE (R120, R151) -/

/-- Blocks of a page's position table. -/
def tableBlocksOf (j : Job) (lines : Nat) : Nat := ceilDiv ((bitList j.mask).length * 13 * ceilDiv lines 256 * 8) 16384

/-- Largest LINES of a job; 0 where it is not defined. -/
def State.maxLines (s : State) (id : BitVec 16) : Nat := ((s.job? id).map fun j => j.maxLines).getD 0

/-- Whether a job is closed (R497). -/
def State.jobClosed (s : State) (id : BitVec 16) : Bool := ((s.job? id).map fun j => j.closed).getD false

/-- Room of the page table and of the store for a page. -/
def State.pageRoom (s : State) (p : List Byte) : Bool :=
  (s.pnd.pages.filter fun q => !q.left).length < 16384
    && ((s.job? (jobIdOf p)).map fun j => decide (tableBlocksOf j (field p 8 4) ≤ s.landingRoom)).getD false

/-- A page as queued. -/
def newPage (key name : Word) (job : BitVec 16) (lines : Nat) (table : List Nat) : Page where
  id := key
  name := name
  left := false
  job := job
  lines := lines
  pass := 0
  tiles := []
  table := table
  begun := 0
  fired := 0
  queued := true
  inspected := false
  uninspected := false
  defect := 0
  poisonDefect := 0
  otherDefect := 0
  pinned := false
  heldAt := none
  freedAny := false
  released := false
  first := none
  seq := 0
  done := 0
  seen := false

/-- Whether a job's pages have run lines as they are queued: it runs, and its start does not wait. -/
def State.laysOut (s : State) (id : BitVec 16) : Bool :=
  s.started id && s.flag FIR_STAT_RUNNING && s.fir.waiting ≠ some id && s.fir.restart ≠ some id && !s.fir.later.contains id

/-- A page has joined its job's queue. -/
def State.pageJoins (s : State) (id : BitVec 16) : State :=
  let s := if s.laysOut id then (s.layOut id).dueNow else s
  s.settleStore

/-- Queue a page. -/
def State.queuePage (s : State) (p : List Byte) : State :=
  match s.job? (jobIdOf p) with
  | none => s
  | some j =>
    let name := BitVec.ofNat 32 (field p 4 4)
    let r := s.takeBlocks (tableBlocksOf j (field p 8 4))
    let page := newPage (s.freshKey name) name j.id (field p 8 4) r.1
    ({ r.2 with pnd := { r.2.pnd with pages := r.2.pnd.pages ++ [page] } }).pageJoins j.id

/-- PAGE_QUEUE. -/
def opPageQueue : Op where
  code := 0x0203
  keeper := true
  legal := classJ
  fits := exactly 12
  params s p := badAt [
    ((s.job? (jobIdOf p)).isSome, 0),
    ((s.stored? (BitVec.ofNat 32 (field p 4 4))).isNone, 4),
    (64 ≤ field p 8 4 && field p 8 4 ≤ s.maxLines (jobIdOf p), 8)]
  refuse s p := (fails (!s.pageRoom p) .noResource 2).orElse fun _ => fails (s.jobClosed (jobIdOf p)) .busy 6
  act := fun p => silent (fun s => s.queuePage p.params) p

/-! ## PAGE_REPRINT (R174) -/

/-- A page as it waits for its next pass. -/
def Page.again (p : Page) : Page :=
  { p with
    pass := min 255 (p.pass + 1), begun := 0, fired := 0, queued := true, inspected := false, uninspected := false
    defect := 0, poisonDefect := 0, otherDefect := 0, left := false, pinned := false, heldAt := none, released := false, first := none, seq := 0, done := 0
    seen := false
    tiles := p.tiles.map fun t => { t with blankFrom := 256, fired := false, referenced := false } }

/-- Whether a PAGE_ID names a page of a job that no channel has begun. -/
def State.unbegun (s : State) (id : Word) (job : BitVec 16) : Bool :=
  ((s.stored? id).map fun p => p.job = job && p.queued && p.begun = 0).getD false

/-- Insert a page behind one of its job that already has run lines: behind it, and behind every later page a band of which has fallen
due, so that run lines in use do not move; the pages after it follow later by its lines and gap (log entry 27, DEDUCED). -/
def State.insertLaid (s : State) (p : Page) (at_ : Int) (gap : Nat) : State :=
  let due (q : Page) : Bool := s.pnd.due.any fun d => d.1 = q.id
  let last (o : Int) (q : Page) : Int :=
    match q.first with
    | some f => if at_ < f && due q then max o (f + q.lines) else o
    | none => o
  let start := s.pnd.pages.foldl last at_
  let shift : Int := p.lines + gap
  let s := { s with pnd := { s.pnd with pages := s.pnd.pages.map fun (q : Page) =>
    if q.id = p.id then { q with first := some (start + gap) }
    else match q.first with
      | some f => if start ≤ f then { q with first := some (f + shift) } else q
      | none => q } }
  ({ s with fir := { s.fir with endLine := s.fir.endLine + shift } }).dueNow

/-- Move a page's record behind another in the page table, or to its end. -/
def State.moveBehind (s : State) (p : Page) (after : Option Word) : State :=
  let rest := s.pnd.pages.filter fun q => q.id ≠ p.id
  let l := match after with
    | none => rest ++ [p]
    | some a => rest.flatMap fun q => if q.id = a then [q, p] else [q]
  { s with pnd := { s.pnd with pages := l } }

/-- Whether a page's current pass is over. -/
def State.passOver (s : State) (p : Page) : Bool :=
  !p.queued && ((s.jobOf p).map fun j => s.passedBy p j).getD true && s.pnd.contexts.all fun x => x.page ≠ p.id

/-- A page that is still to pass is queued again: its record of the page table, with its blocks and what is landing, compressing or
verifying in them, goes to the new pass; the run keeps a record of the pass it is in (log entry 21). -/
def State.splitPass (s : State) (p : Page) : Page × State :=
  let key := s.freshKey p.name
  let rekey (q : Word × Nat × Nat × Nat) : Word × Nat × Nat × Nat := if q.1 = p.id then (key, q.2) else q
  let next : Page := { p.again with id := key }
  let past : Page := { p with
    left := true, pinned := false, heldAt := none, released := true, freedAny := true, table := []
    tiles := p.tiles.map fun t => { t with chain := [], old := [], listed := false } }
  (next, { s with
    pnd := { s.pnd with
      pages := (s.pnd.pages.map fun q => if q.id = p.id then past else q) ++ [next]
      contexts := s.pnd.contexts.map fun (x : Ctx) =>
        if x.page = p.id && x.kind = CtxKind.verification then { x with page := key } else x }
    ing := { s.ing with
      list := s.ing.list.map rekey
      compressors := s.ing.compressors.map fun (c : Compressor) => if c.page = p.id then { c with page := key } else c
      queues := s.ing.queues.map fun (x : Queue) => { x with landing := x.landing.map rekey } } })

/-- A page whose pass is over is queued again in its own record. -/
def State.againInPlace (s : State) (p : Page) : Page × State :=
  let s := { s with pnd := { s.pnd with due := s.pnd.due.filter fun d => d.1 ≠ p.id } }
  (p.again, s.updPage p.id fun _ => p.again)

/-- Queue a page again (R174). -/
def State.reprintPage (s : State) (id after : Word) : State :=
  match s.stored? id with
  | none => s
  | some old =>
    let behind := s.keyOf after
    let s := { s with pnd := { s.pnd with reprints := s.pnd.reprints.filter fun (e : Reprint) => e.page ≠ old.id } }
    let r := if s.passOver old then s.againInPlace old else s.splitPass old
    let p := r.1
    let s := r.2.syncReprint
    if after = 0xFFFFFFFF#32 then ((s.moveBehind p none).pageJoins p.job)
    else
      let s := s.moveBehind p (some behind)
      let end_ : Option Int := (s.page? behind).bind fun a => a.first.map fun f => f + (a.lines : Int)
      match end_ with
      | some e => (s.insertLaid p e (((s.job? p.job).map fun j => j.gap).getD 0)).settleStore
      | none => s.settleStore

/-- PAGE_REPRINT. -/
def opPageReprint : Op where
  code := 0x0204
  keeper := true
  legal := classJ
  fits := exactly 8
  params s p :=
    let page := s.stored? (BitVec.ofNat 32 (field p 0 4))
    let job := (page.map fun q => q.job).getD 0
    badAt [
      ((page.map fun q => q.inReprint).getD false, 0),
      (field p 4 4 = 0xFFFFFFFF || s.unbegun (BitVec.ofNat 32 (field p 4 4)) job, 4)]
  refuse s p :=
    let job := ((s.stored? (BitVec.ofNat 32 (field p 0 4))).map fun q => q.job).getD 0
    fails (field p 4 4 = 0xFFFFFFFF && s.jobClosed job) .busy 6
  act := fun p => silent (fun s => s.reprintPage (BitVec.ofNat 32 (field p.params 0 4)) (BitVec.ofNat 32 (field p.params 4 4))) p

/-! ## JOB_CANCEL and JOB_STATUS (R496) -/

/-- Cancel a job: its definition goes, and its pages leave the store as soon as no reader holds them (R155). -/
def State.cancelJob (s : State) (id : BitVec 16) : State :=
  let s := s.discardQueued fun p => p.job = id
  let s := s.pnd.pages.foldl (fun (s : State) (p : Page) =>
    if p.job = id then s.updPage p.id fun q => { q with released := true, pinned := false, heldAt := none } else s) s
  let s := { s with pnd := { s.pnd with reprints := s.pnd.reprints.filter fun (e : Reprint) => e.job ≠ id } }
  let s := s.settleAll
  let s := s.pnd.pages.foldl (fun (s : State) (p : Page) => if p.job = id && p.inReprint then s.dropPage p.id else s) s.syncReprint
  { s with
    pnd := { s.pnd with jobs := s.pnd.jobs.filter fun j => j.id ≠ id || s.pnd.pages.any fun p => p.job = id }
    fir := { s.fir with later := s.fir.later.filter fun x => x ≠ id } }

/-- Whether a job has begun: a channel has begun a page of it since it was started. -/
def State.jobBegun (s : State) (id : BitVec 16) : Bool := ((s.job? id).map fun j => j.running && j.went).getD false

/-- JOB_CANCEL. -/
def opJobCancel : Op where
  code := 0x0205
  keeper := true
  legal := classJ
  fits := exactly 4
  params s p := badAt [((s.job? (jobIdOf p)).isSome, 0)]
  refuse s p := fails (s.jobBegun (jobIdOf p)) .busy 5
  act := fun p => silent (fun s => s.cancelJob (jobIdOf p.params)) p

/-- The four counts of a job. -/
def State.jobCounts (s : State) (id : BitVec 16) : List Byte :=
  match s.job? id with
  | none => []
  | some j =>
    let queued := (s.pnd.pages.filter fun p => p.job = id && p.queued && !p.left).length
    [queued, j.nFired, j.nInspected, j.nDefective].flatMap fun n => leBytes 4 (min (2 ^ 32 - 1) n)

/-- JOB_STATUS. -/
def opJobStatus : Op where
  code := 0x0206
  keeper := false
  legal := classI
  fits := exactly 4
  params s p := badAt [((s.job? (jobIdOf p)).isSome, 0)]
  act p s := (s.jobCounts (jobIdOf p.params), s)

/-! ## START_JOB -/

/-- Whether a job would queue behind a started job of another line rate (R230). -/
def State.rateDiffers (s : State) (id : BitVec 16) : Bool :=
  ((s.job? id).map fun j => s.pnd.jobs.any fun k => k.running && k.lpi600 ≠ j.lpi600).getD false

/-- Conditions of START_JOB (R59, R104, R369). -/
def State.startRefused (s : State) (p : List Byte) : Option (Status × Nat) :=
  [ fails s.sys.stop.isSome .busy 3,
    fails (s.started (jobIdOf p)) .busy 5,
    fails s.tooHot .fault 3,
    fails (!s.webMoves) .fault 5 ].findSome? id

/-- Channels of a job's mask enter Prime: those in Warm, and those in Drain after their last queued page (R53, R54). -/
def State.primeChannels (s : State) (mask : BitVec 8) : State :=
  let new (c : Nat) : Bool := mask.getLsbD c && (s.chMode c = 5 || s.chMode c = 9)
  let next (c : Nat) : Nat := if new c then 6 else s.chMode c
  let s := { s with fir := { s.fir with entering := (List.range 8).foldl (fun v c => if new c then putBit v c true else v) s.fir.entering } }
  if s.modeCode = 5 then (s.setChipMode 6 1).setChModes next else s.moveChannels next

/-- What the acceptance of START_JOB settles at once: jobs that run are closed, the job runs, its unbegun pages await their run lines, and
the plans of its carriers start anew (R363, R367, R497). -/
def State.openJob (s : State) (j : Job) : State :=
  let s := { s with pnd := { s.pnd with
    jobs := s.pnd.jobs.map fun (k : Job) =>
      if k.id = j.id then { k with running := true, closed := false, went := false } else if k.running then { k with closed := true } else k
    pages := s.pnd.pages.map fun (p : Page) => if p.job = j.id && p.queued then { p with first := none } else p } }
  let s := { s with fir := { s.fir with ctl := s.reg FIR_CTL } }
  let s := { s with pwr := { s.pwr with
    prev := s.pwr.prev.mapIdx fun n x => if j.mask.getLsbD (n / 2) then 0 else x
    plans := if s.modeCode = 5 then [] else s.pwr.plans } }
  (bitList j.mask).foldl (fun s c => s.noticeCheck c) s

/-- START_JOB takes effect: from Warm it starts or continues a run; while channels print, its job queues behind. -/
def State.startJob (s : State) (id : BitVec 16) : State :=
  match s.job? id with
  | none => s
  | some j =>
    let fresh := s.modeCode = 5
    let s := (s.openJob j).primeChannels j.mask
    if fresh then
      if s.flag FIR_STAT_RUNNING && s.fir.lpi600 ≠ j.lpi600 then { s with fir := { s.fir with restart := some id } }
      else s.startJobRun id
    else if s.fir.waiting.isSome || s.fir.restart.isSome then { s with fir := { s.fir with later := s.fir.later ++ [id] } }
    else (s.enterChannels.layOut id).dueNow.openLines

/-- START_JOB. -/
def opStartJob : Op where
  code := 0x0200
  keeper := true
  legal := classP
  fits := exactly 4
  params s p := badAt [((s.job? (jobIdOf p)).isSome, 0), (!s.rateDiffers (jobIdOf p), 0)]
  changes := true
  refuse := State.startRefused
  later := true
  arg p := field p 0 2
  act := fun p => silent (fun s => s.startJob (jobIdOf p.params)) p

/-! ## The commands -/

/-- START_JOB. -/
def execStartJob (p : Packet) (s : State) : Host.Outcome State Fault Refusal := s.done (s.command opStartJob p)

/-- JOB_DEFINE. -/
def execJobDefine (p : Packet) (s : State) : Host.Outcome State Fault Refusal := s.done (s.command opJobDefine p)

/-- PAGE_QUEUE. -/
def execPageQueue (p : Packet) (s : State) : Host.Outcome State Fault Refusal := s.done (s.command opPageQueue p)

/-- PAGE_REPRINT. -/
def execPageReprint (p : Packet) (s : State) : Host.Outcome State Fault Refusal := s.done (s.command opPageReprint p)

/-- JOB_CANCEL. -/
def execJobCancel (p : Packet) (s : State) : Host.Outcome State Fault Refusal := s.done (s.command opJobCancel p)

/-- JOB_STATUS. -/
def execJobStatus (p : Packet) (s : State) : Host.Outcome State Fault Refusal := s.done (s.command opJobStatus p)

end Sys2Proof.Machine
end

