-- ==== Sys2Proof/Machine/Links.lean ====
section
/-! DEFINITION. The carrier lanes (R265, R272 to R283), messages (R287, R288), ALIGN markers (R269) and lane tests (R291, R292). -/

namespace Sys2Proof.Machine

/-! ## Training (R272 to R276) -/

/-- A retrain commanded for a lane has ended (R101). -/
def State.retrainEnds (s : State) (l : Nat) (ok : Bool) : State :=
  s.resolveIf 0x0901 (fun c => c.arg = l) (if ok then .ok else .fault) (if ok then 0 else 3)

/-- D_n and SKEW of a carrier from the latencies of its live lanes (R276). -/
def State.measureCarrier (s : State) (n : Nat) : State :=
  let ds := ([2 * n, 2 * n + 1].filter s.laneLive).filterMap fun l => (s.lane l).d
  match ds with
  | [] => s
  | d :: r =>
    let big := r.foldl max d
    let small := r.foldl min d
    let v := clampInt 0 65535 (big + s.getInt (JGL_C_CFG_LAT_ADJ n))
    (s.put (JGL_C_LAT_D n) v.toNat).put (JGL_C_LAT_SKEW n) (min 65535 (big - small))

/-- Set how far a carrier has come in the training of boot step 14. -/
def State.setBoot (s : State) (n k : Nat) : State := s.updCarrier n fun c => { c with boot := k }

/-- The training of boot step 14 goes on (R70): a carrier whose two lanes do not both train starts again with each alone; once those are
through it runs on lane 2n where that trained, the other then OFF (log entry 129, DESIGN CHOICE), else on lane 2n + 1. -/
def State.bootCarrier (s : State) (n : Nat) : State :=
  let e := 2 * n
  let o := 2 * n + 1
  let fails (l : Nat) : Bool := s.laneState l = 7
  match (s.carrier n).boot with
  | 1 =>
    if fails e || fails o then ((s.setBoot n 2).laneDetect e).laneDetect o
    else if s.laneLive e && s.laneLive o then ((((s.setBoot n 3).laneTake e).laneTake o).measureCarrier n).syncLanes
    else s
  | 2 =>
    if !(s.laneLive e || fails e) || !(s.laneLive o || fails o) then s
    else
      let s := s.setBoot n 3
      let s := if s.laneLive e then (if s.laneLive o then s.laneEnter o 0 else s).laneTake e
        else if s.laneLive o then s.laneTake o
        else s
      (s.measureCarrier n).syncLanes
  | _ => s

/-- A training lane fails, with its cause. -/
def State.trainFails (s : State) (l cause : Nat) : State := ((s.laneFail l cause).retrainEnds l false).bootCarrier (l / 2)

/-- Time limit of a training state in cycles (R272). -/
def trainLimit : Nat → Nat
  | 1 => 40000000
  | 2 => 120000000
  | 3 => 16000000
  | _ => 8000000

/-- Whether a lane trains. -/
def State.training (s : State) (l : Nat) : Bool := 1 ≤ s.laneState l && s.laneState l ≤ 4

/-- A lane whose limit has passed fails before anything it receives then counts. -/
def State.limitNow (s : State) (l : Nat) : State :=
  if s.training l && decide ((s.lane l).entered + trainLimit (s.laneState l) < s.cycle) then s.trainFails l (s.laneState l) else s

/-- The taps PRE, MAIN and POST of a lane. -/
def State.taps (s : State) (l : Nat) : Nat × Nat × Nat := (s.get (JGL_L_TXTAP_PRE l), s.get (JGL_L_TXTAP_MAIN l), s.get (JGL_L_TXTAP_POST l))

/-- Write the taps of a lane. -/
def State.setTaps (s : State) (l : Nat) (t : Nat × Nat × Nat) : State :=
  ((s.put (JGL_L_TXTAP_PRE l) t.1).put (JGL_L_TXTAP_MAIN l) t.2.1).put (JGL_L_TXTAP_POST l) t.2.2

/-- Whether taps lie in the range of R261. -/
def tapsInRange (p m q : Int) : Bool :=
  0 ≤ p && p ≤ 15 && 20 ≤ m && m ≤ 63 && 0 ≤ q && q ≤ 31

/-- One step of tap i (0 POST, 1 MAIN, 2 PRE) up or down (R274): the taps after it and its status, 1 UPDATED, 2 AT_MIN, 3 AT_MAX. -/
def tapStep (t : Nat × Nat × Nat) (i : Nat) (up : Bool) : (Nat × Nat × Nat) × Nat :=
  let d : Int := if up then 1 else -1
  let p : Int := t.1 + (if i = 2 then d else 0)
  let m : Int := t.2.1 + (if i = 1 then d else 0)
  let q : Int := t.2.2 + (if i = 0 then d else 0)
  if !tapsInRange p m q || 64 < p + m + q then (t, 3)
  else if m - p - q < 16 then (t, 2)
  else ((p.toNat, m.toNat, q.toNat), 1)

/-- Answer the request for tap i: a held request is answered once, and HOLD clears its status. -/
def State.tapRequest (s : State) (l i req : Nat) : State :=
  let status (s : State) (n : Nat) : State := s.updLane l fun x => { x with status := x.status.set i n }
  if req = 0 then status s 0
  else if (req = 1 || req = 2) && (s.lane l).status.getD i 0 = 0 then
    let r := tapStep (s.taps l) i (req = 1)
    status (s.setTaps l r.1) r.2
  else s

/-- A lane's receiver has converged: VERIFY begins, with the equaliser codes adaptation has found, which the spec leaves to the
receiver (log entry 1, DESIGN CHOICE). -/
def State.laneConverged (s : State) (l : Nat) : State :=
  let d := s.draw
  let v := d.1.toNat
  let w := v % 32 * 2 ^ 24 + v / 32 % 256 * 2 ^ 16 + (32 + v / 8192 % 97)
  (d.2.setReg (JGL_L_RXEQ l) (BitVec.ofNat 32 w)).laneEnter l 3

/-- Skew beyond 32 blocks, 65.536 timebase cycles (R271). -/
def State.skewed (s : State) (l d : Nat) : Bool :=
  s.laneLive (partner l) && (((s.lane (partner l)).d).map fun e => decide (65 < Int.natAbs ((d : Int) - e))).getD false

/-- The 64 echoes of a lane are in (R276): it is aligned to its partner, and ACTIVE. -/
def State.laneAligned (s : State) (l d : Nat) : State :=
  let n := l / 2
  let s := s.updLane l fun x => { x with d := some d }
  if s.skewed l d && (s.carrier n).boot ≠ 2 then (s.putFlag (JGL_C_STAT_SKEW n) true).trainFails l 6
  else
    let s := ((s.laneEnter l 5).putFlag (JGL_L_STAT_ADAPT_ON l) true).putFlag (JGL_L_STAT_DRIFT l) false
    let s := s.updLane l fun x => { x with wanted := false, due := false, front := [], body := [], missed := 0, checkedAt := s.cycle }
    if (s.carrier n).boot = 1 || (s.carrier n).boot = 2 then s.bootCarrier n
    else
      let s := if s.flag FIR_STAT_RUNNING then s else s.measureCarrier n
      let s := if s.printing (n / 2) then s.updLane l fun x => { x with rejoin := true } else s.laneJoin l
      s.retrainEnds l true

/-! ## Loss (R279 to R281) -/

/-- A carrier is no longer reachable (R281): with an output asserted that is a safety event. -/
def State.carrierLost (s : State) (n : Nat) : State :=
  let s := (s.putFlag (JGL_C_STAT_UP n) false).raise (128 + n)
  let s := s.syncLanes
  if s.flag SAF_STAT_EN_A || s.flag SAF_STAT_EN_B then s.condition 6 n 0 else s

/-- A striped frame lost blocks (R280): its line is not fired on the carrier, and its page is flagged and entered. -/
def State.frameTorn (s : State) (n : Nat) (a : Int) : State :=
  let s := { s with fir := { s.fir with
    held := s.fir.held.filter fun (h : HeldRow) => !(h.ch = n / 2 && h.die / 26 = n % 2 && decide (h.line = a)) } }
  match s.firePage (n / 2) a with
  | some p => s.defect p.id (chBit (n / 2)) 1 false
  | none => s

/-- Stripe mode loses a lane (R280): the frame under way has lost blocks, and whole frames go on the other lane from the next on. -/
def State.unstripe (s : State) (n : Nat) : State :=
  let c := s.carrier n
  if c.mode ≠ 1 then s
  else
    let torn := !c.unstriped && s.get (JGL_C_STAT_LANES n) = 3 && (s.carrying n).any fun l => !(s.lane l).body.isEmpty
    let s := s.updCarrier n fun c => { c with unstriped := true }
    match c.line with
    | some a => if torn then s.frameTorn n a else s
    | none => s

/-- An ACTIVE or FROZEN lane is lost (R279, R280). -/
def State.laneLost (s : State) (l cause : Nat) : State :=
  if !s.laneLive l || (s.lane l).test then s
  else
    let n := l / 2
    let s := s.drain n
    let s := if s.laneLive (partner l) then s.unstripe n else s
    let s := s.laneFail l cause
    let s := (s.putFlag (JGL_C_STAT_LANE_LOST n) true).raise (128 + n)
    if s.laneLive (partner l) then
      let s := (s.putFlag (JGL_C_STAT_FAILOVER n) true).liveAdd JGL_STB_INFO JGL_STB_FAILOVER_COUNT 1
      (if (s.lane (partner l)).rejoin then s.laneJoin (partner l) else s).syncLanes.follow
    else s.carrierLost n

/-! ## What a receiver finds (R264 to R267, R279) -/

/-- Block lock follows from the headers seen (R265), and its loss or too many invalid headers within 1 ms lose a lane (R279). -/
def State.judgeHeaders (s : State) (l : Nat) : State :=
  let x := s.lane l
  if !s.flag (JGL_L_STAT_BLOCK_LOCK l) then
    if 64 ≤ x.valid then (s.putFlag (JGL_L_STAT_BLOCK_LOCK l) true).updLane l fun x => { x with recent := [] } else s
  else if 16 ≤ x.recent.count false then
    ((s.putFlag (JGL_L_STAT_BLOCK_LOCK l) false).updLane l fun x => { x with recent := [], valid := 0 }).laneLost l 7
  else if s.get JGL_ADAPT_BER_MAX < x.invalidAt.length then s.laneLost l 8
  else s

/-- A sync header, or a control block of no type that is defined, reaches a lane's receiver (R264, R265). -/
def State.headerSeen (s : State) (l : Nat) (ok : Bool) : State :=
  if s.laneDark l then s
  else
    let s := s.updLane l fun x => { x with
      valid := if ok then x.valid + 1 else 0
      recent := (ok :: x.recent).take 64
      invalidAt := (if ok then x.invalidAt else s.cycle :: x.invalidAt).filter fun t => s.cycle < t + 800000
      cleanAt := if ok then x.cleanAt else s.cycle }
    let s := if ok then s
      else (s.incSat (JGL_L_ERR_INVALID_HDR l)).liveAdd JGL_STB_INFO JGL_STB_INVALID_HDR_COUNT 1
    s.judgeHeaders l

/-- The clocks move a lane's elastic buffer of 64 blocks: one that overflows or runs empty counts an error (R267). -/
def State.moveBuffer (s : State) (l : Nat) (k : Int) : State :=
  let v := (s.lane l).level + k
  if -32 < v && v ≤ 32 then s.updLane l fun x => { x with level := v }
  else ((s.updLane l fun x => { x with level := 0 }).incSat (JGL_L_ERR_ELASTIC l)).laneLost l 11

/-- A FILL arrives: with the buffer 2 blocks from its centre it is deleted or repeated, on both lanes of a live pair (R266). -/
def State.takeFill (s : State) (l : Nat) : State :=
  let v := (s.lane l).level
  let lanes := if s.laneLive l && s.laneLive (partner l) then [l, partner l] else [l]
  let change (d : Int) (f : Fld) : State :=
    lanes.foldl (fun s l => (s.updLane l fun x => { x with level := x.level + d }).liveAdd JGL_STB_INFO f 1) s
  if 2 ≤ v then change (-1) JGL_STB_FILL_DEL_COUNT else if v ≤ -2 then change 1 JGL_STB_FILL_INS_COUNT else s

/-- A marker that the partner lane delivered: two in a row that this lane did not deliver lose it (R279). -/
def State.takeMarker (s : State) (l : Nat) (good : Bool) : State :=
  let k := if good then 0 else (s.lane l).missed + 1
  let s := s.updLane l fun x => { x with missed := k }
  if 2 ≤ k then s.laneLost l 9 else s

/-- What a lane's receiver finds. -/
def State.laneNews (s : State) (l : Nat) (news : LaneNews) : State :=
  match news with
  | .headers h => h.foldl (fun s v => s.headerSeen l (v = 1 || v = 2)) s
  | .elastic k => s.moveBuffer l k
  | .fill => s.takeFill l
  | .markers good => good.foldl (fun s g => s.takeMarker l g) s

/-- A block reaches a lane: its type and payload where it is a control block of a type that is defined and the lane has block lock. -/
def State.blockIn (s : State) (l : Nat) (header : BitVec 2) (payload : BitVec 64) : Option Nat × State :=
  let kind := payload.toNat % 256
  let known := blockTypes.contains kind
  let s := s.headerSeen l (header = 1 || (header = 2 && known))
  (if header = 2 && known && s.flag (JGL_L_STAT_BLOCK_LOCK l) then some kind else none, s)

/-! ## Training goes on (R272 to R276) -/

/-- The requests of the chip's own receiver (R274): one is held until the far tap's status leaves NOT_UPDATED, and a further one may be
made once that status has returned. -/
def nextRequest (asked status wish : Nat) : Nat := if asked ≠ 0 then (if status = 0 then asked else 0) else if status = 0 then wish else 0

/-- A TRAIN block in TAP_TRAIN: its payload, and what the chip's receiver makes of the signal. -/
def State.tapTrain (s : State) (l : Nat) (v : Nat) (near : Bool) (wishes : List (Fin 3)) : State :=
  let ready := v / 2 ^ 16 % 2 = 1
  let s := (s.putFlag (JGL_L_STAT_RX_READY_FAR l) ready).putFlag (JGL_L_STAT_RX_READY_NEAR l) near
  let s := if v / 2 ^ 15 % 2 = 1 then s.setReg (JGL_L_TXTAP l) 0x00083404 else s
  let s := (List.range 3).foldl (fun s i => s.tapRequest l i (v / 2 ^ (13 - 2 * i) % 4)) s
  let n := if ready && near then (s.lane l).ready + 1 else 0
  let s := s.updLane l fun x => { x with
    ready := n
    asked := (List.range 3).map fun i =>
      nextRequest (x.asked.getD i 0) (v / 2 ^ (26 - 2 * i) % 4) ((wishes.map fun (w : Fin 3) => w.val).getD i 0) }
  if 64 ≤ n then s.laneConverged l else s

/-- A TRAIN block with its carrier and lane (R273, R275). -/
def State.trainBlock (s : State) (l : Nat) (v : Nat) (near : Bool) (wishes : List (Fin 3)) : State :=
  let st := s.laneState l
  if !(st = 1 || st = 2) then s
  else if v / 2 ^ 36 % 16 ≠ l / 2 || v / 2 ^ 35 % 2 ≠ l % 2 then
    let s := (s.putFlag (JGL_C_STAT_WIRING (l / 2)) true).trainFails l 5
    s.raise (128 + l / 2)
  else if st = 1 then (s.laneEnter l 2).putFlag (JGL_L_STAT_ADAPT_ON l) true
  else (s.drain (l / 2)).tapTrain l v near wishes

/-- VERIFY has passed: 64 ECHO requests and an ALIGN marker go out on the lane (R276). -/
def State.beginAlign (s : State) (l : Nat) : State :=
  let n := l / 2
  let k := (s.carrier n).aligns
  let s := (s.laneEnter l 4).updCarrier n fun c => { c with aligns := (k + 1) % 2 ^ 32 }
  s.updLane l fun x => { x with
    front := (Marker.blocks ⟨1, k, [], false⟩), body := (List.range 64).map echoBlock, requests := [], echoSum := 0, echoes := 0 }

/-- An ECHO reply (R276): that to a request still out gives a round trip, and requests sent before it without a reply are repeated
(log entry 130, DEDUCED). -/
def State.echo (s : State) (l : Nat) (v : Nat) : State :=
  let s := s.drain (l / 2)
  let tag := v / 2 ^ 16 % 2 ^ 16
  if s.laneState l ≠ 4 || v / 2 ^ 8 % 256 ≠ 1 then s
  else
    match (s.lane l).requests.find? fun q => q.1 = tag with
    | none => s
    | some q =>
      let trip : Int := (s.cycle : Int) - q.2 - (v / 2 ^ 32 % 2 ^ 32 : Nat)
      let s := s.updLane l fun x =>
        let missing := x.requests.takeWhile fun r => r.1 ≠ tag
        { x with
          echoSum := x.echoSum + trip, echoes := x.echoes + 1
          requests := (x.requests.dropWhile fun r => r.1 ≠ tag).drop 1
          body := x.body ++ missing.map fun r => echoBlock r.1 }
      let x := s.lane l
      if x.echoes < 64 then s else s.laneAligned l (roundDiv x.echoSum 128).toNat

/-! ## Drift and retraining (R282, R283) -/

/-- The check of a lane's drift, due every 1 ms (R283). -/
def State.drift (s : State) (l steps transitions : Nat) : State :=
  let s := s.updLane l fun x => { x with checkedAt := s.cycle }
  let s := s.putFlag (JGL_L_STAT_ADAPT_ON l) (2 ≤ s.laneState l && s.laneState l ≤ 5 && 1024 * s.get JGL_ADAPT_TD_MIN ≤ transitions)
  if s.laneState l ≠ 5 then s
  else
    let s := s.put (JGL_L_RXEQ_DRIFT_MAX_SEEN l) (max steps (s.get (JGL_L_RXEQ_DRIFT_MAX_SEEN l)))
    if steps ≤ s.get JGL_ADAPT_DRIFT_MAX || s.flag (JGL_L_CTL_FREEZE_DIS l) then s
    else
      let s := (s.laneEnter l 6).putFlag (JGL_L_STAT_ADAPT_ON l) false
      let s := (s.putFlag (JGL_L_STAT_DRIFT l) true).putFlag (JGL_C_STAT_DRIFT (l / 2)) true
      (s.updLane l fun x => { x with wanted := true }).raise (128 + l / 2)

/-- Whether a lane is of an enabled carrier, used by its mode (R277) and not in training. -/
def State.trainable (s : State) (l : Nat) : Bool :=
  s.carrierOn (l / 2) && (s.carrier (l / 2)).mode ≠ 3 - l % 2 && !s.training l

/-- At least 1 s has passed since the latest attempt on a lane. -/
def State.rested (s : State) (l : Nat) : Bool := ((s.lane l).tried.map fun t => decide (t + 800000000 ≤ s.cycle)).getD true

/-- A retrain begins (R272, R282): a FROZEN lane goes to TAP_TRAIN with its taps and lock, any other to DETECT. -/
def State.retrain (s : State) (l : Nat) : State :=
  let frozen := s.laneState l = 6
  let tap := s.reg (JGL_L_TXTAP l)
  let s := s.laneDetect l
  let s := if frozen then
      (((s.setReg (JGL_L_TXTAP l) tap).laneEnter l 2).putFlag (JGL_L_STAT_BLOCK_LOCK l) true).putFlag
        (JGL_L_STAT_ADAPT_ON l) true
    else s
  s.syncLanes.follow

/-- A retrain asked for by RETRAIN or LANE_RETRAIN (R282); within 1 s of the latest attempt it waits. -/
def State.askRetrain (s : State) (l : Nat) : State :=
  if !s.trainable l || !s.mayRetrain l then s
  else if s.rested l then s.retrain l
  else s.updLane l fun x => { x with wanted := true, due := true }

/-- The retrain of a lane is due: asked for, or automatic of a FAILED or FROZEN one; 1 s after the latest attempt at the earliest. -/
def State.autoRetrain (s : State) (l : Nat) : State :=
  let x := s.lane l
  let may := x.due || (x.wanted && s.flag JGL_CTL_AUTO_RETRAIN && !s.printing (l / 4) && (s.laneState l = 6 || s.laneState l = 7))
  if may && !x.test && s.trainable l && s.mayRetrain l then
    ((x.tried.map fun t => s.tickTo (t + 800000000)).getD s).retrain l
  else s

/-! ## Messages (R287, R288) -/

/-- The first good copy of an upstream message of a type and length (R278, R287): its SEQ and data blocks. A copy is good where its lane
is live and the CRC-32C over its MSG block and the data blocks before the last is that of the last. -/
def State.goodCopy (s : State) (n kind len : Nat) (l : List MsgCopy) : Option (Nat × List (BitVec 64)) :=
  l.findSome? fun c =>
    let v := c.head.toNat
    let bytes := leBytes 7 (v / 256) ++ (c.blocks.dropLast.flatMap fun b => leBytes 8 b.toNat)
    if s.laneLive (2 * n + bit c.odd) && v % 256 = 0x55 && v / 2 ^ 8 % 256 = kind && v / 2 ^ 16 % 256 = len && c.blocks.length = len
        && ((c.blocks.getLast?.map fun b => b.setWidth 32) = some (crc32c bytes)) then
      some (v / 2 ^ 24 % 2 ^ 16, c.blocks)
    else none

/-- An ACK: a message the carrier acted on or refused is done; one it found bad is sent again (R288). -/
def State.ack (s : State) (n : Nat) (l : List MsgCopy) : State :=
  match s.goodCopy n 0x83 2 l with
  | none => s
  | some (_, b) =>
    let v := (b.getD 0 0).toNat
    if 2 ≤ v / 2 ^ 16 % 256 then s
    else s.updCarrier n fun c => { c with msgs := c.msgs.filter fun (m : Msg) => m.seq ≠ v % 2 ^ 16 }

/-- A LINK_TEST result: its errors and bits. -/
def State.testResult (s : State) (n : Nat) (l : List MsgCopy) : State :=
  match s.goodCopy n 0x85 2 l with
  | none => s
  | some (_, b) =>
    let v := b.getD 0 0
    s.updCarrier n fun c => { c with test := (v.setWidth 32, (v >>> 32).setWidth 32) }

/-- 100 µs without an ACK (R288). -/
def State.resend (s : State) (n seq : Nat) : State :=
  match (s.carrier n).msgs.find? fun m => m.seq = seq with
  | none => s
  | some m =>
    let s := s.tickTo (m.at_ + 80000)
    if m.sends < 4 then
      let s := s.updCarrier n fun c => { c with msgs := c.msgs.map fun (x : Msg) =>
        if x.seq = seq then { x with sends := x.sends + 1, at_ := s.cycle } else x }
      (((s.queueItem n ⟨none, msgBlocks m.kind m.seq m.body⟩).emit (.carrierMsg n m.kind m.seq m.body)).incSat JGL_MSG_RETRIES).liveAdd
        JGL_STB_INFO JGL_STB_MSG_RETRY_COUNT 1
    else
      let s := s.updCarrier n fun c => { c with msgs := c.msgs.filter fun (x : Msg) => x.seq ≠ seq }
      (((s.incSat JGL_MSG_FAILS).putFlag (JGL_C_STAT_MSG_FAIL n) true).raise 145).carrierLost n

/-! ## Lane tests (R291 to R293) -/

/-- A checker loses or gives up its lock; its count of bits stays. -/
def State.dropChecker (s : State) (l : Nat) : State :=
  if s.flag (JGL_L_PRBS_LOCK l) then (s.setReg (JGL_L_PRBS_BITS l) (BitVec.ofNat 32 (s.bitsChecked l))).putFlag (JGL_L_PRBS_LOCK l) false
  else s

/-- A write of JGL_L_l_PRBS; discarded outside Service (R294). Turning the checker off, or another pattern, drops its lock. -/
def State.writePrbs (s : State) (l : Nat) (v : Word) : State :=
  if s.modeCode ≠ 10 then s
  else
    let s := s.drain (l / 2)
    let old := s.reg (JGL_L_PRBS l)
    let s := if bits old 0 4 = bits v 0 4 then s else s.dropChecker l
    let starts := v.getLsbD 2 && bits old 0 3 ≠ bits v 0 3
    let s := s.setReg (JGL_L_PRBS l) ((v &&& 0x40FF000F) ||| (s.reg (JGL_L_PRBS l) &&& 0x10))
    s.updLane l fun x => { x with
      flip := x.flip || v.getLsbD 31
      generator := if starts then 0x7FFFFFFF else x.generator }

/-- Whether the last 64 bits a checker has received follow its pattern. -/
def followsPattern (pattern : Nat) (l : List Bool) : Bool :=
  let t := prbsTaps pattern
  let r := l.reverse
  decide (64 + t.1 ≤ l.length) && (List.range 64).all fun k => r.getD k false = (r.getD (k + t.1) false != r.getD (k + t.2) false)

/-- A checker of a lane under test locks (R291). -/
def State.checkerLock (s : State) (l : Nat) (b : List Bool) : State :=
  let p := s.get (JGL_L_PRBS_PATTERN l)
  if (s.lane l).test && s.flag (JGL_L_PRBS_CHK l) && p ≠ 0 && !s.flag (JGL_L_PRBS_LOCK l) && followsPattern p b then
    (((s.putFlag (JGL_L_PRBS_LOCK l) true).setReg (JGL_L_PRBS_ERR l) 0).setReg (JGL_L_PRBS_BITS l) 0).updLane l fun x =>
      { x with lockAt := s.cycle, errAt := [] }
  else s

/-- A bit error at a locked checker: 1,024 within 4,096 bits drop its lock (R291). -/
def State.bitError (s : State) (l e : Nat) : State :=
  if !s.flag (JGL_L_PRBS_LOCK l) then s
  else
    let s := (s.incSat (JGL_L_PRBS_ERR_ERRORS l)).updLane l fun x => { x with errAt := (e :: x.errAt).filter fun k => e < k + 4096 }
    if 1024 ≤ (s.lane l).errAt.length then (s.dropChecker l).raise 146 else s

/-- Inject errors on a lane (R293): invalid headers, spoilt frames, withheld markers or electrical idle. -/
def State.injectErrors (s : State) (l kind count : Nat) : State :=
  let s := s.drain (l / 2)
  s.updLane l fun x =>
    if kind = 1 then { x with badHeaders := count }
    else if kind = 2 then { x with badFrames := count }
    else if kind = 3 then { x with badMarkers := count }
    else { x with darkTo := slotAt (s.cycle + 800000 * count) }

/-! ## Meanings -/

/-- TRAIN_BLOCK (R264, R273 to R275). -/
def execTrainBlock (lane : Fin 32) (header : BitVec 2) (payload : BitVec 64) (near : Bool) (wishes : List (Fin 3)) (dt : Nat) (s : State) :
    Host.Outcome State Fault Refusal :=
  s.done (let s := s.tick dt
    if !s.runs 9 then s
    else
      let r := (s.limitNow lane.val).blockIn lane.val header payload
      if r.1 = some 0x66 then r.2.trainBlock lane.val payload.toNat near wishes else r.2)

/-- LANE_TRAIN_TIMEOUT (R272). -/
def execLaneTrainTimeout (lane : Fin 32) (dt : Nat) (s : State) : Host.Outcome State Fault Refusal :=
  s.done (let s := s.tick dt
    let st := s.laneState lane.val
    if s.runs 9 && s.training lane.val then (s.tickTo ((s.lane lane.val).entered + trainLimit st)).trainFails lane.val st else s)

/-- ECHO_REPLY (R264, R276). -/
def execEchoReply (lane : Fin 32) (header : BitVec 2) (payload : BitVec 64) (dt : Nat) (s : State) : Host.Outcome State Fault Refusal :=
  s.done (let s := s.tick dt
    if !s.runs 9 then s
    else
      let r := (s.limitNow lane.val).blockIn lane.val header payload
      if r.1 = some 0x78 then r.2.echo lane.val payload.toNat else r.2)

/-- LANE_LOST (R279). -/
def execLaneLost (lane : Fin 32) (news : LaneNews) (dt : Nat) (s : State) : Host.Outcome State Fault Refusal :=
  s.done (let s := s.tick dt
    if s.runs 9 then s.laneNews lane.val news else s)

/-- DRIFT_CHECK (R283). -/
def execDriftCheck (lane : Fin 32) (steps : BitVec 8) (transitions : BitVec 17) (dt : Nat) (s : State) : Host.Outcome State Fault Refusal :=
  s.done (let s := s.tick dt
    if s.runs 9 then (s.tickTo ((s.lane lane.val).checkedAt + 800000)).drift lane.val steps.toNat transitions.toNat else s)

/-- RETRAIN_START (R282). -/
def execRetrainStart (lane : Fin 32) (dt : Nat) (s : State) : Host.Outcome State Fault Refusal :=
  s.done (let s := s.tick dt
    if s.runs 9 then s.autoRetrain lane.val else s)

/-- RETRAIN_WRITE (R282): a write of JGL_L_l_CTL. -/
def execRetrainWrite (by_ : By) (lane : Fin 32) (value : Word) (s : State) : Host.Outcome State Fault Refusal :=
  s.done (s.hostWrite by_ (JGL_L_CTL lane.val) fun s =>
    let s := s.setReg (JGL_L_CTL lane.val) (value &&& 0x40000000)
    if bits value 31 1 = 1 then s.askRetrain lane.val else s)

/-- LANE_VERIFY_PASS (R272): 4,194,304 blocks take 8,589,935 cycles. -/
def execLaneVerifyPass (lane : Fin 32) (far : Bool) (dt : Nat) (s : State) : Host.Outcome State Fault Refusal :=
  s.done (let l := lane.val
    let s := s.tick dt
    if !s.runs 9 || s.laneState l ≠ 3 then s
    else
      let s := (s.tickTo ((s.lane l).cleanAt + 8589935)).limitNow l
      if far && s.laneState l = 3 then s.beginAlign l else s)

/-- BLOCK_LOCK_GAINED (R265). -/
def execBlockLockGained (lane : Fin 32) (headers : List (BitVec 2)) (dt : Nat) (s : State) : Host.Outcome State Fault Refusal :=
  s.done (let s := s.tick dt
    if s.runs 9 then (s.limitNow lane.val).laneNews lane.val (.headers headers) else s)

/-- MSG_ACK (R287, R288). -/
def execMsgAck (carrier : Fin 16) (copies : List MsgCopy) (dt : Nat) (s : State) : Host.Outcome State Fault Refusal :=
  s.done (let s := s.tick dt
    if s.runs 9 then s.ack carrier.val copies else s)

/-- MSG_RETRY (R288). -/
def execMsgRetry (carrier : Fin 16) (seq : BitVec 16) (dt : Nat) (s : State) : Host.Outcome State Fault Refusal :=
  s.done (let s := s.tick dt
    if s.runs 9 then s.resend carrier.val seq.toNat else s)

/-- LINK_TEST_RESULT (R287). -/
def execLinkTestResult (carrier : Fin 16) (copies : List MsgCopy) (dt : Nat) (s : State) : Host.Outcome State Fault Refusal :=
  s.done (let s := s.tick dt
    if s.runs 9 then s.testResult carrier.val copies else s)

/-- ALIGN_MARKER (R269): ALIGN_KB × 1,024 blocks after the latest marker. -/
def execAlignMarker (carrier : Fin 16) (dt : Nat) (s : State) : Host.Outcome State Fault Refusal :=
  s.done (let s := s.tick dt
    let n := carrier.val
    if s.runs 9 && s.flag (JGL_C_STAT_UP n) then
      (s.tickTo (slotCycle ((s.carrier n).marked + 1024 * max 1 (s.get JGL_FILL_ALIGN_KB)))).sendAlign n false
    else s)

/-- PRBS_CHECKER_LOCK (R291). -/
def execPrbsCheckerLock (lane : Fin 32) (bits : List Bool) (dt : Nat) (s : State) : Host.Outcome State Fault Refusal :=
  s.done (let s := s.tick dt
    if s.runs 9 then s.checkerLock lane.val bits else s)

/-- PRBS_LOCK_LOSS (R291). -/
def execPrbsLockLoss (lane : Fin 32) (errors : List Nat) (dt : Nat) (s : State) : Host.Outcome State Fault Refusal :=
  s.done (let s := s.tick dt
    if s.runs 9 then errors.foldl (fun s e => s.bitError lane.val e) s else s)

/-- INJ_ONE (R292): a write of JGL_L_l_PRBS. -/
def execInjOne (by_ : By) (lane : Fin 32) (value : Word) (s : State) : Host.Outcome State Fault Refusal :=
  s.done (s.hostWrite by_ (JGL_L_PRBS lane.val) fun s => s.writePrbs lane.val value)

end Sys2Proof.Machine
end

