-- ==== Sys2Proof/Machine/Telemetry.lean ====
section
/-! DEFINITION. Telemetry of the carriers: its registers, and what line clock, power, safety island, link and quality loop take from
it (R236, R289, R290, R330, R357, R360, R361, R443). -/

namespace Sys2Proof.Machine

/-- A record as received (R289): blocks 0 to 8. -/
abbrev Telem := List (BitVec 64)

/-- A field of a block. -/
def tField (t : Telem) (b lo w : Nat) : Nat := (t.getD b 0).toNat / 2 ^ lo % 2 ^ w

/-- A bit of REG_STAT: 0 ENABLED, 1 IN_REG, 2 REDUCED, 3 OVERCURRENT, 4 UNDERVOLT, 5 OVERTEMP, 6 WARMUP. -/
def tStat (t : Telem) (k : Nat) : Bool := tField t 0 (56 + k) 1 = 1

/-- Temperature byte of a local die; 0x80 is no reading. -/
def tTemp (t : Telem) (d : Nat) : Nat := tField t (2 + d / 8) (8 * (d % 8)) 8

/-! ## Registers and the link (R290) -/

/-- Copy a record to the carrier's registers; bytes beyond die 25 read 0x80. -/
def State.copyRecord (s : State) (n seq : Nat) (t : Telem) : State :=
  let s := s.setReg (JGL_C_RAIL n) (BitVec.ofNat 32 (tField t 0 16 16 * 65536 + tField t 0 32 16))
  let s := s.setReg (JGL_C_RSTAT n)
    (BitVec.ofNat 32 (tField t 1 0 16 * 65536 + tField t 0 48 8 * 256 + tField t 0 56 8))
  let s := s.setReg (JGL_C_TSEQ n) (BitVec.ofNat 32 seq)
  let byte (k : Nat) : Nat := if k < 26 then tTemp t k else 0x80
  (List.range 7).foldl (fun s w => s.setReg (JGL_T n w)
    (BitVec.ofNat 32 (byte (4 * w) + 256 * byte (4 * w + 1) + 65536 * byte (4 * w + 2) + 16777216 * byte (4 * w + 3)))) s

/-- A record more than 375 µs after the one before it is late. -/
def State.recordLate (s : State) (n : Nat) : State :=
  match (s.carrier n).record with
  | some c =>
    if 300000 < s.cycle - c then (s.putFlag (JGL_C_STAT_TELEM_LATE n) true).liveAdd JGL_STB_INFO JGL_STB_TELEM_LATE_COUNT 1 else s
  | none => s

/-- The page of the line of channel c whose number ends in an epoch, nearest the line of its next boundary. -/
def State.epochPage (s : State) (c epoch : Nat) : Option Page :=
  let next := (s.fch c).next
  let a := next + signed 32 (unsigned 32 ((epoch : Int) - next))
  (s.fch c).a0.bind fun a0 => s.pageAt c (a - a0)

/-- Frames the carrier did not fire since its previous record (R290). -/
def State.framesLost (s : State) (n : Nat) (t : Telem) : State :=
  let lost := tField t 6 16 16
  let k := unsigned 16 ((lost : Int) - (s.carrier n).lost)
  if (s.carrier n).record.isNone || k = 0 then s
  else
    let s := (s.putFlag (JGL_C_STAT_FRAME_LOST n) true).liveAdd JGL_STB_INFO JGL_STB_FRAME_LOST_COUNT k
    let s := match s.epochPage (n / 2) (tField t 6 32 32) with
      | some p => s.defect p.id (chBit (n / 2)) 1 false
      | none => s
    s.raise 144

/-- CRC_ONE and MARKER_ERR since the previous record. -/
def State.countRecord (s : State) (n : Nat) (t : Telem) : State :=
  let x := s.carrier n
  let one := tField t 6 0 16
  let mark := tField t 7 0 16
  let s := if x.record.isNone then s
    else
      let s := s.liveAdd JGL_STB_INFO JGL_STB_FRAME_CRC_ONE_COUNT (unsigned 16 ((one : Int) - x.crcOne))
      s.liveAdd JGL_STB_INFO JGL_STB_MARKER_ERR_COUNT (unsigned 16 ((mark : Int) - x.markerErr))
  s.updCarrier n fun c => { c with record := some s.cycle, lost := tField t 6 16 16, crcOne := one, markerErr := mark }

/-- LINK of each lane: drift at the far end, and a far receiver without lock (R279, R283). -/
def State.linkReport (s : State) (n : Nat) (t : Telem) : State :=
  let drift := tField t 1 43 1 = 1 || tField t 1 47 1 = 1
  let s := if drift && !s.flag (JGL_C_STAT_DRIFT n) then (s.putFlag (JGL_C_STAT_DRIFT n) true).raise (128 + n) else s
  [0, 1].foldl (fun s k => if tField t 1 (42 + 4 * k) 1 = 0 && s.laneLive (2 * n + k) then s.laneLost (2 * n + k) 10 else s) s

/-! ## Die temperatures and faults (R219, R236, R330, R443) -/

/-- Readings of a record reach the line clock: a die at LIMIT is blanked. -/
def State.dieTemps (s : State) (n : Nat) (t : Telem) : State :=
  (List.range 26).foldl (fun s k =>
    let b := tTemp t k
    if b = 0x80 then s
    else
      let c := n / 2
      let d := 26 * (n % 2) + k
      let s := s.updFch c fun f => { f with temp := f.temp.set d (some (signed 8 b)), tempAt := f.tempAt.set d s.cycle }
      if (s.get (FIR_CH_HOT_LIMIT c) : Int) ≤ signed 8 b then s.blankDie c d else s) s

/-- The changes of a die that reports a fault in two records: every nozzle not OFF goes OFF. -/
def State.dieOff (s : State) (c d : Nat) : List Change :=
  ((List.range 6336).map fun k => recordIndex c d 0 0 + k).filterMap fun i =>
    if recGet (s.nozzle i) 0 = 5 then none else some (stateChange i 5 4)

/-- DIE_FAULT of a record. -/
def State.dieFaults (s : State) (n : Nat) (t : Telem) : State :=
  (List.range 26).foldl (fun s k =>
    let c := n / 2
    let d := 26 * (n % 2) + k
    let old := ((s.ins.faults.find? fun x => x.1 = c && x.2.1 = d).map fun x => x.2.2).getD 0
    let new := if tField t 1 (16 + k) 1 = 1 then min 2 (old + 1) else 0
    let rest := s.ins.faults.filter fun x => !(x.1 = c && x.2.1 = d)
    let s := { s with ins := { s.ins with faults := if new = 0 then rest else rest ++ [(c, d, new)] } }
    if new = 2 && old < 2 && s.flag INS_CTL_AUTO_STATE then s.loopApply (s.dieOff c d) else s) s

/-- SAF notes the record, and the dies with a valid reading (R443). -/
def State.noteRecord (s : State) (n : Nat) (t : Telem) : State :=
  let at_ := (List.range 26).foldl (fun (l : List Nat) k => if tTemp t k = 0x80 then l else l.set (27 * n + k) s.cycle)
    (s.saf.readAt.set (27 * n + 26) s.cycle)
  { s with saf := { s.saf with readAt := at_ } }

/-- The safety island's own test of the readings of an enabled carrier: a die at DIE_TRIP in two records in a row (R443). -/
def State.dieTrip (s : State) (n : Nat) (t : Telem) : State :=
  let hot := (List.range 26).filter fun k => tTemp t k ≠ 0x80 && decide ((s.get SAF_P_TIMING_DIE_TRIP : Int) ≤ signed 8 (tTemp t k))
  let bad := hot.filter fun k => s.saf.hot.contains (n, k)
  let rest := s.saf.hot.filter fun x => x.1 ≠ n
  let s := { s with saf := { s.saf with hot := rest ++ hot.map fun (k : Nat) => (n, k) } }
  match bad with
  | k :: _ => if (s.carrier n).enabled then s.dangerous 3 n k else s
  | [] => s

/-! ## Fire rails (R357, R360, R361) -/

/-- Show which channels have a reduced rail; those that gain the cause while printing are due to enter Degraded (R58). -/
def State.syncRails (s : State) : State :=
  let red (n : Nat) : Bool := (s.carrier n).enabled && (s.reg (JGL_C_RSTAT n)).getLsbD 2
    && (!(s.carrier n).ramping || s.sys.railReduced.getLsbD (n / 2))
  let new := (s.enabled.filter fun c => red (2 * c) || red (2 * c + 1)).foldl (fun (v : BitVec 8) c => putBit v c true) 0
  let old := s.sys.railReduced
  if new = old then s
  else
    let s := s.setDegrade (withBits (s.reg SYS_DEGRADE) 3 1 (bit (new ≠ 0)))
    ({ s with sys := { s.sys with railReduced := new } }).degradeDue (new &&& ~~~ old)

/-- A rail fault of an enabled carrier (R357): a condition where fire energy may be on. -/
def State.railFault (s : State) (n : Nat) : State :=
  let s := (s.put ⟨PWR_STAT, n, 1⟩ 1).raise 193
  let m := s.modeCode
  if (5 ≤ m ∧ m ≤ 9) ∨ m = 11 ∨ s.changingTo 5 then s.condition 5 n 0 else s

/-- Whether the voltage of a record deviates. -/
def State.railDeviates (s : State) (n : Nat) (t : Telem) : Bool :=
  let set := (s.carrier n).setMv
  let diff := |(tField t 0 16 16 : Int) - set|
  tStat t 4 || decide (((max 1 (s.get PWR_RAIL_TOL_RAIL_TOL) * set : Nat) : Int) < 1000 * diff)

/-- Checks of an enabled carrier whose ramp has ended. -/
def State.railCheck (s : State) (n : Nat) (t : Telem) : State :=
  let x := s.carrier n
  let overs := if tStat t 3 || tStat t 5 then x.overs + 1 else 0
  let off := if tStat t 0 then 0 else x.off + 1
  let dev := if s.railDeviates n t then x.dev + 1 else 0
  let s := s.updCarrier n fun c => { c with overs := overs, off := off, dev := dev }
  let s := if dev = 4 then (s.liveAdd PWR_STB_INFO PWR_STB_RAIL_DEV_COUNT 1).raise 194 else s
  if overs = 2 || off = 2 then s.railFault n else s

/-- Whether every reading of a record lies within the warm range of its channel. -/
def State.diesWarm (s : State) (n : Nat) (t : Telem) : Bool :=
  (List.range 26).all fun k => tTemp t k = 0x80 ||
    decide (|signed 8 (tTemp t k) - (s.get (PWR_CH_WARM_WARM_C (n / 2)) : Int)| ≤ (max 1 (s.get (PWR_CH_WARM_WARM_TOL (n / 2))) : Nat))

/-- A record of a carrier in warm-up: after 64 in a row its warm-up ends (R360). -/
def State.warmUp (s : State) (n : Nat) (t : Telem) : State :=
  let x := s.carrier n
  if x.warm || !s.flag (JGL_C_STAT_UP n) then s
  else
    let k := if tStat t 1 && !tStat t 6 && s.diesWarm n t then x.steady + 1 else 0
    let s := s.updCarrier n fun c => { c with steady := k }
    if 64 ≤ k then s.warmUpEnds n else s

/-- What PWR takes from a record. -/
def State.railRecord (s : State) (n : Nat) (t : Telem) : State :=
  let x := s.carrier n
  let s :=
    if x.enabled then
      let s := if x.ramping && tStat t 1 then s.updCarrier n fun c => { c with ramping := false } else s
      let s := if (s.carrier n).ramping then s else s.railCheck n t
      s.warmUp n t
    else if x.leaving && !tStat t 0 then s.releaseClaim n
    else s
  s.syncRails.tryChange

/-! ## The events -/

/-- A telemetry record (R289, R290). -/
def State.telemetry (s : State) (n seq : Nat) (t : Telem) : State :=
    let s := ((s.soak.recordLate n).framesLost n t).countRecord n t
    let s := (s.copyRecord n seq t).linkReport n t
    let s := if s.runs 8 then s.dieTemps n t else s
    let s := if s.runs 10 && s.runs 7 then s.dieFaults n t else s
    ((s.noteRecord n t).railRecord n t).dieTrip n t

/-- TELEMETRY_RECORD (R289, R290). -/
def execTelemetryRecord (carrier : Fin 16) (copies : List MsgCopy) (dt : Nat) (s : State) : Host.Outcome State Fault Refusal :=
  s.done (let s := s.tick dt
    let n := carrier.val
    match s.goodCopy n 0x81 9 copies with
    | none => s
    | some r => if s.runs 9 && s.carrierOn n then s.telemetry n r.1 r.2 else s)

/-- TELEM_LATE (R290): a record is late before it arrives. -/
def execTelemLate (carrier : Fin 16) (dt : Nat) (s : State) : Host.Outcome State Fault Refusal :=
  s.done (let s := s.tick dt
    match (s.carrier carrier.val).record with
    | some t => if s.runs 9 then (s.tickTo (t + 300001)).putFlag (JGL_C_STAT_TELEM_LATE carrier.val) true else s
    | none => s)

/-- DIE_REPORT_TIMEOUT (R236). -/
def execDieReportTimeout (ch : Fin 8) (die : Fin 52) (dt : Nat) (s : State) : Host.Outcome State Fault Refusal :=
  s.done (let s := s.tick dt
    if s.runs 8 && s.sys.channels.getLsbD ch.val then
      (s.tickTo ((s.fch ch.val).tempAt.getD die.val 0 + 800000)).blankDie ch.val die.val
    else s)

end Sys2Proof.Machine
end

