-- ==== Sys2Proof/Machine/Tim.lean ====
section
/-! DEFINITION. Network time (R409 to R431): best masters, delays and their candidate series, samples, the servo, steps, the
transparent clock, the answers to ARP and neighbour solicitations, and conversion of cycles to time-stamps. -/

namespace Sys2Proof.Machine

/-! ## Fields with their limits (R432) -/

/-- A port beside its registers. -/
def State.tport (s : State) (p : Nat) : TimPort := s.tim.ports.getD p TimPort.reset

/-- Change a port. -/
def State.updTport (s : State) (p : Nat) (f : TimPort → TimPort) : State :=
  { s with tim := { s.tim with ports := s.tim.ports.modify p f } }

/-- DOMAIN; above 127 it acts as 127. -/
def State.timDomain (s : State) : Nat := min 127 (s.get TIM_CTL_DOMAIN)

/-- SLEW_PPM in 2^-16 ppb. -/
def State.slew (s : State) : Int := max 1 (min 500 (s.get TIM_LIMITS_SLEW_PPM)) * 65536000

/-- LOCK_NS, JUMP_NS, PATH_NS and ASYM_NS in 2^-16 ns, and PATH_N. -/
def State.lockLimit (s : State) : Nat := max 1 (s.get TIM_LIMITS_LOCK_NS) * 65536
def State.jumpLimit (s : State) : Nat := max 1000 (s.get TIM_JUMP_JUMP_NS) * 65536
def State.asymLimit (s : State) : Nat := s.get TIM_XPORT_ASYM_NS * 65536
def State.pathLimit (s : State) : Nat := max 1 (s.get TIM_PATH_PATH_NS) * 16
def State.pathCount (s : State) : Nat := max 1 (s.get TIM_PATH_PATH_N)

/-! ## Best masters (R411, R412) -/

/-- Attributes of an Announce in the order the default algorithm compares them. -/
def announceRank (a : AnnounceSet) : List Nat :=
  [a.priority1.toNat, a.clockClass.toNat, a.accuracy.toNat, a.variance.toNat, a.priority2.toNat, a.identity.toNat]

/-- Whether one list of numbers comes before another of its length. -/
def listBefore : List Nat → List Nat → Bool
  | x :: xs, y :: ys => x < y || (x = y && listBefore xs ys)
  | _, _ => false

/-- The default algorithm's order: the attributes of two grandmasters, or of one grandmaster the steps to it and the sender. -/
def ranksHigher (a b : AnnounceSet) : Bool :=
  if a.identity = b.identity then
    listBefore [a.stepsRemoved.toNat, a.sender.toNat] [b.stepsRemoved.toNat, b.sender.toNat]
  else listBefore (announceRank a) (announceRank b)

/-- The highest of the masters heard. -/
def bestOf : List AnnounceSet → Option AnnounceSet
  | [] => none
  | a :: rest =>
    match bestOf rest with
    | some b => if ranksHigher b a then some b else some a
    | none => some a

/-- The port the servo follows (R412); of two equal masters, port 0's. -/
def State.servoPort (s : State) : Nat :=
  match s.get TIM_CTL_SERVO_SEL with
  | 0 => 0
  | 1 => 1
  | _ =>
    match (s.tport 0).best, (s.tport 1).best with
    | some a, some b => if ranksHigher b a then 1 else 0
    | none, some _ => 1
    | _, _ => 0

/-- Whether port p runs an ordinary clock under MODE (R412). -/
def State.clockPort (s : State) (p : Nat) : Bool :=
  match s.get TIM_CTL_MODE with
  | 0 => false
  | 2 => true
  | _ => 2 ≤ s.get TIM_CTL_SERVO_SEL || s.get TIM_CTL_SERVO_SEL = p

/-- Whether an ordinary clock listens on port p. -/
def State.listens (s : State) (p : Nat) : Bool := s.clockPort p && s.portUp p

/-- Whether a port takes a PTP message: one of its VLAN, its transport (3 acts as 0) and the chip's domain (R409, R411, R432). -/
def State.hears (s : State) (p : Nat) (h : PtpHead) : Bool :=
  s.runs 11 && s.portUp p && s.vlanOk p h.vlan && h.transport.val = s.get (TIM_P_CFG_TRANSPORT p) % 3
    && h.domain.toNat = s.timDomain

/-- Whether a message comes from the best master of a port. -/
def State.fromBest (s : State) (p : Nat) (h : PtpHead) : Bool :=
  (s.tport p).best.map (fun (a : AnnounceSet) => a.sender) = some h.sender

/-- PORT_STATE of a port (R431), vector 237 where it changes. With `fresh` the port has a new master or none. -/
def State.showPort (s : State) (p : Nat) (fresh : Bool) : State :=
  let old := s.get (TIM_P_STAT_PORT_STATE p)
  let new :=
    if !s.clockPort p || !s.flag (TIM_P_CFG_EN p) then 3
    else if !s.flag (TIM_P_STAT_LINK p) then 2
    else if (s.tport p).best.isNone then 4
    else if old = 9 && !fresh then 9 else 8
  let s := s.putFlag (TIM_P_STAT_GM_VALID p) (s.tport p).best.isSome
  if old = new then s else (s.put (TIM_P_STAT_PORT_STATE p) new).raise 237

/-- Show PATH_CHANGE and SERVO_PORT in TIM_STAT. -/
def State.syncTimStat (s : State) : State :=
  let s := s.putFlag TIM_STAT_PATH_CHANGE (s.flag (TIM_P_STAT_PATH_CHANGE 0) || s.flag (TIM_P_STAT_PATH_CHANGE 1))
  s.put TIM_STAT_SERVO_PORT s.servoPort

/-! ## The servo (R417, R418) -/

/-- FREQ changes: the clock runs at the new rate from this cycle on (R415). -/
def State.setFreq (s : State) (f : Int) : State :=
  let s := { s with tim := { s.tim with freq := f, history := (s.cycle, s.tim.clock, f) :: s.tim.history } }
  s.put TIM_FREQ_FREQ (unsigned 32 (roundDiv f 64))

/-- Mean of the latest FREQ values, which a holdover or hold keeps. -/
def State.meanFreq (s : State) : Int :=
  if s.tim.freqs.isEmpty then s.tim.freq else roundDiv s.tim.freqs.sum s.tim.freqs.length

/-- The servo changes its state (R418), with vector 236. -/
def State.setServo (s : State) (st : Nat) : State :=
  let old := s.get TIM_STAT_SERVO
  if old = st then s
  else
    let s := if 3 ≤ st && old < 3 then s.setFreq s.meanFreq else s
    let s := { s with tim := { s.tim with good := 0 } }
    (s.put TIM_STAT_SERVO st).raise 236

/-- The servo state that masters, links and flags call for (R418). -/
def State.syncServo (s : State) : State :=
  let s := s.syncTimStat
  let st := s.get TIM_STAT_SERVO
  let p := s.servoPort
  if st = 0 then s
  else if (s.tport p).best.isNone || !s.flag (TIM_P_STAT_LINK p) then s.setServo 3
  else if s.flag TIM_STAT_TIME_JUMP || s.flag (TIM_P_STAT_PATH_CHANGE p) || s.flag TIM_STAT_ASYMMETRY_SUSPECT then s.setServo 4
  else if 3 ≤ st then s.setServo 1
  else s

/-- A sample of c (2^-16 ns) goes to the servo at a Sync interval of 2^k s (R417; FREQ is the sum of the two terms). -/
def State.servoSample (s : State) (c : Int) (k : Int) : State :=
  let scale : Int := c * 2 ^ (4 - k).toNat
  let lim : Int := 500 * 65536000
  let part := clampInt (-s.slew) s.slew (roundDiv (s.get TIM_SERVO_KP * scale) 1048576)
  let sum := s.tim.integral + roundDiv (s.get TIM_SERVO_KI * scale) 1048576
  let sum := clampInt (-lim) lim (clampInt (-lim - part) (lim - part) sum)
  let f := clampInt (-lim) lim (part + sum)
  let good := if c.natAbs ≤ s.lockLimit then s.tim.good + 1 else 0
  let s := { s with tim := { s.tim with integral := sum, good := good, freqs := (f :: s.tim.freqs).take 16 } }
  let s := s.setFreq f
  if s.get TIM_STAT_SERVO = 1 && 16 ≤ good then s.setServo 2
  else if s.get TIM_STAT_SERVO = 2 && 4 * s.lockLimit < c.natAbs then s.setServo 1
  else s

/-! ## Steps (R419 to R423) -/

/-- Settle the pending commands of an opcode OK with NO_CHANGE (R100). -/
def State.resolveSame (s : State) (op : Nat) : State :=
  { s with cmd := { s.cmd with table := s.cmd.table.map fun (c : PendingCmd) =>
      if c.opcode.toNat = op && c.result.isNone then { c with result := some (Status.ok, 0), noChange := true } else c } }

/-- The clock steps by c (2^-16 ns) and a new epoch begins; the servo enters ACQUIRING. Stamps of the old epoch serve no later
measurement (log entry 148, DESIGN CHOICE). -/
def State.stepClock (s : State) (c : Int) : State :=
  let clock := (s.tim.clock + c * 800000000).toNat
  let e := s.tim.epoch + 1
  let s := { s with tim := { s.tim with
    clock := clock, epoch := e, history := [(s.cycle, clock, s.tim.freq)], since := s.cycle, integral := 0,
    ports := s.tim.ports.map fun (q : TimPort) => { q with last := none, sync := none, request := none, dwells := [] } } }
  let s := ((s.put TIM_EPOCH_EPOCH e.toNat).incWrap TIM_STAT_STEPS).putFlag TIM_STAT_STEP_WAIT false
  s.setServo 1

/-- Whether a step of c has to wait (R422). -/
def State.stepWaits (s : State) (c : Int) : Bool := c < 0 && s.enabled.any fun ch => 7 ≤ s.chMode ch && s.chMode ch ≤ 9

/-- The step that TIME_ACCEPT_JUMP accepted is made (R421). -/
def State.acceptedStep (s : State) (c : Int) : State :=
  let s := (s.putFlag TIM_STAT_ACCEPT_PENDING false).putFlag TIM_STAT_TIME_JUMP false
  ((s.stepClock c).raise 233).resolve 0x0701 .ok 0

/-- TIME_JUMP clears at a sample within JUMP_NS and the sample is accepted (R420). -/
def State.endJump (s : State) : State := (s.putFlag TIM_STAT_TIME_JUMP false).syncServo

/-- A sample of the servo port, as R426 takes it. -/
def State.judgeSample (s : State) (c : Int) (k : Int) : State :=
  let p := s.servoPort
  let near := decide (c.natAbs ≤ s.jumpLimit)
  if s.flag (TIM_P_STAT_PATH_CHANGE p) then s
  else if s.flag TIM_STAT_ASYMMETRY_SUSPECT then s
  else if s.flag TIM_STAT_ACCEPT_PENDING then
    if !s.stepWaits c then s.acceptedStep c
    else if s.flag TIM_STAT_TIME_JUMP && near then
      let s := (s.putFlag TIM_STAT_ACCEPT_PENDING false).putFlag TIM_STAT_STEP_WAIT false
      (s.endJump.resolveSame 0x0701).servoSample c k
    else s.putFlag TIM_STAT_STEP_WAIT true
  else if s.get TIM_STAT_SERVO = 0 then
    if s.stepWaits c then s.putFlag TIM_STAT_STEP_WAIT true else s.stepClock c
  else if !near then
    if s.flag TIM_STAT_TIME_JUMP then s else ((s.putFlag TIM_STAT_TIME_JUMP true).raise 232).syncServo
  else
    let s := if s.flag TIM_STAT_TIME_JUMP then s.endJump else s
    s.servoSample c k

/-! ## The cross-port check (R425) -/

/-- Whether the ports are compared: MODE 2, one grandmaster, and an accepted delay on both. -/
def State.crossPorts (s : State) : Bool :=
  s.get TIM_CTL_MODE = 2 && (s.tport 0).path && (s.tport 1).path &&
    match (s.tport 0).best, (s.tport 1).best with
    | some a, some b => a.identity = b.identity
    | _, _ => false

/-- Pair a sample of the servo port with the other port's latest, if that is at most 1 s old. -/
def State.pairSample (s : State) (c : Int) : State :=
  match (s.tport (1 - s.servoPort)).last with
  | some (d, at_) =>
    if !s.crossPorts || at_ + 800000000 < s.cycle then s
    else
      let diff := (c - d).natAbs
      let pairs := (diff :: s.tim.pairs).take 16
      let good := if diff ≤ s.asymLimit then s.tim.goodPairs + 1 else 0
      let s := { s with tim := { s.tim with pairs := pairs, goodPairs := good } }
      if s.flag TIM_STAT_ASYMMETRY_SUSPECT then
        if 64 ≤ good then (s.putFlag TIM_STAT_ASYMMETRY_SUSPECT false).syncServo else s
      else if pairs.length = 16 && decide (16 * s.asymLimit < pairs.sum) then
        let s := { s with tim := { s.tim with goodPairs := 0 } }
        ((s.putFlag TIM_STAT_ASYMMETRY_SUSPECT true).raise 235).syncServo
      else s
  | none => s

/-! ## Samples and delays (R413, R414, R424) -/

/-- A saturating two's complement word. -/
def satWord (x : Int) : Nat := unsigned 32 (clampInt (-2147483648) 2147483647 x)

/-- Stamp resolution in 2^-16 ns: 0.2 ns or 0.8 ns (R413), rounded down. -/
def State.stampStep (s : State) (p : Nat) : Nat := if s.get (TIM_P_CFG_SPEED p) = 1 then 52428 else 13107

/-- The clock in 2^-16 ns. -/
def State.clockNs (s : State) : Int := s.tim.clock * 5 / 4000000000

/-- The stamp of an event message received in this cycle (R413): what the resolution leaves open is free (log entry 1, DESIGN
CHOICE). -/
def State.rxStamp (s : State) (p : Nat) : Int × State :=
  (s.clockNs - s.get (TIM_P_LAT_RX_LAT p) * 4096 - (s.draw.1.toNat % s.stampStep p : Nat), s.draw.2)

/-- The stamp of an event message sent in this cycle (R413). -/
def State.txStamp (s : State) (p : Nat) : Int × State :=
  (s.clockNs + s.get (TIM_P_LAT_TX_LAT p) * 4096 - (s.draw.1.toNat % s.stampStep p : Nat), s.draw.2)

/-- SYNC_SAMPLE (R413, R414, R417 to R426). -/
def State.syncSample (s : State) (p : Nat) (h : PtpHead) (sent k : Int) : State :=
  if !s.hears p h || !s.clockPort p || !s.fromBest p h || k < -7 || 4 < k then s
  else
    let s := s.incWrap (TIM_P_STAT_SYNC_RX p)
    let rx := (s.rxStamp p).1
    let s := (s.rxStamp p).2.updTport p fun q => { q with sync := some (sent, rx) }
    if !(s.tport p).path then s
    else
      let c := sent + s.getInt (TIM_P_MPD_DELAY p) * 4096 + s.getInt (TIM_P_ASYM_DELAY_ASYM p) * 4096 - rx
      let ns := satWord (roundDiv c 65536)
      let s := s.put (TIM_P_OFFSET_NS p) ns
      let s := s.updTport p fun q => { q with last := some (c, s.cycle) }
      let s := if s.get (TIM_P_STAT_PORT_STATE p) = 9 then s else (s.put (TIM_P_STAT_PORT_STATE p) 9).raise 237
      if p ≠ s.servoPort then s
      else ((s.put TIM_OFFSET_NS ns).pairSample c).judgeSample c k

/-- End a port's candidate series. -/
def State.endSeries (s : State) (p : Nat) : State :=
  ((s.updTport p fun q => { q with series := [] }).putFlag (TIM_P_STAT_PATH_CHANGE p) false).syncServo

/-- A new meanPathDelay in 1/16 ns (R424). A delay within PATH_NS leaves the accepted value as it is. -/
def State.newDelay (s : State) (p : Nat) (d : Int) : State :=
  let t := s.tport p
  let accept (s : State) (d : Int) : State := s.put (TIM_P_MPD_DELAY p) (satWord d)
  if !t.path then (accept (s.updTport p fun q => { q with path := true }) d).endSeries p
  else if (d - s.getInt (TIM_P_MPD_DELAY p)).natAbs ≤ s.pathLimit then s.endSeries p
  else
    let n := t.series.length
    let joins := n ≠ 0 && (d * n - t.series.sum).natAbs ≤ s.pathLimit * n
    let series := if joins then t.series ++ [d] else [d]
    let s := s.updTport p fun q => { q with series := series }
    let s := if s.flag (TIM_P_STAT_PATH_CHANGE p) then s
      else ((s.putFlag (TIM_P_STAT_PATH_CHANGE p) true).raise 234).syncServo
    if s.pathCount ≤ series.length then (accept s (roundDiv series.sum series.length)).endSeries p else s

/-- Cycles in 2^k s. -/
def secondsLog (k : Int) : Nat := if 0 ≤ k then 800000000 * 2 ^ k.toNat else 800000000 / 2 ^ (-k).toNat

/-- DELAY_RESP (R411, R413, R414, R424): the answer to the latest request. Twice the meanPathDelay is, peer to peer, the round
trip less the peer's turnaround; else the two ways of the latest Sync and the request together. -/
def State.delayResp (s : State) (p : Nat) (h : PtpHead) (remote k : Int) : State :=
  let t := s.tport p
  if !s.hears p h then s
  else match t.request with
    | none => s
    | some (seq, tx) =>
      if seq ≠ h.seq then s
      else if s.flag (TIM_P_CFG_P2P p) then
        let rx := (s.rxStamp p).1
        let s := (s.rxStamp p).2.updTport p fun q => { q with request := none }
        s.newDelay p (roundDiv (rx - tx - remote) 8192)
      else match t.sync with
        | some (t1, t2) =>
          if !s.clockPort p || !s.fromBest p h then s
          else
            let s := s.updTport p fun q => { q with request := none, period := secondsLog k }
            s.newDelay p (roundDiv (t2 - tx + remote - t1) 8192)
        | none => s

/-! ## Masters and links -/

/-- Set a port's masters and select the best (R411): a new identity raises vector 238, and a new sender has no accepted delay yet. -/
def State.setMasters (s : State) (p : Nat) (l : List AnnounceSet) : State :=
  let old := (s.tport p).best
  let new := bestOf l
  let fresh := decide (new.map (fun (a : AnnounceSet) => a.sender) ≠ old.map fun (a : AnnounceSet) => a.sender)
  let s := s.updTport p fun q => { q with masters := l, best := new }
  let s := match new with
    | some a =>
      if s.getPair (TIM_P_GM_LO p) (TIM_P_GM_HI p) = a.identity.toNat then s
      else (s.setPair (TIM_P_GM_LO p) (TIM_P_GM_HI p) a.identity.toNat).raise 238
    | none => s
  let s := if fresh then
      (s.updTport p fun q => { q with path := false, series := [], last := none, sync := none, request := none }).putFlag (TIM_P_STAT_PATH_CHANGE p) false
    else s
  (s.showPort p fresh).syncServo

/-- ANNOUNCE (R411, R412). -/
def State.announced (s : State) (p : Nat) (h : PtpHead) (a : AnnounceSet) (k : Int) : State :=
  if !s.hears p h || !s.clockPort p then s
  else
    let a := { a with sender := h.sender }
    let s := s.updTport p fun q =>
      { q with heard := (a.sender, s.cycle, secondsLog k) :: q.heard.filter fun x => x.1 ≠ a.sender }
    s.setMasters p ((s.tport p).masters.filter (fun (b : AnnounceSet) => b.sender ≠ a.sender) ++ [a])

/-- The cycle in which a sender's Announce receipt times out, after three of its intervals (R411). -/
def TimPort.deadline (q : TimPort) (sender : BitVec 80) : Nat :=
  ((q.heard.find? fun x => x.1 = sender).map fun x => x.2.1 + 3 * x.2.2).getD 0

/-- ANNOUNCE_TIMEOUT (R411, R418): it stands three intervals after the best master's latest Announce; every master whose time has
passed is gone, and the best of the others takes its place. -/
def State.announceLost (s : State) (p : Nat) : State :=
  match (s.tport p).best with
  | some a =>
    if !s.runs 11 then s
    else
      let s := s.tickTo ((s.tport p).deadline a.sender)
      s.setMasters p ((s.tport p).masters.filter fun (b : AnnounceSet) =>
        decide (b.sender ≠ a.sender) && decide (s.cycle < (s.tport p).deadline b.sender))
  | none => s

/-- ETH_LINK_CHANGE (R409, R418, R431). -/
def State.linkChange (s : State) (p : Nat) (up : Bool) : State :=
  if !s.runs 11 || s.flag (TIM_P_STAT_LINK p) = up then s
  else
    let code := s.get (TIM_P_STAT_PORT_STATE p)
    let s := s.putFlag (TIM_P_STAT_LINK p) up
    let s := (s.updTport p fun q =>
      { q with path := false, series := [], sync := none, request := none, dwells := [] }).putFlag (TIM_P_STAT_PATH_CHANGE p) false
    let s := s.setMasters p []
    if s.get (TIM_P_STAT_PORT_STATE p) = code then s.raise 237 else s

/-- A write of TIM registers has been made: ports that no longer listen lose their masters, and a restart of the port state
machines loses every master (R429). -/
def State.portsChanged (s : State) (restart : Bool) : State :=
  (List.range 2).foldl (fun s p =>
    if restart || !s.listens p then s.setMasters p [] else s.showPort p false) s |>.syncServo

/-- What a change of restarts the port state machines (R429): MODE, DOMAIN, SPEED and TRANSPORT. -/
def State.portKey (s : State) : List Nat :=
  [s.get TIM_CTL_MODE, s.timDomain, s.get (TIM_P_CFG_SPEED 0), s.get (TIM_P_CFG_SPEED 1), s.get (TIM_P_CFG_TRANSPORT 0),
    s.get (TIM_P_CFG_TRANSPORT 1)]

/-! ## Messages answered and forwarded (R410, R411, R427) -/

/-- Whether a port runs the peer-delay mechanism: as an ordinary clock, or beside the transparent clock. -/
def State.peerPort (s : State) (p : Nat) : Bool := s.flag (TIM_P_CFG_P2P p) && (s.clockPort p || s.get TIM_CTL_MODE = 3)

/-- PDELAY_REQ (R411): answered one-step in the peer-to-peer profile, the time between the request and the answer added to its
correctionField. -/
def State.pdelayReq (s : State) (p : Nat) (h : PtpHead) (correction : Int) (dt : Nat) : State :=
  if s.hears p h && s.peerPort p then
    let a := s.rxStamp p
    let b := (a.2.tick dt).txStamp p
    b.2.emit (.ethernet p (s.vlanTag p) 1
      [h.transport.val, h.domain.toNat, h.seq.toNat, h.sender.toNat, unsigned 64 (correction + b.1 - a.1)])
  else s

/-- A request leaves a port with the next sequenceId, and its stamp is kept. -/
def State.sendRequest (s : State) (p kind : Nat) : State :=
  let seq := (s.tport p).nextSeq
  let a := s.txStamp p
  let s := a.2.updTport p fun q => { q with request := some (seq, a.1), nextSeq := seq + 1 }
  s.emit (.ethernet p (s.vlanTag p) kind [s.get (TIM_P_CFG_TRANSPORT p) % 3, s.timDomain, seq.toNat])

/-- DELAY_REQ_SEND (R411): Delay_Req to a master, or Pdelay_Req to the peer, one announced interval after the request before. -/
def State.delayReqSend (s : State) (p : Nat) : State :=
  if !s.runs 11 || !s.portUp p then s
  else if s.peerPort p then (s.every (.asked p) (s.tport p).period).sendRequest p 3
  else if !s.flag (TIM_P_CFG_P2P p) && s.clockPort p && (s.tport p).best.isSome then
    (s.every (.asked p) (s.tport p).period).sendRequest p 2
  else s

/-- Whether a message is of the peer-delay mechanism, and whether it is an event message. -/
def kindPeer : PtpKind → Bool
  | .event b => b
  | .general b => b
  | _ => false

def kindEvent : PtpKind → Bool
  | .sync _ => true
  | .event _ => true
  | _ => false

/-- The residence time of a message between two stamps (R427), in the chip's domain corrected by FREQ while the servo is LOCKED. -/
def State.residence (s : State) (h : PtpHead) (t : Int) : Int :=
  if h.domain.toNat = s.timDomain && s.get TIM_STAT_SERVO = 2 then
    roundDiv (t * (65536000000000 - s.tim.freq)) 65536000000000
  else t

/-- Keep the residence time of a two-step Sync for its Follow_Up; take it when that comes. -/
def State.keepDwell (s : State) (p : Nat) (h : PtpHead) (t : Int) : State :=
  s.updTport p fun q => { q with dwells := (h, t) :: q.dwells.filter fun x => x.1 ≠ h }

/-- What a forwarded message adds to its correctionField (R427): an event message its own residence time, a Follow_Up that of its
Sync; a two-step Sync leaves it to its Follow_Up (log entry 148, DEDUCED). -/
def State.dwellOf (s : State) (p : Nat) (h : PtpHead) (kind : PtpKind) (t : Int) : Int × State :=
  match kind with
  | .sync false => (t, s)
  | .sync true => (0, s.keepDwell p h t)
  | .event _ => (t, s)
  | .followUp =>
    ((((s.tport p).dwells.find? fun x => x.1 = h).map fun x => x.2).getD 0,
      s.updTport p fun q => { q with dwells := q.dwells.filter fun x => x.1 ≠ h })
  | .general _ => (0, s)

/-- Whether a forwarded message also carries the ingress port's meanPathDelay: a Sync or its Follow_Up, whichever carries the
residence time. -/
def kindPath : PtpKind → Bool
  | .sync twoStep => !twoStep
  | .followUp => true
  | _ => false

/-- PTP_FORWARD (R427): the message leaves the other port within 10 µs, its correctionField advanced. -/
def State.forward (s : State) (p : Nat) (h : PtpHead) (kind : PtpKind) (correction : Int) (dt : Nat) : State :=
  let q := 1 - p
  let p2p := s.flag (TIM_P_CFG_P2P p)
  if !s.runs 11 || s.get TIM_CTL_MODE ≠ 3 || !s.portUp p || !s.portUp q || !s.vlanOk p h.vlan || (kindPeer kind && p2p) then s
  else
    let a := s.rxStamp p
    let b := (a.2.tick (min dt 8000)).txStamp q
    let t := s.residence h (b.1 - a.1)
    let r := b.2.dwellOf p h kind t
    let mpd := if kindPath kind && p2p then s.getInt (TIM_P_MPD_DELAY p) * 4096 else 0
    let s := r.2.incWrap (TIM_P_RES_FWD q)
    let s := if kindEvent kind then
        s.put (TIM_P_RES_RES_MAX q) (max (s.get (TIM_P_RES_RES_MAX q)) (min 65535 (t / 65536).toNat))
      else s
    s.emit (.ethernet q (s.vlanTag q) 0
      [h.transport.val, h.domain.toNat, h.seq.toNat, h.sender.toNat, unsigned 64 (correction + r.1 + mpd)])

/-- A port's MAC address. -/
def State.mac (s : State) (p : Nat) : Nat := s.getPair (TIM_P_MAC_LO p) (TIM_P_MAC_HI p)

/-- A port's IPv6 link-local address, from its MAC address (R410). -/
def State.linkLocal (s : State) (p : Nat) : Nat :=
  let top := s.mac p / 2 ^ 24
  let top := if top / 2 ^ 17 % 2 = 1 then top - 2 ^ 17 else top + 2 ^ 17
  0xFE80 * 2 ^ 112 + top * 2 ^ 40 + 0xFFFE * 2 ^ 24 + s.mac p % 2 ^ 24

/-- An address query on a port is answered to its asker where it asks for the port's address (R410). -/
def State.addressQuery (s : State) (p : Nat) (vlan : Option (BitVec 12)) (sender : BitVec 48) (mine asked kind : Nat) : State :=
  if s.runs 11 && s.portUp p && s.vlanOk p vlan && decide (asked = mine) then
    s.emit (.ethernet p (s.vlanTag p) kind [sender.toNat, asked, s.mac p])
  else s

/-! ## Conversion (R428) -/

/-- The clock at a cycle since the latest step or start, at the rate then or now in force. -/
def clockAt (h : List (Nat × Nat × Int)) (y : Nat) : Nat :=
  match h.find? (fun e => e.1 ≤ y) with
  | some (c, k, f) => k + (y - c) * (65536000000000 + f).toNat
  | none => 0

/-- Write a time-stamp's words, with VALID, to four registers from `base`. -/
def State.putStamp (s : State) (base : Nat) (t : Stamp) (valid : Bool) : State :=
  let w0 := BitVec.ofNat 32 (t.subns.toNat * 65536 + t.epoch.toNat)
  let w3 := BitVec.ofNat 32 (bit valid * 2 ^ 31 + t.sec.toNat / 2 ^ 32)
  (((s.setReg base w0).setReg (base + 4) t.ns).setReg (base + 8) (t.sec.setWidth 32)).setReg (base + 12) w3

/-- The write of TIM_CONV_HI starts a conversion; without VALID the other fields are free (log entry 1, DESIGN CHOICE). -/
def State.convert (s : State) : State :=
  let y := s.getPair TIM_CONV_LO TIM_CONV_HI
  if s.tim.since ≤ y && s.cycle ≤ y + 2 ^ 30 && y ≤ s.cycle + 2 ^ 20 then
    s.putStamp TIM_CONV_0 (stampOf (clockAt s.tim.history y) s.tim.epoch) true
  else
    let a := s.draw
    let b := a.2.draw
    b.2.putStamp TIM_CONV_0 ⟨a.1.setWidth 16, (a.1 >>> 16).setWidth 16, (a.1 >>> 32).setWidth 32, b.1.setWidth 48⟩ false

/-! ## The commands -/

/-- SYNC_SAMPLE. -/
def execSyncSample (port : Fin 2) (head : PtpHead) (sent k : Int) (dt : Nat) (s : State) : Host.Outcome State Fault Refusal :=
  s.done ((s.tick dt).syncSample port.val head sent k)

/-- DELAY_RESP. -/
def execDelayResp (port : Fin 2) (head : PtpHead) (remote k : Int) (dt : Nat) (s : State) : Host.Outcome State Fault Refusal :=
  s.done ((s.tick dt).delayResp port.val head remote k)

/-- ANNOUNCE. -/
def execAnnounce (port : Fin 2) (head : PtpHead) (set : AnnounceSet) (k : Int) (dt : Nat) (s : State) :
    Host.Outcome State Fault Refusal :=
  s.done ((s.tick dt).announced port.val head set k)

/-- ANNOUNCE_TIMEOUT. -/
def execAnnounceTimeout (port : Fin 2) (s : State) : Host.Outcome State Fault Refusal := s.done (s.announceLost port.val)

/-- PDELAY_REQ. -/
def execPdelayReq (port : Fin 2) (head : PtpHead) (correction : Int) (dt : Nat) (s : State) : Host.Outcome State Fault Refusal :=
  s.done (s.pdelayReq port.val head correction dt)

/-- DELAY_REQ_SEND. -/
def execDelayReqSend (port : Fin 2) (s : State) : Host.Outcome State Fault Refusal := s.done (s.delayReqSend port.val)

/-- PTP_FORWARD. -/
def execPtpForward (port : Fin 2) (head : PtpHead) (kind : PtpKind) (correction : Int) (dt : Nat) (s : State) :
    Host.Outcome State Fault Refusal :=
  s.done (s.forward port.val head kind correction dt)

/-- ETH_LINK_CHANGE. -/
def execEthLinkChange (port : Fin 2) (up : Bool) (s : State) : Host.Outcome State Fault Refusal := s.done (s.linkChange port.val up)

/-- ARP_REQUEST. -/
def execArpRequest (port : Fin 2) (vlan : Option (BitVec 12)) (sender : BitVec 48) (target : BitVec 32) (s : State) :
    Host.Outcome State Fault Refusal :=
  s.done (s.addressQuery port.val vlan sender (s.get (TIM_P_IP4_ADDR port.val)) target.toNat 4)

/-- NEIGHBOUR_SOLICITATION. -/
def execNeighbourSolicitation (port : Fin 2) (vlan : Option (BitVec 12)) (sender : BitVec 48) (target : BitVec 128) (s : State) :
    Host.Outcome State Fault Refusal :=
  s.done (s.addressQuery port.val vlan sender (s.linkLocal port.val) target.toNat 5)

end Sys2Proof.Machine
end

