-- ==== Sys2Proof/Machine/CmdPlant.lean ====
section
/-! DEFINITION. The opcodes of cameras and inspection, power, time, safety and the carrier link: classes 0x05 to 0x09 but for
FIRE_INHIBIT and TIME_CONFIG (R293, R299, R304, R316, R341, R362, R373, R422, R430, R450 to R452). -/

namespace Sys2Proof.Machine

/-! ## Cameras (R299, R304, R316, R341) -/

/-- CAM_DISCOVER: discovery of the named ports begins; with none to work on it is done. CAM in reset discovers nothing. -/
def State.beginDiscovery (s : State) (mask : Nat) : State :=
  if !s.runs 10 then s.resolve 0x0500 .fault 3
  else
    let s := s.discoverPorts (BitVec.ofNat 4 mask)
    if s.cam.discovering = 0 then (s.raise 171).resolve 0x0500 .ok 0 else s

/-- CAM_DISCOVER. -/
def opCamDiscover : Op where
  code := 0x0500
  keeper := true
  legal := classQ
  fits := exactly 4
  params _ p := badAt [(field p 0 1 < 16, 0)]
  later := true
  act := fun p => silent (fun s => s.beginDiscovery (field p.params 0 1)) p

/-- The first bad field of a CAM_SETTINGS. -/
def State.badSettings (s : State) (p : List Byte) : Option Nat :=
  badAt ([
    (field p 0 1 < 16 && s.snsOn (field p 0 1), 0),
    (field p 1 3 = 0, 1),
    (decide (field p 8 2 < 32), 8),
    (decide (field p 10 2 ≤ 4095), 10),
    (decide (field p 20 4 ≤ 16777215), 20),
    (decide (field p 24 1 ≤ 3), 24),
    (field p 25 1 = 0, 25),
    (decide (field p 26 2 ≤ 4095), 26),
    (decide (field p 28 2 ≤ 32), 28),
    (field p 30 2 = 0, 30)]
  ++ (List.range (field p 28 2)).flatMap fun i =>
    [([1, 2, 4].contains (field p (34 + 8 * i) 1), 34 + 8 * i), (field p (35 + 8 * i) 1 = 0, 35 + 8 * i)])

/-- The request of a CAM_SETTINGS. -/
def settingsOf (tag : BitVec 16) (p : List Byte) : SetReq where
  tag := tag
  valid := BitVec.ofNat 16 (field p 8 2)
  black := field p 10 2
  gains := (List.range 4).map fun i => field p (12 + 2 * i) 2
  strobe := field p 20 4
  lut := field p 24 1
  dpc := field p 26 2
  writes := (List.range (field p 28 2)).map fun i => (field p (32 + 8 * i) 2, field p (34 + 8 * i) 1, field p (36 + 8 * i) 4)
  f := 0
  e := 0
  sending := false
  sent := false

/-- CAM_SETTINGS: a sensor holds four requests. -/
def opCamSettings : Op where
  code := 0x0501
  keeper := true
  legal := classT
  fits p := 32 ≤ p.length && p.length = 32 + 8 * field p 28 2
  params := State.badSettings
  refuse s p := fails (4 ≤ (s.sensor (field p 0 1)).reqs.length) .noResource 1
  act := fun p => silent (fun s => s.acceptReq (field p.params 0 1) (field p.params 4 4) (settingsOf p.tag p.params)) p

/-- Records of a page that a reply can carry (R341). -/
def State.defectData (s : State) (p : List Byte) : List Byte :=
  match s.ins.defects.find? fun d => d.page = BitVec.ofNat 32 (field p 0 4) with
  | none => []
  | some d =>
    let got := d.records.take (field p 4 2)
    leBytes 2 got.length ++ leBytes 2 (if d.more then 0xFFFF else d.records.length - got.length) ++ got.flatten

/-- INS_DEFECTS_READ. -/
def opInsDefectsRead : Op where
  code := 0x0502
  keeper := false
  legal := classI
  fits := exactly 8
  params s p := badAt [(s.ins.defects.any fun d => d.page = BitVec.ofNat 32 (field p 0 4), 0)]
  act p s := (s.defectData p.params, s)

/-- INS_CONFIG: one stream definition is staged, and set 16 committed. -/
def State.configStream (s : State) (p : List Byte) : State :=
  if !s.runs 10 then s
  else
    let n := field p 0 1
    let on := field p 1 1 ≠ 0xFF
    let s := s.putFlag (CAM_OS_CFG_EN n) on
    let s := if on then s.put (CAM_OS_CFG_SENSOR n) (field p 1 1) else s
    let s := ((s.put (CAM_OS_CFG_FMT n) (field p 2 1)).put (CAM_OS_CFG_SCALE n) (field p 3 1)).put (CAM_OS_CFG_DECIM n) (field p 12 2)
    let s := (s.put (CAM_OS_CROP_COL_COL_FIRST n) (field p 4 2)).put (CAM_OS_CROP_COL_COLS n) (field p 6 2)
    let s := (s.put (CAM_OS_CROP_LINE_LINE_FIRST n) (field p 8 2)).put (CAM_OS_CROP_LINE_LINES n) (field p 10 2)
    s.commitNow .cam 16

/-- INS_CONFIG. -/
def opInsConfig : Op where
  code := 0x0503
  keeper := true
  legal := classT
  fits := exactly 16
  params _ p := badAt [
    (field p 0 1 ≤ 3, 0),
    (field p 1 1 < 16 || field p 1 1 = 0xFF, 1),
    (field p 2 1 ≤ 2, 2),
    (field p 3 1 ≤ 3, 3),
    (field p 4 2 ≤ 26623, 4),
    (1 ≤ field p 6 2 && field p 6 2 ≤ 8192, 6),
    (1 ≤ field p 10 2 && field p 10 2 ≤ 16384, 10)]
  act := fun p => silent (fun s => s.configStream p.params) p

/-! ## Power (R362, R373) -/

/-- A field in a reply: all ones while its island is in reset (R28). -/
def State.replyField (s : State) (f : Fld) : Nat := if s.runs (islandOf f.addr) then s.get f else 2 ^ f.width - 1

/-- What PWR_STATUS tells of a carrier. -/
def State.carrierPower (s : State) (n : Nat) : List Byte :=
  if s.carrierOn n then
    leBytes 2 (s.get (PWR_C_RAIL_SET_MV n)) ++ leBytes 2 (s.replyField (JGL_C_RAIL_FIRE_MV n))
      ++ leBytes 2 (s.replyField (JGL_C_RAIL_FIRE_CA n)) ++ leBytes 1 (s.replyField (JGL_C_RSTAT_REG_STAT n))
      ++ leBytes 1 (s.get (PWR_C_FC_SLOTS n))
  else List.replicate 8 0

/-- PWR_STATUS. -/
def opPwrStatus : Op where
  code := 0x0600
  keeper := false
  legal := classI
  fits := exactly 0
  act _ s := (s.regBytes PWR_STAT ++ s.regBytes PWR_SUP_USED ++ s.regBytes PWR_TEMP
    ++ (List.range 16).flatMap s.carrierPower, s)

/-- RAIL_SETPOINT: SET_MV is written. -/
def State.setRail (s : State) (n mv : Nat) : State := (s.put (PWR_C_RAIL_SET_MV n) mv).setpointChanged n

/-- RAIL_SETPOINT. -/
def opRailSetpoint : Op where
  code := 0x0601
  keeper := true
  legal := classW
  fits := exactly 4
  params s p := badAt [(s.carrierOn (field p 0 1), 0), (5000 ≤ field p 2 2 && field p 2 2 ≤ 60000, 2)]
  same s p := s.get (PWR_C_RAIL_SET_MV (field p 0 1)) = field p 2 2
  act := fun p => silent (fun s => s.setRail (field p.params 0 1) (field p.params 2 2)) p

/-- SUPPLY_BUDGET. -/
def opSupplyBudget : Op where
  code := 0x0602
  keeper := true
  legal := classW
  fits := exactly 8
  same s p := s.get PWR_SUP_BUDGET_VALUE = field p 0 4 && s.get PWR_SUP_SLEW_VALUE = field p 4 4
  act := fun p => silent (fun s => (s.put PWR_SUP_BUDGET_VALUE (field p.params 0 4)).put PWR_SUP_SLEW_VALUE (field p.params 4 4)) p

/-- WEAR_REPORT. -/
def opWearReport : Op where
  code := 0x0603
  keeper := false
  legal := classI
  fits := exactly 0
  act _ s :=
    let rep := field (s.regBytes PND_MEM_REPAIR) 0 4
    (s.regBytes PWR_WEAR_EQH ++ leBytes 2 (s.get PWR_WEAR_LIFE_LIFE_USED) ++ leBytes 2 (s.get PWR_WEAR_LIFE_RO_SHIFT)
      ++ leBytes 2 (s.get PWR_WEAR_EM_EM_USED) ++ leBytes 2 (s.get PWR_WEAR_SPARE_SRAM_LEFT)
      ++ leBytes 2 (s.get PWR_WEAR_SPARE_SRAM_TOTAL) ++ leBytes 1 (rep / 2 ^ 24) ++ leBytes 1 (rep / 2 ^ 16)
      ++ leBytes 2 rep ++ leBytes 2 (s.get PWR_STAT_WEAR_WARN + 2 * s.get PWR_STAT_MIRROR_ERR), s)

/-! ## Time (R422, R430) -/

/-- The 56 bytes of TIME_STATUS. -/
def State.timeData (s : State) : List Byte :=
  [TIM_STAT, TIM_EPOCH, TIM_OFFSET, TIM_FREQ, TIM_P_STAT 0, TIM_P_STAT 1, TIM_P_MPD 0, TIM_P_MPD 1,
    TIM_P_GM_LO s.servoPort, TIM_P_GM_HI s.servoPort].flatMap s.regBytes ++ s.now.bytes

/-- TIME_STATUS. -/
def opTimeStatus : Op where
  code := 0x0700
  keeper := false
  legal := classI
  fits := exactly 0
  act _ s := (s.timeData, s)

/-- TIME_ACCEPT_JUMP: the step is made at a later sample; with no TIME_JUMP flagged, or one accepted already, nothing changes. -/
def opTimeAcceptJump : Op where
  code := 0x0701
  keeper := true
  legal := classI
  fits := exactly 0
  same s _ := !s.flag TIM_STAT_TIME_JUMP || s.flag TIM_STAT_ACCEPT_PENDING
  later := true
  act := silent fun s => s.putFlag TIM_STAT_ACCEPT_PENDING true

/-! ## Safety (R450 to R452) -/

/-- SAFETY_STATUS. -/
def opSafetyStatus : Op where
  code := 0x0801
  keeper := false
  legal := classI
  fits := exactly 0
  act _ s := ([SAF_STAT, SAF_FAULT, SAF_IN, SAF_LAST, SAF_REACT, SAF_PROOF, SAF_PROOF_HOURS, SYS_SAFE_CAUSE, SYS_MODE].flatMap
    s.regBytes, s)

/-- PROOF_TEST: test 1 waits for the next start test; the others run at once. -/
def State.beginProof (s : State) (t : Nat) : State :=
  if t = 1 then { s with saf := { s.saf with proofArmed := true } }
  else
    (({ s with saf := { s.saf with
      proof := if t = 0xFFFF then [2, 3, 4, 5, 6] else [t], proofAll := decide (t = 0xFFFF), proofSeen := 0 } }).putFlag
      SAF_STAT_TEST_ACTIVE true).mark .proof

/-- PROOF_TEST: one test at a time. -/
def opProofTest : Op where
  code := 0x0802
  keeper := true
  legal := classS
  fits := exactly 4
  params _ p := badAt [((1 ≤ field p 0 2 && field p 0 2 ≤ 6) || field p 0 2 = 0xFFFF, 0)]
  refuse s _ := fails (!s.saf.proof.isEmpty) .noResource 1
  later := true
  arg p := field p 0 2
  act := fun p => silent (fun s => s.beginProof (field p.params 0 2)) p

/-- The first bad field of a safety parameter set. -/
def State.badSafetySet (s : State) (p : List Byte) : Option Nat :=
  let range (off n lo hi : Nat) : Bool × Nat := (lo ≤ field p off n && field p off n ≤ hi, off)
  badAt [
    range 0 4 1 1, range 4 1 1 255, range 5 1 60 150, range 6 2 10 1000, range 8 2 50 500, range 10 2 250 2000,
    range 12 2 500 1750, range 14 2 1 100, range 16 1 0 7, range 17 1 0 7,
    (field p 18 1 ≤ 7 && 2 ≤ (field p 18 1 - field p 17 1) + (field p 17 1 - field p 18 1), 18),
    range 19 1 0 0, range 20 4 24 87600, (field p 24 36 = 0, 24),
    (field p 60 4 = (crc32c (p.take 60)).toNat, 60),
    (Config.verifies s.sys.safetyKey (p.take 64) (p.drop 64), 64)]

/-- SAFETY_PARAM_LOAD: the set goes to flash for the next start (`endFlash` writes it). -/
def opSafetyParamLoad : Op where
  code := 0x0803
  keeper := true
  legal := classS
  fits := exactly 160
  params := State.badSafetySet
  later := true
  arg p := ofLe p
  act := silent id

/-! ## The carrier link (R293) -/

/-- Bits of a carrier mask are of enabled carriers. -/
def State.maskOn (s : State) (mask : BitVec 16) : Bool := (bitList mask).all s.carrierOn

/-- What LINK_STATUS tells of a carrier. -/
def State.linkBytes (s : State) (n : Nat) : List Byte :=
  leBytes 4 n ++ [JGL_C_STAT n, JGL_C_LAT n, JGL_L_STAT (2 * n), JGL_L_STAT (2 * n + 1), JGL_C_RAIL n].flatMap s.regBytes

/-- LINK_STATUS. -/
def opLinkStatus : Op where
  code := 0x0900
  keeper := false
  legal := classI
  fits := exactly 4
  params s p := badAt [(s.maskOn (BitVec.ofNat 16 (field p 0 2)), 0)]
  act p s :=
    let l := bitList (BitVec.ofNat 16 (field p.params 0 2))
    (leBytes 4 l.length ++ l.flatMap s.linkBytes, s)

/-- LANE_RETRAIN: a lane that may not be retrained (R282) ends the command with a fault. -/
def State.laneRetrain (s : State) (l : Nat) : State :=
  if s.runs 9 && s.trainable l && s.mayRetrain l then s.askRetrain l else s.retrainEnds l false

/-- LANE_RETRAIN. -/
def opLaneRetrain : Op where
  code := 0x0901
  keeper := true
  legal := classQ
  fits := exactly 4
  params s p := badAt [(field p 0 1 < 32 && s.carrierOn (field p 0 1 / 2), 0)]
  later := true
  arg p := field p 0 1
  act := fun p => silent (fun s => s.laneRetrain (field p.params 0 1)) p

/-- PRBS_CONTROL on one lane: the lane leaves traffic and its generator and checker are set, or the test ends and it retrains. -/
def State.prbsLane (s : State) (l pattern flags rate : Nat) : State :=
  let w := bit (rate ≠ 0) * 2 ^ 30 + rate * 2 ^ 16
  if pattern = 0 then
    let s := (s.writePrbs l (BitVec.ofNat 32 w)).updLane l fun x => { x with test := false, wanted := true, due := true }
    s.askRetrain l
  else
    let s := (s.laneLeave l).updLane l fun x => { x with test := true }
    s.writePrbs l (BitVec.ofNat 32 (w + (flags / 2 % 2) * 8 + flags % 2 * 4 + pattern))

/-- PRBS_CONTROL: with FAR set a LINK_TEST goes to each carrier first. -/
def State.prbsControl (s : State) (p : List Byte) : State :=
  if !s.runs 9 then s
  else
    let lanes := bitList (BitVec.ofNat 32 (field p 0 4))
    let pattern := field p 4 1
    let far := field p 5 1 / 4 % 2 = 1
    let s := if far then
        (List.range 16).foldl (fun s n =>
          if lanes.any fun l => l / 2 = n then s.sendMsg n 5 [pattern + (if pattern = 0 then 8 else 4), 0] else s) s
      else s
    (lanes.foldl (fun s l => s.prbsLane l pattern (field p 5 1) (field p 6 1)) s).syncLanes

/-- PRBS_CONTROL. -/
def opPrbsControl : Op where
  code := 0x0902
  keeper := true
  legal := classS
  fits := exactly 8
  params s p := badAt [((bitList (BitVec.ofNat 32 (field p 0 4))).all fun l => s.carrierOn (l / 2), 0), (field p 4 1 ≤ 3, 4)]
  act := fun p => silent (fun s => s.prbsControl p.params) p

/-- LINK_ERR_INJECT: on an ACTIVE lane. -/
def opLinkErrInject : Op where
  code := 0x0903
  keeper := true
  legal := classS
  fits := exactly 4
  params s p := badAt [
    (field p 0 1 < 32 && s.carrierOn (field p 0 1 / 2) && s.laneState (field p 0 1) = 5, 0),
    (1 ≤ field p 1 1 && field p 1 1 ≤ 4, 1),
    (1 ≤ field p 2 2, 2)]
  act := fun p => silent (fun s => if s.runs 9 then s.injectErrors (field p.params 0 1) (field p.params 1 1) (field p.params 2 2) else s) p

/-! ## The commands -/

/-- CAM_DISCOVER. -/
def execCamDiscover (p : Packet) (s : State) : Host.Outcome State Fault Refusal := s.done (s.command opCamDiscover p)

/-- CAM_SETTINGS. -/
def execCamSettings (p : Packet) (s : State) : Host.Outcome State Fault Refusal := s.done (s.command opCamSettings p)

/-- INS_DEFECTS_READ. -/
def execInsDefectsRead (p : Packet) (s : State) : Host.Outcome State Fault Refusal := s.done (s.command opInsDefectsRead p)

/-- INS_CONFIG. -/
def execInsConfig (p : Packet) (s : State) : Host.Outcome State Fault Refusal := s.done (s.command opInsConfig p)

/-- PWR_STATUS. -/
def execPwrStatus (p : Packet) (s : State) : Host.Outcome State Fault Refusal := s.done (s.command opPwrStatus p)

/-- RAIL_SETPOINT. -/
def execRailSetpoint (p : Packet) (s : State) : Host.Outcome State Fault Refusal := s.done (s.command opRailSetpoint p)

/-- SUPPLY_BUDGET. -/
def execSupplyBudget (p : Packet) (s : State) : Host.Outcome State Fault Refusal := s.done (s.command opSupplyBudget p)

/-- WEAR_REPORT. -/
def execWearReport (p : Packet) (s : State) : Host.Outcome State Fault Refusal := s.done (s.command opWearReport p)

/-- TIME_STATUS. -/
def execTimeStatus (p : Packet) (s : State) : Host.Outcome State Fault Refusal := s.done (s.command opTimeStatus p)

/-- TIME_ACCEPT_JUMP. -/
def execTimeAcceptJump (p : Packet) (s : State) : Host.Outcome State Fault Refusal := s.done (s.command opTimeAcceptJump p)

/-- SAFETY_STATUS. -/
def execSafetyStatus (p : Packet) (s : State) : Host.Outcome State Fault Refusal := s.done (s.command opSafetyStatus p)

/-- PROOF_TEST. -/
def execProofTest (p : Packet) (s : State) : Host.Outcome State Fault Refusal := s.done (s.command opProofTest p)

/-- SAFETY_PARAM_LOAD. -/
def execSafetyParamLoad (p : Packet) (s : State) : Host.Outcome State Fault Refusal := s.done (s.command opSafetyParamLoad p)

/-- LINK_STATUS. -/
def execLinkStatus (p : Packet) (s : State) : Host.Outcome State Fault Refusal := s.done (s.command opLinkStatus p)

/-- LANE_RETRAIN. -/
def execLaneRetrain (p : Packet) (s : State) : Host.Outcome State Fault Refusal := s.done (s.command opLaneRetrain p)

/-- PRBS_CONTROL. -/
def execPrbsControl (p : Packet) (s : State) : Host.Outcome State Fault Refusal := s.done (s.command opPrbsControl p)

/-- LINK_ERR_INJECT. -/
def execLinkErrInject (p : Packet) (s : State) : Host.Outcome State Fault Refusal := s.done (s.command opLinkErrInject p)

end Sys2Proof.Machine
end

