-- ==== Sys2Proof/Machine/CmdQuality.lean ====
section
/-! DEFINITION. The opcodes of the nozzle table, class 0x03, and of calibration, class 0x04 (R190 to R196, R315, R333, R334, R345,
R348). -/

namespace Sys2Proof.Machine

/-! ## The nozzle table (R105, R191, R196) -/

/-- Number of the first record that CH, DIE, ROW and a column name. -/
def recordAt (p : List Byte) (col : Nat) : Nat := recordIndex (field p 0 1) (field p 1 1) (field p 2 1) col

/-- The checks of CH, DIE and ROW. -/
def placeChecks (p : List Byte) : List (Bool × Nat) :=
  [(field p 0 1 < 8, 0), (field p 1 1 < 52, 1), (field p 2 1 < 6, 2)]

/-- The checks of a run of columns of one row. -/
def runChecks (p : List Byte) : List (Bool × Nat) :=
  placeChecks p ++ [(decide (field p 4 2 < 1056), 4),
    (1 ≤ field p 6 2 && field p 6 2 ≤ 254 && field p 4 2 + field p 6 2 ≤ 1056, 6)]

/-- The bytes of a record. -/
def recBytes (r : Rec) : List Byte := leBytes 16 r.toNat

/-- NOZZLE_READ: active records. -/
def opNozzleRead : Op where
  code := 0x0300
  keeper := false
  legal := classI
  fits := exactly 8
  params _ p := badAt (runChecks p)
  act p s := ((List.range (field p.params 6 2)).flatMap fun i =>
    recBytes (s.nozzle (recordAt p.params (field p.params 4 2 + i))), s)

/-- Commit the set of a channel after a command has staged changes in it (R191). -/
def State.commitNozzles (s : State) (c : Nat) : State := s.commitNow .asm c

/-- NOZZLE_WRITE: one change per record, then the channel's set is committed. ASM in reset takes no write (R28). -/
def State.writeNozzles (s : State) (p : List Byte) : State :=
  if !s.runs 7 then s
  else
    let mask := BitVec.ofNat 12 (field p 8 2)
    let s := (List.range (field p 6 2)).foldl (fun (s : State) i =>
      let w := (List.range 4).map fun k => BitVec.ofNat 32 (field p (12 + 16 * i + 4 * k) 4)
      s.stageChange (recordAt p (field p 4 2 + i)) mask (recOfWords w)) s
    s.commitNozzles (field p 0 1)

/-- NOZZLE_WRITE. -/
def opNozzleWrite : Op where
  code := 0x0301
  keeper := true
  legal := classT
  fits p := 12 ≤ p.length && p.length = 12 + 16 * field p 6 2
  params _ p := badAt (runChecks p)
  refuse s p := fails (s.bufRoom < field p 6 2) .noResource 2
  blocked := State.bufFull
  act := fun p => silent (fun s => s.writeNozzles p.params) p

/-- Record of a NOZZLE_SET_STATE. -/
def stateRecord (p : List Byte) : Nat := recordAt p (field p 4 2)

/-- Whether a nozzle has the state and cause already, and no staged change would alter them (R100). -/
def State.stateHolds (s : State) (p : List Byte) : Bool :=
  let r := s.nozzle (stateRecord p)
  recGet r 0 = field p 6 1 && recGet r 1 = field p 7 1
    && s.asm.changes.all fun x => x.index ≠ stateRecord p || (x.mask &&& 3) = 0

/-- NOZZLE_SET_STATE: a change of STATE and CAUSE, committed. -/
def State.setNozzleState (s : State) (p : List Byte) : State :=
  if !s.runs 7 then s
  else (s.stageChange (stateRecord p) 3 (recPut (recPut 0 0 (field p 6 1)) 1 (field p 7 1))).commitNozzles (field p 0 1)

/-- NOZZLE_SET_STATE: the reserved codes 7 are no state and no cause. -/
def opNozzleSetState : Op where
  code := 0x0302
  keeper := true
  legal := classT
  fits := exactly 8
  params _ p := badAt (placeChecks p ++ [(decide (field p 4 2 < 1056), 4), (decide (field p 6 1 < 7), 6), (decide (field p 7 1 < 7), 7)])
  refuse s p := fails (s.bufRoom = 0 && !s.stateHolds p) .noResource 2
  blocked := State.bufFull
  same := State.stateHolds
  act := fun p => silent (fun s => s.setNozzleState p.params) p

/-- Nozzles of a channel per STATE: those that differ from the default counted in the table, all others GOOD. -/
def State.stateCounts (s : State) (c : Nat) : List Nat :=
  let mine := s.asm.table.filter fun e => e.1 / 329472 = c
  (List.range 8).map fun st =>
    (mine.filter fun e => recGet e.2 0 = st).length + (if st = 0 then 329472 - mine.length else 0)

/-- NOZZLE_SUMMARY. -/
def opNozzleSummary : Op where
  code := 0x0303
  keeper := false
  legal := classI
  fits := exactly 4
  params _ p := badAt [(field p 0 1 < 8, 0)]
  act p s := ((s.stateCounts (field p.params 0 1)).flatMap fun n => leBytes 4 n, s)

/-! ## Calibration runs and tables (R315, R333, R334) -/

/-- KIND without RETEST. -/
def kindOf (p : List Byte) : Nat := field p 0 2 % 0x8000

/-- CAL_START. -/
def opCalStart : Op where
  code := 0x0400
  keeper := true
  legal := classC
  fits := exactly 4
  params _ p := badAt [(1 ≤ kindOf p && kindOf p ≤ 6, 0)]
  changes := true
  later := true
  arg p := field p 0 2
  act := fun p => silent (fun s =>
    s.startCal (kindOf p.params) (0x8000 ≤ field p.params 0 2) (BitVec.ofNat 8 (field p.params 2 1))) p

/-- CAL_ABORT: the run ends after its current test page, and the visit with it. -/
def opCalAbort : Op where
  code := 0x0401
  keeper := true
  legal := classB
  fits := exactly 0
  later := true
  act := silent fun s => { s with cal := { s.cal with
    run := s.cal.run.map fun (r : CalRun) => { r with aborting := true }, queue := [] } }

/-- Whether bytes lie in a CAL table; its last word may reach past an end that is no multiple of 4. -/
def inTable (id off len : Nat) : Bool := ((calTableSize id).map fun n => decide (off + len ≤ (n + 3) / 4 * 4)).getD false

/-- CAL_TABLE_WRITE: staged until the table's boundary. -/
def opCalTableWrite : Op where
  code := 0x0402
  keeper := true
  legal := classT
  fits p := 8 ≤ p.length
  params _ p := badAt [((calTableSize (field p 0 2)).isSome, 0), (inTable (field p 0 2) (field p 4 4) (p.length - 8), 4)]
  act := fun p => silent (fun s => s.stageTable (field p.params 0 2) (field p.params 4 4) (p.params.drop 8)) p

/-- CAL_TABLE_READ: active bytes. -/
def opCalTableRead : Op where
  code := 0x0403
  keeper := false
  legal := classI
  fits := exactly 12
  params _ p := badAt [
    ((calTableSize (field p 0 2)).isSome, 0),
    (inTable (field p 0 2) (field p 4 4) 0, 4),
    (inTable (field p 0 2) (field p 4 4) (field p 8 4) && field p 8 4 ≤ 4072, 8)]
  act p s := (((s.calTable (field p.params 0 2)).drop (field p.params 4 4)).take (field p.params 8 4), s)

/-! ## References and temper policy (R345, R348) -/

/-- C_L of R345 for a measured distance, with 32 fractional bits, rounded half up. -/
def newCpl (cl m um : Nat) : Nat := (2 * cl * m * 25400 + 1200 * um) / (2 * 1200 * um)

/-- K of a C_L in counts per metre, rounded down as in the example of R345 (log entry 28, DEDUCED). -/
def kOf (cl : Nat) : Nat := cl * 12000000 / (254 * 2 ^ 32)

/-- C_L as written in FIR_CPL. -/
def State.cplWritten (s : State) : Nat := (s.reg FIR_CPL_LO).toNat + s.get FIR_CPL_HI_INT * 2 ^ 32

/-- Whether a DIMENSION measurement lies within 1 %. -/
def State.dimensionFits (s : State) (um : Nat) : Bool :=
  let d := s.dimLines * 25400 * 100
  um ≠ 0 && 99 * 1200 * um ≤ d && d ≤ 101 * 1200 * um

/-- The first bad field of a CAL_REFERENCE_SET. -/
def State.badReference (s : State) (p : List Byte) : Option Nat :=
  let a := field p 4 4
  match field p 0 1 with
  | 1 => badAt [(2450000 ≤ a && a ≤ 2550000, 4)]
  | 2 => badAt [(field p 8 4 < a && a < 2 ^ 16, 4)]
  | 3 => badAt [(s.flag CAL_DIM_PENDING, 0), (s.dimensionFits a, 4)]
  | _ => some 0

/-- Enter a reference. -/
def State.setReference (s : State) (p : List Byte) : State :=
  let a := field p 4 4
  match field p 0 1 with
  | 1 => s.setReg CAL_VREF (BitVec.ofNat 32 a)
  | 2 => (s.put CAL_TARGET_WHITE a).put CAL_TARGET_BLACK (field p 8 4)
  | _ =>
    let cl := newCpl s.cplWritten s.dimLines a
    let s := if s.runs 8 then (s.setReg FIR_CPL_LO (BitVec.ofNat 32 cl)).put FIR_CPL_HI_INT (cl / 2 ^ 32) else s
    (s.setReg CAL_K (BitVec.ofNat 32 (kOf cl))).putFlag CAL_DIM_PENDING false

/-- CAL_REFERENCE_SET. -/
def opCalReferenceSet : Op where
  code := 0x0404
  keeper := true
  legal := classW
  fits := exactly 12
  params := State.badReference
  act := fun p => silent (fun s => s.setReference p.params) p

/-- TEMPER_POLICY: written at once. -/
def State.setTemper (s : State) (p : List Byte) : State :=
  let q := field p 0 1
  let s := ((s.put (CAL_TMP_CTL_POLICY q) (field p 1 1)).put (CAL_TMP_CTL_THRESH q) (field p 2 1)).put
    (CAL_TMP_CTL_DEFER_S q) (field p 4 2)
  s.put (CAL_TMP_SRC_REG q) (if q = 1 then field p 6 2 else 0)

/-- TEMPER_POLICY. -/
def opTemperPolicy : Op where
  code := 0x0405
  keeper := true
  legal := classT
  fits := exactly 8
  params _ p := badAt [(field p 0 1 ≤ 3, 0), (field p 1 1 ≤ 2, 1), (1 ≤ field p 2 1, 2)]
  act := fun p => silent (fun s => s.setTemper p.params) p

/-! ## The commands -/

/-- NOZZLE_READ. -/
def execNozzleRead (p : Packet) (s : State) : Host.Outcome State Fault Refusal := s.done (s.command opNozzleRead p)

/-- NOZZLE_WRITE. -/
def execNozzleWrite (p : Packet) (s : State) : Host.Outcome State Fault Refusal := s.done (s.command opNozzleWrite p)

/-- NOZZLE_SET_STATE. -/
def execNozzleSetState (p : Packet) (s : State) : Host.Outcome State Fault Refusal := s.done (s.command opNozzleSetState p)

/-- NOZZLE_SUMMARY. -/
def execNozzleSummary (p : Packet) (s : State) : Host.Outcome State Fault Refusal := s.done (s.command opNozzleSummary p)

/-- CAL_START. -/
def execCalStart (p : Packet) (s : State) : Host.Outcome State Fault Refusal := s.done (s.command opCalStart p)

/-- CAL_ABORT. -/
def execCalAbort (p : Packet) (s : State) : Host.Outcome State Fault Refusal := s.done (s.command opCalAbort p)

/-- CAL_TABLE_WRITE. -/
def execCalTableWrite (p : Packet) (s : State) : Host.Outcome State Fault Refusal := s.done (s.command opCalTableWrite p)

/-- CAL_TABLE_READ. -/
def execCalTableRead (p : Packet) (s : State) : Host.Outcome State Fault Refusal := s.done (s.command opCalTableRead p)

/-- CAL_REFERENCE_SET. -/
def execCalReferenceSet (p : Packet) (s : State) : Host.Outcome State Fault Refusal := s.done (s.command opCalReferenceSet p)

/-- TEMPER_POLICY. -/
def execTemperPolicy (p : Packet) (s : State) : Host.Outcome State Fault Refusal := s.done (s.command opTemperPolicy p)

end Sys2Proof.Machine
end

