-- ==== Sys2Proof/Machine/Dbg.lean ====
section
/-! DEFINITION. The debug port (R465 to R472): the TAP and its scan instructions, the challenge and the unlock, and the halting of
the control cores. -/

namespace Sys2Proof.Machine

/-! ## The TAP (R465, R466) -/

/-- What the data register an instruction selects captures (R465): the IDCODE, a 0 in the bypass register; the boundary cells and
the result of an access are captured elsewhere. -/
def tapCapture : TapInstr → BitVec 64 → BitVec 64
  | .idcode, _ => 0x18480947#64
  | .bypass, _ => 0
  | .clamp, _ => 0
  | .highz, _ => 0
  | .samplePreload, v => v
  | .extest, v => v
  | .dbgAccess, v => v

/-- An instruction is in force. -/
def State.setTap (s : State) (i : TapInstr) (scan : Bool) : State :=
  { s with dbg := { s.dbg with tap := i, scan := scan, capture := tapCapture i s.dbg.capture } }

/-- The TAP leaves EXTEST, CLAMP or HIGHZ in effect: through Test-Logic-Reset, with a warm reset (R466). -/
def State.leaveScan (s : State) : State :=
  if s.dbg.scan then (s.setTap .idcode false).warmReset 2 else s

/-- An instruction that is not one of the three is loaded. -/
def State.loadTap (s : State) (i : TapInstr) : State :=
  s.leaveScan.setTap i false

/-- EXTEST, CLAMP or HIGHZ is loaded: in Boot, Safe and Standby it takes effect; else it acts as BYPASS and SCAN_REFUSED is
set. -/
def State.loadScan (s : State) (i : TapInstr) : State :=
  if s.dbg.scan && s.dbg.tap = i then s
  else
    let s := s.leaveScan
    if s.modeCode = 1 || s.modeCode = 2 || s.modeCode = 3 then (s.setTap i true).emit (.balls (if i = .highz then none else some s.dbg.boundary))
    else
      let s := s.setTap .bypass false
      if s.runs 2 then s.putFlag DBG_STAT_SCAN_REFUSED true else s

/-! ## Levels and unlock (R468 to R470) -/

/-- A change of the debug level, with vector 5 (R459, R469). -/
def State.setLevel (s : State) (level : Nat) : State :=
  let s := s.put DBG_STAT_LEVEL level
  s.raiseData 5 (s.reg DBG_STAT).toNat

/-- A write of DBG_CTL with LOCK: level 0. A debug port that is locked already reports nothing. -/
def State.lockDebug (s : State) : State := if s.get DBG_STAT_LEVEL = 0 then s else s.setLevel 0

/-- A write of DBG_CTL with NEW_CHAL: a fresh random challenge (log entry 1, DESIGN CHOICE); ignored while REFUSING. -/
def State.newChallenge (s : State) : State :=
  if s.flag DBG_STAT_REFUSING then s
  else
    let s := (List.range 4).foldl (fun s i =>
      let (v, s) := s.draw
      (s.setReg (DBG_CHAL (2 * i)) (v.setWidth 32)).setReg (DBG_CHAL (2 * i + 1)) ((v >>> 32).setWidth 32)) s
    (s.putFlag DBG_STAT_CHAL_VALID true).mark .challenge

/-- The message the debugger signs (R469). -/
def State.challengeBytes (s : State) (level keySel : Nat) : List Byte :=
  ((List.range 8).flatMap fun i => leBytes 4 (s.reg (DBG_CHAL i)).toNat) ++ leBytes 8 Config.serial.toNat
    ++ leBytes 1 level ++ leBytes 1 keySel

/-- The response as written (R469, R476). -/
def State.responseBytes (s : State) : List Byte :=
  (List.range 24).flatMap fun i => leBytes 4 (s.dbg.resp.get (fun _ => 0) i).toNat

/-- Digest of the key a submission names. -/
def State.debugKeyDigest (s : State) (keySel : Nat) : List Byte := if keySel = 0 then Config.wilxisKeyDigest else s.sys.debugKey

/-- A failed submission: FAILS counts, and after 8 REFUSING is set. -/
def State.unlockFails (s : State) : State :=
  let s := s.incSat DBG_STAT_FAILS
  if 8 ≤ s.get DBG_STAT_FAILS then s.putFlag DBG_STAT_REFUSING true else s

/-- A write of DBG_CTL with SUBMIT (R469, R470). -/
def State.submit (s : State) (level keySel : Nat) : State :=
  let key := s.debugKeyDigest keySel
  let ok := s.flag DBG_STAT_CHAL_VALID && decide (s.cycle < s.since .challenge + 8000000000) && (level = 1 || level = 2)
    && Config.verifies key (sha384 (s.challengeBytes level keySel)) s.responseBytes
  let s := s.putFlag DBG_STAT_CHAL_VALID false
  if ok then
    let s := s.extend 6 (leBytes 1 level ++ leBytes 1 keySel ++ key)
    State.setLevel { s with sys := { s.sys with debugUnlocked := true } } level
  else s.unlockFails

/-- A write of DBG_CTL; several bits act in the order LOCK, NEW_CHAL, SUBMIT. -/
def State.writeDebugCtl (s : State) (v : Word) : State :=
  let s := if bits v 31 1 = 1 then s.lockDebug else s
  let s := if bits v 30 1 = 1 then s.newChallenge else s
  if bits v 29 1 = 1 then s.submit (bits v 8 2) (bits v 0 1) else s

/-! ## Halting the control cores (R471, R472) -/

/-- HALTED of a pair. -/
def haltedBit (p : Nat) : Fld := ⟨DBG_STAT, 16 + p, 1⟩

/-- Modes in which a pair may be halted. -/
def State.mayHalt (s : State) : Bool := s.modeCode = 2 || s.modeCode = 3 || s.modeCode = 4 || s.modeCode = 10

/-- A pair stops, with its cause, the index of what it hit, and its PC; vector 6 (R459). -/
def State.haltPair (s : State) (p cause index : Nat) (pc : Word) : State :=
  let s := (s.putFlag (haltedBit p) true).setReg (DBG_CORE_PC p) pc
  ((s.put (DBG_CORE_CAUSE_CAUSE p) cause).put (DBG_CORE_CAUSE_INDEX p) index).raiseData 6 (p + cause * 256)

/-- HALT: at the next instruction boundary, whose PC is given. A pair already halted stays as it is. -/
def State.requestHalt (s : State) (p : Nat) (pc : Word) : State :=
  if !s.mayHalt then s.putFlag DBG_STAT_HALT_REFUSED true
  else if s.flag (haltedBit p) then s
  else s.haltPair p 1 0 pc

/-- STEP: one instruction, after which the pair is halted. -/
def State.requestStep (s : State) (p : Nat) (pc : Word) : State :=
  if !s.mayHalt then s.putFlag DBG_STAT_HALT_REFUSED true else s.haltPair p 2 0 pc

/-- RESUME: the pair runs on; a change to Safe that waited for it completes (R471). -/
def State.resumePair (s : State) (p : Nat) : State :=
  if !s.flag (haltedBit p) then s
  else ((s.putFlag (haltedBit p) false).setReg (DBG_CORE_PC p) 0).tryChange

/-- A hit of a breakpoint or watchpoint: the pair halts, or where it may not, MISSED counts. -/
def State.debugHit (s : State) (p cause index : Nat) (pc : Word) : State :=
  if s.get DBG_STAT_LEVEL < 2 || s.flag (haltedBit p) then s
  else if !s.mayHalt then s.incSat DBG_STAT_MISSED
  else s.haltPair p cause index pc

/-- A breakpoint is reached: the pair halts before its instruction. -/
def State.breakpoint (s : State) (p i : Nat) : State :=
  if s.runs 2 && s.flag (DBG_BP_EN p i) then s.debugHit p 3 i (s.reg (DBG_BP p i) &&& 0xFFFFFFFC#32) else s

/-- A byte range is accessed: where it is watched the pair halts after the access. -/
def State.watchpoint (s : State) (p i : Nat) (write : Bool) (addr pc : Word) : State :=
  let first := (s.reg (DBG_WP_ADDR p i)).toNat
  let inside := first ≤ addr.toNat && addr.toNat ≤ first + s.get (DBG_WP_CFG_LEN p i)
  let kind := if write then s.flag (DBG_WP_CFG_WRITE p i) else s.flag (DBG_WP_CFG_READ p i)
  if s.runs 2 && s.flag (DBG_WP_CFG_EN p i) && inside && kind then s.debugHit p 4 i pc else s

/-- A write of a DBG register with an effect of its own, but for the resume of a pair and DBG_MEM; none for any other. The PC of a
halt or step commanded so is open (log entry 1, DESIGN CHOICE). -/
def State.writeDebug (s : State) (off : Nat) (v : Word) : Option State :=
  if off = DBG_CTL then some (s.writeDebugCtl v)
  else if DBG_RESP 0 ≤ off && off ≤ DBG_RESP 23 then
    some { s with dbg := { s.dbg with resp := s.dbg.resp.set (fun _ => 0) ((off - DBG_RESP 0) / 4) v } }
  else
    ([0, 1].find? fun p => off = DBG_CORE_CTL p).map fun p =>
      if bits v 31 1 = 1 then s.draw.2.requestHalt p (s.draw.1.setWidth 32)
      else if bits v 29 1 = 1 then s.draw.2.requestStep p (s.draw.1.setWidth 32)
      else if bits v 30 1 = 1 then s.resumePair p
      else s

/-! ## The commands -/

/-- TAP_RESET. -/
def execTapReset (s : State) : Host.Outcome State Fault Refusal := s.done (s.loadTap .idcode)

/-- BYPASS. -/
def execBypass (s : State) : Host.Outcome State Fault Refusal := s.done (s.loadTap .bypass)

/-- IDCODE: the data register reads 0x1848_0947. -/
def execIdcode (s : State) : Host.Outcome State Fault Refusal := s.done (s.loadTap .idcode)

/-- Levels at balls, which stand outside the block and whose order R466 leaves to the BSDL file (log entry 1, DESIGN CHOICE). -/
def drawLevels : Nat → State → List Bool × State
  | 0, s => ([], s)
  | n + 1, s =>
    let q := drawLevels n s.draw.2
    (s.draw.1.getLsbD 0 :: q.1, q.2)

/-- SAMPLE_PRELOAD: the levels sampled at the balls are shifted out, and the boundary register takes what is shifted in. -/
def execSamplePreload (shifted : List Bool) (s : State) : Host.Outcome State Fault Refusal :=
  s.done (let r := drawLevels shifted.length (s.loadTap .samplePreload)
    State.emit { r.2 with dbg := { r.2.dbg with boundary := shifted } } (.scanOut r.1))

/-- EXTEST. -/
def execExtest (s : State) : Host.Outcome State Fault Refusal := s.done (s.loadScan .extest)

/-- CLAMP. -/
def execClamp (s : State) : Host.Outcome State Fault Refusal := s.done (s.loadScan .clamp)

/-- HIGHZ. -/
def execHighz (s : State) : Host.Outcome State Fault Refusal := s.done (s.loadScan .highz)

/-- DBG_LOCK (R468). -/
def execDbgLock (s : State) : Host.Outcome State Fault Refusal := s.done (s.hostWrite .debug DBG_CTL State.lockDebug)

/-- NEW_CHAL (R469). -/
def execNewChal (s : State) : Host.Outcome State Fault Refusal := s.done (s.hostWrite .debug DBG_CTL State.newChallenge)

/-- SUBMIT (R469, R470). -/
def execSubmit (level : BitVec 2) (keySel : Bool) (s : State) : Host.Outcome State Fault Refusal :=
  s.done (s.hostWrite .debug DBG_CTL fun s => s.submit level.toNat (bit keySel))

/-- CHALLENGE_EXPIRY (R469): 10 s after the challenge was made. -/
def execChallengeExpiry (s : State) : Host.Outcome State Fault Refusal :=
  s.done (if s.flag DBG_STAT_CHAL_VALID then (s.waitFor .challenge 8000000000).putFlag DBG_STAT_CHAL_VALID false else s)

/-- CORE_HALT (R471, R472). -/
def execCoreHalt (pair : Fin 2) (pc : Word) (s : State) : Host.Outcome State Fault Refusal :=
  s.done (s.hostWrite .debug (DBG_CORE_CTL pair.val) fun s => s.requestHalt pair.val pc)

/-- CORE_STEP (R471, R472). -/
def execCoreStep (pair : Fin 2) (pc : Word) (s : State) : Host.Outcome State Fault Refusal :=
  s.done (s.hostWrite .debug (DBG_CORE_CTL pair.val) fun s => s.requestStep pair.val pc)

/-- BREAKPOINT_HIT (R471, R472). -/
def execBreakpointHit (pair : Fin 2) (index : Fin 8) (s : State) : Host.Outcome State Fault Refusal :=
  s.done (s.breakpoint pair.val index.val)

/-- WATCHPOINT_HIT (R471, R472). -/
def execWatchpointHit (pair : Fin 2) (index : Fin 4) (write : Bool) (addr pc : Word) (s : State) :
    Host.Outcome State Fault Refusal :=
  s.done (s.watchpoint pair.val index.val write addr pc)

end Sys2Proof.Machine
end

