-- ==== Sys2Proof/Machine/Evt.lean ====
section
/-! DEFINITION. Events and the host attachment (R454 to R464): test raises, event masks, MSI-X enable and unmask, hold-offs and BAR
read time-outs. -/

namespace Sys2Proof.Machine

/-- A write of EVT_RAISE (R464). -/
def State.testRaise (s : State) (v : Word) : State :=
  if bits v 8 1 = 1 then s.raiseWith (bits v 0 8) (some 0xFFFF) (some 0) 0 else s

/-- A write of EVT_MASK_g: each bit cleared whose EVT_PEND bit is set sends one message (R461). -/
def State.writeEventMask (s : State) (g : Nat) (v : Word) : State :=
  let gone := bitList (s.reg (EVT_MASK g) &&& ~~~v &&& s.reg (EVT_PEND g))
  gone.foldl (fun s i => s.sendMessage (32 * g + i)) (s.setReg (EVT_MASK g) v)

/-- MSI-X Enable changes from 0 to 1 (R461): one message for each vector whose EVT_PEND bit is set. -/
def State.enableMsix (s : State) : State :=
  if !s.runs 3 || s.evt.msixEnable then s
  else
    let s := { s with evt := { s.evt with msixEnable := true } }
    (List.range 256).foldl (fun s v => if s.flag (pendBit v) then s.sendMessage v else s) s

/-- Send the message a PBA bit holds back, where nothing masks it any more (R461). -/
def State.sendHeld (s : State) (v : Nat) : State :=
  if s.flag (pbaBit v) && s.evt.msixEnable && !s.msixMasked v && !s.flag (maskBit v) then
    (s.putFlag (pbaBit v) false).sendMessage v
  else s

/-- A write of the vector control word of MSI-X entry v. -/
def State.writeVectorControl (s : State) (v : Nat) (w : Word) : State := (s.setReg (msixControl v) w).sendHeld v

/-- An entry's mask, or with none the Function Mask, is cleared. -/
def State.unmaskMsix (s : State) (entry : Option (BitVec 8)) : State :=
  if !s.runs 3 then s
  else
    match entry with
    | some v => s.writeVectorControl v.toNat (s.reg (msixControl v.toNat) &&& 0xFFFFFFFE#32)
    | none => (List.range 256).foldl (fun s v => s.sendHeld v) { s with evt := { s.evt with functionMask := false } }

/-- A hold-off ends (R462). -/
def State.endHoldoff (s : State) (v : Nat) : State :=
  match s.evt.holds.find? fun h => h.1 = v with
  | none => s
  | some h =>
    let s := s.tickTo h.2.2
    let s := { s with evt := { s.evt with holds := s.evt.holds.filter fun h => h.1 ≠ v } }
    if h.2.1 then s.sendMessage v else s

/-- A BAR read that its island has not answered (R457). -/
def State.readTimeout (s : State) (by_ : By) (off : Nat) : State :=
  if isInner by_ || by_ = .debug || !s.reaches by_ then s
  else (s.emit (.readData off 0xFFFFFFFF#32)).countAccess HST_ACC_ERR_2_TIMEOUT (isCrew by_) off

/-- MSIX_ENABLE. -/
def execMsixEnable (s : State) : Host.Outcome State Fault Refusal := s.done s.enableMsix

/-- MSIX_UNMASK. -/
def execMsixUnmask (entry : Option (BitVec 8)) (s : State) : Host.Outcome State Fault Refusal := s.done (s.unmaskMsix entry)

/-- HOLDOFF_END. -/
def execHoldoffEnd (vector : BitVec 8) (s : State) : Host.Outcome State Fault Refusal := s.done (s.endHoldoff vector.toNat)

/-- BAR_READ_TIMEOUT. -/
def execBarReadTimeout (by_ : By) (off : BitVec 25) (s : State) : Host.Outcome State Fault Refusal :=
  s.done (s.readTimeout by_ off.toNat)

end Sys2Proof.Machine
end

