-- ==== Sys2Proof/Machine/Regs.lean ====
section
/-! DEFINITION. Reads and writes of registers (R5 to R11, R28, R35, R47, R393, R456, R499): what a read returns and captures, what
stands against a write, and the effect of a write on each block but the command rings and DBG_MEM. -/

namespace Sys2Proof.Machine

/-! ## Reads (R6, R11, R28, R47, R468) -/

/-- The index at which an array of registers has an address. -/
def indexIn (f : Nat → Nat) (n off : Nat) : Option Nat := (List.range n).find? fun i => f i = off

/-- Words after a register that its read captures with it (R6 and the register tables). -/
def captureLen (off : Nat) : Nat :=
  if [ING_ERR_LOG_0, PND_ERR_LOG_0, TIM_NOW_0, TIM_CONV_0].contains off then 3
  else if [PND_RPQ_0, SAF_LAST].contains off || (indexIn CAM_SNS_FRAME_LO 16 off).isSome
    || (indexIn BRG_CH_ERR_ADDR_LO 32 off).isSome then 2
  else if [SYS_SERIAL_LO, ING_STB_BYTES_IN_LO, ING_STB_BYTES_OUT_LO, PND_MEM_ADDR_LO, PND_STB_DEC_BYTES_LO, FIR_START_DIST_LO,
      FIR_W0_LO, FIR_INS_OFFSET_LO, POS_COUNT_LO, POS_HWM_LO, POS_SPEED_LO, POS_ACCEL_LO, TIM_P_GM_LO 0, TIM_P_GM_LO 1,
      TIM_P_MAC_LO 0, TIM_P_MAC_LO 1].contains off
    || (indexIn FIR_CH_OFFSET_LO 8 off).isSome || (indexIn POS_PORT_RAW_LO 4 off).isSome
    || (indexIn POS_CMP_TGT_LO 16 off).isSome || (indexIn POS_CMP_STEP_LO 16 off).isSome
    || (indexIn POS_CMP_TIME_LO 16 off).isSome then 1
  else 0

/-- Read a register that exists and is reached: a captured word as captured, the first word of a group with the capture of the
others. -/
def State.readReg (s : State) (off : Nat) : Word × State :=
  let w := (Sparse.find s.captures off).getD (s.peek off)
  let c := (List.range (captureLen off)).foldl (fun m i =>
    let a := off + 4 * (i + 1)
    Sparse.insert m a (s.peek a)) s.captures
  (w, { s with captures := c })

/-- A read of an offset; none where no access reaches the chip (R499). -/
def State.hostRead (s : State) (by_ : By) (off : Nat) : Option Word × State :=
  let count (f : Fld) : State := if isInner by_ then s else s.countAccess f (isCrew by_) off
  if !s.reaches by_ then (none, s)
  else if (rowOf off).isNone then (some 0, count HST_ACC_ERR_1_UNMAPPED)
  else if !s.keeperRights by_ && !crewSees off then (some 0, s)
  else if !s.runs (islandOf off) then (some 0xFFFFFFFF#32, count HST_ACC_ERR_1_RESET_ISL)
  else if !s.debugReaches off false then (some 0, s)
  else
    let r := s.readReg off
    (some r.1, r.2)

/-! ## Plain writes (R6, R7, R9, R10) -/

/-- Whether an address is the low register of a pair written as one quantity (R6). -/
def pairLow (off : Nat) : Bool :=
  [CMD_K_SQ_BASE_LO, CMD_K_CQ_BASE_LO, CMD_C_SQ_BASE_LO, CMD_C_CQ_BASE_LO, CMD_TP_RADDR_LO, ING_HCJ_BASE_LO, FIR_CPL_LO,
      FIR_START_DIST_LO, FIR_INS_OFFSET_LO, POS_COUNT_LO, CAM_SR_BASE_LO, TIM_CONV_LO].contains off
    || (indexIn FIR_CH_OFFSET_LO 8 off).isSome || (indexIn POS_CMP_TGT_LO 16 off).isSome
    || (indexIn POS_CMP_STEP_LO 16 off).isSome

/-- The word a write leaves by the access codes (R9): RW bits take the value, W1C bits written 1 clear, others stay. -/
def RegRow.written (r : RegRow) (old v : Word) : Word :=
  let rw := BitVec.ofNat 32 r.rw
  let w1c := BitVec.ofNat 32 r.w1c
  (old &&& ~~~rw &&& ~~~(w1c &&& v)) ||| (v &&& rw)

/-- Write a word by its row's access codes. -/
def State.putRow (s : State) (off : Nat) (v : Word) : State :=
  match rowOf off with
  | some r => s.setReg off (r.written (s.reg off) v)
  | none => s

/-- Write a register with no effect of its own: the low half of a pair waits for the high half (R6). -/
def State.writeWord (s : State) (off : Nat) (v : Word) : State :=
  if pairLow off then { s with latches := Sparse.insert s.latches off v }
  else if 4 ≤ off && pairLow (off - 4) then
    let s := match Sparse.find s.latches (off - 4) with
      | some lo => { s with latches := Sparse.erase s.latches (off - 4) }.putRow (off - 4) lo
      | none => s
    s.putRow off v
  else s.putRow off v

/-- W1C bits that hardware sets in the cycle of the write read 1 after it (R10). -/
def State.hardwareSets (s : State) (off : Nat) (hw : Word) : State :=
  match rowOf off with
  | some r => s.setReg off (s.reg off ||| (hw &&& BitVec.ofNat 32 r.w1c))
  | none => s

/-! ## Writes discarded (R126, R210, R240, R247, R259, R260, R295, R350, R374, R392, R408) -/

/-- Whether an address lies in the LO and HI registers at `lo`. -/
def inPair (lo off : Nat) : Bool := off = lo || off = lo + 4

/-- Whether a write of a register is discarded in this state. -/
def State.writeHeld (s : State) (off : Nat) : Bool :=
  let printing := s.anyPrinting
  (s.flag CMD_K_RING_CTL_ENABLE && (inPair CMD_K_SQ_BASE_LO off || inPair CMD_K_CQ_BASE_LO off))
    || (s.flag CMD_C_RING_CTL_ENABLE && (inPair CMD_C_SQ_BASE_LO off || inPair CMD_C_CQ_BASE_LO off))
    || (s.flag ING_HCJ_CTL_ENABLE && inPair ING_HCJ_BASE_LO off)
    || (s.flag CAM_SR_CTL_ENABLE && inPair CAM_SR_BASE_LO off)
    || ((List.range 32).any fun n => s.bargeRuns n && (off = BRG_CH_CFG n || off = BRG_CH_HOST_HI n
        || (BRG_CH_LOOP n 0 ≤ off && off ≤ BRG_CH_LOOP n 3)))
    || (printing && (inPair FIR_INS_OFFSET_LO off || inPair FIR_CPL_LO off || (indexIn FIR_CH_FDIE 8 off).isSome
        || (indexIn PWR_C_RAIL 16 off).isSome || (indexIn PWR_C_CLAIM 16 off).isSome || (indexIn PWR_C_LOAD 16 off).isSome))
    || (s.flag FIR_STAT_RUNNING && inPair POS_COUNT_LO off)
    || (s.flag (POS_CMP_STAT_OWNED 0) && POS_CMP_CTL 0 ≤ off && off ≤ POS_CMP_STAT 0)
    || ([2, 3].any fun p => off = POS_PORT_OFFSET p || off = POS_PORT_GAIN p || off = POS_PORT_AMP p)
    || ([0, 2, 3].any fun q => off = CAL_TMP_SRC q)
    || ((List.range 16).any fun n => s.flag (CAM_SNS_CFG_EN n)
        && (off = CAM_SNS_GEOM n || off = CAM_SNS_TIMING n || off = CAM_SNS_BUS n))
    || ((List.range 4).any fun a => ARB_PORT_CFG a (arbPorts a) ≤ off && off < ARB_PORT_CFG a 36)

/-- Write a register, keeping the bits of `keep` as they were where `held`. -/
def State.writeBut (s : State) (off : Nat) (v : Word) (held : Bool) (keep : Word) : State :=
  s.putRow off (if held then (v &&& ~~~keep) ||| (s.reg off &&& keep) else v)

/-! ## Effects of a write, block by block -/

/-- EVT and the MSI-X table (R461, R464, R475). -/
def State.writeEvt (s : State) (off : Nat) (v : Word) : Option State :=
  if off = EVT_RAISE then some (s.testRaise v)
  else if EVT_MASK 0 ≤ off && off ≤ EVT_MASK 7 then some (s.writeEventMask ((off - EVT_MASK 0) / 4) v)
  else if 0x30000 ≤ off && off < 0x31000 && off % 16 = 12 then some (s.writeVectorControl ((off - 0x30000) / 16) (v &&& 1#32))
  else none

/-- Control and semaphore registers of a barge channel (R396, R402). -/
def State.writeBarge (s : State) (by_ : By) (off : Nat) (v : Word) : Option State :=
  (List.finRange 32).findSome? fun n =>
    if off = BRG_CH_CTL n.val then
      some (match bits v 30 2 with
        | 1 => s.bargeBegin by_ n.val v false
        | 2 => s.bargeBegin by_ n.val v true
        | 3 => s.bargeStop n 1
        | _ => s)
    else if off = BRG_CH_SEM_ADD n.val then some (s.addSem n.val v)
    else none

/-- A write of a port's configuration that would make an iron port another class, or another port iron, is discarded (R382). -/
def State.writePort (s : State) (a p : Nat) (v : Word) : State :=
  let iron := bits (BitVec.ofNat 32 (arbPortReset a p)) 28 2 = 0
  if iron = (bits v 28 2 = 0) then s.putRow (ARB_PORT_CFG a p) v else s

/-- ARB registers with an effect (R382). -/
def State.writeArb (s : State) (off : Nat) (v : Word) : Option State :=
  (List.range 4).findSome? fun a => (indexIn (ARB_PORT_CFG a) (arbPorts a) off).map fun p => s.writePort a p v

/-- ARB_HL_REQ (R390). -/
def State.writeLock (s : State) (v : Word) : State :=
  let o := bits v 4 4
  if o = 0 then s
  else
    match bits v 8 2 with
    | 1 => s.acquire (16 + bits v 0 4) (hostReq o)
    | 2 => s.release (16 + bits v 0 4) (hostReq o)
    | 3 => s.repaired (16 + bits v 0 4) (hostReq o)
    | _ => s

/-- ING_CTL and the host compression ring (R127, R144, R145). The descriptors of a doorbell written so are those a HCJ_DOORBELL
brings: none. -/
def State.writeIng (s : State) (off : Nat) (v : Word) : Option State :=
  if off = ING_CTL then
    let stop := (List.range 8).filter fun q => s.flag (qEn q) && !v.getLsbD q
    some ((stop.foldl State.stopQueue s).putRow off v)
  else if off = ING_HCJ_CTL then
    let was := s.flag ING_HCJ_CTL_ENABLE
    let s := if was && !v.getLsbD 31 then s.stopHostJobs else s
    let s := s.putRow off v
    some (if !was && v.getLsbD 31 then
        let s := (s.put ING_HCJ_TAIL_INDEX 0).put ING_HCJ_HEAD_INDEX 0
        { s with ing := { s.ing with hostDescs := [] } }
      else s)
  else if off = ING_HCJ_TAIL then some (s.offerHostJobs v [])
  else none

/-- PND registers with an effect (R154, R158, R172, R175, R179). -/
def State.writePnd (s : State) (off : Nat) (v : Word) : Option State :=
  if off = PND_CTL then some (s.writeBut off v s.anyPrinting 0x00FF0000#32)
  else if off = PND_RESERVE || off = PND_RPR_QUOTA then some (s.putRow off v).settleStore
  else if off = PND_RPQ_POP then some s.popReprint
  else if off = PND_RPR_RELEASE then some (s.releaseReprint v)
  else none

/-- ASM and FIR registers with an effect (R188 to R191, R209, R240). -/
def State.writeLine (s : State) (off : Nat) (v : Word) : Option State :=
  if off = ASM_NT_CMD then some (s.ntCommand v)
  else if (indexIn ASM_CH_CFG 8 off).isSome then some (s.writeBut off v s.anyPrinting 7#32)
  else if off = FIR_CTL then some (s.writeBut off v s.anyPrinting 0xFFFF8FFF#32)
  else none

/-- A write of POS_PORT_p_INDEX (R246): the first forward index after EN is set fixes the grid anew. -/
def State.writeIndex (s : State) (p : Nat) (v : Word) : State :=
  let fresh := v.getLsbD 31 && !s.flag (POS_PORT_INDEX_EN p)
  let s := s.putRow (POS_PORT_INDEX p) v
  if fresh then (s.updPort p fun x => { x with grid := none }).putFlag (POS_PORT_STAT_GRID p) false else s

/-- A write of POS_PORT_p_CFG: motion up to this cycle counts under the old configuration, and a port that is not enabled keeps no sample
or level to compare the next with. -/
def State.writePortCfg (s : State) (p : Nat) (v : Word) : State :=
  let s := s.posNow.putRow (POS_PORT_CFG p) v
  let s := if v.getLsbD 31 then s else s.updPort p fun x => { x with shown := x.steps, phi := none, filtered := none }
  s.syncValid

/-- POS registers with an effect (R246, R247, R252 to R258). -/
def State.writePos (s : State) (off : Nat) (v : Word) (same : Bool) : Option State :=
  if off = POS_SEL then some (s.writeSel v)
  else if off = POS_FAULT then some (s.clearFaults v)
  else if off = POS_COUNT_HI then
    let s := s.writeWord off v
    some (s.loadCounter (s.pos48 POS_COUNT_LO POS_COUNT_HI))
  else if off = POS_OUT_POL then some ((s.putRow off v).redrive s.outLevels)
  else if off = POS_TRACK_TOL then
    let s := s.putRow off v
    some ({ s with pos := { s.pos with track := 0 } }).syncTrack
  else
    match indexIn POS_PORT_CFG 4 off, indexIn POS_PORT_INDEX 4 off with
    | some p, _ => some (s.writePortCfg p v)
    | none, some p => some (s.writeIndex p v)
    | none, none => (indexIn POS_CMP_CTL 16 off).map fun n => s.writeCmp n v same

/-- JGL registers with an effect (R277, R282, R292). -/
def State.writeJgl (s : State) (off : Nat) (v : Word) : Option State :=
  match indexIn JGL_L_CTL 32 off, indexIn JGL_L_PRBS 32 off, indexIn JGL_C_CFG 16 off with
  | some l, _, _ =>
    let s := s.putRow off v
    some (if v.getLsbD 31 then s.askRetrain l else s)
  | _, some l, _ => some (s.writePrbs l v)
  | _, _, some n =>
    let s := s.putRow off v
    some (if !s.anyPrinting && (s.carrier n).mode ≠ s.get (JGL_C_CFG_MODE n) then s.takeMode n else s)
  | none, none, none => none

/-- Whether a sensor configuration would break R295: at most 4 enabled sensors on a port, no two on a port and virtual channel. -/
def State.cfgBreaks (s : State) (n : Nat) (v : Word) : Bool :=
  let rest := (List.range 16).filter fun m => m ≠ n && s.flag (CAM_SNS_CFG_EN m) && s.get (CAM_SNS_CFG_PORT m) = bits v 29 2
  v.getLsbD 31 && (4 ≤ rest.length || rest.any fun m => s.get (CAM_SNS_CFG_VC m) = bits v 24 4)

/-- A write of CAM_SNS_s_CFG (R295): while the sensor is enabled only EN is written. -/
def State.writeSensor (s : State) (n : Nat) (v : Word) : State :=
  let v := if s.flag (CAM_SNS_CFG_EN n) then (s.reg (CAM_SNS_CFG n) &&& 0x7FFFFFFF#32) ||| (v &&& 0x80000000#32) else v
  if s.cfgBreaks n v then s.putFlag CAM_STAT_CFG_REJ true else s.putRow (CAM_SNS_CFG n) v

/-- CAM registers with an effect (R295, R300, R320). -/
def State.writeCam (s : State) (off : Nat) (v : Word) : Option State :=
  if off = CAM_SR_CTL then
    let was := s.flag CAM_SR_CTL_ENABLE
    let s := s.putRow off v
    some (if !was && v.getLsbD 31 then (s.put CAM_SR_TAIL_INDEX 0).put CAM_SR_HEAD_INDEX 0 else s)
  else if off = CAM_BUS_CMD then some (s.busCommand v)
  else (indexIn CAM_SNS_CFG 16 off).map fun n => s.writeSensor n v

/-- A write of PWR_C_n_RAIL: a new SET_MV acts as RAIL_SETPOINT, and a new RAMP_MA_MS is a changed command (R356, R362). -/
def State.writeRail (s : State) (n : Nat) (v : Word) : State :=
  let old := s.reg (PWR_C_RAIL n)
  let s := s.putRow (PWR_C_RAIL n) v
  let s := if bits old 0 16 = bits v 0 16 then s else s.resendRail n
  if bits old 16 16 = bits v 16 16 then s else s.setpointChanged n

/-- A write of PWR_CH_c_WARM: a new WARM_C is a changed command of both carriers (R356). -/
def State.writeWarm (s : State) (c : Nat) (v : Word) : State :=
  let old := s.get (PWR_CH_WARM_WARM_C c)
  let s := s.putRow (PWR_CH_WARM c) v
  if s.get (PWR_CH_WARM_WARM_C c) = old then s else (s.resendRail (2 * c)).resendRail (2 * c + 1)

/-- PWR registers with an effect (R82, R355, R356, R371). -/
def State.writePwr (s : State) (off : Nat) (v : Word) : Option State :=
  if off = PWR_BJ_CTL then
    let s := s.putRow off v
    some (s.setLimit (s.get PWR_BJ_CTL_RETRY_LIMIT))
  else if off = PWR_ISL_CTL then some (s.writeIslEn v)
  else if off = PWR_WEAR_WARN then
    let s := s.putRow off v
    some (s.wearWarn s.wearReached)
  else
    match indexIn PWR_C_RAIL 16 off with
    | some n => some (s.writeRail n v)
    | none => (indexIn PWR_CH_WARM 8 off).map fun c => s.writeWarm c v

/-- Write TIM registers in turn, in one cycle; what the ports take from them follows (R412, R428, R429). -/
def State.writeTim (s : State) (l : List (Nat × Word)) : State :=
  let key := s.portKey
  let ports (a : Nat) : Bool := a = TIM_CTL || a = TIM_P_CFG 0 || a = TIM_P_CFG 1
  let s := l.foldl (fun s x =>
    let s := s.writeWord x.1 x.2
    if x.1 = TIM_CONV_HI then s.convert else s) s
  if l.any fun x => ports x.1 then s.portsChanged (decide (s.portKey ≠ key)) else s

/-- The set whose COMMIT register has an address. -/
def commitAt (off : Nat) : Option (ShdBlk × Nat) :=
  [ShdBlk.brg, .arb, .asm, .fir, .cam].findSome? fun b =>
    (indexIn (fun n => shdStat b n + 8) (shdCount b) off).map fun n => (b, n)

/-- A write of PREFIX_COMMIT_n (R36, R38, R41, R407). -/
def State.writeCommit (s : State) (b : ShdBlk) (n : Nat) (commit discard same : Bool) : State :=
  if commit then
    let s := s.commitSet b n discard same
    if b = .brg then s.bargeCommit n else s
  else if discard then s.discardSet b n same
  else s

/-- Whether a write at an offset stages into, or commits, a set whose hand-over falls in this cycle (R35). -/
def State.sameCycle (s : State) (off : Nat) : Bool :=
  ((setOf off).orElse fun _ => commitAt off).any fun q => s.handedNow q.1 q.2

/-- A write of a staged word in the cycle of its set's hand-over (R35). -/
def State.markLate (s : State) (off : Nat) (same : Bool) : State :=
  match setOf off with
  | some (b, n) => if same then s.setLate b n else s
  | none => s

/-- The effect of a write that has a register, rights, a running island and a level that lets it through; but for the command rings
and DBG_MEM. -/
def State.writeReg (s : State) (by_ : By) (off : Nat) (v hw : Word) (same : Bool) : State :=
  let s := s.markLate off same
  let effect : Option State :=
    if s.writeHeld off then some s
    else if off = SYS_RESET then some (s.writeReset (bits v 16 16) (bits v 0 2))
    else if off = ARB_HL_REQ then some (s.writeLock v)
    else
      match commitAt off with
      | some (b, n) => some (s.writeCommit b n (v.getLsbD 0) (v.getLsbD 1) same)
      | none =>
        if off < 0x20000 then none
        else if off < 0x40000 then s.writeEvt off v
        else if off < 0xC0000 then s.writeBarge by_ off v
        else if off < 0x100000 then s.writeArb off v
        else if off < 0x140000 then s.writeIng off v
        else if off < 0x180000 then s.writePnd off v
        else if off < 0x200000 then s.writeLine off v
        else if off < 0x240000 then s.writePos off v same
        else if off < 0x280000 then s.writeJgl off v
        else if off < 0x2C0000 then s.writeCam off v
        else if off < 0x340000 then none
        else if off < 0x380000 then s.writePwr off v
        else if off < 0x3C0000 then some (s.writeTim [(off, v)])
        else if off < 0x400000 then none
        else s.writeDebug off v
  (effect.getD (s.writeWord off v)).hardwareSets off hw

/-! ## Writes with a row of their own -/

/-- SHADOW_COMMIT (R36 to R38, R194, R407). -/
def execShadowCommit (by_ : By) (blk : ShdBlk) (n : Fin 32) (discard same : Bool) (s : State) :
    Host.Outcome State Fault Refusal :=
  s.done (if n.val < shdCount blk then
      s.hostWrite by_ (shdStat blk n.val + 8) fun s => s.writeCommit blk n.val true discard same
    else s)

/-- SHADOW_DISCARD (R38). -/
def execShadowDiscard (by_ : By) (blk : ShdBlk) (n : Fin 32) (same : Bool) (s : State) : Host.Outcome State Fault Refusal :=
  s.done (if n.val < shdCount blk then
      s.hostWrite by_ (shdStat blk n.val + 8) fun s => s.writeCommit blk n.val false true same
    else s)

/-- NT_READ (R190). -/
def execNtRead (by_ : By) (inc : Bool) (s : State) : Host.Outcome State Fault Refusal :=
  s.done (s.hostWrite by_ ASM_NT_CMD fun s => s.ntCommand (BitVec.ofNat 32 (1 + 256 * bit inc)))

/-- NT_STAGE (R191, R196). -/
def execNtStage (by_ : By) (inc : Bool) (s : State) : Host.Outcome State Fault Refusal :=
  s.done (s.hostWrite by_ ASM_NT_CMD fun s => s.ntCommand (BitVec.ofNat 32 (2 + 256 * bit inc)))

/-- NT_INIT (R188). -/
def execNtInit (by_ : By) (s : State) : Host.Outcome State Fault Refusal :=
  s.done (s.hostWrite by_ ASM_NT_CMD fun s => s.ntCommand 3#32)

/-- NT_WPORT_ENTRY (R195, R196). -/
def execNtWportEntry (words : List Word) (s : State) : Host.Outcome State Fault Refusal :=
  s.done (if s.runs 7 then s.ntEntry words else s)

/-- NT_RPORT_READ (R195): the record is captured whole, and RP_START advances. -/
def execNtRportRead (s : State) : Host.Outcome State Fault Refusal :=
  s.done (if s.runs 7 then
      (s.ntPortWords.foldl (fun s w => s.emit (.readData 0x1A4000 w)) s).ntPortAdvance
    else s)

/-- TIM_CONV (R428). -/
def execTimConv (by_ : By) (value : Word) (s : State) : Host.Outcome State Fault Refusal :=
  s.done (s.hostWrite by_ TIM_CONV_HI fun s => s.writeTim [(TIM_CONV_HI, value)])

/-- EVT_RAISE (R464). -/
def execEvtRaise (by_ : By) (value : Word) (s : State) : Host.Outcome State Fault Refusal :=
  s.done (s.hostWrite by_ EVT_RAISE fun s => s.testRaise value)

/-- EVT_MASK_CLEAR (R461). -/
def execEvtMaskClear (by_ : By) (group : Fin 8) (value : Word) (s : State) : Host.Outcome State Fault Refusal :=
  s.done (s.hostWrite by_ (EVT_MASK group.val) fun s => s.writeEventMask group.val value)

end Sys2Proof.Machine
end

