-- ==== Sys2Proof/Machine/CmdTime.lean ====
section
/-! DEFINITION. TIME_CONFIG (R429). -/

namespace Sys2Proof.Machine

/-- The entries of a TIME_CONFIG, as (keeper offset, value). -/
def timeEntries (p : List Byte) : List (Nat × Word) :=
  (List.range (field p 0 2)).map fun i => (TIM_CTL + field p (4 + 8 * i) 4, BitVec.ofNat 32 (field p (8 + 8 * i) 4))

/-- Whether an offset is an RW register of TIM. -/
def timWritable (a : Nat) : Bool := a < 0x3C0000 && ((rowOf a).map fun r => decide (r.rw ≠ 0)).getD false

/-- TIME_CONFIG: the entries in order, in one TIM cycle. -/
def opTimeConfig : Op where
  code := 0x0702
  keeper := true
  legal := classW
  fits p := 4 ≤ p.length && p.length = 4 + 8 * field p 0 2
  params _ p := badAt ((1 ≤ field p 0 2 && field p 0 2 ≤ 64, 0) ::
    (List.range (field p 0 2)).map fun i => (timWritable (TIM_CTL + field p (4 + 8 * i) 4), 4 + 8 * i))
  act := fun p => silent (fun s => if s.runs 11 then s.writeTim (timeEntries p.params) else s) p

/-- TIME_CONFIG. -/
def execTimeConfig (p : Packet) (s : State) : Host.Outcome State Fault Refusal := s.done (s.command opTimeConfig p)

end Sys2Proof.Machine
end

