-- ==== Sys2Proof/Machine/Pcie.lean ====
section
/-! DEFINITION. Configuration space (R454 to R456, R458): what host software reads and writes there. -/

namespace Sys2Proof.Machine

/-- Bits of a configuration word that host software sets and the model keeps: the Command register, the BARs, the interrupt line, and the
control words of the PCI Express and MSI-X capabilities. -/
def configMask (off : Nat) : Word :=
  match off / 4 with
  | 1 => 0x00000546#32
  | 4 => 0xFE000000#32
  | 5 => 0xFFFFFFFF#32
  | 6 => 0xFE000000#32
  | 7 => 0xFFFFFFFF#32
  | 8 => 0xFFFFF000#32
  | 9 => 0xFFFFFFFF#32
  | 15 => 0x000000FF#32
  | w =>
    if w = Config.pcieCapability.val + 2 then 0x00007FFF#32
    else if w = Config.msixCapability.val then 0xC0000000#32
    else 0

/-- The bits of a configuration word that are fixed, with the mask that names them (R455, R456): identity, class, the kind of the BARs, no
expansion ROM and no interrupt pin. -/
def configFixed (off : Nat) : Word × Word :=
  match off / 4 with
  | 0 => (0x08481F7A#32, 0xFFFFFFFF#32)
  | 2 => (0x118000B0#32, 0xFFFFFFFF#32)
  | 4 => (4#32, 0x01FFFFFF#32)
  | 6 => (4#32, 0x01FFFFFF#32)
  | 8 => (4#32, 0x00000FFF#32)
  | 12 => (0, 0xFFFFFFFF#32)
  | 15 => (0, 0x0000FF00#32)
  | _ => (0, 0)

/-- A configuration word as host software left it; Max_Read_Request_Size is 512 bytes after a reset (log entry 149, PRESUMED). -/
def State.configKept (s : State) (off : Nat) : Word :=
  (Sparse.find s.evt.config (off / 4 * 4)).getD (if off / 4 = Config.pcieCapability.val + 2 then 0x00002000#32 else 0)

/-- What a configuration read of function 0 returns; what PCIe itself sets is free (log entry 1, DESIGN CHOICE). -/
def State.configWord (s : State) (off : Nat) (free : Word) : Word :=
  let m := configMask off
  let f := configFixed off
  let kept := if configMask off = 0xC0000000#32 then
      BitVec.ofNat 32 (2 ^ 31 * bit s.evt.msixEnable + 2 ^ 30 * bit s.evt.functionMask)
    else s.configKept off
  (f.1 &&& f.2) ||| (kept &&& m &&& ~~~f.2) ||| (free &&& ~~~m &&& ~~~f.2)

/-- The MSI-X control word is written (R461): Function Mask, then Enable. -/
def State.writeMsix (s : State) (v : Word) : State :=
  let s := if v.getLsbD 30 then { s with evt := { s.evt with functionMask := true } } else s.unmaskMsix none
  if v.getLsbD 31 then s.enableMsix else { s with evt := { s.evt with msixEnable := false } }

/-- A configuration write of function 0: its bytes enabled; bit 15 of Device Control starts a Function Level Reset (R454, R458). -/
def State.configWrite (s : State) (off : Nat) (v : Word) (be : BitVec 4) : State :=
  let a := off / 4 * 4
  let m := configMask a &&& enabledBytes be
  let old := s.configWord a 0
  let new := (old &&& ~~~m) ||| (v &&& m)
  if configMask a = 0xC0000000#32 then s.writeMsix new
  else if a = 4 * (Config.pcieCapability.val + 2) && v.getLsbD 15 && be.getLsbD 1 then s.linkReset
  else { s with evt := { s.evt with config := Sparse.insert s.evt.config a (new &&& configMask a) } }

/-- Max_Read_Request_Size in force, in bytes (R454). -/
def State.readSize (s : State) : Nat := 128 * 2 ^ min 5 (bits (s.configKept (4 * (Config.pcieCapability.val + 2))) 12 3)

/-- A configuration request (R455, R458): Retry Status until HST is ready, UR of any function but 0. -/
def State.configRequest (s : State) (function off : Nat) (write : Option (Word × BitVec 4)) : State :=
  if !s.runs 3 then s.emit .configRetry
  else if function ≠ 0 then s.emit (.configData none)
  else
    match write with
    | some w => (s.configWrite off w.1 w.2).emit .configDone
    | none => s.draw.2.emit (.configData (some (s.configWord off (s.draw.1.setWidth 32))))

/-- CONFIG_REQUEST. -/
def execConfigRequest (function : BitVec 8) (off : BitVec 12) (write : Option (Word × BitVec 4)) (s : State) :
    Host.Outcome State Fault Refusal := s.done (s.configRequest function.toNat off.toNat write)

end Sys2Proof.Machine
end

