-- ==== Sys2Proof/Machine/Routes.lean ====
section
/-! DEFINITION. How command packets reach the chip (R83, R86 to R97, R111): the two rings, the towpath and Ethernet, and the final
replies of commands that complete later (R101). -/

namespace Sys2Proof.Machine

/-! ## Packets -/

/-- The opcodes of R105. -/
def ops : List Op := [opQueryState, opGetEvents, opSetMode, opClearSafe, opReset, opIslandReset, opBootJournalRead,
  opBootJournalClear, opNetKeySet, opStartJob, opStopPrint, opJobDefine, opPageQueue, opPageReprint, opJobCancel, opJobStatus,
  opNozzleRead, opNozzleWrite, opNozzleSetState, opNozzleSummary, opCalStart, opCalAbort, opCalTableWrite, opCalTableRead,
  opCalReferenceSet, opTemperPolicy, opCamDiscover, opCamSettings, opInsDefectsRead, opInsConfig, opPwrStatus, opRailSetpoint,
  opSupplyBudget, opWearReport, opTimeStatus, opTimeAcceptJump, opTimeConfig, opFireInhibit, opSafetyStatus, opProofTest,
  opSafetyParamLoad, opLinkStatus, opLaneRetrain, opPrbsControl, opLinkErrInject, opGetAttestation, opGetCertificate,
  opExtendMeasurement, opAckMeasurement, opFwLoadBegin, opFwLoadData, opFwLoadEnd]

/-- The opcode of a code, if it is known. -/
def opOf (code : Nat) : Option Op := ops.find? fun o => o.code = code

/-- The packet in some bytes (R83), with `params` as its parameter bytes. -/
def packetOf (route : Route) (l params : List Byte) : Packet where
  route := route
  tag := BitVec.ofNat 16 (field l 2 2)
  length := BitVec.ofNat 16 (field l 4 2)
  flags := BitVec.ofNat 16 (field l 6 2)
  session := BitVec.ofNat 32 (field l 8 4)
  check := BitVec.ofNat 32 (field l 12 4)
  params := params

/-- Check, execute and answer a packet by its opcode. -/
def State.receive (s : State) (code : Nat) (p : Packet) (src : Option Source) : State :=
  match opOf code with
  | some o => s.handle o p src
  | none => s.unknownOp code p src

/-! ## The rings (R88, R89, R111) -/

/-- The route of a ring. -/
def ringRoute (crew : Bool) : Route := if crew then .crew else .keeper

/-- Packets of a ring submitted and not yet fetched. -/
def State.ringQueue (s : State) (crew : Bool) : List (List Byte) := if crew then s.cmd.queueC else s.cmd.queueK

/-- Write the packets submitted and not yet fetched. -/
def State.setQueue (s : State) (crew : Bool) (l : List (List Byte)) : State :=
  if crew then { s with cmd := { s.cmd with queueC := l } } else { s with cmd := { s.cmd with queueK := l } }

/-- The packet in a slot of 4,096 bytes: LENGTH parameter bytes follow the header, and what the slot holds beyond is not read. -/
def slotPacket (crew : Bool) (slot : List Byte) : Packet :=
  let l := slot ++ List.replicate (4096 - slot.length) 0
  packetOf (ringRoute crew) l (((l.drop 16).take 4080).take (field l 4 2))

/-- Fetch and process slots in ring order while the ring is open. -/
def State.fetch (crew : Bool) : Nat → State → State
  | 0, s => s
  | n + 1, s =>
    match s.ringQueue crew with
    | [] => s
    | slot :: rest =>
      if !s.open_ (ringRoute crew) then s
      else
        let s := (s.setQueue crew rest).put (sqHead crew) ((s.get (sqHead crew) + 1) % s.ringSize crew)
        State.fetch crew n (s.receive (field slot 0 2) (slotPacket crew slot) none)

/-- Fetch what both rings hold. -/
def State.fetchAll (s : State) : State :=
  let s := State.fetch false s.cmd.queueK.length s
  State.fetch true s.cmd.queueC.length s

/-- A write of SQ_TAIL: the doorbell. The slots from the old tail to the new one are submitted. -/
def State.ringDoorbell (s : State) (crew : Bool) (tail : Word) (slots : List (List Byte)) : State :=
  let n := s.ringSize crew
  let old := s.get (sqTail crew) % n
  let new := tail.toNat % n
  let s := s.put (sqTail crew) new
  if !s.flag (ringEnable crew) then s
  else
    let l := (List.range ((new + n - old) % n)).map fun i => slots.getD i []
    (s.setQueue crew (s.ringQueue crew ++ l)).fetchAll

/-- Write replies that wait while there is room. -/
def State.drainReplies (crew : Bool) : Nat → State → State
  | 0, s => s
  | n + 1, s =>
    match s.ringWaiting crew with
    | [] => s
    | r :: rest =>
      if s.ringFree crew = 0 then s else State.drainReplies crew n ((s.setWaiting crew rest).putReply crew r)

/-- A write of CQ_HEAD: replies that wait are written, and fetching goes on. -/
def State.ringHead (s : State) (crew : Bool) (head : Word) : State :=
  let s := s.put (cqHead crew) (head.toNat % s.ringSize crew)
  if !s.flag (ringEnable crew) then s
  else (State.drainReplies crew (s.ringWaiting crew).length s).fetchAll

/-- A ring is no longer enabled: what is submitted and what waits goes no further. -/
def State.ringOff (s : State) (crew : Bool) : State :=
  ((s.putFlag (ringEnable crew) false).setQueue crew []).setWaiting crew []

/-- A fetch or reply write of a ring fails on PCIe (R111): commands already accepted continue. -/
def State.ringFails (s : State) (crew : Bool) : State :=
  if !s.runs 3 || !s.flag (ringEnable crew) then s
  else ((s.ringOff crew).putFlag (ringFld crew CMD_K_RING_CTL_FETCH_ERR CMD_C_RING_CTL_FETCH_ERR) true).raise 38

/-- A write of RING_CTL (R112): LOG2_SIZE only while ENABLE = 0; a change of ENABLE from 0 to 1 zeroes the four indices. -/
def State.writeRingCtl (s : State) (crew : Bool) (off : Nat) (v : Word) : State :=
  let was := s.flag (ringEnable crew)
  let s := s.writeBut off v was 0xF#32
  if !was && v.getLsbD 31 then
    let s := [sqTail crew, sqHead crew, cqTail crew, cqHead crew].foldl (fun s f => s.put f 0) s
    (s.setQueue crew []).setWaiting crew []
  else if was && !v.getLsbD 31 then s.ringOff crew
  else s

/-! ## The towpath (R91 to R93) -/

/-- The bytes of a towpath slot's packet area. -/
def State.slotBytes (s : State) (slot : Nat) : List Byte :=
  (List.range 32).flatMap fun i => leBytes 4 (s.cmd.slots.get (fun _ => 0) (0x100 * slot + 4 * i)).toNat

/-- A write of CMD_TP_DB_s. A value that differs from 16 + LENGTH fails the first check. -/
def State.doorbell (s : State) (slot : Fin 8) (value : Word) : State :=
  if !s.flag CMD_TP_CTL_ENABLE || s.cmd.busy.getLsbD slot.val then s.incSat CMD_TP_STAT_OVERRUN
  else
    let l := s.slotBytes slot.val
    let n := field l 4 2
    let ps := (l.drop 16).take n
    let p := packetOf (.towpath slot) l (if bits value 0 8 = 16 + n then ps else 0 :: ps)
    let s := { s with cmd := { s.cmd with busy := putBit s.cmd.busy slot.val true } }
    s.receive (field l 0 2) p none

/-! ## Ethernet (R95) -/

/-- A datagram that fails a test of R95. -/
def State.datagramFails (s : State) (f : Fld) : State := (s.incSat f).raise 37

/-- The tests of R95 but for SEQ. -/
def State.datagramGood (s : State) (port : Nat) (udpPort : BitVec 16) (fragmented : Bool) (l : List Byte) : Bool :=
  let key := (s.netKey (field l 3 1)).key
  let body := l.take (l.length - 16)
  (s.reg CMD_NET_CTL).getLsbD port && udpPort.toNat = s.get CMD_NET_CTL_UDP_PORT && !fragmented
    && 32 ≤ l.length && field l 0 2 = 0x57C8 && field l 2 1 = 1 && field l 3 1 < 4 && !key.isEmpty
    && l.drop (l.length - 16) = (hmacSha256 key body).take 16

/-- A UDP datagram is received on a port that is enabled, in a frame that passes its VLAN check (R409). -/
def State.datagram (s : State) (port : Fin 2) (vlan : Option (BitVec 12)) (udpPort : BitVec 16) (fragmented : Bool) (source : BitVec 128)
    (sourcePort : BitVec 16) (l : List Byte) : State :=
  let k := field l 3 1
  let seq := field l 8 8
  if !s.runs 11 || s.sys.rom || !s.portUp port.val || !s.vlanOk port.val vlan then s
  else if !s.datagramGood port.val udpPort fragmented l then s.datagramFails CMD_NET_STAT_AUTH_FAIL
  else if seq ≤ (s.netKey k).seq then s.datagramFails CMD_NET_STAT_REPLAY
  else
    let s := { s with cmd := { s.cmd with keys := s.cmd.keys.set k { s.netKey k with seq := seq } } }
    let s := s.raise 35
    let b := (l.take (l.length - 16)).drop 16
    s.receive (field b 0 2) (packetOf (.ethernet port) b (b.drop 16)) (some ⟨source, sourcePort, k⟩)

/-! ## Commands that complete later (R101) -/

/-- The pending command of a ring with a TAG and SESSION. -/
def State.pendingCmd (s : State) (crew : Bool) (tag : BitVec 16) (session : BitVec 32) : Option PendingCmd :=
  s.cmd.table.find? fun c => c.crew = crew && c.tag = tag && c.session = session

/-- Send the final reply of a command whose result is settled, with the MODE of its check (R85), and forget it; a host-link reset has discarded the reply of some. -/
def State.finishCmd (s : State) (c : PendingCmd) (data : List Byte) : State :=
  match c.result with
  | none => s
  | some (st, d) =>
    let legal := ((opOf c.opcode.toNat).map fun o => o.legal).getD 0
    let p : Packet := ⟨ringRoute c.crew, c.tag, 0, 0, c.session, 0, []⟩
    let r := { s.replyTo c.opcode.toNat legal p st d c.noChange data with modeByte := c.modeByte }
    let s := { s with cmd := { s.cmd with
      table := s.cmd.table.filter fun x => !(x.crew = c.crew && x.tag = c.tag && x.session = c.session) } }
    if c.mute then s else s.ringAnswer c.crew r

/-- A load is over: a good one stays as the image of its copy (R105). -/
def State.endLoad (s : State) (ok : Bool) : State :=
  let bytes := (List.range s.cmd.fwSize).map fun i => (s.cmd.fwData.get (fun _ => 0) i).setWidth 8
  let t := { s with cmd := { s.cmd with fwCopy := none, fwSize := 0, fwData := [], fwClosed := false } }
  match s.cmd.fwCopy, ok with
  | some k, true => ({ t with flash := { t.flash with images := t.flash.images.set k.toNat (some bytes) } }).emit (.flashWrite 0)
  | _, _ => t

/-- Settle the result of a command that ends outside the chip's rules: a firmware load after its signature check and flash write
(R105), a safety parameter set after its flash write (R450), a proof test that its own measurement ends (R451). -/
def State.settleCmd (s : State) (c : PendingCmd) (outcome : Outcome) : State :=
  let ok := decide (outcome = .ok)
  let res : Status × Nat := if ok then (.ok, 0) else (.fault, 3)
  let mark (s : State) : State := { s with cmd := { s.cmd with table := s.cmd.table.map fun x =>
    if x.crew = c.crew && x.tag = c.tag && x.session = c.session then { x with result := some res } else x } }
  if c.result.isSome then s
  else if c.opcode = 0x0A06 then mark (s.endLoad ok)
  else if c.opcode = 0x0803 then
    mark (if ok then { s with flash := { s.flash with safety := some (leBytes 160 c.arg) } } else s)
  else if c.opcode = 0x0802 then
    match s.saf.proof with
    | t :: _ =>
      if c.arg = 1 || (c.arg = 0xFFFF && !s.saf.proofAll) then s
      else if t = 2 then (if ok then s else (s.waitFor .proof 48000000000).proofEnds false)
      else s.proofEnds ok
    | [] => s
  else s

/-- A pending command ends: what has a result is answered. The end of no pending command ends the load that a FW_LOAD_END on
the towpath or Ethernet closed (R94; log entry 51, DESIGN CHOICE). -/
def State.commandEnds (s : State) (crew : Bool) (tag : BitVec 16) (session : BitVec 32) (outcome : Outcome)
    (data : List Byte) : State :=
  match s.pendingCmd crew tag session with
  | none => if s.cmd.fwClosed then s.endLoad (decide (outcome = .ok)) else s
  | some c =>
    let s := s.settleCmd c outcome
    match s.pendingCmd crew tag session with
    | none => s
    | some c => (s.finishCmd c data).fetchAll

/-! ## The commands -/

/-- COMMAND_COMPLETE (R101). -/
def execCommandComplete (crew : Bool) (tag : BitVec 16) (session : BitVec 32) (outcome : Outcome) (data : List Byte) (s : State) :
    Host.Outcome State Fault Refusal :=
  s.done (s.commandEnds crew tag session outcome data)

/-- SQ_TAIL_DOORBELL (R88). -/
def execSqTailDoorbell (crew : Bool) (tail : Word) (slots : List (List Byte)) (s : State) : Host.Outcome State Fault Refusal :=
  s.done (s.hostWrite (if crew then .crew else .keeper) (sqTail crew).addr fun s => s.ringDoorbell crew tail slots)

/-- CQ_HEAD_WRITE (R89). -/
def execCqHeadWrite (crew : Bool) (head : Word) (s : State) : Host.Outcome State Fault Refusal :=
  s.done (s.hostWrite (if crew then .crew else .keeper) (cqHead crew).addr fun s => s.ringHead crew head)

/-- RING_FETCH_ERROR (R111). -/
def execRingFetchError (crew : Bool) (s : State) : Host.Outcome State Fault Refusal := s.done (s.ringFails crew)

/-- TOWPATH_DOORBELL (R92, R93). -/
def execTowpathDoorbell (slot : Fin 8) (value : Word) (s : State) : Host.Outcome State Fault Refusal :=
  s.done (if s.reaches .keeper then s.doorbell slot value else s)

/-- NET_DATAGRAM (R95). -/
def execNetDatagram (port : Fin 2) (vlan : Option (BitVec 12)) (udpPort : BitVec 16) (fragmented : Bool) (source : BitVec 128) (sourcePort : BitVec 16)
    (payload : List Byte) (s : State) : Host.Outcome State Fault Refusal :=
  s.done (s.datagram port vlan udpPort fragmented source sourcePort payload)

end Sys2Proof.Machine
end

