-- ==== Sys2Proof/Machine/Registers.lean ====
section
/-! DEFINITION. Register accesses as they reach the chip (R6, R9, R91, R113, R456, R467, R472): through BAR0 and BAR2, through the
towpath mailbox of BAR4, through the debug port, and the core memory access of DBG_MEM. -/

namespace Sys2Proof.Machine

/-! ## Every register -/

/-- The command rings (R88, R89, R112). The packets a doorbell written so submits are those a SQ_TAIL_DOORBELL brings: none. -/
def State.writeRing (s : State) (off : Nat) (v : Word) : Option State :=
  [false, true].findSome? fun crew =>
    if off = (ringEnable crew).addr then some (s.writeRingCtl crew off v)
    else if off = (sqTail crew).addr then some (s.ringDoorbell crew v [])
    else if off = (cqHead crew).addr then some (s.ringHead crew v)
    else none

/-- The effect of a write on any register but DBG_MEM_CMD; a pair that resumes lets commands in its rings go on (R471). -/
def State.writeInner (s : State) (by_ : By) (off : Nat) (v hw : Word) (same : Bool) : State :=
  match s.writeRing off v with
  | some t => t.hardwareSets off hw
  | none =>
    let t := s.writeReg by_ off v hw same
    if off = DBG_CORE_CTL 0 || off = DBG_CORE_CTL 1 then t.fetchAll else t

/-- ERR of DBG_MEM: the access is refused. -/
def State.memRefused (s : State) : State := s.put ⟨DBG_MEM_CMD, 0, 1⟩ 1

/-- A write of DBG_MEM_CMD (R472): a read needs level 1, a write level 2; a keeper-view offset beyond BAR0 and an unmapped core
address are refused. An access nested in one finds the unit busy. -/
def State.memCommand (s : State) (v word : Word) (mapped : Bool) : State :=
  let s := s.putRow DBG_MEM_CMD (v &&& 0x7FFFFFFF#32)
  let write := v.getLsbD 30
  let a := (s.reg DBG_MEM_ADDR).toNat
  let data := s.reg DBG_MEM_DATA
  if !v.getLsbD 31 then s
  else if write && s.get DBG_STAT_LEVEL < 2 then s.memRefused
  else if v.getLsbD 29 then
    if 0x2000000 ≤ a then s.memRefused
    else if write then
      s.hostWrite .debug a fun s => if a = DBG_MEM_CMD then s else s.writeInner .debug a data 0 (s.sameCycle a)
    else
      let r := s.hostRead .debug a
      r.2.setReg DBG_MEM_DATA (r.1.getD 0)
  else if !mapped then s.memRefused
  else if write then s.emit (.coreWrite (bits v 28 1) a data)
  else s.setReg DBG_MEM_DATA word

/-- The effect of a write on any register. What the cores' address space holds is open to a write that does not say (log entry 1, DESIGN CHOICE). -/
def State.writeAny (s : State) (by_ : By) (off : Nat) (v hw : Word) (same : Bool) : State :=
  if off = DBG_MEM_CMD then
    (s.draw.2.memCommand v (s.draw.1.setWidth 32) (s.draw.1.getLsbD 63)).hardwareSets off hw
  else s.writeInner by_ off v hw same

/-- Write a whole word at an offset of the keeper or crew view. -/
def State.busWrite (s : State) (by_ : By) (off : Nat) (v hw : Word) (same : Bool) : State :=
  s.hostWrite by_ off fun s => s.writeAny by_ off v hw same

/-! ## BAR4 (R91, R113, R456) -/

/-- A write to the towpath mailbox: packet areas take any bytes, reply areas and CMD_TP_BUSY take none, and the byte that holds
BYTES rings the doorbell. -/
def State.bar4Write (s : State) (off : Nat) (v : Word) (be : BitVec 4) : State :=
  if !s.reaches .keeper || 0x1000 ≤ off then s
  else if off < 0x800 then
    if 0x80 ≤ off % 0x100 then s
    else
      let m := enabledBytes be
      let old := s.cmd.slots.get (fun _ => 0) off
      { s with cmd := { s.cmd with slots := s.cmd.slots.set (fun _ => 0) off ((old &&& ~~~m) ||| (v &&& m)) } }
  else if off < 0x820 then
    if be.getLsbD 0 then s.doorbell ⟨(off - 0x800) / 4 % 8, Nat.mod_lt _ (by decide)⟩ v else s
  else if off = 0x840 then s
  else s.countAccess HST_ACC_ERR_1_UNMAPPED false off

/-- A read of the towpath mailbox. -/
def State.bar4Read (s : State) (off : Nat) : Option Word × State :=
  if !s.reaches .keeper || 0x1000 ≤ off then (none, s)
  else if off < 0x800 then (some (s.cmd.slots.get (fun _ => 0) off), s)
  else if off < 0x820 then (some 0, s)
  else if off = 0x840 then (some (s.cmd.busy.setWidth 32), s)
  else (some 0, s.countAccess HST_ACC_ERR_1_UNMAPPED false off)

/-! ## Accesses -/

/-- Whether an access comes through BAR0 or BAR2. -/
def fromHost : By → Bool
  | .keeper => true
  | .crew => true
  | .firmware => false
  | .barge _ => false
  | .debug => false

/-- A host request while Memory Space Enable is 0 is answered UR (R456). -/
def State.answerUr (s : State) (by_ : By) (off : Nat) : State :=
  if fromHost by_ && s.runs 3 && !s.memEnabled then s.emit (.unsupported off) else s

/-- A write to a register: a host word with partial byte enables is discarded and counted (R456). -/
def State.registerWrite (s : State) (by_ : By) (bar4 : Bool) (off : Nat) (v : Word) (be : BitVec 4) (hw : Word)
    (same : Bool) : State :=
  let a := off / 4 * 4
  if bar4 then (if fromHost by_ then s.bar4Write a v be else s)
  else if fromHost by_ && be ≠ 0xF then
    if s.reaches by_ then s.countAccess HST_ACC_ERR_2_PARTIAL (isCrew by_) a else s
  else s.busWrite by_ a v hw same

/-- A read of a register; its data are an output. -/
def State.registerRead (s : State) (by_ : By) (bar4 : Bool) (off : Nat) : State :=
  let a := off / 4 * 4
  let r := if bar4 then (if fromHost by_ then s.bar4Read a else (none, s)) else s.hostRead by_ a
  match r.1 with
  | some w => r.2.emit (.readData a w)
  | none => r.2.answerUr by_ a

/-- Update-DR of DBG_ACCESS (R467): the access, and what the next Capture-DR returns. The data beside a write are open (log
entry 1, DESIGN CHOICE). -/
def State.debugAccess (s : State) (dr : BitVec 64) : State :=
  let s := s.loadTap .dbgAccess
  let off := 0x400000 + 4 * bits (dr.setWidth 32) 2 20
  let write := dr.getLsbD 1
  let refused := s.runs 2 && (rowOf off).isSome && !s.debugReaches off write
  let done (s : State) (w : Word) : State :=
    { s with dbg := { s.dbg with capture := (w ++ BitVec.ofNat 32 (1 + 2 * bit refused) : BitVec 64) } }
  if !dr.getLsbD 0 then s
  else if write then
    let s := s.busWrite .debug off ((dr >>> 32).setWidth 32) 0 (s.sameCycle off)
    done s.draw.2 (s.draw.1.setWidth 32)
  else
    let r := s.hostRead .debug off
    done r.2 (r.1.getD 0)

/-! ## The commands -/

/-- REGISTER_WRITE (R9). -/
def execRegisterWrite (by_ : By) (bar4 : Bool) (off : BitVec 25) (value : Word) (be : BitVec 4) (hw : Word) (same : Bool)
    (s : State) : Host.Outcome State Fault Refusal :=
  s.done (s.registerWrite by_ bar4 off.toNat value be hw same)

/-- REGISTER_READ (R6). -/
def execRegisterRead (by_ : By) (bar4 : Bool) (off : BitVec 25) (s : State) : Host.Outcome State Fault Refusal :=
  s.done (s.registerRead by_ bar4 off.toNat)

/-- DBG_ACCESS (R467, R468). -/
def execDbgAccess (dr : BitVec 64) (s : State) : Host.Outcome State Fault Refusal := s.done (s.debugAccess dr)

/-- DBG_MEM_ACCESS (R472). -/
def execDbgMemAccess (command word : Word) (mapped : Bool) (s : State) : Host.Outcome State Fault Refusal :=
  s.done (s.hostWrite .debug DBG_MEM_CMD fun s => s.memCommand command word mapped)

/-- CORE_RESUME (R471, R472). -/
def execCoreResume (pair : Fin 2) (s : State) : Host.Outcome State Fault Refusal :=
  s.done (s.hostWrite .debug (DBG_CORE_CTL pair.val) fun s => (s.resumePair pair.val).fetchAll)

end Sys2Proof.Machine
end

