-- ==== Sys2Proof/Machine/Move.lean ====
section
/-! DEFINITION. MOVE and SIGNAL of the barge channels (R398, R400, R401, R403, R405): where their addresses lead, alignment, beats,
the bytes moved, and the failures of a beat. -/

namespace Sys2Proof.Machine

/-! ## Addresses (R398, R400) -/

/-- Where an address leads: a host address, a port window, a register offset, or beyond the keeper-view map. -/
inductive Target where
  | host (addr : Nat)
  | ingPort (queue : Nat)
  | ntWrite
  | ntRead
  | camPort (stream : Nat)
  | reg (off : Nat)
  | beyond
deriving DecidableEq, Repr

/-- Where a 48-bit address leads in a space. -/
def targetOf (chip : Bool) (hostHi addr : Nat) : Target :=
  if !chip then .host (hostHi * 2 ^ 48 + addr)
  else if 2 ^ 25 ≤ addr then .beyond
  else if 0x120000 ≤ addr ∧ addr < 0x140000 then .ingPort ((addr - 0x120000) / 0x4000)
  else if 0x1A0000 ≤ addr ∧ addr < 0x1A4000 then .ntWrite
  else if 0x1A4000 ≤ addr ∧ addr < 0x1A8000 then .ntRead
  else if 0x2A0000 ≤ addr ∧ addr < 0x2B0000 then .camPort ((addr - 0x2A0000) / 0x4000)
  else .reg addr

/-- The island of a port window. -/
def Target.island : Target → Option Nat
  | .ingPort _ => some 4
  | .ntWrite => some 7
  | .ntRead => some 7
  | .camPort _ => some 10
  | .host _ => none
  | .reg _ => none
  | .beyond => none

/-- The multiple a length into or out of a target must be, and whether its address must be 4-byte aligned (R401). -/
def Target.unit : Target → Nat
  | .host _ => 1
  | .ingPort _ => 1
  | .ntWrite => 32
  | .ntRead => 16
  | .camPort _ => 32
  | .reg _ => 4
  | .beyond => 4

/-- Whether an access of `len` bytes at an address keeps the alignment a target asks for. -/
def Target.aligned (t : Target) (addr len : Nat) : Bool :=
  decide (len % t.unit = 0) && (match t with
    | .reg _ => decide (addr % 4 = 0)
    | .beyond => decide (addr % 4 = 0)
    | .host _ => true
    | .ingPort _ => true
    | .ntWrite => true
    | .ntRead => true
    | .camPort _ => true)

/-- Why bytes [a, b) of a range that begins at a target cannot be accessed, if they cannot (R398, R405). -/
def State.targetFails (s : State) (n : Fin 32) (t : Target) (a b : Nat) : Option Nat :=
  match t with
  | .host _ => none
  | .beyond => some 4
  | .reg off => ((List.range ((b - a + 3) / 4)).findSome? fun i => s.bargeDenied n (off + a + 4 * i))
  | .ntWrite => if !s.keeperRights (.barge n) then some 5 else if s.runs 7 then none else some 10
  | .ingPort _ => if s.runs 4 then none else some 10
  | .ntRead => if s.runs 7 then none else some 10
  | .camPort _ => if s.runs 10 then none else some 10

/-- A MOVE as its instruction gives it, with the loop steps added (R397, R400). -/
structure Move where
  len : Nat
  src : Nat
  dst : Nat
  srcChip : Bool
  dstChip : Bool
  source : Target
  dest : Target
deriving DecidableEq, Repr

/-- The MOVE at the PC of channel n. -/
def State.moveOf (s : State) (n : Nat) : Move :=
  let w := s.bargeWord n (s.bargePc n)
  let len := bits (w 0) 8 24
  let step (k : Nat) : Nat := if (w 0).getLsbD k then s.bargeIdx n * len else 0
  let src := ((w 1).toNat + bits (w 2) 0 16 * 2 ^ 32 + step 6) % 2 ^ 48
  let dst := (bits (w 2) 16 16 + (w 3).toNat * 2 ^ 16 + step 7) % 2 ^ 48
  let hi := s.get (BRG_CH_HOST_HI_ADDR n)
  ⟨len, src, dst, (w 0).getLsbD 4, (w 0).getLsbD 5, targetOf ((w 0).getLsbD 4) hi src, targetOf ((w 0).getLsbD 5) hi dst⟩

/-! ## Beats (R401, R405) -/

/-- Bytes of the first beat: up to the destination's next 64-byte boundary. -/
def Move.first (m : Move) : Nat := min m.len (64 - m.dst % 64)

/-- Byte at which beat k of a MOVE begins, counted from the start of the range; LEN past the last beat. -/
def Move.beatStart (m : Move) (k : Nat) : Nat := if k = 0 then 0 else min m.len (m.first + 64 * (k - 1))

/-- Beats of a MOVE. -/
def Move.beats (m : Move) : Nat := 1 + (m.len - m.first + 63) / 64

/-- Why beat k fails, if it does: the cause, and whether on the destination side. -/
def State.beatFails (s : State) (n : Fin 32) (m : Move) (hostFail : Option Nat) (k : Nat) : Option (Nat × Bool) :=
  let a := m.beatStart k
  let b := m.beatStart (k + 1)
  let src := if !m.srcChip && hostFail = some k then some 3 else s.targetFails n m.source a b
  match src with
  | some c => some (c, false)
  | none => (s.targetFails n m.dest a b).map fun c => (c, true)

/-- The lowest failing beat of a MOVE, with its cause and side. -/
def State.firstFailure (s : State) (n : Fin 32) (m : Move) (hostFail : Option Nat) : Option (Nat × Nat × Bool) :=
  (List.range m.beats).findSome? fun k => (s.beatFails n m hostFail k).map fun f => (k, f)

/-! ## Bytes -/

/-- Read consecutive registers as bytes. -/
def State.readWords (off : Nat) : Nat → State → List Byte × State
  | 0, s => ([], s)
  | n + 1, s =>
    let r := s.readReg off
    let q := State.readWords (off + 4) n r.2
    (leBytes 4 r.1.toNat ++ q.1, q.2)

/-- Read consecutive records at ASM_NT_RPORT as bytes. -/
def State.readRecords : Nat → State → List Byte × State
  | 0, s => ([], s)
  | n + 1, s =>
    let w := s.ntPortWords
    let q := State.readRecords n s.ntPortAdvance
    ((w.flatMap fun x => leBytes 4 x.toNat) ++ q.1, q.2)

/-- Take `len` bytes from the source of a MOVE; `data` are what a host source returned. A write-only port reads 0. -/
def State.takeSource (s : State) (m : Move) (len : Nat) (data : List Byte) : List Byte × State :=
  match m.source with
  | .host _ => ((List.range len).map fun i => data.getD i 0, s)
  | .reg off => State.readWords off (len / 4) s
  | .ntRead =>
    let r := State.readRecords ((len + 15) / 16) s
    (r.1.take len, r.2)
  | .camPort k =>
    let f := (s.cam.streams.getD k ⟨[], 0, 0⟩).fifo
    (f.take len, (s.updStream k fun x => { x with fifo := x.fifo.drop len }))
  | .ingPort _ => (List.replicate len 0, s)
  | .ntWrite => (List.replicate len 0, s)
  | .beyond => ([], s)

/-- Write words to consecutive registers, as channel n. -/
def State.writeWords (n : Fin 32) (off : Nat) : List (List Byte) → State → State
  | [], s => s
  | w :: rest, s => State.writeWords n (off + 4) rest (s.busWrite (.barge n) off (BitVec.ofNat 32 (ofLe w)) 0 (s.sameCycle off))

/-- A list cut into pieces of a length, an incomplete last piece left out. -/
def chunks (k : Nat) (l : List Byte) : List (List Byte) := (List.range (l.length / k)).map fun i => (l.drop (k * i)).take k

/-- The beats of `len` bytes from an address on, as start and length (R401). -/
def beatsOf (addr len : Nat) : List (Nat × Nat) :=
  let first := 64 - addr % 64
  (List.range ((addr % 64 + len + 63) / 64)).map fun k =>
    let at_ := if k = 0 then 0 else first + 64 * (k - 1)
    (at_, min (if k = 0 then first else 64) (len - at_))

/-- Give bytes to the destination of a MOVE from byte `off` of its range on. A read-only port takes none. -/
def State.giveDest (s : State) (n : Fin 32) (m : Move) (off : Nat) (l : List Byte) : State :=
  match m.dest with
  | .host a => (beatsOf (a + off) l.length).foldl (fun s b => s.emit (.hostWrite (a + off + b.1) ((l.drop b.1).take b.2))) s
  | .reg a => State.writeWords n (a + off) (chunks 4 l) s
  | .ingPort q => s.portBytes q l
  | .ntWrite => (chunks 32 l).foldl (fun s e => s.ntEntry ((chunks 4 e).map fun w => BitVec.ofNat 32 (ofLe w))) s
  | .ntRead => s
  | .camPort _ => s
  | .beyond => s

/-- Undefined bytes (log entry 1, DESIGN CHOICE). -/
def State.drawBytes : Nat → State → List Byte × State
  | 0, s => ([], s)
  | n + 1, s =>
    let q := State.drawBytes n s.draw.2
    (s.draw.1.setWidth 8 :: q.1, q.2)

/-- Beats [k, k + count) are issued though a beat has failed: where the destination takes them, their bytes there are undefined. -/
def State.issueLost (s : State) (n : Fin 32) (m : Move) (k count : Nat) : State :=
  (List.range count).foldl (fun s i =>
    let a := m.beatStart (k + i)
    let b := m.beatStart (k + i + 1)
    if (s.targetFails n m.dest a b).isSome then s
    else
      let r := State.drawBytes (b - a) s
      r.2.giveDest n m a r.1) s

/-! ## The instructions -/

/-- Record a failed MOVE, which leaves PC at the next instruction (R405). -/
def State.moveError (s : State) (n : Nat) (cause : Nat) (addr : Option (Nat × Bool × Bool)) (beat : Nat) : State :=
  let pc := s.bargePc n
  let s := match addr with
    | some (a, chip, side) =>
      (s.setReg (BRG_CH_ERR_ADDR_LO n) (BitVec.ofNat 32 a)).setReg (BRG_CH_ERR_ADDR_HI n)
        (BitVec.ofNat 32 (2 ^ 31 * bit chip + 2 ^ 30 * bit side + a / 2 ^ 32 % 2 ^ 16))
    | none => s
  let s := (s.put (BRG_CH_ERR_INFO_BEAT n) beat).put (BRG_CH_ERR_INFO_PC n) pc
  (s.put (BRG_CH_STAT_PC n) (pc + 1)).bargeError n cause

/-- The read requests for bytes [a, e) of host memory, whole words, each of at most `size` bytes and within 4 KiB (R401). -/
def readRequests (size a e : Nat) : Nat → List (Nat × Nat)
  | 0 => []
  | fuel + 1 =>
    if e ≤ a then []
    else
      let k := min (e - a) (min size (4096 - a % 4096))
      (a, k) :: readRequests size (a + k) e fuel

/-- The read requests of a MOVE with a host source. -/
def State.moveRequests (s : State) (m : Move) : List (Nat × Nat) :=
  match m.source with
  | .host a => readRequests s.readSize (a / 4 * 4) ((a + m.len + 3) / 4 * 4) (m.len / 128 + 3)
  | .ingPort _ => []
  | .ntWrite => []
  | .ntRead => []
  | .camPort _ => []
  | .reg _ => []
  | .beyond => []

/-- Issue the next read requests of a MOVE; REMAIN counts what is not yet issued (R401). -/
def State.issueReads (s : State) (n count : Nat) : State :=
  let l := (s.barge n).asks
  let s := (l.take count).foldl (fun s q => s.emit (.hostRead n q.1 q.2)) s
  let left := l.drop count
  let s := s.updBarge n fun b => { b with asks := left }
  s.put (BRG_CH_REMAIN_BYTES n) (min (s.get (BRG_CH_REMAIN_BYTES n)) ((left.map fun q => q.2).sum))

/-- MOVE begins: its alignment is checked before any beat, and of a host source OUTSTANDING requests go out (R401). -/
def State.bargeMove (s : State) (n : Nat) : State :=
  let m := s.moveOf n
  let s := s.put (BRG_CH_REMAIN_BYTES n) m.len
  if m.source.aligned m.src m.len && m.dest.aligned m.dst m.len then
    let s := s.updBarge n fun b => { b with moving := true, asks := s.moveRequests m }
    if m.srcChip then s else s.issueReads n (max 1 (min 64 (s.get (BRG_CH_CFG_OUTSTANDING n))))
  else s.moveError n 7 none 0

/-- Whether every read of a MOVE can have completed: a camera stream holds the bytes asked of it. -/
def State.sourceReady (s : State) (m : Move) : Bool :=
  match m.source with
  | .camPort k => m.len ≤ (s.cam.streams.getD k ⟨[], 0, 0⟩).fifo.length
  | .host _ => true
  | .ingPort _ => true
  | .ntWrite => true
  | .ntRead => true
  | .reg _ => true
  | .beyond => true

/-- Whether the destination of a MOVE takes its bytes: an ingest queue that waits takes none (R135). -/
def State.destReady (s : State) (m : Move) : Bool :=
  match m.dest with
  | .ingPort q => s.portReady q
  | .host _ => true
  | .ntWrite => true
  | .ntRead => true
  | .camPort _ => true
  | .reg _ => true
  | .beyond => true

/-- A MOVE ends well: the next instruction. A write it made may have ended the channel. -/
def State.movePasses (s : State) (n : Fin 32) (m : Move) (data : List Byte) : State :=
  let s := s.issueReads n.val (s.barge n.val).asks.length
  let r := s.takeSource m m.len data
  let s := r.2.giveDest n m 0 r.1
  let s := s.put (BRG_CH_REMAIN_BYTES n.val) 0
  let s := s.put (BRG_CH_BYTES_COUNT n.val) (s.get (BRG_CH_BYTES_COUNT n.val) + m.len)
  let s := (s.emit (.moveDone n.val m.len)).updBarge n.val fun b => { b with moving := false, asks := [] }
  if s.bargeState n.val = 1 then s.bargeGo n.val (s.bargePc n.val + 1) else s

/-- A MOVE ends failed at beat k. How many beats after it were issued is open (log entry 1, DESIGN CHOICE). -/
def State.moveFails (s : State) (n : Fin 32) (m : Move) (data : List Byte) (k cause : Nat) (side : Bool) : State :=
  let good := m.beatStart k
  let r := s.takeSource m good data
  let s := r.2.giveDest n m 0 r.1
  let (d, s) := s.draw
  let more := d.toNat % (m.beats - k)
  let s := s.issueLost n m k (more + 1)
  let s := s.put (BRG_CH_REMAIN_BYTES n.val) (m.len - m.beatStart (k + more + 1))
  let s := s.put (BRG_CH_BYTES_COUNT n.val) (s.get (BRG_CH_BYTES_COUNT n.val) + good)
  let s := (s.emit (.moveDone n.val good)).updBarge n.val fun b => { b with moving := false, asks := [] }
  let addr := ((if side then m.dst else m.src) + good) % 2 ^ 48
  if s.bargeState n.val = 1 then s.moveError n.val cause (some (addr, if side then m.dstChip else m.srcChip, side)) k else s

/-- The MOVE of a channel ends. -/
def State.moveEnds (s : State) (n : Fin 32) (data : List Byte) (hostFail : Option Nat) : State :=
  if !s.runs 3 || s.bargeState n.val ≠ 1 || !(s.barge n.val).moving then s
  else
    let m := s.moveOf n.val
    if !s.destReady m then s
    else match s.firstFailure n m hostFail with
    | some (k, cause, side) => s.moveFails n m data k cause side
    | none => if s.sourceReady m then s.movePasses n m data else s

/-- The write of a SIGNAL: the ports take bytes of a MOVE alone (R126, R195). -/
def State.giveSignal (s : State) (n : Fin 32) (m : Move) (l : List Byte) : State :=
  if m.dest.island.isSome then s else s.giveDest n m 0 l

/-- SIGNAL (R400, R403). -/
def State.bargeSignal (s : State) (n : Fin 32) : State :=
  let w := s.bargeWord n.val (s.bargePc n.val)
  let addr := (w 1).toNat + bits (w 2) 0 16 * 2 ^ 32
  let v := (w 3) + (if (w 0).getLsbD 6 then BitVec.ofNat 32 (s.bargeIdx n.val) else 0)
  let t := targetOf ((w 0).getLsbD 4) (s.get (BRG_CH_HOST_HI_ADDR n.val)) addr
  let m : Move := ⟨4, 0, addr, false, (w 0).getLsbD 4, .host 0, t⟩
  if addr % 4 ≠ 0 then s.bargeError n.val 7
  else
    match s.targetFails n t 0 4 with
    | some c => s.bargeError n.val c
    | none =>
      let s := (s.updBarge n.val fun b => { b with moving := true }).giveSignal n m (leBytes 4 v.toNat)
      let s := s.updBarge n.val fun b => { b with moving := false }
      if s.bargeState n.val ≠ 1 then s
      else
        let s := if (w 0).getLsbD 5 then s.raiseWith 245 (some n.val) (some v.toNat) 0 else s
        s.bargeGo n.val (s.bargePc n.val + 1)

/-! ## The commands -/

/-- MOVE (R401). -/
def execBargeMove (ch : Fin 32) (s : State) : Host.Outcome State Fault Refusal :=
  s.done (s.bargeStep ch.val 1 fun s => s.bargeMove ch.val)

/-- MOVE_DONE (R401, R405). -/
def execMoveDone (ch : Fin 32) (data : List Byte) (hostFail : Option (BitVec 19)) (s : State) : Host.Outcome State Fault Refusal :=
  s.done (s.moveEnds ch data (hostFail.map fun b => b.toNat))

/-- SIGNAL (R403). -/
def execBargeSignal (ch : Fin 32) (s : State) : Host.Outcome State Fault Refusal :=
  s.done (s.bargeStep ch.val 5 fun s => s.bargeSignal ch)

end Sys2Proof.Machine
end

