-- ==== Sys2Proof/Machine/Dispatch.lean ====
section
/-! DEFINITION. The meaning of every command: one arm per row of the table of operations and events. -/

namespace Sys2Proof.Machine

open Sys2Proof

def exec (i : Instr) (s : State) : Host.Outcome State Fault Refusal :=
  match i with
  | .queryState p => Sys2Proof.Machine.execQueryState p s
  | .getEvents p => Sys2Proof.Machine.execGetEvents p s
  | .setMode p => Sys2Proof.Machine.execSetMode p s
  | .clearSafe p => Sys2Proof.Machine.execClearSafe p s
  | .resetCmd p => Sys2Proof.Machine.execResetCmd p s
  | .islandReset p => Sys2Proof.Machine.execIslandReset p s
  | .bootJournalRead p => Sys2Proof.Machine.execBootJournalRead p s
  | .bootJournalClear p => Sys2Proof.Machine.execBootJournalClear p s
  | .netKeySet p => Sys2Proof.Machine.execNetKeySet p s
  | .startJob p => Sys2Proof.Machine.execStartJob p s
  | .stopPrint p => Sys2Proof.Machine.execStopPrint p s
  | .jobDefine p => Sys2Proof.Machine.execJobDefine p s
  | .pageQueue p => Sys2Proof.Machine.execPageQueue p s
  | .pageReprint p => Sys2Proof.Machine.execPageReprint p s
  | .jobCancel p => Sys2Proof.Machine.execJobCancel p s
  | .jobStatus p => Sys2Proof.Machine.execJobStatus p s
  | .nozzleRead p => Sys2Proof.Machine.execNozzleRead p s
  | .nozzleWrite p => Sys2Proof.Machine.execNozzleWrite p s
  | .nozzleSetState p => Sys2Proof.Machine.execNozzleSetState p s
  | .nozzleSummary p => Sys2Proof.Machine.execNozzleSummary p s
  | .calStart p => Sys2Proof.Machine.execCalStart p s
  | .calAbort p => Sys2Proof.Machine.execCalAbort p s
  | .calTableWrite p => Sys2Proof.Machine.execCalTableWrite p s
  | .calTableRead p => Sys2Proof.Machine.execCalTableRead p s
  | .calReferenceSet p => Sys2Proof.Machine.execCalReferenceSet p s
  | .temperPolicy p => Sys2Proof.Machine.execTemperPolicy p s
  | .camDiscover p => Sys2Proof.Machine.execCamDiscover p s
  | .camSettings p => Sys2Proof.Machine.execCamSettings p s
  | .insDefectsRead p => Sys2Proof.Machine.execInsDefectsRead p s
  | .insConfig p => Sys2Proof.Machine.execInsConfig p s
  | .pwrStatus p => Sys2Proof.Machine.execPwrStatus p s
  | .railSetpoint p => Sys2Proof.Machine.execRailSetpoint p s
  | .supplyBudget p => Sys2Proof.Machine.execSupplyBudget p s
  | .wearReport p => Sys2Proof.Machine.execWearReport p s
  | .timeStatus p => Sys2Proof.Machine.execTimeStatus p s
  | .timeAcceptJump p => Sys2Proof.Machine.execTimeAcceptJump p s
  | .timeConfig p => Sys2Proof.Machine.execTimeConfig p s
  | .fireInhibit p => Sys2Proof.Machine.execFireInhibit p s
  | .safetyStatus p => Sys2Proof.Machine.execSafetyStatus p s
  | .proofTest p => Sys2Proof.Machine.execProofTest p s
  | .safetyParamLoad p => Sys2Proof.Machine.execSafetyParamLoad p s
  | .linkStatus p => Sys2Proof.Machine.execLinkStatus p s
  | .laneRetrain p => Sys2Proof.Machine.execLaneRetrain p s
  | .prbsControl p => Sys2Proof.Machine.execPrbsControl p s
  | .linkErrInject p => Sys2Proof.Machine.execLinkErrInject p s
  | .getAttestation p => Sys2Proof.Machine.execGetAttestation p s
  | .getCertificate p => Sys2Proof.Machine.execGetCertificate p s
  | .extendMeasurement p => Sys2Proof.Machine.execExtendMeasurement p s
  | .ackMeasurement p => Sys2Proof.Machine.execAckMeasurement p s
  | .fwLoadBegin p => Sys2Proof.Machine.execFwLoadBegin p s
  | .fwLoadData p => Sys2Proof.Machine.execFwLoadData p s
  | .fwLoadEnd p => Sys2Proof.Machine.execFwLoadEnd p s
  | .commandComplete crew tag session outcome data => Sys2Proof.Machine.execCommandComplete crew tag session outcome data s
  | .sqTailDoorbell crew tail slots => Sys2Proof.Machine.execSqTailDoorbell crew tail slots s
  | .cqHeadWrite crew head => Sys2Proof.Machine.execCqHeadWrite crew head s
  | .ringFetchError crew => Sys2Proof.Machine.execRingFetchError crew s
  | .towpathDoorbell slot value => Sys2Proof.Machine.execTowpathDoorbell slot value s
  | .netDatagram port vlan udpPort fragmented source sourcePort payload => Sys2Proof.Machine.execNetDatagram port vlan udpPort fragmented source sourcePort payload s
  | .porstRelease => Sys2Proof.Machine.execPorstRelease s
  | .porstAssert => Sys2Proof.Machine.execPorstAssert s
  | .supplyLoss => Sys2Proof.Machine.execSupplyLoss s
  | .bootStepDone ok ms found => Sys2Proof.Machine.execBootStepDone ok ms found s
  | .bootStepTimeout ms => Sys2Proof.Machine.execBootStepTimeout ms s
  | .bootRestart => Sys2Proof.Machine.execBootRestart s
  | .sysResetWarm by_ key => Sys2Proof.Machine.execSysResetWarm by_ key s
  | .sysResetCold by_ key => Sys2Proof.Machine.execSysResetCold by_ key s
  | .modeChangeDone => Sys2Proof.Machine.execModeChangeDone s
  | .warmTimeout => Sys2Proof.Machine.execWarmTimeout s
  | .lockstepMismatch => Sys2Proof.Machine.execLockstepMismatch s
  | .clockFault island => Sys2Proof.Machine.execClockFault island s
  | .hostLinkReset down => Sys2Proof.Machine.execHostLinkReset down s
  | .linkTrained speed width => Sys2Proof.Machine.execLinkTrained speed width s
  | .powerGoodLoss group => Sys2Proof.Machine.execPowerGoodLoss group s
  | .tileArrival queue => Sys2Proof.Machine.execTileArrival queue s
  | .tileLanded queue => Sys2Proof.Machine.execTileLanded queue s
  | .verifyDone page ch col band mem => Sys2Proof.Machine.execVerifyDone page ch col band mem s
  | .landingResume queue => Sys2Proof.Machine.execLandingResume queue s
  | .compressStart unit => Sys2Proof.Machine.execCompressStart unit s
  | .compressTest unit mem => Sys2Proof.Machine.execCompressTest unit mem s
  | .compressDone unit => Sys2Proof.Machine.execCompressDone unit s
  | .weirWaitTimeout unit => Sys2Proof.Machine.execWeirWaitTimeout unit s
  | .weirResume unit => Sys2Proof.Machine.execWeirResume unit s
  | .queueEnable by_ queue => Sys2Proof.Machine.execQueueEnable by_ queue s
  | .queueDisable by_ queue => Sys2Proof.Machine.execQueueDisable by_ queue s
  | .hcjDoorbell by_ tail descs => Sys2Proof.Machine.execHcjDoorbell by_ tail descs s
  | .hcjDone input hostErr => Sys2Proof.Machine.execHcjDone input hostErr s
  | .hcjDisable by_ => Sys2Proof.Machine.execHcjDisable by_ s
  | .decodeQuantum engine mem => Sys2Proof.Machine.execDecodeQuantum engine mem s
  | .scrubRead block mem => Sys2Proof.Machine.execScrubRead block mem s
  | .rpqPop by_ => Sys2Proof.Machine.execRpqPop by_ s
  | .rprRelease by_ page => Sys2Proof.Machine.execRprRelease by_ page s
  | .shadowCommit by_ blk n discard same => Sys2Proof.Machine.execShadowCommit by_ blk n discard same s
  | .shadowDiscard by_ blk n same => Sys2Proof.Machine.execShadowDiscard by_ blk n same s
  | .ntRead by_ inc => Sys2Proof.Machine.execNtRead by_ inc s
  | .ntStage by_ inc => Sys2Proof.Machine.execNtStage by_ inc s
  | .ntInit by_ => Sys2Proof.Machine.execNtInit by_ s
  | .ntWportEntry words => Sys2Proof.Machine.execNtWportEntry words s
  | .ntRportRead => Sys2Proof.Machine.execNtRportRead s
  | .lineBoundary ch dt ecc => Sys2Proof.Machine.execLineBoundary ch dt ecc s
  | .reachAnchor dt => Sys2Proof.Machine.execReachAnchor dt s
  | .forcedAnchor dt => Sys2Proof.Machine.execForcedAnchor dt s
  | .lineFix ch dt => Sys2Proof.Machine.execLineFix ch dt s
  | .markerSend carrier dt => Sys2Proof.Machine.execMarkerSend carrier dt s
  | .frameSend carrier dt => Sys2Proof.Machine.execFrameSend carrier dt s
  | .startTrigger gpi rising dt => Sys2Proof.Machine.execStartTrigger gpi rising dt s
  | .lineSyncPulse width dt => Sys2Proof.Machine.execLineSyncPulse width dt s
  | .encoderMotion port input dt => Sys2Proof.Machine.execEncoderMotion port input dt s
  | .indexCrossing port stable dt => Sys2Proof.Machine.execIndexCrossing port stable dt s
  | .faultWindowEnd dt => Sys2Proof.Machine.execFaultWindowEnd dt s
  | .speedStale dt => Sys2Proof.Machine.execSpeedStale dt s
  | .cmpFire unit dt => Sys2Proof.Machine.execCmpFire unit dt s
  | .cmpPulse unit dt => Sys2Proof.Machine.execCmpPulse unit dt s
  | .cmpLoad by_ unit value same => Sys2Proof.Machine.execCmpLoad by_ unit value same s
  | .encReselect by_ value => Sys2Proof.Machine.execEncReselect by_ value s
  | .posCountLoad by_ count => Sys2Proof.Machine.execPosCountLoad by_ count s
  | .posFaultClear by_ value => Sys2Proof.Machine.execPosFaultClear by_ value s
  | .illegalEdge port input dt => Sys2Proof.Machine.execIllegalEdge port input dt s
  | .ampBad port sin cos dt => Sys2Proof.Machine.execAmpBad port sin cos dt s
  | .pulseEnd pulse dt => Sys2Proof.Machine.execPulseEnd pulse dt s
  | .trainBlock lane header payload near wishes dt => Sys2Proof.Machine.execTrainBlock lane header payload near wishes dt s
  | .laneTrainTimeout lane dt => Sys2Proof.Machine.execLaneTrainTimeout lane dt s
  | .echoReply lane header payload dt => Sys2Proof.Machine.execEchoReply lane header payload dt s
  | .laneLost lane news dt => Sys2Proof.Machine.execLaneLost lane news dt s
  | .driftCheck lane steps transitions dt => Sys2Proof.Machine.execDriftCheck lane steps transitions dt s
  | .retrainStart lane dt => Sys2Proof.Machine.execRetrainStart lane dt s
  | .retrainWrite by_ lane value => Sys2Proof.Machine.execRetrainWrite by_ lane value s
  | .telemetryRecord carrier copies dt => Sys2Proof.Machine.execTelemetryRecord carrier copies dt s
  | .telemLate carrier dt => Sys2Proof.Machine.execTelemLate carrier dt s
  | .dieReportTimeout ch die dt => Sys2Proof.Machine.execDieReportTimeout ch die dt s
  | .msgAck carrier copies dt => Sys2Proof.Machine.execMsgAck carrier copies dt s
  | .msgRetry carrier seq dt => Sys2Proof.Machine.execMsgRetry carrier seq dt s
  | .linkTestResult carrier copies dt => Sys2Proof.Machine.execLinkTestResult carrier copies dt s
  | .alignMarker carrier dt => Sys2Proof.Machine.execAlignMarker carrier dt s
  | .prbsLockLoss lane errors dt => Sys2Proof.Machine.execPrbsLockLoss lane errors dt s
  | .injOne by_ lane value => Sys2Proof.Machine.execInjOne by_ lane value s
  | .laneVerifyPass lane far dt => Sys2Proof.Machine.execLaneVerifyPass lane far dt s
  | .blockLockGained lane headers dt => Sys2Proof.Machine.execBlockLockGained lane headers dt s
  | .prbsCheckerLock lane bits dt => Sys2Proof.Machine.execPrbsCheckerLock lane bits dt s
  | .triggerPulse output dt => Sys2Proof.Machine.execTriggerPulse output dt s
  | .frameBoundary sensor dt => Sys2Proof.Machine.execFrameBoundary sensor dt s
  | .strobePulse sensor dt => Sys2Proof.Machine.execStrobePulse sensor dt s
  | .frameStart port vc ecc dt => Sys2Proof.Machine.execFrameStart port vc ecc dt s
  | .frameLine port vc dataType pixels ecc crcOk taken dt => Sys2Proof.Machine.execFrameLine port vc dataType pixels ecc crcOk taken dt s
  | .frameEnd port vc ecc dt => Sys2Proof.Machine.execFrameEnd port vc ecc dt s
  | .fsTimeout sensor dt => Sys2Proof.Machine.execFsTimeout sensor dt s
  | .frameRecord sensor err => Sys2Proof.Machine.execFrameRecord sensor err s
  | .settingsSend sensor => Sys2Proof.Machine.execSettingsSend sensor s
  | .settingsWritesDone sensor => Sys2Proof.Machine.execSettingsWritesDone sensor s
  | .settingsCommit sensor => Sys2Proof.Machine.execSettingsCommit sensor s
  | .busAccess by_ value => Sys2Proof.Machine.execBusAccess by_ value s
  | .busAccessDone sensor settings nacks value => Sys2Proof.Machine.execBusAccessDone sensor settings nacks value s
  | .inBandInterrupt sensor => Sys2Proof.Machine.execInBandInterrupt sensor s
  | .hotJoin bus => Sys2Proof.Machine.execHotJoin bus s
  | .discoveryDone answered joined => Sys2Proof.Machine.execDiscoveryDone answered joined s
  | .cameraLineBoundary dt => Sys2Proof.Machine.execCameraLineBoundary dt s
  | .pageAnalysisDone page dt => Sys2Proof.Machine.execPageAnalysisDone page dt s
  | .calRunEnd result results dt => Sys2Proof.Machine.execCalRunEnd result results dt s
  | .temperCheck chip sensors dt => Sys2Proof.Machine.execTemperCheck chip sensors dt s
  | .temperRunStart => Sys2Proof.Machine.execTemperRunStart s
  | .supplyAdmit => Sys2Proof.Machine.execSupplyAdmit s
  | .railCmdRepeat carrier => Sys2Proof.Machine.execRailCmdRepeat carrier s
  | .claimTimeout carrier => Sys2Proof.Machine.execClaimTimeout carrier s
  | .thermalRead islands stack => Sys2Proof.Machine.execThermalRead islands stack s
  | .wearUpdate rings core sram => Sys2Proof.Machine.execWearUpdate rings core sram s
  | .wearMirror ok => Sys2Proof.Machine.execWearMirror ok s
  | .islEnWrite by_ value => Sys2Proof.Machine.execIslEnWrite by_ value s
  | .arbWindow arb cycles => Sys2Proof.Machine.execArbWindow arb cycles s
  | .arbGrant arb cycles arrivals free => Sys2Proof.Machine.execArbGrant arb cycles arrivals free s
  | .tinCut arb path => Sys2Proof.Machine.execTinCut arb path s
  | .hlAcquire by_ value => Sys2Proof.Machine.execHlAcquire by_ value s
  | .hlRelease by_ value => Sys2Proof.Machine.execHlRelease by_ value s
  | .hlRepaired by_ value => Sys2Proof.Machine.execHlRepaired by_ value s
  | .lockWaitTimeout => Sys2Proof.Machine.execLockWaitTimeout s
  | .brgStart by_ ch value => Sys2Proof.Machine.execBrgStart by_ ch value s
  | .brgResume by_ ch value => Sys2Proof.Machine.execBrgResume by_ ch value s
  | .brgStop by_ ch value => Sys2Proof.Machine.execBrgStop by_ ch value s
  | .semAdd by_ ch value => Sys2Proof.Machine.execSemAdd by_ ch value s
  | .bargeNop ch => Sys2Proof.Machine.execBargeNop ch s
  | .bargeMove ch => Sys2Proof.Machine.execBargeMove ch s
  | .moveDone ch data hostFail => Sys2Proof.Machine.execMoveDone ch data hostFail s
  | .bargeLoop ch => Sys2Proof.Machine.execBargeLoop ch s
  | .bargeEndloop ch => Sys2Proof.Machine.execBargeEndloop ch s
  | .bargeWait ch => Sys2Proof.Machine.execBargeWait ch s
  | .waitSatisfied ch dt => Sys2Proof.Machine.execWaitSatisfied ch dt s
  | .waitTimeout ch => Sys2Proof.Machine.execWaitTimeout ch s
  | .bargeSignal ch => Sys2Proof.Machine.execBargeSignal ch s
  | .bargeEnd ch => Sys2Proof.Machine.execBargeEnd ch s
  | .syncSample port head sent logInterval dt => Sys2Proof.Machine.execSyncSample port head sent logInterval dt s
  | .delayResp port head remote logInterval dt => Sys2Proof.Machine.execDelayResp port head remote logInterval dt s
  | .announce port head set logInterval dt => Sys2Proof.Machine.execAnnounce port head set logInterval dt s
  | .announceTimeout port => Sys2Proof.Machine.execAnnounceTimeout port s
  | .pdelayReq port head correction dt => Sys2Proof.Machine.execPdelayReq port head correction dt s
  | .delayReqSend port => Sys2Proof.Machine.execDelayReqSend port s
  | .ptpForward port head kind correction dt => Sys2Proof.Machine.execPtpForward port head kind correction dt s
  | .ethLinkChange port up => Sys2Proof.Machine.execEthLinkChange port up s
  | .arpRequest port vlan sender target => Sys2Proof.Machine.execArpRequest port vlan sender target s
  | .neighbourSolicitation port vlan sender target => Sys2Proof.Machine.execNeighbourSolicitation port vlan sender target s
  | .timConv by_ value => Sys2Proof.Machine.execTimConv by_ value s
  | .estopDemand input => Sys2Proof.Machine.execEstopDemand input s
  | .estopRelease input => Sys2Proof.Machine.execEstopRelease input s
  | .estopDisc => Sys2Proof.Machine.execEstopDisc s
  | .crossCompare agree rbA rbB => Sys2Proof.Machine.execCrossCompare agree rbA rbB s
  | .edmCheck channel level => Sys2Proof.Machine.execEdmCheck channel level s
  | .safetyCondition source carrier die => Sys2Proof.Machine.execSafetyCondition source carrier die s
  | .graceExpiry => Sys2Proof.Machine.execGraceExpiry s
  | .safeWaitTimeout => Sys2Proof.Machine.execSafeWaitTimeout s
  | .startTestPhase readback feedback => Sys2Proof.Machine.execStartTestPhase readback feedback s
  | .watchdogExpiry => Sys2Proof.Machine.execWatchdogExpiry s
  | .paramCheck intact => Sys2Proof.Machine.execParamCheck intact s
  | .telemStale carrier die => Sys2Proof.Machine.execTelemStale carrier die s
  | .proofHoursTick => Sys2Proof.Machine.execProofHoursTick s
  | .clockWithinLimits island => Sys2Proof.Machine.execClockWithinLimits island s
  | .evtRaise by_ value => Sys2Proof.Machine.execEvtRaise by_ value s
  | .evtMaskClear by_ group value => Sys2Proof.Machine.execEvtMaskClear by_ group value s
  | .msixEnable => Sys2Proof.Machine.execMsixEnable s
  | .msixUnmask entry => Sys2Proof.Machine.execMsixUnmask entry s
  | .holdoffEnd vector => Sys2Proof.Machine.execHoldoffEnd vector s
  | .barReadTimeout by_ off => Sys2Proof.Machine.execBarReadTimeout by_ off s
  | .configRequest function off write => Sys2Proof.Machine.execConfigRequest function off write s
  | .registerWrite by_ bar4 off value be hw same => Sys2Proof.Machine.execRegisterWrite by_ bar4 off value be hw same s
  | .tapReset => Sys2Proof.Machine.execTapReset s
  | .bypass => Sys2Proof.Machine.execBypass s
  | .idcode => Sys2Proof.Machine.execIdcode s
  | .samplePreload shifted => Sys2Proof.Machine.execSamplePreload shifted s
  | .extest => Sys2Proof.Machine.execExtest s
  | .clamp => Sys2Proof.Machine.execClamp s
  | .highz => Sys2Proof.Machine.execHighz s
  | .scanExitReset => Sys2Proof.Machine.execScanExitReset s
  | .dbgAccess dr => Sys2Proof.Machine.execDbgAccess dr s
  | .dbgLock => Sys2Proof.Machine.execDbgLock s
  | .newChal => Sys2Proof.Machine.execNewChal s
  | .submit level keySel => Sys2Proof.Machine.execSubmit level keySel s
  | .challengeExpiry => Sys2Proof.Machine.execChallengeExpiry s
  | .coreHalt pair pc => Sys2Proof.Machine.execCoreHalt pair pc s
  | .coreResume pair => Sys2Proof.Machine.execCoreResume pair s
  | .coreStep pair pc => Sys2Proof.Machine.execCoreStep pair pc s
  | .breakpointHit pair index => Sys2Proof.Machine.execBreakpointHit pair index s
  | .watchpointHit pair index write addr pc => Sys2Proof.Machine.execWatchpointHit pair index write addr pc s
  | .dbgMemAccess command word mapped => Sys2Proof.Machine.execDbgMemAccess command word mapped s
  | .registerRead by_ bar4 off => Sys2Proof.Machine.execRegisterRead by_ bar4 off s

end Sys2Proof.Machine
end

