-- ==== Sys2Proof/Machine/Step.lean ====
section
/-! DEFINITION. One step of the block: the command at the front of the queue, or with none waiting one timebase cycle. -/

namespace Sys2Proof.Machine

open Sys2Proof

/-- The state with the command a word spells at the front of the queue; unchanged where the word spells none. -/
def State.withFetchWord (s : State) (nbits w : Nat) : State :=
  match decodeTableWord nbits w with
  | some c => { s with pending := c :: s.pending }
  | none => s

/-- One step: the front command acts on the state with the queue's rest; on an empty queue one timebase cycle passes and WEB_READY
is what the web makes it (log entries 14 and 23). -/
def step (s : State) : Host.Outcome State Fault Refusal :=
  match s.pending with
  | [] => .next (s.tick 1).samplePins
  | c :: rest => exec c { s with pending := rest }

end Sys2Proof.Machine
end

