-- ==== Sys2Proof/Safety.lean ====
section
/-! DEFINITION. What claims about the block are stated in: the gate of the fire-energy outputs, a command's completion, and a
command that its route brings and whose checks pass. -/

namespace Sys2Proof.Machine

open Sys2Proof

/-- R436: each fire-energy output that is high may be high: the safety island is satisfied and the mode permits it. While FIR stops
for a condition the outputs follow R444 instead. -/
def State.Gated (s : State) : Prop :=
  s.saf.stopping = false →
    (s.flag SAF_STAT_EN_A = true → s.wanted.1 = true) ∧ (s.flag SAF_STAT_EN_B = true → s.wanted.2 = true)

/-- A command completes: it answers a next state, of which `P` holds. -/
def Completes (c : Instr) (s : State) (P : State → Prop) : Prop := ∃ t, exec c s = .next t ∧ P t

/-- The state a command answers; the state as it was where it answers none. -/
def after (c : Instr) (s : State) : State :=
  match exec c s with
  | .next t => t
  | .fault _ => s
  | .refused _ => s

/-- The commands of a list taken one after another, each with those behind it still waiting. -/
def runCommands : List Instr → State → State
  | [], s => s
  | c :: rest, s => runCommands rest (after c { s with pending := s.pending.drop 1 })

/-- The route of a packet brings it to the chip, and it passes every check of R98. -/
def State.Takes (s : State) (o : Op) (p : Packet) : Prop := s.open_ p.route = true ∧ s.check o p = none

/-- The packet is one the chip takes, and its goal does not hold already (R100). -/
def State.Acts (s : State) (o : Op) (p : Packet) : Prop := s.Takes o p ∧ o.same s p.params = false

/-- An opcode with every parameter block taken for good: its checks but the one of its parameters. -/
def Op.anyParams (o : Op) : Op := { o with params := fun _ _ => none }

/-- What a request done at once leaves: `t` is the state its effect leaves, answered OK with the data `d`, the mode and rights those
of its check on `s` (R85, R99). -/
def State.answered (s : State) (o : Op) (p : Packet) (d : List Byte) (t : State) : Host.Outcome State Fault Refusal :=
  s.done (t.answer p.route none (s.replyTo o.code o.legal p .ok 0 false d))

/-- What a request that completes later leaves: `t` is the state with the request pending and its effect begun, answered ACCEPTED. -/
def State.accepted (s : State) (o : Op) (p : Packet) (t : State) : Host.Outcome State Fault Refusal :=
  s.done (t.answer p.route none (s.replyTo o.code o.legal p .accepted 0 false []))

/-- Nothing stands against a write of the register at an offset (R11, R28, R393, R468, R499): it takes effect. -/
def State.Lands (s : State) (by_ : By) (off : Nat) : Prop :=
  s.reaches by_ = true ∧ (rowOf off).isSome = true ∧ (s.keeperRights by_ || crewSees off) = true ∧ s.runs (islandOf off) = true
    ∧ fwDenied by_ off = false ∧ s.debugReaches off true = true

/-- Channel n is in RUN on an instruction of this opcode that is well formed (R397). -/
def State.Executes (s : State) (n op : Nat) : Prop :=
  s.runs 3 = true ∧ s.bargeState n = 1 ∧ (s.barge n).moving = false
    ∧ bits (s.bargeWord n (s.bargePc n) 0) 0 4 = op
    ∧ bargeValid (s.bargeWord n (s.bargePc n) 0) (s.bargeWord n (s.bargePc n) 1) (s.bargeWord n (s.bargePc n) 2)
      (s.bargeWord n (s.bargePc n) 3) = true

/-- The rows of the opcode table (R105), each constructor with its opcode. -/
def commandRows : List ((Packet → Instr) × Op) :=
  [(.queryState, opQueryState), (.getEvents, opGetEvents), (.setMode, opSetMode), (.clearSafe, opClearSafe), (.resetCmd,
      opReset), (.islandReset, opIslandReset), (.bootJournalRead, opBootJournalRead), (.bootJournalClear,
      opBootJournalClear), (.netKeySet, opNetKeySet), (.startJob, opStartJob), (.stopPrint, opStopPrint), (.jobDefine,
      opJobDefine), (.pageQueue, opPageQueue)]
    ++ [(.pageReprint, opPageReprint), (.jobCancel, opJobCancel), (.jobStatus, opJobStatus), (.nozzleRead, opNozzleRead),
      (.nozzleWrite, opNozzleWrite), (.nozzleSetState, opNozzleSetState), (.nozzleSummary, opNozzleSummary), (.calStart,
      opCalStart), (.calAbort, opCalAbort), (.calTableWrite, opCalTableWrite), (.calTableRead, opCalTableRead),
      (.calReferenceSet, opCalReferenceSet), (.temperPolicy, opTemperPolicy)]
    ++ [(.camDiscover, opCamDiscover), (.camSettings, opCamSettings), (.insDefectsRead, opInsDefectsRead), (.insConfig,
      opInsConfig), (.pwrStatus, opPwrStatus), (.railSetpoint, opRailSetpoint), (.supplyBudget, opSupplyBudget),
      (.wearReport, opWearReport), (.timeStatus, opTimeStatus), (.timeAcceptJump, opTimeAcceptJump), (.timeConfig,
      opTimeConfig), (.fireInhibit, opFireInhibit), (.safetyStatus, opSafetyStatus)]
    ++ [(.proofTest, opProofTest), (.safetyParamLoad, opSafetyParamLoad), (.linkStatus, opLinkStatus), (.laneRetrain,
      opLaneRetrain), (.prbsControl, opPrbsControl), (.linkErrInject, opLinkErrInject), (.getAttestation, opGetAttestation),
      (.getCertificate, opGetCertificate), (.extendMeasurement, opExtendMeasurement), (.ackMeasurement, opAckMeasurement),
      (.fwLoadBegin, opFwLoadBegin), (.fwLoadData, opFwLoadData), (.fwLoadEnd, opFwLoadEnd)]

/-- Registers of a block at offsets lo to hi − 1, the event registers and SAF_STAT aside, every register reads as before. -/
def SameOutside (lo hi : Nat) (s t : State) : Prop :=
  ∀ a, ¬(lo ≤ a ∧ a < hi) → ¬(0x20000 ≤ a ∧ a < 0x40000) → a ≠ SAF_STAT → t.reg a = s.reg a

end Sys2Proof.Machine
end

