-- ==== Sys2Proof/Certificates/Slice0/Obligations.lean ====
section
/-! DEFINITION. The statements for the provers. `exec c s = s.done t` says that the command completes: `t` is its effect on `s`, after
which the output gate of R436 acts and the queue is as it was; what `t` names besides `s` is all that the command changes. -/

section

open Sys2Proof Sys2Proof.Machine

/-! ## The block as a machine -/

/-- A step takes the command at the front of the queue and runs it on the state with the queue's rest; on an empty queue one
timebase cycle passes and the level of WEB_READY is sampled (the model's choice: log entries 14 and 23). -/
def Obligations.StepTakesFrontCommand : Prop :=
  (∀ (s : State) (c : Instr) (rest : List Instr), s.pending = c :: rest → step s = exec c { s with pending := rest })
  ∧ (∀ s : State, s.pending = [] → step s = .next (s.tick 1).samplePins)

/-- Every command answers a next state, on every state, and leaves the queue as it found it. -/
def Obligations.EveryCommandAnswersANextState : Prop :=
  ∀ (c : Instr) (s : State), ∃ t, exec c s = .next t ∧ t.pending = s.pending

/-- Steps take waiting commands first in, first out: as many steps as a list of commands at the front of the queue is long run
exactly these, in their order, and leave those behind them waiting. -/
def Obligations.QueueRunsInOrder : Prop :=
  ∀ (s : State) (l later : List Instr), s.pending = l ++ later →
    core.run l.length s = .next (runCommands l s) ∧ (runCommands l s).pending = later

/-- The gate of the fire-energy outputs is kept by every step (R49, R358, R436, R439): from any state in which each output that
is high may be high, every step leads to such a state. -/
def Obligations.GateIsKept : Prop :=
 ∀ s t : State, s.Gated → step s = .next t → t.Gated

/-- Fire energy only where it is permitted (R49, R358, R436): after any command, from any state, an output is high only if no
cause of Safe is present, both filtered emergency-stop inputs are high, there is no lockout and no discrepancy, and the mode is
one of Warm, Prime, Print, Degraded, Drain and Calibrate, or a change to Warm is in progress, and none to Safe. While the
outputs follow the stop of R444 it says nothing. -/
def Obligations.FireEnergyOnlyWherePermitted : Prop :=
  ∀ (c : Instr) (s t : State), exec c s = .next t → t.saf.stopping = false → t.flag SAF_STAT_EN_A = true ∨ t.flag SAF_STAT_EN_B = true →
    t.get SYS_SAFE_CAUSE_PRESENT = 0 ∧ t.saf.okA = true ∧ t.saf.okB = true ∧ t.flag SAF_STAT_LOCKOUT = false
      ∧ t.flag SAF_FAULT_ESTOP_DISC = false ∧ t.saf.disagree = 0
      ∧ (t.flag SAF_STAT_START_OK = true ∨ t.saf.test ≠ 0)
      ∧ ((5 ≤ t.modeCode ∧ t.modeCode ≤ 9) ∨ t.modeCode = 11 ∨ t.changingTo 5 = true) ∧ t.changingTo 2 = false

/-- Right after a cold reset (R8, R48, R64, R81, R349, R473): the chip is in Boot with AON, SAF and CTL clocked, both outputs
low, no event and no command waiting, each shadow set shows its KIND and each lock its rank, and registers read the value of
their Reset column. -/
def Obligations.ResetState : Prop :=
  State.reset.Gated ∧ State.reset.pending = [] ∧ State.reset.modeCode = 1 ∧ State.reset.running = 0x007
  ∧ State.reset.flag SAF_STAT_EN_A = false ∧ State.reset.flag SAF_STAT_EN_B = false ∧ State.reset.evt.log = []
  ∧ State.reset.reg SYS_ID = 0x0848B000#32 ∧ State.reset.get INS_WEAR_LIMIT = 1220703 ∧ State.reset.get DBG_STAT_LEVEL = 0
  ∧ (∀ (b : ShdBlk) (n : Nat), n < shdCount b → State.reset.get ⟨shdStat b n, 24, 3⟩ =
      match b with
      | .arb => 6
      | .cam => if n < 16 then 5 else 3
      | _ => 3)
  ∧ (∀ i : Fin 32, State.reset.get (ARB_LK_STAT_RANK i.val) = lockRank i.val ∧ State.reset.flag (ARB_LK_STAT_HELD i.val) = false)
  ∧ (∀ (off : Nat) (r : RegRow), rowOf off = some r →
      off < 0x30000 ∨ (0x40000 ≤ off ∧ off < 0x80000) ∨ (0x100000 ≤ off ∧ off < 0x180000) ∨ (0x240000 ≤ off ∧ off < 0x280000)
        ∨ (0x2C0000 ≤ off ∧ off < 0x300000) ∨ 0x340000 ≤ off →
      State.reset.reg off = BitVec.ofNat 32 r.reset)

/-! ## Commands in general -/

/-- What every opcode of R105 has in common (R86, R89, R93, R95, R98, R100): a packet that its route does not bring changes
nothing; one that fails a check is answered with the first failure and changes nothing but by its answer, a full table apart
(R196); one whose goal holds already is answered OK with NO_CHANGE and changes nothing else. -/
def Obligations.CommandChecks : Prop :=
  ∀ q ∈ commandRows, ∀ (s : State) (p : Packet),
    (s.open_ p.route = false → exec (q.1 p) s = s.done s)
    ∧ (∀ (st : Status) (d : Nat), s.open_ p.route = true → s.check q.2 p = some (st, d) → ¬(st = .noResource ∧ d = 2) →
        exec (q.1 p) s = s.done (s.answer p.route none (s.replyTo q.2.code q.2.legal p st d false [])))
    ∧ (s.Takes q.2 p → q.2.same s p.params = true →
        exec (q.1 p) s = s.done (s.answer p.route none (s.replyTo q.2.code q.2.legal p .ok 0 true [])))

/-- The first failure, in the order of R98: the length and the CHECK come before the route and the rights, those before the
parameters, and those before the mode. -/
def Obligations.ChecksInOrder : Prop :=
  ∀ (s : State) (o : Op) (p : Packet),
    (packetFormed p = false → s.check o p = some (.badLength, 1))
    ∧ (packetFormed p = true → p.check ≠ packetCrc p o.code → s.check o p = some (.badCheck, 0))
    ∧ (packetFormed p = true → p.check = packetCrc p o.code → s.sys.rom = false →
        ((ringOf p.route = none ∧ o.code ∉ plainOps → s.check o p = some (.badOpcode, 1))
        ∧ (((ringOf p.route).isSome = true ∨ o.code ∈ plainOps) → o.keeper = true → p.route ≠ .keeper →
            s.check o p = some (.viewDenied, 0))))
    ∧ (s.check o p = none → packetFormed p = true ∧ p.check = packetCrc p o.code ∧ o.fits p.params = true ∧ p.flags = 0
        ∧ o.params s p.params = none ∧ o.legal.testBit s.modeCode = true
        ∧ (o.keeper = true → s.rights p.route = true)
        ∧ (s.cmd.table.any fun c => c.tag = p.tag && c.session = p.session) = false)

/-- R87: an opcode not accepted on its route is answered BAD_OPCODE with DETAIL 1, and has no other effect. On a ring every
opcode is accepted (R86); elsewhere those four of R86. The premises are the checks of R98 before the route, and that the
firmware serves the routes (the boot ROM's recovery subset is R107's). -/
def Obligations.RouteRefusals : Prop :=
  ∀ q ∈ commandRows, ∀ (s : State) (p : Packet), s.open_ p.route = true → s.sys.rom = false → packetFormed p = true →
    p.check = packetCrc p q.2.code → ringOf p.route = none → q.2.code ∉ [0x0100, 0x0101, 0x0201, 0x0800] →
    exec (q.1 p) s = s.done (s.answer p.route none (s.replyTo q.2.code q.2.legal p .badOpcode 1 false []))

/-! ## Registers -/

/-- A write of a register of INS or CAL follows its access codes (R7, R9, R10): each RW bit takes the value written, each W1C
bit written 1 clears unless hardware sets it in that cycle, and every other bit keeps its value. -/
def Obligations.RegisterWritesFollowTheirCodes : Prop :=
  ∀ (s : State) (by_ : By) (off : BitVec 25) (r : RegRow) (v hw : Word) (same : Bool), off.toNat % 4 = 0 → 0x2C0000 ≤ off.toNat →
    off.toNat < 0x340000 → rowOf off.toNat = some r → s.Lands by_ off.toNat → s.writeHeld off.toNat = false →
    Completes (.registerWrite by_ false off v 0xF hw same) s fun t => ∀ i : Fin 32,
      (t.reg off.toNat).getLsbD i.val =
        if r.w1c.testBit i.val && hw.getLsbD i.val then true
        else if r.rw.testBit i.val then v.getLsbD i.val
        else if r.w1c.testBit i.val && v.getLsbD i.val then false
        else (s.reg off.toNat).getLsbD i.val

/-- Accesses that reach no register (R11, R28, R47, R110, R456, R499): an unmapped offset reads 0, and the access is counted; a
crew-view write of a K register is discarded, counted in CMD_CREW_DENY, latched and reported by vector 36, and its read returns
0; a register of an island in reset reads all ones, and the access is counted; without HST nothing reaches the chip, and while
Memory Space Enable is 0 a host request is answered UR. -/
def Obligations.DiscardedAccesses : Prop :=
  (∀ (s : State) (crew : Bool) (off : BitVec 25) (v hw : Word) (same : Bool), off.toNat % 4 = 0 → s.runs 3 = true →
      s.memEnabled = true → rowOf off.toNat = none →
    let b : By := if crew then .crew else .keeper
    exec (.registerWrite b false off v 0xF hw same) s = s.done (s.countAccess HST_ACC_ERR_1_UNMAPPED crew off.toNat)
    ∧ exec (.registerRead b false off) s =
        s.done ((s.countAccess HST_ACC_ERR_1_UNMAPPED crew off.toNat).emit (.readData off.toNat 0)))
  ∧ (∀ (s : State) (off : BitVec 25) (v hw : Word) (same : Bool), off.toNat % 4 = 0 → s.runs 3 = true →
      s.memEnabled = true → (rowOf off.toNat).isSome = true → crewSees off.toNat = false →
    exec (.registerWrite .crew false off v 0xF hw same) s = s.done
        (((s.incSat CMD_CREW_DENY_COUNT).setReg CMD_CREW_DENY_ADDR (BitVec.ofNat 32 off.toNat)).raise 36)
    ∧ exec (.registerRead .crew false off) s = s.done (s.emit (.readData off.toNat 0)))
  ∧ (∀ (s : State) (crew : Bool) (off : BitVec 25) (v hw : Word) (same : Bool), off.toNat % 4 = 0 → s.runs 3 = true →
      s.memEnabled = true → (rowOf off.toNat).isSome = true → (crew = true → crewSees off.toNat = true) → s.runs (islandOf off.toNat) = false →
    let b : By := if crew then .crew else .keeper
    exec (.registerWrite b false off v 0xF hw same) s = s.done (s.countAccess HST_ACC_ERR_1_RESET_ISL crew off.toNat)
    ∧ exec (.registerRead b false off) s =
        s.done ((s.countAccess HST_ACC_ERR_1_RESET_ISL crew off.toNat).emit (.readData off.toNat 0xFFFFFFFF#32)))
  ∧ (∀ (s : State) (crew : Bool) (off : BitVec 25) (v hw : Word) (be : BitVec 4) (same : Bool), s.runs 3 = false →
    let b : By := if crew then .crew else .keeper
    exec (.registerWrite b false off v be hw same) s = s.done s ∧ exec (.registerRead b false off) s = s.done s)
  ∧ (∀ (s : State) (crew : Bool) (off : BitVec 25) (v hw : Word) (be : BitVec 4) (same : Bool), s.runs 3 = true →
      s.memEnabled = false →
    let b : By := if crew then .crew else .keeper
    exec (.registerWrite b false off v be hw same) s = s.done s
    ∧ exec (.registerRead b false off) s = s.done (s.emit (.unsupported (off.toNat / 4 * 4))))

/-- R464: clearing an EVT_PEND bit removes no record, a raise in the cycle of a W1C to the same bit leaves it set, and EVT_RAISE
raises any vector as a test, with SOURCE_DETAIL 0xFFFF and DATA 0. -/
def Obligations.EventTestRules : Prop :=
  (∀ (s : State) (by_ : By) (g : Fin 8) (v hw : Word) (same : Bool), s.Lands by_ (EVT_PEND g.val) →
    Completes (.registerWrite by_ false (BitVec.ofNat 25 (EVT_PEND g.val)) v 0xF hw same) s fun t =>
      t.evt.log = s.evt.log ∧ t.reg (EVT_PEND g.val) = (s.reg (EVT_PEND g.val) &&& ~~~v) ||| hw)
  ∧ (∀ (s : State) (by_ : By) (v : Word), s.Lands by_ EVT_RAISE → v.getLsbD 8 = true →
    Completes (.evtRaise by_ v) s fun t =>
      t.flag (pendBit (bits v 0 8)) = true
      ∧ (⟨BitVec.ofNat 8 (bits v 0 8), 0xFFFF, 0, 0, s.now⟩ : EventRec) ∈ t.evt.log
      ∧ (s.evt.log.length < 4096 → t.evt.log = s.evt.log ++ [⟨BitVec.ofNat 8 (bits v 0 8), 0xFFFF, 0, 0, s.now⟩]))

/-- R386: a request for a lock whose rank is at or below that of a lock the requester already holds on the same arbiter is
refused at once with LOCK_ORDER and vector 241, and changes no lock; one refused for no rank on its own arbiter is never so
refused, whatever it holds on the others. -/
def Obligations.LockRanks : Prop :=
  (∀ (s : State) (by_ : By) (v : Word) (j : Fin 32), s.Lands by_ ARB_HL_REQ → bits v 4 4 ≠ 0 →
      s.lockWaits (hostReq (bits v 4 4)) = false →
      (s.lock j.val).holder = some (hostReq (bits v 4 4)) → lockArbiter j.val = lockArbiter (16 + bits v 0 4) →
      lockRank (16 + bits v 0 4) ≤ lockRank j.val →
    Completes (.hlAcquire by_ v) s fun t => t.get (ARB_HL_OWN_RESULT (bits v 4 4)) = 3 ∧ t.flag (pendBit 241) = true
      ∧ t.arb.locks = s.arb.locks)
  ∧ (∀ (s : State) (by_ : By) (v : Word), s.Lands by_ ARB_HL_REQ → bits v 4 4 ≠ 0 → s.lockWaits (hostReq (bits v 4 4)) = false →
      (∀ j : Fin 32, (s.lock j.val).holder = some (hostReq (bits v 4 4)) → lockArbiter j.val = lockArbiter (16 + bits v 0 4) →
        lockRank j.val < lockRank (16 + bits v 0 4)) →
    Completes (.hlAcquire by_ v) s fun t => t.get (ARB_HL_OWN_RESULT (bits v 4 4)) ≤ 2)

/-! ## Frames -/

/-- What a command leaves alone. A read by command, its answer by a ring or the towpath aside, changes no page, nozzle, lock,
lane, camera, calibration, power, safety parameter or time, and no register outside CMD. The lock commands change no register
outside ARB, the control instructions of a barge program and SEM none outside BRG, the debug commands none outside DBG, the wear
commands none outside PWR: the event registers and SAF_STAT aside. -/
def Obligations.RegisterFrames : Prop :=
  (∀ q ∈ [((.queryState : Packet → Instr), opQueryState), (.bootJournalRead, opBootJournalRead), (.jobStatus, opJobStatus),
        (.nozzleRead, opNozzleRead), (.nozzleSummary, opNozzleSummary), (.calTableRead, opCalTableRead),
        (.insDefectsRead, opInsDefectsRead), (.pwrStatus, opPwrStatus), (.wearReport, opWearReport), (.timeStatus, opTimeStatus),
        (.safetyStatus, opSafetyStatus), (.linkStatus, opLinkStatus), (.getAttestation, opGetAttestation),
        (.getCertificate, opGetCertificate)],
    ∀ (s : State) (p : Packet),
    Completes (q.1 p) s fun t => SameOutside 0x10000 0x20000 s t ∧ t.pnd = s.pnd ∧ t.asm = s.asm ∧ t.ins = s.ins ∧ t.cal = s.cal
      ∧ t.cam = s.cam ∧ t.jgl = s.jgl ∧ t.fir = s.fir ∧ t.pos = s.pos ∧ t.pwr = s.pwr ∧ t.arb = s.arb ∧ t.brg = s.brg ∧ t.ing = s.ing
      ∧ t.tim = s.tim ∧ t.sys = s.sys ∧ t.dbg = s.dbg ∧ t.flash = s.flash ∧ t.active = s.active ∧ t.shadows = s.shadows
      ∧ t.saf.params = s.saf.params)
  ∧ (∀ (s : State) (by_ : By) (v : Word), s.Lands by_ ARB_HL_REQ → (∀ i : Fin 32, ∀ r ∈ (s.lock i.val).waiters, r.id < 16) →
    ∀ c ∈ [Instr.hlAcquire by_ v, .hlRelease by_ v, .hlRepaired by_ v],
    Completes c s fun t => SameOutside 0xC0000 0x100000 s t ∧ t.active = s.active ∧ t.brg = s.brg ∧ t.cmd = s.cmd)
  ∧ (∀ (s : State) (n : Fin 32), ∀ c ∈ [Instr.bargeNop n, .bargeLoop n, .bargeEndloop n, .bargeEnd n],
    Completes c s fun t => SameOutside 0x80000 0xC0000 s t ∧ t.arb = s.arb ∧ t.cmd = s.cmd ∧ t.pnd = s.pnd)
  ∧ (∀ (s : State) (by_ : By) (n : Fin 32) (v : Word), s.Lands by_ (BRG_CH_SEM_ADD n.val) →
    Completes (.semAdd by_ n v) s fun t => ∀ a, a ≠ BRG_CH_SEM n.val → a ≠ SAF_STAT → t.reg a = s.reg a)
  ∧ (∀ (s : State) (p : Fin 2) (pc : Word), s.dbg.scan = false →
    ∀ c ∈ [Instr.dbgLock, .newChal, .challengeExpiry, .coreHalt p pc, .coreStep p pc, .tapReset, .idcode, .bypass],
    s.Lands .debug DBG_CTL → s.Lands .debug (DBG_CORE_CTL p.val) →
    Completes c s fun t => SameOutside 0x400000 0x800000 s t ∧ t.cmd = s.cmd ∧ t.sys = s.sys ∧ t.active = s.active)
  ∧ (∀ (s : State) (rings : List (Nat × Nat)) (core sram : BitVec 24) (ok : Bool), s.runs 0 = true →
    ∀ c ∈ [Instr.wearUpdate rings core sram, .wearMirror ok],
    Completes c s fun t => SameOutside 0x340000 0x380000 s t ∧ t.cmd = s.cmd ∧ t.active = s.active)

/-- What a write into an addressed buffer leaves alone (R91, R315): a write to the towpath mailbox changes the enabled bytes of
its one word, in a slot's packet area alone; a write of a calibration table changes, when it is handed over, the bytes of its
range alone. -/
def Obligations.BufferFrames : Prop :=
  (∀ (s : State) (crew : Bool) (off : BitVec 25) (v hw : Word) (be : BitVec 4) (same : Bool), s.runs 3 = true → s.memEnabled = true →
      off.toNat % 4 = 0 → off.toNat < 0x800 →
    Completes (.registerWrite (if crew then .crew else .keeper) true off v be hw same) s fun t =>
      (∀ a, a ≠ off.toNat → t.cmd.slots.get (fun _ => 0) a = s.cmd.slots.get (fun _ => 0) a)
      ∧ (∀ i : Fin 32, (t.cmd.slots.get (fun _ => 0) off.toNat).getLsbD i.val =
          if off.toNat % 0x100 < 0x80 && be.getLsbD (i.val / 8) then v.getLsbD i.val
          else (s.cmd.slots.get (fun _ => 0) off.toNat).getLsbD i.val)
      ∧ (∀ a, a ≠ SAF_STAT → t.reg a = s.reg a))
  ∧ (∀ (s : State) (p : Packet), s.Acts opCalTableWrite p → s.cal.staged = [] →
    Completes (.calTableWrite p) s fun t => t.cal.tables = s.cal.tables
      ∧ ∀ (id i : Nat), (t.handTables.calTable id)[i]? =
          if id = field p.params 0 2 ∧ field p.params 4 4 ≤ i ∧ i < field p.params 4 4 + (p.params.length - 8)
              ∧ i < (s.calTable id).length then p.params[i - field p.params 4 4 + 8]?
          else (s.calTable id)[i]?)

/-! ## Command packets, class by class (R105) -/

/-- SET_MODE, CLEAR_SAFE, RESET and ISLAND_RESET complete their acceptance (R59, R60, R62, R105, R446): the mode change begins,
on the way to Warm with the start test and on the way from Warm with the carriers switched off; a reset follows its ACCEPTED
reply. -/
def Obligations.ModeAndResetCommandsComplete : Prop :=
  (∀ (s : State) (p : Packet), s.Acts opSetMode p → field p.params 0 1 = 5 →
    exec (.setMode p) s = s.accepted opSetMode p (((s.pend opSetMode p).beginChange 5).startTest))
  ∧ (∀ (s : State) (p : Packet), s.Acts opSetMode p → field p.params 0 1 ≠ 5 → s.modeCode ≠ 5 →
    exec (.setMode p) s = s.accepted opSetMode p ((s.pend opSetMode p).beginChange (field p.params 0 1)))
  ∧ (∀ (s : State) (p : Packet), s.Acts opSetMode p → field p.params 0 1 ≠ 5 → s.modeCode = 5 →
    exec (.setMode p) s = s.accepted opSetMode p
      (((s.pend opSetMode p).beginChange (field p.params 0 1)).disableAll.tryChange))
  ∧ (∀ (s : State) (p : Packet), s.Acts opClearSafe p →
    exec (.clearSafe p) s = s.accepted opClearSafe p
      (((((s.pend opClearSafe p).putFlag SAF_FAULT_WATCHDOG false).putFlag SAF_FAULT_DIE_TRIP false).putFlag
        SAF_FAULT_TELEM_STALE false).beginChange 3))
  ∧ (∀ (s : State) (p : Packet), s.Acts opReset p → field p.params 0 1 = 1 →
    exec (.resetCmd p) s =
      s.done ((s.answer p.route none (s.replyTo 0x0104 classN p .accepted 0 false [])).warmReset 2))
  ∧ (∀ (s : State) (p : Packet), s.Acts opReset p → field p.params 0 1 = 2 →
    exec (.resetCmd p) s =
      s.done ((s.answer p.route none (s.replyTo 0x0104 classN p .accepted 0 false [])).coldReset 1))
  ∧ (∀ (s : State) (p : Packet), s.Acts opIslandReset p →
    exec (.islandReset p) s =
      s.done ((((s.pend opIslandReset p).answer p.route none (s.replyTo 0x0105 classN p .accepted 0 false [])).resetIsland
        (field p.params 0 1)).resolveIf 0x0105 (fun c => c.arg = field p.params 0 1) .ok 0))

/-- QUERY_STATE and GET_EVENTS complete (R105, R106): the first answers the state of the chip and changes nothing else; the
second answers the oldest records of the event log, as many as asked for and as its route carries, and takes them out of the
log. BOOT_JOURNAL_READ, BOOT_JOURNAL_CLEAR, NET_KEY_SET, EXTEND_MEASUREMENT, ACK_MEASUREMENT, GET_ATTESTATION and
GET_CERTIFICATE complete (R74, R76 to R79, R97, R105). -/
def Obligations.StateJournalAndMeasurementCommandsComplete : Prop :=
  ((∀ (s : State) (p : Packet), s.Acts opQueryState p →
    exec (.queryState p) s = s.answered opQueryState p (s.queryData (s.rights p.route)) s)
  ∧ (∀ (s : State) (p : Packet), s.Acts opGetEvents p →
    let n := min (field p.params 0 2) (eventLimit p.route)
    exec (.getEvents p) s = s.answered opGetEvents p
      (leBytes 2 (s.evt.log.take n).length ++ leBytes 2 (s.evt.log.drop n).length ++ (s.evt.log.take n).flatMap EventRec.bytes)
      ({ s with evt := { s.evt with log := s.evt.log.drop n } }.put EVT_LOG_STAT_COUNT (s.evt.log.drop n).length)))
  ∧ ((∀ (s : State) (p : Packet), s.Acts opBootJournalRead p →
    exec (.bootJournalRead p) s = s.answered opBootJournalRead p
      (s.regBytes PWR_BJ_HDR ++ (List.range 16).flatMap fun i => s.regBytes (PWR_BJ_ENTRY (i + 1))) s)
  ∧ (∀ (s : State) (p : Packet), s.Acts opBootJournalClear p →
    exec (.bootJournalClear p) s = s.answered opBootJournalClear p [] s.clearJournal)
  ∧ (∀ (s : State) (p : Packet), s.Acts opNetKeySet p →
    exec (.netKeySet p) s = s.answered opNetKeySet p []
      { s with cmd := { s.cmd with keys := s.cmd.keys.set (field p.params 0 1)
                                      ⟨if (p.params.drop 4).all (fun b => b = 0) then [] else p.params.drop 4, 0, 1⟩ } })
  ∧ (∀ (s : State) (p : Packet), s.Acts opExtendMeasurement p →
    exec (.extendMeasurement p) s = s.answered opExtendMeasurement p [] (s.extend 7 p.params))
  ∧ (∀ (s : State) (p : Packet), s.Acts opAckMeasurement p →
    exec (.ackMeasurement p) s = s.answered opAckMeasurement p [] (s.putFlag SYS_BOOT_STAT_ACKED true))
  ∧ (∀ (s : State) (p : Packet), s.Acts opGetAttestation p →
    exec (.getAttestation p) s = s.answered opGetAttestation p (s.attestation p.params) s)
  ∧ (∀ (s : State) (p : Packet), s.Acts opGetCertificate.anyParams p →
    exec (.getCertificate p) s = (Config.certificate (field p.params 0 1)).elim
      (s.done (s.answer p.route none (s.replyTo 0x0A01 classI p .badParam 0 false [])))
      fun c => s.answered opGetCertificate p (c.take 4072) s))

/-- FW_LOAD_BEGIN, FW_LOAD_DATA, FW_LOAD_END, TIME_STATUS, TIME_ACCEPT_JUMP and TIME_CONFIG complete (R105, R422, R429, R430).
-/
def Obligations.FirmwareLoadAndTimeCommandsComplete : Prop :=
  (∀ (s : State) (p : Packet), s.Acts opFwLoadBegin p →
    exec (.fwLoadBegin p) s = s.answered opFwLoadBegin p []
      { s with cmd := { s.cmd with
          fwCopy := some (BitVec.ofNat 8 (field p.params 0 1)), fwSize := field p.params 4 4, fwData := [], fwClosed := false } })
  ∧ (∀ (s : State) (p : Packet), s.Acts opFwLoadData p → s.cmd.fwCopy.isSome →
    exec (.fwLoadData p) s = s.answered opFwLoadData p []
      { s with cmd := { s.cmd with fwData := (List.range (p.params.drop 4).length).foldl (fun (m : Sparse) i =>
          m.set (fun _ => 0) (field p.params 0 4 + i) (((p.params.drop 4).getD i 0).setWidth 32)) s.cmd.fwData } })
  ∧ (∀ (s : State) (p : Packet), s.Acts opFwLoadData p → s.cmd.fwCopy = none →
    exec (.fwLoadData p) s = s.answered opFwLoadData p [] s)
  ∧ (∀ (s : State) (p : Packet), s.Acts opFwLoadEnd p →
    exec (.fwLoadEnd p) s = s.accepted opFwLoadEnd p
      (let t := s.pend opFwLoadEnd p
       if (ringOf p.route).isSome then t else { t with cmd := { t.cmd with fwClosed := true } }))
  ∧ (∀ (s : State) (p : Packet), s.Acts opTimeStatus p →
    exec (.timeStatus p) s = s.answered opTimeStatus p s.timeData s)
  ∧ (∀ (s : State) (p : Packet), s.Acts opTimeAcceptJump p →
    exec (.timeAcceptJump p) s = s.accepted opTimeAcceptJump p
      ((s.pend opTimeAcceptJump p).putFlag TIM_STAT_ACCEPT_PENDING true))
  ∧ (∀ (s : State) (p : Packet), s.Acts opTimeConfig p → s.runs 11 = true →
    exec (.timeConfig p) s = s.answered opTimeConfig p [] (s.writeTim (timeEntries p.params)))
  ∧ (∀ (s : State) (p : Packet), s.Acts opTimeConfig p → s.runs 11 = false →
    exec (.timeConfig p) s = s.answered opTimeConfig p [] s)

/-- START_JOB, STOP_PRINT, JOB_DEFINE, PAGE_QUEUE, PAGE_REPRINT, JOB_CANCEL and JOB_STATUS complete (R53, R104, R109, R119,
R120, R174, R496, R497). -/
def Obligations.JobAndPageCommandsComplete : Prop :=
  (∀ (s : State) (p : Packet) (j : Job), s.Acts opStartJob p → s.job? (jobIdOf p.params) = some j → s.modeCode = 5 →
    let u := ((s.pend opStartJob p).openJob j).primeChannels j.mask
    exec (.startJob p) s = s.accepted opStartJob p
      (if u.flag FIR_STAT_RUNNING && u.fir.lpi600 ≠ j.lpi600 then { u with fir := { u.fir with restart := some (jobIdOf p.params) } }
       else u.startJobRun (jobIdOf p.params)))
  ∧ (∀ (s : State) (p : Packet) (j : Job), s.Acts opStartJob p → s.job? (jobIdOf p.params) = some j → s.modeCode ≠ 5 →
    let u := ((s.pend opStartJob p).openJob j).primeChannels j.mask
    exec (.startJob p) s = s.accepted opStartJob p
      (if u.fir.waiting.isSome || u.fir.restart.isSome then { u with fir := { u.fir with later := u.fir.later ++ [jobIdOf p.params] } }
       else (u.enterChannels.layOut (jobIdOf p.params)).dueNow.openLines))
  ∧ (∀ (s : State) (p : Packet), s.Acts opStopPrint p →
    exec (.stopPrint p) s = s.accepted opStopPrint p ((s.pend opStopPrint p).stopPrint 4 false))
  ∧ (∀ (s : State) (p : Packet), s.Acts opJobDefine p →
    let old := s.job? (jobIdOf p.params)
    let j : Job :=
      { id := BitVec.ofNat 16 (field p.params 0 2), mask := BitVec.ofNat 8 (field p.params 2 1)
        flags := BitVec.ofNat 8 (field p.params 3 1), maxLines := field p.params 4 4, gap := field p.params 8 4
        depth := field p.params 12 1, closed := (old.map fun j => j.closed).getD false
        running := (old.map fun j => j.running).getD false, went := (old.map fun j => j.went).getD false, nFired := 0
        nInspected := 0, nDefective := 0 }
    exec (.jobDefine p) s = s.answered opJobDefine p []
      { s with pnd := { s.pnd with jobs :=
          if old.isSome then s.pnd.jobs.map fun x => if x.id = j.id then j else x else s.pnd.jobs ++ [j] } })
  ∧ (∀ (s : State) (p : Packet) (j : Job), s.Acts opPageQueue p → s.job? (jobIdOf p.params) = some j →
    let name := BitVec.ofNat 32 (field p.params 4 4)
    let q := s.takeBlocks (tableBlocksOf j (field p.params 8 4))
    exec (.pageQueue p) s = s.answered opPageQueue p []
      ({ q.2 with pnd := { q.2.pnd with pages := q.2.pnd.pages ++
          [newPage (s.freshKey name) name j.id (field p.params 8 4) q.1] } }.pageJoins j.id))
  ∧ (∀ (s : State) (p : Packet), s.Acts opPageReprint p →
    exec (.pageReprint p) s = s.answered opPageReprint p []
      (s.reprintPage (BitVec.ofNat 32 (field p.params 0 4)) (BitVec.ofNat 32 (field p.params 4 4))))
  ∧ (∀ (s : State) (p : Packet), s.Acts opJobCancel p →
    exec (.jobCancel p) s = s.answered opJobCancel p [] (s.cancelJob (BitVec.ofNat 16 (field p.params 0 2))))
  ∧ (∀ (s : State) (p : Packet), s.Acts opJobStatus p →
    exec (.jobStatus p) s = s.answered opJobStatus p (s.jobCounts (BitVec.ofNat 16 (field p.params 0 2))) s)

/-- The nozzle commands complete (R105, R191, R195, R196): reads and the summary answer from the active records and change
nothing; writes stage one change per record and commit the channel's set. -/
def Obligations.NozzleCommandsComplete : Prop :=
  (∀ (s : State) (p : Packet), s.Acts opNozzleRead p →
    exec (.nozzleRead p) s = s.answered opNozzleRead p ((List.range (field p.params 6 2)).flatMap fun i =>
      leBytes 16 (s.nozzle (recordIndex (field p.params 0 1) (field p.params 1 1) (field p.params 2 1)
        (field p.params 4 2 + i))).toNat) s)
  ∧ (∀ (s : State) (p : Packet), s.Acts opNozzleWrite p → s.runs 7 = true →
    exec (.nozzleWrite p) s = s.answered opNozzleWrite p []
      (((List.range (field p.params 6 2)).foldl (fun (u : State) i =>
          u.stageChange (recordIndex (field p.params 0 1) (field p.params 1 1) (field p.params 2 1) (field p.params 4 2 + i))
            (BitVec.ofNat 12 (field p.params 8 2))
            (recOfWords ((List.range 4).map fun k => BitVec.ofNat 32 (field p.params (12 + 16 * i + 4 * k) 4)))) s).commitNow
        .asm (field p.params 0 1)))
  ∧ (∀ (s : State) (p : Packet), s.Acts opNozzleSetState p → s.runs 7 = true →
    exec (.nozzleSetState p) s = s.answered opNozzleSetState p []
      ((s.stageChange (recordIndex (field p.params 0 1) (field p.params 1 1) (field p.params 2 1) (field p.params 4 2)) 3
        (recPut (recPut 0 0 (field p.params 6 1)) 1 (field p.params 7 1))).commitNow .asm (field p.params 0 1)))
  ∧ (∀ (s : State) (p : Packet), s.runs 7 = false →
    (s.Acts opNozzleWrite p → exec (.nozzleWrite p) s = s.answered opNozzleWrite p [] s)
    ∧ (s.Acts opNozzleSetState p → exec (.nozzleSetState p) s = s.answered opNozzleSetState p [] s))
  ∧ (∀ (s : State) (p : Packet), s.Acts opNozzleSummary p →
    exec (.nozzleSummary p) s = s.answered opNozzleSummary p
      ((s.stateCounts (field p.params 0 1)).flatMap fun n => leBytes 4 n) s)

/-- The calibration commands complete (R105, R315, R333, R345, R348). -/
def Obligations.CalibrationCommandsComplete : Prop :=
  (∀ (s : State) (p : Packet), s.Acts opCalStart p →
    exec (.calStart p) s = s.accepted opCalStart p
      ((s.pend opCalStart p).startCal (field p.params 0 2 % 0x8000) (0x8000 ≤ field p.params 0 2)
        (BitVec.ofNat 8 (field p.params 2 1))))
  ∧ (∀ (s : State) (p : Packet), s.Acts opCalAbort p →
    let u := s.pend opCalAbort p
    exec (.calAbort p) s = s.accepted opCalAbort p
      { u with cal := { u.cal with run := u.cal.run.map fun (r : CalRun) => { r with aborting := true }, queue := [] } })
  ∧ (∀ (s : State) (p : Packet), s.Acts opCalTableWrite p →
    exec (.calTableWrite p) s = s.answered opCalTableWrite p []
      (s.stageTable (field p.params 0 2) (field p.params 4 4) (p.params.drop 8)))
  ∧ (∀ (s : State) (p : Packet), s.Acts opCalTableRead p →
    exec (.calTableRead p) s = s.answered opCalTableRead p
      (((s.calTable (field p.params 0 2)).drop (field p.params 4 4)).take (field p.params 8 4)) s)
  ∧ (∀ (s : State) (p : Packet), s.Acts opCalReferenceSet p → field p.params 0 1 = 1 →
    exec (.calReferenceSet p) s = s.answered opCalReferenceSet p [] (s.setReg CAL_VREF (BitVec.ofNat 32 (field p.params 4 4))))
  ∧ (∀ (s : State) (p : Packet), s.Acts opCalReferenceSet p → field p.params 0 1 = 2 →
    exec (.calReferenceSet p) s = s.answered opCalReferenceSet p []
      ((s.put CAL_TARGET_WHITE (field p.params 4 4)).put CAL_TARGET_BLACK (field p.params 8 4)))
  ∧ (∀ (s : State) (p : Packet), s.Acts opCalReferenceSet p → field p.params 0 1 = 3 →
    let cl := newCpl s.cplWritten s.dimLines (field p.params 4 4)
    let u := if s.runs 8 then (s.setReg FIR_CPL_LO (BitVec.ofNat 32 cl)).put FIR_CPL_HI_INT (cl / 2 ^ 32) else s
    exec (.calReferenceSet p) s = s.answered opCalReferenceSet p []
      ((u.setReg CAL_K (BitVec.ofNat 32 (kOf cl))).putFlag CAL_DIM_PENDING false))
  ∧ (∀ (s : State) (p : Packet), s.Acts opTemperPolicy p →
    let q := field p.params 0 1
    exec (.temperPolicy p) s = s.answered opTemperPolicy p []
      ((((s.put (CAL_TMP_CTL_POLICY q) (field p.params 1 1)).put (CAL_TMP_CTL_THRESH q) (field p.params 2 1)).put
        (CAL_TMP_CTL_DEFER_S q) (field p.params 4 2)).put (CAL_TMP_SRC_REG q) (if q = 1 then field p.params 6 2 else 0)))

/-- The commands of cameras, power and the carrier link complete (R105, R299, R304, R341, R362, R373, R293). -/
def Obligations.CameraPowerAndLinkCommandsComplete : Prop :=
  (∀ (s : State) (p : Packet), s.Acts opCamDiscover p →
    exec (.camDiscover p) s = s.accepted opCamDiscover p ((s.pend opCamDiscover p).beginDiscovery (field p.params 0 1)))
  ∧ (∀ (s : State) (p : Packet), s.Acts opCamSettings p →
    exec (.camSettings p) s = s.answered opCamSettings p []
      (s.acceptReq (field p.params 0 1) (field p.params 4 4) (settingsOf p.tag p.params)))
  ∧ (∀ (s : State) (p : Packet), s.Acts opInsDefectsRead p →
    exec (.insDefectsRead p) s = s.answered opInsDefectsRead p (s.defectData p.params) s)
  ∧ (∀ (s : State) (p : Packet), s.Acts opInsConfig p → s.runs 10 = false →
    exec (.insConfig p) s = s.answered opInsConfig p [] s)
  ∧ (∀ (s : State) (p : Packet), s.Acts opInsConfig p → s.runs 10 = true →
    let n := field p.params 0 1
    let on := field p.params 1 1 ≠ 0xFF
    let u := s.putFlag (CAM_OS_CFG_EN n) on
    let v := if on then u.put (CAM_OS_CFG_SENSOR n) (field p.params 1 1) else u
    exec (.insConfig p) s = s.answered opInsConfig p []
      (((((((v.put (CAM_OS_CFG_FMT n) (field p.params 2 1)).put (CAM_OS_CFG_SCALE n) (field p.params 3 1)).put (CAM_OS_CFG_DECIM n)
        (field p.params 12 2)).put (CAM_OS_CROP_COL_COL_FIRST n) (field p.params 4 2)).put (CAM_OS_CROP_COL_COLS n)
        (field p.params 6 2)).put (CAM_OS_CROP_LINE_LINE_FIRST n) (field p.params 8 2)).put (CAM_OS_CROP_LINE_LINES n)
        (field p.params 10 2) |>.commitNow .cam 16))
  ∧ (∀ (s : State) (p : Packet), s.Acts opPwrStatus p →
    exec (.pwrStatus p) s = s.answered opPwrStatus p
      (s.regBytes PWR_STAT ++ s.regBytes PWR_SUP_USED ++ s.regBytes PWR_TEMP ++ (List.range 16).flatMap s.carrierPower) s)
  ∧ (∀ (s : State) (p : Packet), s.Acts opRailSetpoint p →
    exec (.railSetpoint p) s = s.answered opRailSetpoint p [] (s.setRail (field p.params 0 1) (field p.params 2 2)))
  ∧ (∀ (s : State) (p : Packet), s.Acts opSupplyBudget p →
    exec (.supplyBudget p) s = s.answered opSupplyBudget p []
      ((s.put PWR_SUP_BUDGET_VALUE (field p.params 0 4)).put PWR_SUP_SLEW_VALUE (field p.params 4 4)))
  ∧ (∀ (s : State) (p : Packet), s.Acts opWearReport p →
    let rep := field (s.regBytes PND_MEM_REPAIR) 0 4
    exec (.wearReport p) s = s.answered opWearReport p
      (s.regBytes PWR_WEAR_EQH ++ leBytes 2 (s.get PWR_WEAR_LIFE_LIFE_USED) ++ leBytes 2 (s.get PWR_WEAR_LIFE_RO_SHIFT)
        ++ leBytes 2 (s.get PWR_WEAR_EM_EM_USED) ++ leBytes 2 (s.get PWR_WEAR_SPARE_SRAM_LEFT)
        ++ leBytes 2 (s.get PWR_WEAR_SPARE_SRAM_TOTAL) ++ leBytes 1 (rep / 2 ^ 24) ++ leBytes 1 (rep / 2 ^ 16)
        ++ leBytes 2 rep ++ leBytes 2 (s.get PWR_STAT_WEAR_WARN + 2 * s.get PWR_STAT_MIRROR_ERR)) s)
  ∧ (∀ (s : State) (p : Packet), s.Acts opLinkStatus p →
    exec (.linkStatus p) s = s.answered opLinkStatus p
      (leBytes 4 (bitList (BitVec.ofNat 16 (field p.params 0 2))).length
        ++ (bitList (BitVec.ofNat 16 (field p.params 0 2))).flatMap s.linkBytes) s)
  ∧ (∀ (s : State) (p : Packet), s.Acts opLaneRetrain p →
    exec (.laneRetrain p) s = s.accepted opLaneRetrain p ((s.pend opLaneRetrain p).laneRetrain (field p.params 0 1)))
  ∧ (∀ (s : State) (p : Packet), s.Acts opPrbsControl p →
    exec (.prbsControl p) s = s.answered opPrbsControl p [] (s.prbsControl p.params))
  ∧ (∀ (s : State) (p : Packet), s.Acts opLinkErrInject p → s.runs 9 = true →
    exec (.linkErrInject p) s = s.answered opLinkErrInject p []
      (s.injectErrors (field p.params 0 1) (field p.params 1 1) (field p.params 2 2)))

/-- The safety commands complete (R62, R105, R450 to R452): a safety set whose signature does not verify is a bad parameter. -/
def Obligations.SafetyCommandsComplete : Prop :=
  (∀ (s : State) (p : Packet), s.Acts opFireInhibit p →
    exec (.fireInhibit p) s = s.accepted opFireInhibit p ((s.pend opFireInhibit p).condition 1 0 0))
  ∧ (∀ (s : State) (p : Packet), s.Acts opSafetyStatus p →
    exec (.safetyStatus p) s = s.answered opSafetyStatus p
      ([SAF_STAT, SAF_FAULT, SAF_IN, SAF_LAST, SAF_REACT, SAF_PROOF, SAF_PROOF_HOURS, SYS_SAFE_CAUSE, SYS_MODE].flatMap
        s.regBytes) s)
  ∧ (∀ (s : State) (p : Packet), s.Acts opProofTest p → field p.params 0 2 = 1 →
    exec (.proofTest p) s = s.accepted opProofTest p
      { s.pend opProofTest p with saf := { s.saf with proofArmed := true } })
  ∧ (∀ (s : State) (p : Packet), s.Acts opProofTest p → field p.params 0 2 ≠ 1 →
    exec (.proofTest p) s = s.accepted opProofTest p
      (({ s.pend opProofTest p with saf := { s.saf with
          proof := if field p.params 0 2 = 0xFFFF then [2, 3, 4, 5, 6] else [field p.params 0 2]
          proofAll := decide (field p.params 0 2 = 0xFFFF), proofSeen := 0 } }.putFlag SAF_STAT_TEST_ACTIVE true).mark .proof))
  ∧ (∀ (s : State) (p : Packet), s.Acts opSafetyParamLoad.anyParams p → (∀ d, s.badSafetySet p.params = some d → d = 64) →
    exec (.safetyParamLoad p) s =
      if Config.verifies s.sys.safetyKey (p.params.take 64) (p.params.drop 64) then
        s.accepted opSafetyParamLoad p (s.pend opSafetyParamLoad p)
      else s.done (s.answer p.route none (s.replyTo 0x0803 classS p .badParam 64 false [])))

/-! ## Routes -/

/-- The doorbell, head and fetch-error events of a ring and COMMAND_COMPLETE complete (R88, R89, R101, R111): a doorbell of an
enabled ring submits the slots up to the new tail and fetches on; a write of the head of an enabled ring lets waiting replies go
and fetches on; a failed ring is disabled with FETCH_ERR set and vector 38; a settled command gets its final reply and leaves
the table; the end of a load that a FW_LOAD_END on the towpath closed keeps its bytes as the image of its copy (R105; which row
ends it is the model's choice, log entry 51). The towpath doorbell and the Ethernet datagram complete (R92, R93, R95): a
doorbell of a busy slot or a disabled towpath counts an overrun and no more; otherwise the slot is busy and its packet is
received; on a port that is enabled and up, a datagram of its VLAN that fails a test or is replayed is counted and discarded
with vector 37; an accepted one records its SEQ, raises vector 35, and its packet is received. -/
def Obligations.CommandRouteEventsComplete : Prop :=
  ((∀ (s : State) (crew : Bool) (tail : Word) (slots : List (List Byte)),
      s.Lands (if crew then .crew else .keeper) (sqTail crew).addr → s.flag (ringEnable crew) = false →
    exec (.sqTailDoorbell crew tail slots) s = s.done (s.put (sqTail crew) (tail.toNat % s.ringSize crew)))
  ∧ (∀ (s : State) (crew : Bool) (tail : Word) (slots : List (List Byte)),
      s.Lands (if crew then .crew else .keeper) (sqTail crew).addr → s.flag (ringEnable crew) = true →
    let n := s.ringSize crew
    let u := s.put (sqTail crew) (tail.toNat % n)
    let l := (List.range ((tail.toNat % n + n - s.get (sqTail crew) % n) % n)).map fun i => slots.getD i []
    exec (.sqTailDoorbell crew tail slots) s = s.done (u.setQueue crew (s.ringQueue crew ++ l)).fetchAll)
  ∧ (∀ (s : State) (crew : Bool) (head : Word),
      s.Lands (if crew then .crew else .keeper) (cqHead crew).addr → s.flag (ringEnable crew) = false →
    exec (.cqHeadWrite crew head) s = s.done (s.put (cqHead crew) (head.toNat % s.ringSize crew)))
  ∧ (∀ (s : State) (crew : Bool) (head : Word),
      s.Lands (if crew then .crew else .keeper) (cqHead crew).addr → s.flag (ringEnable crew) = true →
    exec (.cqHeadWrite crew head) s =
      s.done (State.drainReplies crew (s.ringWaiting crew).length (s.put (cqHead crew) (head.toNat % s.ringSize crew))).fetchAll)
  ∧ (∀ (s : State) (crew : Bool), s.runs 3 = true → s.flag (ringEnable crew) = true →
    exec (.ringFetchError crew) s =
      s.done (((((s.putFlag (ringEnable crew) false).setQueue crew []).setWaiting crew []).putFlag
        (ringFld crew CMD_K_RING_CTL_FETCH_ERR CMD_C_RING_CTL_FETCH_ERR) true).raise 38))
  ∧ (∀ (s : State) (c : PendingCmd) (outcome : Sys2Proof.Outcome) (data : List Byte) (st : Status) (d : Nat),
      s.pendingCmd c.crew c.tag c.session = some c → c.result = some (st, d) → c.mute = false →
    exec (.commandComplete c.crew c.tag c.session outcome data) s =
      s.done (({ s with cmd := { s.cmd with table := s.cmd.table.filter fun x =>
          !(x.crew = c.crew && x.tag = c.tag && x.session = c.session) } }.ringAnswer c.crew
        { s.replyTo c.opcode.toNat (((opOf c.opcode.toNat).map fun (o : Op) => o.legal).getD 0)
            ⟨if c.crew then .crew else .keeper, c.tag, 0, 0, c.session, 0, []⟩ st d c.noChange data with modeByte := c.modeByte }).fetchAll))
  ∧ (∀ (s : State) (crew : Bool) (tag : BitVec 16) (session : BitVec 32) (data : List Byte) (k : BitVec 8),
      s.pendingCmd crew tag session = none → s.cmd.fwClosed = true → s.cmd.fwCopy = some k →
    exec (.commandComplete crew tag session .ok data) s =
      (let image : List Byte := (List.range s.cmd.fwSize).map fun i => (s.cmd.fwData.get (fun _ => 0) i).setWidth 8
       let t : State := { s with
         cmd := { s.cmd with fwCopy := none, fwSize := 0, fwData := [], fwClosed := false }
         flash := { s.flash with images := s.flash.images.set k.toNat (some image) } }
       s.done (t.emit (.flashWrite 0)))))
  ∧ ((∀ (s : State) (slot : Fin 8) (value : Word), s.reaches .keeper = true →
      (s.flag CMD_TP_CTL_ENABLE = false ∨ s.cmd.busy.getLsbD slot.val = true) →
    exec (.towpathDoorbell slot value) s = s.done (s.incSat CMD_TP_STAT_OVERRUN))
  ∧ (∀ (s : State) (slot : Fin 8) (value : Word), s.reaches .keeper = true → s.flag CMD_TP_CTL_ENABLE = true →
      s.cmd.busy.getLsbD slot.val = false →
    let l := s.slotBytes slot.val
    let ps := (l.drop 16).take (field l 4 2)
    exec (.towpathDoorbell slot value) s =
      s.done ({ s with cmd := { s.cmd with busy := putBit s.cmd.busy slot.val true } }.receive (field l 0 2)
        (packetOf (.towpath slot) l (if bits value 0 8 = 16 + field l 4 2 then ps else 0 :: ps)) none))
  ∧ (∀ (s : State) (port : Fin 2) (vlan : Option (BitVec 12)) (udp : BitVec 16) (frag : Bool) (src : BitVec 128) (sp : BitVec 16) (l : List Byte),
      s.runs 11 = true → s.sys.rom = false → s.portUp port.val = true → s.vlanOk port.val vlan = true →
      s.datagramGood port.val udp frag l = false →
    exec (.netDatagram port vlan udp frag src sp l) s = s.done ((s.incSat CMD_NET_STAT_AUTH_FAIL).raise 37))
  ∧ (∀ (s : State) (port : Fin 2) (vlan : Option (BitVec 12)) (udp : BitVec 16) (frag : Bool) (src : BitVec 128) (sp : BitVec 16) (l : List Byte),
      s.runs 11 = true → s.sys.rom = false → s.portUp port.val = true → s.vlanOk port.val vlan = true →
      s.datagramGood port.val udp frag l = true →
      field l 8 8 ≤ (s.netKey (field l 3 1)).seq →
    exec (.netDatagram port vlan udp frag src sp l) s = s.done ((s.incSat CMD_NET_STAT_REPLAY).raise 37))
  ∧ (∀ (s : State) (port : Fin 2) (vlan : Option (BitVec 12)) (udp : BitVec 16) (frag : Bool) (src : BitVec 128) (sp : BitVec 16) (l : List Byte),
      s.runs 11 = true → s.sys.rom = false → s.portUp port.val = true → s.vlanOk port.val vlan = true →
      s.datagramGood port.val udp frag l = true →
      (s.netKey (field l 3 1)).seq < field l 8 8 →
    let b := (l.take (l.length - 16)).drop 16
    let u := { s with cmd := { s.cmd with keys := s.cmd.keys.set (field l 3 1)
                                            { s.netKey (field l 3 1) with seq := field l 8 8 } } }
    exec (.netDatagram port vlan udp frag src sp l) s =
      s.done ((u.raise 35).receive (field b 0 2) (packetOf (.ethernet port) b (b.drop 16)) (some ⟨src, sp, field l 3 1⟩))))

/-! ## Starts, resets, boot and mode changes -/

/-- PORST_N asserted, or a supply out of limits, takes the chip to Off (R48, R64, R353): MODE reads 0, no island runs, both
outputs are low, the event log is lost, and flash alone is kept. Every reset event completes as the reset of its kind (R64 to
R67, R72, R353, R434, R466): release of PORST_N from Off, a loss of power-good after step 2, which drops the rail enables first,
or in step 2, which fails the step with its group, the restart 10 ms after a failed mandatory step, a lockstep mismatch, a clock
fault of CTL, a write of SYS_RESET with its key, and the exit of a scan instruction in effect; a write with another key is
counted and resets nothing. -/
def Obligations.ResetEventsComplete : Prop :=
  (∀ s : State,
    let off (t : State) : Prop := t.modeCode = 0 ∧ t.running = 0 ∧ t.flag SAF_STAT_EN_A = false ∧ t.flag SAF_STAT_EN_B = false
      ∧ t.evt.log = [] ∧ t.flash = s.flash ∧ t.pending = s.pending
    Completes .porstAssert s off ∧ Completes .supplyLoss s off)
  ∧ ((∀ s : State, s.modeCode = 0 → exec .porstRelease s = s.done (s.coldReset 1))
  ∧ (∀ s : State, s.modeCode = 1 → s.sys.step = 0 → exec .porstRelease s = s.done (s.coldReset 1))
  ∧ (∀ (s : State) (g : Fin 6), s.modeCode ≠ 0 → 3 ≤ s.sys.step → exec (.powerGoodLoss g) s = s.done (s.dropEnables.coldReset 5))
  ∧ (∀ (s : State) (g : Fin 6), s.stepping = true → s.sys.step = 2 →
      exec (.powerGoodLoss g) s = s.done (s.failStep 2 3 0 (g.val + 1) false))
  ∧ (∀ s : State, s.sys.restartDue = true → exec .bootRestart s = s.done ((s.waitFor .restart 8000000).warmReset 3))
  ∧ (∀ s : State, exec .lockstepMismatch s = s.done (s.warmReset 4))
  ∧ (∀ (s : State) (by_ : By), s.Lands by_ SYS_RESET → exec (.sysResetWarm by_ 0xA55A) s = s.done (s.warmReset 2))
  ∧ (∀ (s : State) (by_ : By), s.Lands by_ SYS_RESET → exec (.sysResetCold by_ 0xA55A) s = s.done (s.coldReset 1))
  ∧ (∀ (s : State) (by_ : By) (key : BitVec 16), s.Lands by_ SYS_RESET → key ≠ 0xA55A →
      exec (.sysResetWarm by_ key) s = s.done (s.incSat SYS_RESET_REJ_COUNT)
        ∧ exec (.sysResetCold by_ key) s = s.done (s.incSat SYS_RESET_REJ_COUNT))
  ∧ (∀ s : State, s.dbg.scan = true → s.dbg.tap = .extest ∨ s.dbg.tap = .clamp ∨ s.dbg.tap = .highz →
      exec .scanExitReset s = s.done ({ s with dbg := { s.dbg with tap := .idcode, scan := false, capture := 0x18480947#64 } }.warmReset 2)))

/-- The boot steps complete (R68 to R73): a step done within its limit leaves its effect and passes, step 10 after the warming
its readings call for; one that fails, runs past its limit or is timed out closes its journal entry and fails. -/
def Obligations.BootStepEventsComplete : Prop :=
  (∀ (s : State) (ms : Nat) (f : BootFound), s.stepping = true → ms ≤ stepLimit s.sys.step →
      ((stepIsland s.sys.step).any fun i => !s.runs i) = false → s.sys.step ≠ 9 → s.sys.step ≠ 10 → s.sys.step ≠ 14 →
    exec (.bootStepDone true ms f) s = s.done ((s.stepEffect s.sys.step f).passStep s.sys.step ms 0 f.mirrorFails))
  ∧ (∀ (s : State) (ms : Nat) (f : BootFound), s.stepping = true → ms ≤ stepLimit 9 →
      ((stepIsland 9).any fun i => !s.runs i) = false → s.sys.step = 9 →
    exec (.bootStepDone true ms f) s = s.done ((s.configure f.record).elim (s.failStep 9 3 ms f.detail.toNat f.mirrorFails)
      fun t => t.passStep 9 ms 0 f.mirrorFails))
  ∧ (∀ (s : State) (ms : Nat) (f : BootFound), s.stepping = true → ms ≤ stepLimit 14 →
      ((stepIsland 14).any fun i => !s.runs i) = false → s.sys.step = 14 → s.carriersSettled = true →
    exec (.bootStepDone true ms f) s = s.done (s.carriersStep ms f))
  ∧ (∀ (s : State) (ms : Nat) (f : BootFound), s.stepping = true → ms ≤ stepLimit 10 →
      ((stepIsland 10).any fun i => !s.runs i) = false → s.sys.step = 10 →
    let u := s.put PWR_TEMP_HBM_C f.stack.toNat
    (s.sys.warming = false → 0 ≤ f.stack.toInt →
      exec (.bootStepDone true ms f) s = s.done (u.passStep 10 0 0 f.mirrorFails))
    ∧ (s.sys.warming = false → f.stack.toInt < 0 →
      exec (.bootStepDone true ms f) s = s.done { u with sys := { s.sys with warming := true } })
    ∧ (s.sys.warming = true → 5 ≤ f.stack.toInt →
      exec (.bootStepDone true ms f) s = s.done ({ u with sys := { s.sys with warming := false } }.passStep 10 ms 0 f.mirrorFails)))
  ∧ (∀ (s : State) (ok : Bool) (ms : Nat) (f : BootFound), s.stepping = true → stepLimit s.sys.step < ms →
    exec (.bootStepDone ok ms f) s = s.done (s.failStep s.sys.step 5 ms f.detail.toNat f.mirrorFails))
  ∧ (∀ (s : State) (ms : Nat) (f : BootFound), s.stepping = true → ms ≤ stepLimit s.sys.step →
    let u : State := if s.sys.step = 2 then s.assertEnables (enablesAfter false f.detail.toNat) else s
    exec (.bootStepDone false ms f) s = s.done (u.failStep s.sys.step 3 ms f.detail.toNat f.mirrorFails))
  ∧ (∀ (s : State) (ms : Nat), s.stepping = true →
    exec (.bootStepTimeout ms) s = s.done (s.failStep s.sys.step 5 ms 0 false))

/-- Mode changes, the host link and clock faults complete (R27, R60, R61, R66, R67, R449, R458): a change to Standby or Service
whose condition holds makes the mode the target with cause COMMAND and answers the commands that wait for it; a warm-up that
times out turns to Ready with its command FAULT 3; a host-link reset drops the rings and reaches every unit that hangs on the
host. -/
def Obligations.ModeChangeAndLinkEventsComplete : Prop :=
  (∀ s : State, s.flag SYS_MODE_TRANSITION = true → (s.get SYS_MODE_TARGET = 3 ∨ s.get SYS_MODE_TARGET = 10) →
    exec .modeChangeDone s =
      s.done (((s.setChipMode (s.get SYS_MODE_TARGET) 1).resolve 0x0102 .ok 0).resolve 0x0103 .ok 0))
  ∧ (∀ s : State, s.changingTo 5 = true →
    let u := ((s.waitFor .warmUp (max 1 (s.get PWR_WARM_TO_SECONDS) * 800000000)).resolve 0x0102 .fault 3).put SYS_MODE_TARGET 4
    exec .warmTimeout s = s.done (({ u with saf := { u.saf with test := 0 } }.syncOutputs.disableAll).tryChange))
  ∧ (∀ s : State, s.runs 3 = true → exec (.hostLinkReset false) s = s.done s.linkReset)
  ∧ (∀ s : State, s.runs 3 = true → exec (.hostLinkReset true) s = s.done (s.linkReset.setReg HST_LINK 0))
  ∧ (∀ (s : State) (speed : Fin 6) (width : BitVec 5), s.runs 3 = true → speed ≠ 0 → s.sys.rom = false →
      s.get (PWR_BJ_ENTRY_WAY 8) ≠ 1 →
    exec (.linkTrained speed width) s =
      s.done (((s.putFlag HST_LINK_UP true).put HST_LINK_SPEED speed.val).put HST_LINK_WIDTH width.toNat).rearm)
  ∧ (∀ (s : State) (i : Fin 12), s.modeCode ≠ 0 → s.runs i.val = true → i.val ≤ 1 → s.saf.proof = [] →
    exec (.clockFault i) s = s.done (s.lockout SAF_FAULT_CLOCK))
  ∧ (∀ s : State, s.modeCode ≠ 0 → s.runs 2 = true → exec (.clockFault 2) s = s.done (s.warmReset 2))
  ∧ (∀ (s : State) (i : Fin 12), s.modeCode ≠ 0 → s.runs i.val = true → 3 ≤ i.val →
    let u := (s.handshake i.val).endStranded.mark (.island i.val)
    exec (.clockFault i) s =
      s.done ({ u with saf := { u.saf with clock := putBit u.saf.clock i.val true } }.condition 11 0 0))

/-! ## Ingest -/

/-- Tile arrival, landing and the resumption of a stalled queue complete (R126 to R136): at a whole header with no tile in
landing the tile is accepted, or rejected with the first check it fails; a payload that has arrived is consumed and verified, or
judged by its CRC; a stalled queue takes blocks for its tile, or parses its next header. -/
def Obligations.TileArrivalAndLandingComplete : Prop :=
  (∀ (s : State) (q : Fin 8), s.runs 4 = true → s.flag (qEn q.val) = true → (s.queue q.val).landing = none →
      s.flag (qResync q.val) = false → (s.queue q.val).skip = 0 → 64 ≤ (s.queue q.val).stream.length →
      fillerUnit (s.queue q.val).stream = false → s.checkTile (headerOf (s.queue q.val).stream) = none →
    let h := headerOf (s.queue q.val).stream
    exec (.tileArrival q) s =
      s.done ((s.putFlag (qResync q.val) false).acceptTile q.val h (((s.job? h.job).map Job.storeOnly).getD false)))
  ∧ (∀ (s : State) (q : Fin 8) (cause : Nat), s.runs 4 = true → s.flag (qEn q.val) = true → (s.queue q.val).landing = none →
      s.flag (qResync q.val) = false → (s.queue q.val).skip = 0 → 64 ≤ (s.queue q.val).stream.length →
      fillerUnit (s.queue q.val).stream = false → s.checkTile (headerOf (s.queue q.val).stream) = some cause →
    exec (.tileArrival q) s =
      s.done ((s.putFlag (qResync q.val) false).rejectTile q.val cause (headerOf (s.queue q.val).stream)))
  ∧ (∀ (s : State) (q : Fin 8) (id : Word) (ch col band : Nat) (t : Tile), s.runs 4 = true →
      (s.queue q.val).landing = some (id, ch, col, band) → s.tile? id ch col band = some t → t.state = .landing →
      pad64 (32 + (s.queue q.val).payload) ≤ (s.queue q.val).stream.length → blocksOf (s.queue q.val).payload ≤ t.chain.length →
    let total := pad64 (32 + (s.queue q.val).payload)
    let bytes := ((s.queue q.val).stream.drop 32).take (s.queue q.val).payload
    let u := ((s.takeStream q.val total).consume q.val total).updQueue q.val fun x => { x with landing := none, payload := 0 }
    let v := ((u.putFlag (qActive q.val) false).liveAddPair ING_STB_INFO ING_STB_BYTES_IN_LO_BYTES ING_STB_BYTES_IN_HI_BYTES
      bytes.length).updTile id ch col band fun t => { t with bytes := bytes }
    exec (.tileLanded q) s =
      s.done (if t.deflate then (v.verify id ch col band).settleAll else v.landedRaw id { t with bytes := bytes }))
  ∧ (∀ (s : State) (q : Fin 8), s.runs 4 = true → (s.queue q.val).stalled = true → (s.queue q.val).landing.isSome = true →
    exec (.landingResume q) s = s.done (s.landBlocks q.val))
  ∧ (∀ (s : State) (q : Fin 8), s.runs 4 = true → (s.queue q.val).stalled = true → (s.queue q.val).landing = none →
    exec (.landingResume q) s = s.done (s.parseTile q.val))

/-- Verification completes (R132, R133): a payload that inflates to its size with its CRC makes the position STORED; one that is
not, or whose store read failed, is poisoned with its cause. -/
def Obligations.VerificationCompletes : Prop :=
  ∀ (s : State) (page : Word) (ch : Fin 8) (col : Fin 13) (band : BitVec 12) (t : Tile) (id : Word),
    s.runs 6 = true → s.keyOf page = id → s.tile? id ch.val col.val band.toNat = some t → t.state = .verifying →
    (∀ out, inflate t.rawSize t.bytes = (out, none) → crc32c out = t.crc →
      exec (.verifyDone page ch col band .ok) s =
        s.done (((((s.dropContext .verification id ch.val col.val band.toNat).updTile id ch.val col.val band.toNat
          fun t => { t with state := .stored }).ingCount ING_STB_TILES_VERIFIED_COUNT 1).clearPoison id ch.val).settleAll))
    ∧ (∀ out, inflate t.rawSize t.bytes = (out, none) → crc32c out ≠ t.crc →
      exec (.verifyDone page ch col band .ok) s = s.done (s.poison id ch.val col.val band.toNat 8))
    ∧ (∀ out, inflate t.rawSize t.bytes = (out, some .expansion) →
      exec (.verifyDone page ch col band .ok) s = s.done (s.poison id ch.val col.val band.toNat 9))
    ∧ (∀ out, inflate t.rawSize t.bytes = (out, some .bad) →
      exec (.verifyDone page ch col band .ok) s = s.done (s.poison id ch.val col.val band.toNat 10))
    ∧ (∀ mem, memFailed mem = true →
      exec (.verifyDone page ch col band mem) s = s.done ((s.memRead mem).poison id ch.val col.val band.toNat 8))

/-- The compressors complete (R136 to R143): a free one takes the oldest LANDED tile; a test after more input abandons a tile
that expands or gains too little and takes buffers otherwise; at the tile's end the position is STORED with the chain's blocks;
a wait for a weir buffer ends in vector 67, or with buffers. -/
def Obligations.CompressorEventsComplete : Prop :=
  (∀ (s : State) (n : Fin 32) (id : Word) (ch col band : Nat) (l : List (Word × Nat × Nat × Nat)) (p : Page), s.runs 4 = true →
      s.compressor n.val = none → s.ing.compressors.length + s.ing.hostJobs.length < 32 →
      s.ing.list = (id, ch, col, band) :: l → s.page? id = some p →
    let w := cmpParams (s.reg ING_CMP_CTL) (((s.jobOf p).map fun j => j.depth).getD 0)
    let u := { s with ing := { s.ing with list := l } }.updTile id ch col band fun t => { t with listed := false }
    exec (.compressStart n) s =
      s.done ((({ u with ing := { u.ing with compressors := u.ing.compressors ++
        [(⟨n.val, id, ch, col, band, w, 0, [], false, 0, bits w 27 5⟩ : Compressor)] } }).syncBusy.takeWeirs n.val 0).hostTurn))
  ∧ (∀ (s : State) (n : Fin 32) (c : Compressor), s.runs 4 = true → s.compressor n.val = some c → c.waiting = false →
      c.input < s.cmpSize c →
    let c' := { c with input := min (s.cmpSize c) (c.input + 65536) }
    let u := s.updCompressor n.val fun x => { x with input := c'.input }
    exec (.compressTest n .ok) s =
      s.done (if u.cmpOut c' > c'.input then u.abandon c' ING_STB_EXPANDS_COUNT
        else if 16 * u.cmpOut c' > c'.keep * c'.input then u.abandon c' ING_STB_NO_GAIN_COUNT
        else u.takeWeirs n.val (blocksOf (u.cmpOut c'))))
  ∧ (∀ (s : State) (n : Fin 32) (c : Compressor) (t : Tile), s.runs 4 = true → s.compressor n.val = some c → c.waiting = false →
      s.cmpSize c ≤ c.input → s.tile? c.page c.ch c.col c.band = some t →
    let live := s.pnd.contexts.any fun x => x.page = c.page && x.ch = c.ch && x.col = c.col && x.band = c.band
    let u := (s.dropCompressor n.val).updTile c.page c.ch c.col c.band fun t =>
      { t with state := .stored, bytes := s.cmpStream c, deflate := true,
               chain := c.chain.take (blocksOf (s.cmpOut c)), old := if live then t.chain else [] }
    exec (.compressDone n) s =
      s.done ((u.ingCount ING_STB_TILES_COMPRESSED_COUNT 1).liveAddPair ING_STB_INFO ING_STB_BYTES_OUT_LO_BYTES
        ING_STB_BYTES_OUT_HI_BYTES (s.cmpOut c)).settleAll.hostTurn)
  ∧ (∀ (s : State) (n : Fin 32) (c : Compressor), s.runs 4 = true → s.compressor n.val = some c → c.waiting = true →
    exec (.weirWaitTimeout n) s = s.done
      (((s.tickTo (c.since + 800 * max 1 (s.get ING_WEIR_WAIT_WAIT_US))).abandon c ING_STB_WEIR_EMPTY_COUNT).raise 67 c.page)
      ∧ exec (.weirResume n) s = s.done (s.takeWeirs n.val (blocksOf (s.cmpOut c))))

/-- The queue enables and the host compression ring complete (R127, R144, R145): Q_EN is set, or the queue is stopped; a
doorbell of an enabled ring offers the entries from the old index to the new; the oldest job ends with its result; a cleared
ENABLE ends the running jobs ABORTED. -/
def Obligations.QueueEnableAndHostRingComplete : Prop :=
  (∀ (s : State) (by_ : By) (q : Fin 8), s.Lands by_ ING_CTL →
    exec (.queueEnable by_ q) s = s.done (s.putFlag (qEn q.val) true)
      ∧ exec (.queueDisable by_ q) s = s.done (s.stopQueue q.val))
  ∧ (∀ (s : State) (by_ : By) (tail : Word) (descs : List (List Byte)), s.Lands by_ ING_HCJ_TAIL →
      s.flag ING_HCJ_CTL_ENABLE = true →
    let size := 2 ^ max 1 (min 10 (s.get ING_HCJ_CTL_LOG2_SIZE))
    let n := (bits tail 0 10 + size - s.get ING_HCJ_TAIL_INDEX % size) % size
    let u := s.put ING_HCJ_TAIL_INDEX (bits tail 0 10)
    exec (.hcjDoorbell by_ tail descs) s = s.done ({ u with ing := { s.ing with
      hostDescs := s.ing.hostDescs ++ (List.range n).map fun i => descs.getD i [] } }.hostTurn))
  ∧ (∀ (s : State) (by_ : By) (tail : Word) (descs : List (List Byte)), s.Lands by_ ING_HCJ_TAIL →
      s.flag ING_HCJ_CTL_ENABLE = false →
    exec (.hcjDoorbell by_ tail descs) s = s.done (s.put ING_HCJ_TAIL_INDEX (bits tail 0 10)))
  ∧ (∀ (s : State) (j : HostJob) (l : List HostJob) (input : List Byte), s.runs 4 = true → s.ing.hostJobs = j :: l →
      1 ≤ j.len → j.len ≤ 262144 → input.length = j.len →
    let out := deflate (cmpForm j.params) input true
    exec (.hcjDone input false) s = s.done
      (if j.len < out.length then (s.hostResult 0 0 1).hostTurn
       else ((s.emit (.hostWrite j.dst out)).hostResult (crc32c input) out.length 0).hostTurn))
  ∧ (∀ (s : State) (j : HostJob) (l : List HostJob) (input : List Byte) (e : Bool), s.runs 4 = true → s.ing.hostJobs = j :: l →
      j.len = 0 ∨ 262144 < j.len →
    exec (.hcjDone input e) s = s.done (s.hostResult 0 0 2).hostTurn)
  ∧ (∀ (s : State) (j : HostJob) (l : List HostJob) (input : List Byte), s.runs 4 = true → s.ing.hostJobs = j :: l →
      1 ≤ j.len → j.len ≤ 262144 →
    exec (.hcjDone input true) s =
      s.done ((((s.hostResult 0 0 3).putFlag ING_HCJ_CTL_ERR true).stopHostJobs).raise 69))
  ∧ (∀ (s : State) (by_ : By), s.Lands by_ ING_HCJ_CTL →
    let u := State.abortHostJobs 4 (s.putFlag ING_HCJ_CTL_ENABLE false)
    exec (.hcjDisable by_) s = s.done { u with ing := { u.ing with hostDescs := [] } })

/-! ## The pound store, shadow sets and the nozzle table -/

/-- The store events complete (R133, R162, R166, R172, R175 to R177). A decode quantum runs the context of highest rank: a
firing or reference context writes its line, or fails with MEMORY where its store read failed; a verification advances by at
most 16 lines, or its tile is poisoned. A scrub read of a block that is scrubbed accounts for its error. RPQ_POP drops the
oldest entry. RPR_RELEASE of a page that is not held changes nothing; that of a pinned one drops its entries and the pin, and
evicts the page once nothing waits for it. -/
def Obligations.StoreEventsComplete : Prop :=
  (∀ (s : State) (e : Fin 96) (x : Ctx) (p : Page) (t : Tile), s.runs 6 = true → s.runs 5 = true → s.pickContext = some x →
      s.page? x.page = some p → s.tile? x.page x.ch x.col x.band = some t → x.kind ≠ .verification →
    exec (.decodeQuantum e .ok) s = s.done (s.decodeLine p t x)
      ∧ ∀ mem, memFailed mem = true → exec (.decodeQuantum e mem) s = s.done ((s.memRead mem).ctxFails p x 5))
  ∧ (∀ (s : State) (e : Fin 96) (x : Ctx) (p : Page) (t : Tile), s.runs 6 = true → s.runs 5 = true → s.pickContext = some x →
      s.page? x.page = some p → s.tile? x.page x.ch x.col x.band = some t → x.kind = .verification →
    exec (.decodeQuantum e .ok) s = s.done (s.ctxStep x (min 16 (p.bandLines x.band - x.line)))
      ∧ ∀ mem, memFailed mem = true →
        exec (.decodeQuantum e mem) s = s.done ((s.memRead mem).poison x.page x.ch x.col x.band 8))
  ∧ (∀ (s : State) (b : BitVec 22) (mem : MemRead), s.runs 5 = true → s.flag PND_SCRUB_EN = true → s.scrubs b.toNat = true →
    exec (.scrubRead b mem) s = s.done (s.memRead mem))
  ∧ (∀ (s : State) (by_ : By), s.Lands by_ PND_RPQ_POP →
    exec (.rpqPop by_) s = s.done ({ s with pnd := { s.pnd with reprints := s.pnd.reprints.drop 1 } }.syncReprint))
  ∧ (∀ (s : State) (by_ : By) (page : Word), s.Lands by_ PND_RPR_RELEASE →
      (s.stored? page = none ∨ ∃ p, s.stored? page = some p ∧ p.pinned = false ∧ p.heldAt = none) →
    exec (.rprRelease by_ page) s = s.done s)
  ∧ (∀ (s : State) (by_ : By) (page : Word) (p : Page) (j : Job), s.Lands by_ PND_RPR_RELEASE → s.stored? page = some p →
      p.pinned = true → s.job? p.job = some j →
    let id := s.keyOf page
    let u := ({ s with pnd := { s.pnd with reprints := s.pnd.reprints.filter fun (e : Reprint) => e.page ≠ id } }.syncReprint).updPage id
      fun p => { p with pinned := false, released := true, heldAt := none }
    exec (.rprRelease by_ page) s = s.done
      (if (j.mask &&& ~~~p.done = 0) && p.tiles.all (tileDone (u.inspects j)) then (u.evictPage id).settleAll else u.settleAll))

/-- The nozzle table's own commands complete (R188, R190, R191, R195, R196): NT_READ puts the record's four words in RDATA,
NT_STAGE stages WDATA under the mask, both advancing INDEX where INC is set; NT_INIT fills the table with defaults unless a
channel prints; an entry at WPORT stages one change; a read of RPORT returns the record's words and advances RP_START.
SHADOW_COMMIT and SHADOW_DISCARD complete (R35, R36, R38, R41, R194, R407): a commit of a set takes the staged words of the set
as they stand, for the channels it covers, and shows PENDING, superseding a commit that has not begun; an ASM set of channels
that do not print is handed over at once, and that of a program set is the barge's to take. One with DISCARD is REFUSED, as is
one over a set that has begun; a discard of a set that has not begun drops it. -/
def Obligations.NozzleTableAndShadowCommandsComplete : Prop :=
  ((∀ (s : State) (by_ : By) (inc : Bool), s.Lands by_ ASM_NT_CMD → s.get ASM_NT_INDEX_INDEX ≤ lastRecord →
    let w := recWords (s.nozzle (s.get ASM_NT_INDEX_INDEX))
    exec (.ntRead by_ inc) s = s.done (((((s.setReg (ASM_NT_RDATA 0) (w.getD 0 0)).setReg (ASM_NT_RDATA 1) (w.getD 1 0)).setReg
      (ASM_NT_RDATA 2) (w.getD 2 0)).setReg (ASM_NT_RDATA 3) (w.getD 3 0)).ntInc inc))
  ∧ (∀ (s : State) (by_ : By) (inc : Bool), s.Lands by_ ASM_NT_CMD → s.get ASM_NT_INDEX_INDEX ≤ lastRecord → 0 < s.bufRoom →
    exec (.ntStage by_ inc) s = s.done ((s.stageChange (s.get ASM_NT_INDEX_INDEX) (BitVec.ofNat 12 (s.get ASM_NT_MASK_FIELDS))
      (recOfWords [s.reg (ASM_NT_WDATA 0), s.reg (ASM_NT_WDATA 1), s.reg (ASM_NT_WDATA 2), s.reg (ASM_NT_WDATA 3)])).ntInc inc))
  ∧ (∀ (s : State) (by_ : By) (inc : Bool), s.Lands by_ ASM_NT_CMD → lastRecord < s.get ASM_NT_INDEX_INDEX →
    exec (.ntRead by_ inc) s = s.done (s.ntError 1) ∧ exec (.ntStage by_ inc) s = s.done (s.ntError 1))
  ∧ (∀ (s : State) (by_ : By), s.Lands by_ ASM_NT_CMD → s.anyPrinting = false →
    exec (.ntInit by_) s = s.done ({ s with asm := { s.asm with table := [] } }.putFlag ASM_NT_STAT_INIT_DONE true))
  ∧ (∀ (s : State) (by_ : By), s.Lands by_ ASM_NT_CMD → s.anyPrinting = true → exec (.ntInit by_) s = s.done (s.ntError 2))
  ∧ (∀ (s : State) (w : List Word), s.runs 7 = true → bits (w.getD 0 0) 0 22 ≤ lastRecord → 0 < s.bufRoom →
    exec (.ntWportEntry w) s = s.done (s.stageChange (bits (w.getD 0 0) 0 22) (BitVec.ofNat 12 (bits (w.getD 1 0) 0 12))
      (recOfWords (w.drop 4))))
  ∧ (∀ (s : State) (w : List Word), s.runs 7 = true → lastRecord < bits (w.getD 0 0) 0 22 →
    exec (.ntWportEntry w) s = s.done (s.incSat ASM_NT_STAT_DROPPED))
  ∧ (∀ s : State, s.runs 7 = true → s.get ASM_NT_RP_START_INDEX ≤ lastRecord →
    let w := recWords (s.nozzle (s.get ASM_NT_RP_START_INDEX))
    exec .ntRportRead s = s.done (((((s.emit (.readData 0x1A4000 (w.getD 0 0))).emit (.readData 0x1A4000 (w.getD 1 0))).emit
      (.readData 0x1A4000 (w.getD 2 0))).emit (.readData 0x1A4000 (w.getD 3 0))).incWrap ASM_NT_RP_START_INDEX)))
  ∧ ((∀ (s : State) (by_ : By) (b : ShdBlk) (n : Fin 32), n.val < shdCount b → s.Lands by_ (shdStat b n.val + 8) →
      (s.pendingSet b n.val).all (fun p => !p.begun) = true →
    let w := ((s.pendingSet b n.val).elim s fun _ => s.putFlag (shdBit b n.val 29) true).dropSet b n.val
    let u := if b = .asm && n.val < 8 then w.markChanges n.val true else if b = .cam then w.bindTag n.val else w
    let p := Pending.mk b n.val (u.regs.filter fun q => inSet b n.val q.1) (u.covers b n.val) false
      (if b = .asm && n.val = 8 then u.asm.seq + 1 else 0) u.cycle
    let v := { u with shadows := u.shadows ++ [p] }.putFlag (shdBit b n.val 31) true
    let t := if v.quickSet b n.val then v.handSet p none else v
    exec (.shadowCommit by_ b n false false) s = s.done (if b = .brg then t.bargeCommit n.val else t))
  ∧ (∀ (s : State) (by_ : By) (b : ShdBlk) (n : Fin 32) (p : Pending), b ≠ .brg → n.val < shdCount b →
      s.Lands by_ (shdStat b n.val + 8) → s.pendingSet b n.val = some p → p.begun = true →
    exec (.shadowCommit by_ b n false false) s = s.done (s.putFlag (shdBit b n.val 28) true))
  ∧ (∀ (s : State) (by_ : By) (b : ShdBlk) (n : Fin 32), b ≠ .brg → n.val < shdCount b →
      s.Lands by_ (shdStat b n.val + 8) →
    exec (.shadowCommit by_ b n true false) s = s.done (s.putFlag (shdBit b n.val 28) true))
  ∧ (∀ (s : State) (by_ : By) (b : ShdBlk) (n : Fin 32) (p : Pending), n.val < shdCount b →
      s.Lands by_ (shdStat b n.val + 8) → s.pendingSet b n.val = some p → p.begun = false →
    let u := if b = .asm && n.val < 8 then s.markChanges n.val false else if b = .cam then s.freeTag n.val else s
    exec (.shadowDiscard by_ b n false) s = s.done ((u.dropSet b n.val).putFlag (shdBit b n.val 31) false)))

/-! ## The line clock -/

/-- The events of lines complete (R30, R214, R216, R217, R221, R222): once its time has come a fixed line passes its boundary,
the next line is fixed under the parameters in force, a marker or a frame is sent, and an anchor is taken; time advances by the
event's cycles in every case, and what rests on the counter sees the ports brought up to its cycle. -/
def Obligations.LineEventsComplete : Prop :=
  (∀ (s : State) (ch : Fin 8) (dt : Nat) (ecc : List (Nat × Bool)) (l : FixedLine), s.runs 8 = true →
      (s.fir.lines.find? fun l => l.ch = ch.val && l.line = (s.fch ch.val).next && !l.passed) = some l → l.t ≤ s.cycle + dt →
    exec (.lineBoundary ch dt ecc) s = s.done (((s.tick dt).passLine l).lineBoundary ch.val l.line ecc))
  ∧ (∀ (s : State) (dt : Nat),
      let u := (s.tick dt).posNow
      u.runs 8 = true → u.flag FIR_STAT_RUNNING = true → u.flag (POS_CMP_STAT_OWNED 0) = true → u.cmpDue 0 = true →
    exec (.reachAnchor dt) s = s.done u.rollAnchor.reachAnchor)
  ∧ (∀ (s : State) (a : Anchor) (dt : Nat),
      let u := (s.tick dt).posNow
      u.clockRuns = true → u.newestAnchor = some a → u.strays a = true →
    exec (.forcedAnchor dt) s = s.done u.rollAnchor.forceAnchor)
  ∧ (∀ (s : State) (ch : Fin 8) (dt : Nat) (a : Anchor),
      let u := (s.tick dt).rollAnchor
      u.params = some a → u.clockRuns = true → (u.fch ch.val).on = true → (u.fch ch.val).a0.isSome = true → a.p ≠ 0 →
      u.fixTime a ch.val (u.fch ch.val).fix ≤ u.cycle →
    exec (.lineFix ch dt) s = s.done (u.fixLine ch.val a).endTrail)
  ∧ (∀ (s : State) (n : Fin 16) (dt : Nat) (l : FixedLine),
      let u := s.tick dt
      u.nextMarker n.val = some l → s.runs 8 = true → s.runs 9 = true → l.t ≤ u.cycle + u.lead + u.latency n.val →
    exec (.markerSend n dt) s = s.done (u.sendMarker n.val l).endTrail)
  ∧ (∀ (s : State) (n : Fin 16) (dt : Nat) (l : AsmLine),
      let u := s.tick dt
      u.nextFrame n.val = some l → s.runs 8 = true → s.runs 9 = true →
    exec (.frameSend n dt) s = s.done (u.sendFrame n.val l).endTrail)

/-- Starts by trigger and by the leader's pulses complete (R231, R239), under the control word of the run and with the ports
brought up to the cycle: the edge a waiting run asks for starts it at the counter's value; a start pulse outside Prime raises
vector 107; an anchor pulse writes FIR_SYNC_DEV and raises 107 beyond the tolerance; a pulse that is too short has no effect. -/
def Obligations.StartTriggersComplete : Prop :=
  (∀ (s : State) (g : Fin 8) (rising : Bool) (dt : Nat),
      let u := (s.tick dt).posNow
      u.runs 8 = true → u.flag FIR_STAT_WAIT_TRIGGER = true → u.ctlGet FIR_CTL_TANDEM ≠ 2 → u.ctlGet FIR_CTL_START_GPI = g.val →
      (u.ctlGet FIR_CTL_START_EDGE = 1 ↔ rising = false) →
    exec (.startTrigger g rising dt) s = s.done (u.beginRun u.counter))
  ∧ (∀ (s : State) (w dt : Nat),
      let u := (s.tick dt).posNow
      u.runs 8 = true → u.ctlGet FIR_CTL_TANDEM = 2 →
    (100 < w → u.modeCode ≠ 6 → exec (.lineSyncPulse w dt) s = s.done (u.raise 107))
    ∧ (100 < w → u.modeCode = 6 → u.flag FIR_STAT_WAIT_TRIGGER = true →
      exec (.lineSyncPulse w dt) s = s.done (u.beginRun u.counter))
    ∧ (20 ≤ w → w ≤ 100 → u.flag FIR_STAT_RUNNING = true →
      let dev := signed 80 (unsigned 80 (u.counter * 2 ^ 32 - u.anchorAt u.fir.nextReach)) / 2 ^ 32
      let v := u.setReg FIR_SYNC_DEV (BitVec.ofInt 32 (clampInt (-(2 ^ 31)) (2 ^ 31 - 1) dev))
      exec (.lineSyncPulse w dt) s = s.done (if u.get FIR_SYNC_CTL_SYNC_TOL < dev.natAbs then v.raise 107 else v))
    ∧ (w < 20 → exec (.lineSyncPulse w dt) s = s.done u))

/-! ## Web position -/

/-- What an encoder port receives completes (R242 to R246, R250, R252), the same for each command that brings it. A sample of an
analog port whose radius is out of bounds is counted; a good one after none fixes the phase within the period; one that has
moved by at most a quarter period moves the position by the signed difference of the phases, past the quarter periods crossed; a
jump beyond that is an illegal edge, and the next good sample is the new reference. The phase of a sample at the very centre is
open (R242) and is free. Levels of a digital port pass its filter. The first index crossing forward fixes the grid; a later one
is held against it. The end of a window judges every port; a stale speed is estimated anew. -/
def Obligations.EncoderEventsComplete : Prop :=
  (∀ (s : State) (p : Fin 4) (sin cos : BitVec 14) (dt : Nat), s.runs 8 = true → s.flag (POS_PORT_CFG_EN p.val) = true →
      p.val < 2 →
    let u := s.tick dt
    let sc := u.sampleSC p.val sin.toInt cos.toInt
    let x := u.port p.val
    let all (t : State) : Prop := exec (.encoderMotion p (.sample sin cos) dt) s = s.done t
      ∧ exec (.illegalEdge p (.sample sin cos) dt) s = s.done t ∧ exec (.ampBad p sin cos dt) s = s.done t
    let phi := phaseOf sc.1 sc.2
    (u.radiusBad p.val sc = true →
      all (((u.rollWindow.updPort p.val fun y => { y with amp := y.amp + 1, badAt := some u.cycle }).posCount
        POS_STB_AMP_BAD_COUNT 1).syncValid))
    ∧ (u.radiusBad p.val sc = false → sc = (0, 0) → all (u.draw.2.takePhase p.val (u.draw.1.toNat % 4096)))
    ∧ (u.radiusBad p.val sc = false → sc ≠ (0, 0) → x.phi = none →
      all ((u.updPort p.val fun y => { y with
        steps := y.steps / 4096 * 4096 + phi, phi := some phi, sampleAt := u.cycle }).bringPort p.val))
    ∧ (∀ old, u.radiusBad p.val sc = false → sc ≠ (0, 0) → x.phi = some old →
      let d := signed 12 (unsigned 12 ((phi : Int) - old))
      (1024 < d.natAbs → all ((((u.rollWindow.updPort p.val fun y => { y with ill := y.ill + 1 }).incSat
        (POS_PORT_STAT_ILLEGAL p.val)).posCount POS_STB_ILLEGAL_EDGE_COUNT 1).updPort p.val fun y => { y with phi := none }))
      ∧ (d.natAbs ≤ 1024 →
        let v := if d = 0 then u else u.crossQuarters p.val (x.steps + d)
        all ((v.updPort p.val fun y => { y with steps := y.steps + d, phi := some phi, sampleAt := v.cycle }).bringPort p.val))))
  ∧ (∀ (s : State) (p : Fin 4) (a b : Bool) (dt : Nat), s.runs 8 = true → s.flag (POS_PORT_CFG_EN p.val) = true → 2 ≤ p.val →
    let u := (s.tick dt).passEdges p.val
    let t := if (u.port p.val).filtered = none then
        u.updPort p.val fun y => { y with filtered := some (a, b), raw := (a, b), since := (u.cycle, u.cycle) }
      else (u.updPort p.val fun y => { y with
        raw := (a, b)
        since := (if a = (u.port p.val).raw.1 then (u.port p.val).since.1 else u.cycle,
          if b = (u.port p.val).raw.2 then (u.port p.val).since.2 else u.cycle) }).passEdges p.val
    exec (.encoderMotion p (.levels a b) dt) s = s.done t ∧ exec (.illegalEdge p (.levels a b) dt) s = s.done t)
  ∧ (∀ (s : State) (p : Fin 4) (n dt : Nat),
      let u := (s.tick dt).posNow
      u.runs 8 = true → u.flag (POS_PORT_CFG_EN p.val) = true → u.flag (POS_PORT_INDEX_EN p.val) = true →
      u.get (POS_PORT_INDEX_PERIOD p.val) ≠ 0 → (p.val < 2 ∨ u.filt p.val ≤ n) → (u.port p.val).forward = true →
    ((u.port p.val).grid = none →
      exec (.indexCrossing p n dt) s = s.done ((u.updPort p.val fun q => { q with grid := some (u.rawCount p.val) }).putFlag
        (POS_PORT_STAT_GRID p.val) true))
    ∧ (∀ g, (u.port p.val).grid = some g →
      let m := u.get (POS_PORT_INDEX_PERIOD p.val) * u.perPeriod p.val
      let dev := diff48 (u.rawCount p.val) (g + roundDiv (diff48 (u.rawCount p.val) g) m * m)
      let v := u.setReg (POS_PORT_INDEX_DEV p.val) (BitVec.ofInt 32 (clampInt (-(2 ^ 31)) (2 ^ 31 - 1) dev))
      let w := ((((v.incSat (POS_PORT_STAT_MISMATCH p.val)).posCount POS_STB_INDEX_MISMATCH_COUNT 1).addSat
        (POS_PORT_STAT_CONSEC p.val) 1).raise 111)
      (dev.natAbs ≤ 2 * v.perPeriod p.val →
        exec (.indexCrossing p n dt) s = s.done (v.put (POS_PORT_STAT_CONSEC p.val) 0))
      ∧ (2 * v.perPeriod p.val < dev.natAbs →
        exec (.indexCrossing p n dt) s = s.done
          (if w.get (POS_PORT_STAT_CONSEC p.val) = 3 ∧ ¬ w.flag ⟨POS_FAULT, 12 + p.val, 1⟩ then w.setFaults [(p.val, 12 + p.val)]
           else w))))
  ∧ (∀ (s : State) (dt : Nat), s.runs 8 = true →
    exec (.faultWindowEnd dt) s = s.done ((s.tick dt).tickTo ((s.tick dt).pos.windowAt + (s.tick dt).windowLen)).rollWindow)
  ∧ (∀ (s : State) (dt : Nat), (s.tick dt).posNow.runs 8 = true → exec (.speedStale dt) s = s.done (s.tick dt).posNow.syncSpeed)

/-- The position registers with an effect complete (R247, R252, R254, R258): a load of the counter while the line clock stands
still sets it and H, and is discarded while it runs; a clear of fault bits clears exactly those written 1; a reselect with no
channel printing and a healthy primary port makes it active; a compare unit the line clock does not own takes its target, step
and count, and the outputs show its masks. -/
def Obligations.PositionRegisterCommandsComplete : Prop :=
  (∀ (s : State) (by_ : By) (x : BitVec 48), s.Lands by_ POS_COUNT_HI → s.flag FIR_STAT_RUNNING = false →
    exec (.posCountLoad by_ x) s = s.done ((s.setPos48 POS_COUNT_LO POS_COUNT_HI (signed 48 x.toNat)).setPos48 POS_HWM_LO POS_HWM_HI
      (signed 48 x.toNat)))
  ∧ (∀ (s : State) (by_ : By) (x : BitVec 48), s.Lands by_ POS_COUNT_HI → s.flag FIR_STAT_RUNNING = true →
    exec (.posCountLoad by_ x) s = s.done s)
  ∧ (∀ (s : State) (by_ : By) (v : Word), s.Lands by_ POS_FAULT →
    Completes (.posFaultClear by_ v) s fun t => t.reg POS_FAULT = s.reg POS_FAULT &&& ~~~v)
  ∧ (∀ (s : State) (by_ : By), s.Lands by_ POS_SEL → s.anyPrinting = true → s.portFault (s.get POS_SEL_PRIMARY) = false →
    ∀ v, exec (.encReselect by_ v) s = s.done (s.putFlag POS_STAT_RESELECT_PENDING true))
  ∧ (∀ (s : State) (by_ : By) (v : Word), s.Lands by_ POS_SEL → s.anyPrinting = false → s.flag POS_STAT_ON_BACKUP = true →
    let u := s.setReg POS_SEL (v &&& 0x133#32)
    u.portFault (u.get POS_SEL_PRIMARY) = false → exec (.encReselect by_ v) s = s.done u.reselect)
  ∧ (∀ (s : State) (by_ : By) (n : Fin 16) (v : Word), s.Lands by_ (POS_CMP_CTL n.val) → s.flag (POS_CMP_STAT_OWNED n.val) = false →
    let u := (s.setReg (POS_CMP_CTL n.val) (v &&& 0xA0FFFFFF#32)).redrive s.outLevels
    exec (.cmpLoad by_ n v false) s = s.done { u with pos := { u.pos with
      target := u.pos.target.set n.val (u.pos48 (POS_CMP_TGT_LO n.val) (POS_CMP_TGT_HI n.val) * 2 ^ 32)
      step := u.pos.step.set n.val (u.getPair (POS_CMP_STEP_LO n.val) (POS_CMP_STEP_HI n.val))
      count := u.pos.count.set n.val (u.reg (POS_CMP_COUNT n.val)).toNat } })

/-- The compare units complete (R256, R257): a unit that is due and not owned fires; the first pulse whose delay has passed
starts and shows on the outputs. -/
def Obligations.CompareUnitEventsComplete : Prop :=
  (∀ (s : State) (n : Fin 16) (dt : Nat),
      let u := (s.tick dt).posNow
      u.runs 8 = true → u.cmpDue n.val = true → u.flag (POS_CMP_STAT_OWNED n.val) = false →
    exec (.cmpFire n dt) s = s.done (u.fireUnit n.val))
  ∧ (∀ (s : State) (n : Fin 16) (dt i : Nat), s.runs 8 = true →
      ((s.pos.pulses.getD n.val []).findIdx? fun p => !p.started && decide (p.start ≤ s.cycle + dt)) = some i →
    let u := s.tick dt
    exec (.cmpPulse n dt) s = s.done ({ u with pos := { s.pos with
      pulses := s.pos.pulses.set n.val ((s.pos.pulses.getD n.val []).set i ⟨s.cycle + dt, true⟩) } }.emitPulse n.val true))

/-! ## The carrier link -/

/-- The training events of a lane complete (R264, R265, R272 to R276): the 64th good sync header in a row shows block lock; the
first TRAIN block that names its carrier and lane takes a lane in DETECT to TAP_TRAIN, one in TAP_TRAIN works its taps, and a
block that names another fails the lane as WIRING with vector 128 + n; VERIFY passes to ALIGN with the far end's verdict; an
echo to a request still out is summed, requests before it without a reply are repeated, and the 64th aligns the lane; a state
that lasts too long fails the lane with that state as its cause, and before anything that arrives later counts. -/
def Obligations.LaneTrainingEventsComplete : Prop :=
  (∀ (s : State) (l : Fin 32) (h : List (BitVec 2)) (dt : Nat), s.runs 9 = true →
    exec (.blockLockGained l h dt) s =
      s.done (h.foldl (fun t v => t.headerSeen l.val (v = 1 || v = 2)) ((s.tick dt).limitNow l.val)))
  ∧ (∀ (s : State) (l : Fin 32) (h : BitVec 2) (dt : Nat), s.runs 9 = true → h = 1 ∨ h = 2 →
      let u := (s.tick dt).limitNow l.val
      u.laneDark l.val = false → (u.lane l.val).valid = 63 → u.flag (JGL_L_STAT_BLOCK_LOCK l.val) = false →
      l.val < s.jgl.lanes.length →
    Completes (.blockLockGained l [h] dt) s fun t => t.flag (JGL_L_STAT_BLOCK_LOCK l.val) = true)
  ∧ (∀ (s : State) (l : Fin 32) (v : BitVec 64) (near : Bool) (wishes : List (Fin 3)) (dt : Nat), s.runs 9 = true →
      v.toNat % 256 = 0x66 →
    let u := ((s.tick dt).limitNow l.val).headerSeen l.val true
    let c := v.toNat / 2 ^ 36 % 16
    let o := v.toNat / 2 ^ 35 % 2
    u.flag (JGL_L_STAT_BLOCK_LOCK l.val) = true →
    (u.laneState l.val = 1 → c = l.val / 2 → o = l.val % 2 →
      exec (.trainBlock l 2 v near wishes dt) s = s.done ((u.laneEnter l.val 2).putFlag (JGL_L_STAT_ADAPT_ON l.val) true))
    ∧ (u.laneState l.val = 2 → c = l.val / 2 → o = l.val % 2 →
      exec (.trainBlock l 2 v near wishes dt) s = s.done ((u.drain (l.val / 2)).tapTrain l.val v.toNat near wishes))
    ∧ (u.laneState l.val = 1 ∨ u.laneState l.val = 2 → c ≠ l.val / 2 ∨ o ≠ l.val % 2 →
      exec (.trainBlock l 2 v near wishes dt) s =
        s.done (((u.putFlag (JGL_C_STAT_WIRING (l.val / 2)) true).trainFails l.val 5).raise (128 + l.val / 2))))
  ∧ (∀ (s : State) (l : Fin 32) (dt : Nat), s.runs 9 = true → (s.tick dt).laneState l.val = 3 →
    let u := ((s.tick dt).tickTo (((s.tick dt).lane l.val).cleanAt + 8589935)).limitNow l.val
    u.laneState l.val = 3 →
    exec (.laneVerifyPass l true dt) s = s.done (u.beginAlign l.val) ∧ exec (.laneVerifyPass l false dt) s = s.done u)
  ∧ (∀ (s : State) (l : Fin 32) (v : BitVec 64) (dt : Nat), s.runs 9 = true → v.toNat % 256 = 0x78 →
      v.toNat / 2 ^ 8 % 256 = 1 →
    let u := (((s.tick dt).limitNow l.val).headerSeen l.val true).drain (l.val / 2)
    let tag := v.toNat / 2 ^ 16 % 2 ^ 16
    (((s.tick dt).limitNow l.val).headerSeen l.val true).flag (JGL_L_STAT_BLOCK_LOCK l.val) = true →
    u.laneState l.val = 4 → ∀ q, ((u.lane l.val).requests.find? fun r => r.1 = tag) = some q →
    let w := u.updLane l.val fun x => { x with
      echoSum := x.echoSum + ((u.cycle : Int) - q.2 - (v.toNat / 2 ^ 32 % 2 ^ 32 : Nat))
      echoes := x.echoes + 1
      requests := (x.requests.dropWhile fun r => r.1 ≠ tag).drop 1
      body := x.body ++ (x.requests.takeWhile fun r => r.1 ≠ tag).map fun r => echoBlock r.1 }
    exec (.echoReply l 2 v dt) s = s.done (if (w.lane l.val).echoes < 64 then w
      else w.laneAligned l.val (roundDiv (w.lane l.val).echoSum 128).toNat))
  ∧ (∀ (s : State) (l : Fin 32) (dt : Nat), s.runs 9 = true → (s.tick dt).training l.val = true →
    let u := s.tick dt
    exec (.laneTrainTimeout l dt) s =
      s.done ((u.tickTo ((u.lane l.val).entered + trainLimit (u.laneState l.val))).trainFails l.val (u.laneState l.val)))

/-- Messages, ALIGN markers and telemetry complete (R236, R269, R278, R287 to R290). Of the copies of a message the first good
one counts, and none without one: an ACK that is not BAD_CRC ends the message it names; a link test's result is kept; a record
reaches every unit that uses it. A message without an ACK for 100 µs is sent again up to four times and then fails with vector
145; an ALIGN marker goes out on a carrier that is up; a late record is flagged; a die that misses its reports is blanked. -/
def Obligations.MessageAndTelemetryEventsComplete : Prop :=
  (∀ (s : State) (n : Fin 16) (l : List MsgCopy) (dt q : Nat) (b : List (BitVec 64)), s.runs 9 = true →
    let u := s.tick dt
    (u.goodCopy n.val 0x83 2 l = none → exec (.msgAck n l dt) s = s.done u)
    ∧ (u.goodCopy n.val 0x85 2 l = none → exec (.linkTestResult n l dt) s = s.done u)
    ∧ (u.goodCopy n.val 0x81 9 l = none → exec (.telemetryRecord n l dt) s = s.done u)
    ∧ (u.goodCopy n.val 0x83 2 l = some (q, b) → 2 ≤ (b.getD 0 0).toNat / 2 ^ 16 % 256 → exec (.msgAck n l dt) s = s.done u)
    ∧ (u.goodCopy n.val 0x83 2 l = some (q, b) → (b.getD 0 0).toNat / 2 ^ 16 % 256 < 2 →
      exec (.msgAck n l dt) s = s.done (u.updCarrier n.val fun c =>
        { c with msgs := c.msgs.filter fun (m : Msg) => m.seq ≠ (b.getD 0 0).toNat % 2 ^ 16 }))
    ∧ (u.goodCopy n.val 0x85 2 l = some (q, b) →
      exec (.linkTestResult n l dt) s = s.done (u.updCarrier n.val fun c =>
        { c with test := ((b.getD 0 0).setWidth 32, (b.getD 0 0 >>> 32).setWidth 32) }))
    ∧ (u.goodCopy n.val 0x81 9 l = some (q, b) → u.carrierOn n.val = true →
      exec (.telemetryRecord n l dt) s = s.done (u.telemetry n.val q b)))
  ∧ (∀ (s : State) (n : Fin 16) (q : BitVec 16) (m : Msg) (dt : Nat), s.runs 9 = true →
      ((s.carrier n.val).msgs.find? fun m => m.seq = q.toNat) = some m →
    let u := (s.tick dt).tickTo (m.at_ + 80000)
    let v := u.updCarrier n.val fun c => { c with msgs := c.msgs.map fun (x : Msg) =>
      if x.seq = q.toNat then { x with sends := x.sends + 1, at_ := u.cycle } else x }
    let w := u.updCarrier n.val fun c => { c with msgs := c.msgs.filter fun (x : Msg) => x.seq ≠ q.toNat }
    (m.sends < 4 → exec (.msgRetry n q dt) s =
      s.done ((((v.queueItem n.val ⟨none, msgBlocks m.kind m.seq m.body⟩).emit (.carrierMsg n.val m.kind m.seq m.body)).incSat
        JGL_MSG_RETRIES).liveAdd JGL_STB_INFO JGL_STB_MSG_RETRY_COUNT 1))
    ∧ (4 ≤ m.sends → exec (.msgRetry n q dt) s =
      s.done ((((w.incSat JGL_MSG_FAILS).putFlag (JGL_C_STAT_MSG_FAIL n.val) true).raise 145).carrierLost n.val)))
  ∧ (∀ (s : State) (n : Fin 16) (dt : Nat), s.runs 9 = true → s.flag (JGL_C_STAT_UP n.val) = true →
    let u := s.tick dt
    exec (.alignMarker n dt) s = s.done ((u.tickTo (slotCycle ((u.carrier n.val).marked
      + 1024 * max 1 (u.get JGL_FILL_ALIGN_KB)))).sendAlign n.val false))
  ∧ (∀ (s : State) (n : Fin 16) (t dt : Nat), s.runs 9 = true → (s.carrier n.val).record = some t →
    exec (.telemLate n dt) s = s.done (((s.tick dt).tickTo (t + 300001)).putFlag (JGL_C_STAT_TELEM_LATE n.val) true))
  ∧ (∀ (s : State) (ch : Fin 8) (d : Fin 52) (dt : Nat), s.runs 8 = true → s.sys.channels.getLsbD ch.val = true →
    let u := s.tick dt
    exec (.dieReportTimeout ch d dt) s =
      s.done ((u.tickTo ((u.fch ch.val).tempAt.getD d.val 0 + 800000)).blankDie ch.val d.val))

/-- Loss, drift and retraining complete (R265 to R267, R279 to R283): what a receiver finds is taken header by header, into the
elastic buffer, which overflows or runs empty 32 blocks from its centre and loses the lane, or marker by marker; drift within
the limit is only recorded, and beyond it an ACTIVE lane is FROZEN with vector 128 + n; a due retrain starts, 1 s after the
latest attempt at the earliest, and one asked for by register starts or waits. The lane tests complete (R291, R292, R294): a
checker that receives 64 bits of its pattern locks and restarts its counts; each bit error counts, and 1,024 within 4,096 bits
drop the lock with vector 146; a write in Service takes the settings, arms one error with INJ_ONE, seeds a generator that is
turned on, and drops the lock where the checker's settings change; outside Service the write is discarded. -/
def Obligations.LaneLossAndTestEventsComplete : Prop :=
  ((∀ (s : State) (l : Fin 32) (dt : Nat), s.runs 9 = true →
    let u := s.tick dt
    (∀ h, exec (.laneLost l (.headers h) dt) s = s.done (h.foldl (fun t v => t.headerSeen l.val (v = 1 || v = 2)) u))
    ∧ (∀ k : Int, -32 < (u.lane l.val).level + k → (u.lane l.val).level + k ≤ 32 →
      exec (.laneLost l (.elastic k) dt) s = s.done (u.updLane l.val fun x => { x with level := (u.lane l.val).level + k }))
    ∧ (∀ k : Int, (u.lane l.val).level + k ≤ -32 ∨ 32 < (u.lane l.val).level + k →
      exec (.laneLost l (.elastic k) dt) s =
        s.done (((u.updLane l.val fun x => { x with level := 0 }).incSat (JGL_L_ERR_ELASTIC l.val)).laneLost l.val 11))
    ∧ exec (.laneLost l .fill dt) s = s.done (u.takeFill l.val)
    ∧ (∀ g, exec (.laneLost l (.markers g) dt) s = s.done (g.foldl (fun t x => t.takeMarker l.val x) u)))
  ∧ (∀ (s : State) (l : Fin 32) (steps : BitVec 8) (tr : BitVec 17) (dt : Nat), s.runs 9 = true →
    let w := (s.tick dt).tickTo (((s.tick dt).lane l.val).checkedAt + 800000)
    let u := (w.updLane l.val fun x => { x with checkedAt := w.cycle }).putFlag (JGL_L_STAT_ADAPT_ON l.val)
      (2 ≤ w.laneState l.val && w.laneState l.val ≤ 5 && 1024 * w.get JGL_ADAPT_TD_MIN ≤ tr.toNat)
    let v := u.put (JGL_L_RXEQ_DRIFT_MAX_SEEN l.val) (max steps.toNat (u.get (JGL_L_RXEQ_DRIFT_MAX_SEEN l.val)))
    (u.laneState l.val ≠ 5 → exec (.driftCheck l steps tr dt) s = s.done u)
    ∧ (u.laneState l.val = 5 → steps.toNat ≤ v.get JGL_ADAPT_DRIFT_MAX ∨ v.flag (JGL_L_CTL_FREEZE_DIS l.val) = true →
      exec (.driftCheck l steps tr dt) s = s.done v)
    ∧ (u.laneState l.val = 5 → v.get JGL_ADAPT_DRIFT_MAX < steps.toNat → v.flag (JGL_L_CTL_FREEZE_DIS l.val) = false →
      exec (.driftCheck l steps tr dt) s = s.done ((((((v.laneEnter l.val 6).putFlag (JGL_L_STAT_ADAPT_ON l.val) false).putFlag
        (JGL_L_STAT_DRIFT l.val) true).putFlag (JGL_C_STAT_DRIFT (l.val / 2)) true).updLane l.val fun x =>
          { x with wanted := true }).raise (128 + l.val / 2))))
  ∧ (∀ (s : State) (l : Fin 32) (dt : Nat), s.runs 9 = true →
      let u := s.tick dt
      let x := u.lane l.val
      x.due = true ∨ (x.wanted = true ∧ u.flag JGL_CTL_AUTO_RETRAIN = true ∧ u.printing (l.val / 4) = false
        ∧ (u.laneState l.val = 6 ∨ u.laneState l.val = 7)) →
      x.test = false → u.trainable l.val = true → u.mayRetrain l.val = true →
    exec (.retrainStart l dt) s = s.done (((x.tried.map fun t => u.tickTo (t + 800000000)).getD u).retrain l.val))
  ∧ (∀ (s : State) (by_ : By) (l : Fin 32) (v : Word), s.Lands by_ (JGL_L_CTL l.val) → bits v 31 1 = 1 →
    exec (.retrainWrite by_ l v) s = s.done ((s.setReg (JGL_L_CTL l.val) (v &&& 0x40000000)).askRetrain l.val)))
  ∧ ((∀ (s : State) (l : Fin 32) (b : List Bool) (dt : Nat), s.runs 9 = true → (s.lane l.val).test = true →
      s.flag (JGL_L_PRBS_CHK l.val) = true → s.get (JGL_L_PRBS_PATTERN l.val) ≠ 0 → s.flag (JGL_L_PRBS_LOCK l.val) = false →
      followsPattern (s.get (JGL_L_PRBS_PATTERN l.val)) b = true →
    exec (.prbsCheckerLock l b dt) s =
      s.done (((((s.tick dt).putFlag (JGL_L_PRBS_LOCK l.val) true).setReg (JGL_L_PRBS_ERR l.val) 0).setReg
        (JGL_L_PRBS_BITS l.val) 0).updLane l.val fun x => { x with lockAt := s.cycle + dt, errAt := [] }))
  ∧ (∀ (s : State) (l : Fin 32) (es : List Nat) (dt : Nat), s.runs 9 = true →
    exec (.prbsLockLoss l es dt) s = s.done (es.foldl (fun t e => t.bitError l.val e) (s.tick dt)))
  ∧ (∀ (s : State) (l : Fin 32) (e dt : Nat), s.runs 9 = true → s.flag (JGL_L_PRBS_LOCK l.val) = true →
    let u := ((s.tick dt).incSat (JGL_L_PRBS_ERR_ERRORS l.val)).updLane l.val fun x =>
      { x with errAt := (e :: x.errAt).filter fun k => e < k + 4096 }
    exec (.prbsLockLoss l [e] dt) s =
      s.done (if 1024 ≤ (u.lane l.val).errAt.length then (u.dropChecker l.val).raise 146 else u))
  ∧ (∀ (s : State) (by_ : By) (l : Fin 32) (v : Word), s.Lands by_ (JGL_L_PRBS l.val) → s.modeCode = 10 →
    let d := s.drain (l.val / 2)
    let old := d.reg (JGL_L_PRBS l.val)
    let u := if bits old 0 4 = bits v 0 4 then d else d.dropChecker l.val
    exec (.injOne by_ l v) s =
      s.done ((u.setReg (JGL_L_PRBS l.val) ((v &&& 0x40FF000F) ||| (u.reg (JGL_L_PRBS l.val) &&& 0x10))).updLane l.val fun x =>
        { x with flip := x.flip || v.getLsbD 31
                 generator := if v.getLsbD 2 && bits old 0 3 ≠ bits v 0 3 then 0x7FFFFFFF else x.generator }))
  ∧ (∀ (s : State) (by_ : By) (l : Fin 32) (v : Word), s.Lands by_ (JGL_L_PRBS l.val) → s.modeCode ≠ 10 →
    exec (.injOne by_ l v) s = s.done s))

/-! ## Cameras and inspection -/

/-- Triggers, frame boundaries, strobes and the ends of pulses complete (R238, R257, R301, R303, R307): a pulse reaches the
sensors of its output, the oldest frame still without its boundary passes it once its exposure delay is over, the strobe due
first drives its output, and that over first leaves the output to the other strobes; the oldest pulse of a compare unit that has
lasted its width ends, as does the pulse on LINE_SYNC_OUT. -/
def Obligations.TriggerAndStrobeEventsComplete : Prop :=
  (∀ (s : State) (o : Fin 16) (dt : Nat),
      let u := (s.tick dt).posNow
      u.runs 10 = true → (u.drivenBy POS_CMP_CTL_TRIG).testBit o.val = true →
    exec (.triggerPulse o dt) s = s.done (u.triggerOutput o.val))
  ∧ (∀ (s : State) (n : Fin 16) (dt : Nat) (f : Frame), s.runs 10 = true →
      ((s.sensor n.val).frames.find? fun (f : Frame) => !f.bounded) = some f →
    exec (.frameBoundary n dt) s =
      s.done (((s.tick dt).tickTo (f.at_ + s.get (CAM_SNS_TIMING_EXP_DELAY n.val))).frameBoundary n.val f))
  ∧ (∀ (s : State) (n : Fin 16) (dt : Nat) (q : Nat × Nat × Nat) (r : List (Nat × Nat × Nat)), s.runs 10 = true →
      (s.sensor n.val).flashes = q :: r →
    let first := r.foldl (fun a b => if b.1 < a.1 then b else a) q
    let u := (s.tick dt).tickTo first.1
    exec (.strobePulse n dt) s =
      s.done ((u.updSensor n.val fun x =>
        { x with flashes := x.flashes.erase first, strobes := x.strobes ++ [(first.2.1, u.cycle + first.2.2)] }).emit
          (.strobe first.2.1 true)))
  ∧ (∀ (s : State) (n : Fin 16) (dt : Nat) (q : Nat × Nat) (r : List (Nat × Nat)), s.runs 10 = true →
      (s.sensor n.val).strobes = q :: r →
    let first := r.foldl (fun a b => if b.2 < a.2 then b else a) q
    let u := ((s.tick dt).tickTo first.2).updSensor n.val fun x => { x with strobes := x.strobes.erase first }
    exec (.pulseEnd (.strobe n) dt) s = s.done (u.emit (.strobe first.1 (u.strobeLevel first.1))))
  ∧ (∀ (s : State) (n : Fin 16) (dt i : Nat), s.runs 8 = true →
      ((s.pos.pulses.getD n.val []).findIdx? fun p => p.started
        && decide (p.start + max 1 (s.get (POS_CMP_PULSE_WIDTH n.val)) ≤ s.cycle + dt)) = some i →
    let u := s.tick dt
    exec (.pulseEnd (.compare n) dt) s = s.done (({ u with pos := { u.pos with
      pulses := u.pos.pulses.set n.val ((u.pos.pulses.getD n.val []).eraseIdx i) } } : State).emitPulse n.val false))
  ∧ (∀ (s : State) (dt t : Nat), s.runs 8 = true → s.fir.syncEnd = some t → t ≤ s.cycle + dt →
    let u := s.tick dt
    exec (.pulseEnd .lineSync dt) s =
      s.done (({ u with fir := { u.fir with syncEnd := none } } : State).emit (.lineSync false)))

/-- The packets of frames complete (R295, R297, R302, R311, R312, R320): a header that fails its check is discarded, one
corrected is counted. FS ends a frame still received, then starts the oldest frame waiting for it, or the next of a free-running
sensor, and is UNEXPECTED with vector 169 where no sensor stands on the virtual channel or no frame waits; a line is received
after the lines the pipeline takes; FE closes the frame; a frame whose FS does not come is LOST with vector 161; a frame that
has left the pipeline reaches its streams, the analysers and its record. -/
def Obligations.FramePacketsComplete : Prop :=
  (∀ (s : State) (p : Fin 4) (vc : Fin 16) (ecc : EccResult) (dt : Nat),
    let u := (s.tick dt).posNow
    let t := if ecc = .corrected then u.incSat ⟨CAM_PORT_ERR p.val, 24, 8⟩ else u
    u.runs 10 = true → u.camPortOn p.val = true →
    (ecc = .failed → exec (.frameStart p vc ecc dt) s = s.done (u.eccFailed p.val))
    ∧ (ecc ≠ .failed → t.snsAt p.val vc.val = none →
      exec (.frameStart p vc ecc dt) s = s.done ((t.incSat ⟨CAM_PORT_ERR p.val, 0, 8⟩).raise 169))
    ∧ (∀ n, ecc ≠ .failed → t.snsAt p.val vc.val = some n →
      let v := (t.receiving n).elim t fun f => t.endFrame n f true
      let w := v.newFrame n
      (v.get (CAM_SNS_CFG_TRIG n) < 16 → ((v.sensor n).frames.find? fun (f : Frame) => !f.started) = none →
        exec (.frameStart p vc ecc dt) s = s.done ((v.incSat ⟨CAM_PORT_ERR p.val, 0, 8⟩).raise 169))
      ∧ (∀ f, v.get (CAM_SNS_CFG_TRIG n) < 16 → ((v.sensor n).frames.find? fun (f : Frame) => !f.started) = some f →
        exec (.frameStart p vc ecc dt) s = s.done (v.startFrame n f.number))
      ∧ (∀ f, 16 ≤ v.get (CAM_SNS_CFG_TRIG n) → (w.sensor n).frames.getLast? = some f →
        exec (.frameStart p vc ecc dt) s = s.done ((w.frameBoundary n f).startFrame n f.number))))
  ∧ (∀ (s : State) (p : Fin 4) (vc : Fin 16) (ty : BitVec 6) (px : List (BitVec 12)) (ecc : EccResult) (ok : Bool) (k dt : Nat),
    let u := State.takeLines k (s.tick dt)
    let t := if ecc = .corrected then u.incSat ⟨CAM_PORT_ERR p.val, 24, 8⟩ else u
    s.runs 10 = true → u.camPortOn p.val = true →
    exec (.frameLine p vc ty px ecc ok k dt) s =
      s.done (if ecc = .failed then u.eccFailed p.val else t.linePacket p.val vc.val ty px ok))
  ∧ (∀ (s : State) (p : Fin 4) (vc : Fin 16) (ecc : EccResult) (dt n : Nat) (f : Frame),
    let u := s.tick dt
    let t := if ecc = .corrected then u.incSat ⟨CAM_PORT_ERR p.val, 24, 8⟩ else u
    s.runs 10 = true → s.camPortOn p.val = true →
    (ecc = .failed → exec (.frameEnd p vc ecc dt) s = s.done (u.eccFailed p.val))
    ∧ (ecc ≠ .failed → t.snsAt p.val vc.val = some n → t.receiving n = some f →
      exec (.frameEnd p vc ecc dt) s = s.done (t.endFrame n f true)))
  ∧ (∀ (s : State) (n : Fin 16) (f : Frame) (dt : Nat), s.runs 10 = true →
      ((s.sensor n.val).frames.find? fun (f : Frame) => !f.started) = some f → f.bounded = true →
    let u := (s.tick dt).tickTo (f.at_ + 800 * max 1 (s.get (CAM_SNS_TIMING2_FS_TIMEOUT n.val)))
    exec (.fsTimeout n dt) s = s.done (((u.writeRecord n.val f false true).raise 161).frameMissed n.val))
  ∧ (∀ (s : State) (n : Fin 16) (f g : Frame) (e : Bool), s.runs 10 = true →
      ((s.sensor n.val).frames.find? fun (f : Frame) => f.admitted && f.ended) = some f →
    let u := (List.range (f.got - f.entered)).foldl (fun t _ => t.enterLine n.val f.number) s
    ((u.sensor n.val).frames.find? fun (g : Frame) => g.number = f.number) = some g →
    exec (.frameRecord n e) s = s.done (((u.streamEnds n.val g).feedFrame n.val g).writeRecord n.val g false false e))

/-- The settings pipeline and the sensor buses complete (R298 to R300, R306 to R309): the writes of a request begin on a free
bus, the last one fixes its E and stages its values, they are committed at E; a bus access is taken, or marked ERR while one is
in progress, and ends with its data or, after three NACKs, as a bus error; an in-band interrupt of an I3C target raises vector
170; a hot join is acknowledged during discovery; discovery ends with vector 171. -/
def Obligations.SettingsAndBusEventsComplete : Prop :=
  (∀ (s : State) (n : Fin 16) (r : SetReq) (l : List SetReq), s.runs 10 = true → (s.sensor n.val).reqs = r :: l → r.sending = false →
      (r.e : Int) - s.setLat n.val - 1 ≤ s.latestFrame n.val → s.settingsBusy (s.get (CAM_SNS_BUS_BUSPORT n.val)) = false →
      s.accessOn (s.get (CAM_SNS_BUS_BUSPORT n.val)) = false →
    exec (.settingsSend n) s = s.done ((s.updReq n.val fun r => { r with sending := true }).sendWrite n.val))
  ∧ (∀ (s : State) (n : Fin 16) (r : SetReq) (l : List SetReq), s.runs 10 = true → (s.sensor n.val).reqs = r :: l → r.sending = true →
      r.sent = false → r.writes = [] →
    let e := max r.e (s.comingFrame n.val + s.setLat n.val)
    let u := (s.updReq n.val fun r => { r with sent := true, e := e }).updSensor n.val fun x => { x with eLast := e }
    let v := if (e : Int) = r.f then u else u.raiseWith 162 (some n.val) (some (e % 2 ^ 32)) 0
    exec (.settingsWritesDone n) s = s.done (v.stageReq n.val r))
  ∧ (∀ (s : State) (n : Fin 16) (r : SetReq) (l : List SetReq), s.runs 10 = true → (s.sensor n.val).reqs = r :: l → r.sent = true →
      (r.e : Int) - 1 ≤ s.latestFrame n.val →
    exec (.settingsCommit n) s =
      s.done (((s.updSensor n.val fun x => { x with unknown := none }).commitNow .cam n.val).endReq n.val))
  ∧ (∀ (s : State) (by_ : By) (v : Word), s.Lands by_ CAM_BUS_CMD → bits v 31 1 = 1 →
    let a : BusAccess := ⟨bits v 24 4, bits v 30 1 = 1, [1, 2, 4, 4].getD (bits v 28 2) 4, bits v 0 16, 0, false⟩
    exec (.busAccess by_ v) s = s.done
      (if s.flag CAM_BUS_STAT_BUSY then s.putFlag CAM_BUS_STAT_ERR true
       else (({ s with cam := { s.cam with access := some a } } : State).putFlag CAM_BUS_STAT_BUSY true).startAccess))
  ∧ (∀ (s : State) (n : Fin 16) (r : SetReq) (l : List SetReq) (w : Nat × Nat × Nat) (ws : List (Nat × Nat × Nat)) (k : Fin 4)
      (v : Word), s.runs 10 = true → (s.sensor n.val).reqs = r :: l → r.sending = true → r.writes = w :: ws →
    let u := s.retry k.val (writeOut n.val w)
    let from_ := u.comingFrame n.val + u.setLat n.val
    (k.val < 3 → exec (.busAccessDone n true k v) s =
      s.done (((u.updReq n.val fun r => { r with writes := ws }).sendWrite n.val).startAccess))
    ∧ (k.val = 3 → exec (.busAccessDone n true k v) s =
      s.done ((((u.updSensor n.val fun x => { x with unknown := some ((x.unknown.map fun k => min k from_).getD from_) }).busError).endReq
        n.val).startAccess)))
  ∧ (∀ (s : State) (n : Fin 16) (k : Fin 4) (v : Word) (a : BusAccess), s.runs 10 = true → s.cam.access = some a → a.sensor = n.val →
      a.started = true →
    let u := (({ s with cam := { s.cam with access := none } } : State).putFlag CAM_BUS_STAT_BUSY false).retry k.val a.out
    exec (.busAccessDone n false k v) s =
      s.done (if k.val = 3 then (u.putFlag CAM_BUS_STAT_ERR true).busError
        else if a.read then u.setReg CAM_BUS_DATA (BitVec.ofNat 32 (bits v 0 (8 * a.bytes))) else u))
  ∧ (∀ (s : State) (n : Fin 16), s.runs 10 = true → s.flag (CAM_SNS_BUS_I3C n.val) = true →
    exec (.inBandInterrupt n) s = s.done ((s.emit (.ibiAck n.val)).raiseDetail 170 n.val))
  ∧ (∀ (s : State) (b : Fin 4), s.runs 10 = true → s.cam.discovering.getLsbD b.val = true →
    exec (.hotJoin b) s = s.done (s.emit (.hotJoinAck b.val)))
  ∧ (∀ (s : State) (a : BitVec 16) (j : List (Fin 4 × BitVec 16)), s.runs 10 = true → (bitList s.cam.discovering).isEmpty = false →
    exec (.discoveryDone a j) s = s.done
      (let u := (bitList s.cam.discovering).foldl (fun (s : State) b =>
          let t := (s.busSensors b).foldl (fun (s : State) n =>
            s.putFlag (CAM_SNS_BUS_PRESENT n) (!s.flag (CAM_SNS_BUS_I3C n) && a.getLsbD n)) s
          t.joinBus b ((j.filter fun q => q.1.val = b).map fun q => q.2)) s
       (({ u with cam := { u.cam with discovering := 0 } } : State).raise 171).resolve 0x0500 .ok 0))

/-- The camera line, the analysis of a page and calibration complete (R217, R326, R334, R346, R347): the boundary of the next
run line is passed at its predicted cycle; a page that waits is analysed from what the station saw of it; a run ends with its
result, an aborted one as aborted, and the next of the visit begins; the temperatures are checked once a second; due runs start
in Warm. -/
def Obligations.InspectionAndCalibrationEventsComplete : Prop :=
  (∀ (s : State) (dt : Nat) (a : Anchor), (s.tick dt).params = some a → (s.tick dt).clockRuns = true → a.p ≠ 0 →
      s.sys.inspection = true → (s.tick dt).camLineTime a s.fir.camNext ≤ s.cycle + dt →
    exec (.cameraLineBoundary dt) s = s.done ((s.tick dt).cameraLine s.fir.camNext))
  ∧ (∀ (s : State) (page id : Word) (dt : Nat) (x : PageView) (p : Page), s.runs 10 = true →
      (s.ins.waiting.find? fun k => s.nameOf k = page) = some id → s.page? id = some p →
      (s.ins.views.find? fun (v : PageView) => v.page = id) = some x →
    let u := ((s.tick dt).analysed p x).forget id
    let w : State := { u with ins := { u.ins with waiting := u.ins.waiting.filter fun (x : Word) => x ≠ id } }
    exec (.pageAnalysisDone page dt) s = s.done (w.putFlag INS_STAT_BUSY (!w.ins.waiting.isEmpty)).settleAll)
  ∧ (∀ (s : State) (v : BitVec 4) (l : List CalItem) (dt : Nat) (r : CalRun), s.cal.run = some r → r.aborting = false →
    let u := (s.tick dt).endCal r v.toNat l
    exec (.calRunEnd v l dt) s = s.done (State.nextCal u.cal.queue u))
  ∧ (∀ (s : State) (v : BitVec 4) (l : List CalItem) (dt : Nat) (r : CalRun), s.cal.run = some r → r.aborting = true →
    exec (.calRunEnd v l dt) s = s.done ((s.tick dt).endCal r 2 l).leaveCal)
  ∧ (∀ (s : State) (c : BitVec 8) (l : List (BitVec 8)) (dt : Nat),
    let u := ((s.tick dt).tickTo (s.cal.checkedAt + 800000000)).soak
    let on := (List.range 16).filter ((s.tick dt).tickTo (s.cal.checkedAt + 800000000)).snsOn
    let v := on.foldl (fun (t : State) n => t.emit (.busRead n (t.get (CAL_TMP_SRC_REG 1)) 1)) u
    let w : State := { v with cal := { v.cal with heat := [(0, 0), (0, 0)], checkedAt := v.cycle } }
    exec (.temperCheck c l dt) s =
      s.done ([some (signed 8 c.toNat), hottestSensor (l.take on.length), v.averaged 2, v.averaged 3].zipIdx.foldl
        (fun (t : State) q => q.1.elim t fun x => t.temperOne q.2 (unsigned 8 x)) w))
  ∧ (∀ s : State, s.modeCode = 5 → s.flag SYS_MODE_TRANSITION = false → s.cmd.table = [] → s.cal.run = none → s.temperDue ≠ [] →
    exec .temperRunStart s = s.done (State.nextCal s.temperDue (s.setChipMode 11 1)))

/-! ## Power -/

/-- The supply's events complete (R356, R359, R361, R362, R446): at the check due every 100 µs the lowest-numbered waiting
carrier is admitted where START is possible and its claim and its rise fit, and waits otherwise; with none waiting a changed
setpoint is sent as the slew allows; a rail command is repeated as last given 100 ms after the latest; a claim kept for the
switch-off ends after 2 s. A temperature reading, the minute of wear, its mirror and a write of the island enables complete
(R355, R369 to R372, R451). The hottest island with its number and the stack's reading stand in their registers, and below every
threshold nothing stops. The minute adds to the equivalent hours its mean temperature's factor and to each grid its current's
share; the mirror holds the totals, or its failure raises vector 202; in Service the islands are clocked as written. -/
def Obligations.PowerEventsComplete : Prop :=
  ((∀ s : State, s.runs 0 = true →
    let u := s.every .admission 80000
    (∀ n l, bitList u.pwr.waiting = n :: l → u.flag SAF_STAT_START_OK = true →
      u.get PWR_SUP_USED_VALUE + 10 * u.get (PWR_C_CLAIM_CLAIM_CA n) ≤ u.get PWR_SUP_BUDGET_VALUE →
      u.rampSum + u.get (PWR_C_RAIL_RAMP_MA_MS n) ≤ u.get PWR_SUP_SLEW_VALUE →
      exec .supplyAdmit s = s.done (u.admitNext n).tryChange)
    ∧ (∀ n l, bitList u.pwr.waiting = n :: l → u.flag SAF_STAT_START_OK = true →
      (u.get PWR_SUP_BUDGET_VALUE < u.get PWR_SUP_USED_VALUE + 10 * u.get (PWR_C_CLAIM_CLAIM_CA n)
        ∨ u.get PWR_SUP_SLEW_VALUE < u.rampSum + u.get (PWR_C_RAIL_RAMP_MA_MS n)) →
      exec .supplyAdmit s = s.done u.supplyWaits.tryChange)
    ∧ (∀ n l, bitList u.pwr.waiting = n :: l → u.flag SAF_STAT_START_OK = false → exec .supplyAdmit s = s.done u.tryChange)
    ∧ (∀ n l, u.pwr.waiting = 0 → bitList u.pwr.setWait = n :: l →
      u.rampSum + u.get (PWR_C_RAIL_RAMP_MA_MS n) ≤ u.get PWR_SUP_SLEW_VALUE →
      exec .supplyAdmit s = s.done (u.sendSetpoint n).tryChange))
  ∧ (∀ (s : State) (n : Fin 16), s.carrierOn n.val = true →
    let u := s.waitFor (.rail n.val) 80000000
    exec (.railCmdRepeat n) s = s.done (u.railCommand n.val (u.carrier n.val).enabled (u.carrier n.val).setMv))
  ∧ (∀ (s : State) (n : Fin 16), (s.carrier n.val).leaving = true →
    exec (.claimTimeout n) s = s.done ((((s.waitFor (.claim n.val) 1600000000).updCarrier n.val fun c =>
      { c with claim := 0, ramping := false, warm := false, leaving := false }).syncClaims).tryChange)))
  ∧ ((∀ (s : State) (l : List (BitVec 8)) (k : BitVec 8), s.runs 0 = true →
    exec (.thermalRead l k) s = s.done (s.thermalRead l k))
  ∧ (∀ (s : State) (l : List (BitVec 8)) (k : BitVec 8), s.runs 0 = true →
      (∀ b ∈ l, b.toInt < s.get PWR_THERM_WARN ∧ b.toInt < s.get PWR_THERM_STOP ∧ b.toInt < s.get PWR_THERM_CRIT) → l ≠ [] →
      l.length ≤ 12 → s.thermal = false → s.pwr.warnLogic = false → s.pwr.stopLogic = false →
      s.pwr.critLogic = false → s.pwr.warnStack = false → s.pwr.stopStack = false → s.pwr.critStack = false →
      k.toInt < s.get PWR_HBM_THERM_WARN → k.toInt < s.get PWR_HBM_THERM_STOP → k.toInt < s.get PWR_HBM_THERM_CRIT →
    Completes (.thermalRead l k) s fun t => t.get PWR_TEMP_HBM_C = k.toNat
      ∧ t.get PWR_TEMP_LOGIC_C = unsigned 8 (hottest (l.map fun b => signed 8 b.toNat)).1
      ∧ t.get PWR_TEMP_HOT_ISLAND = (hottest (l.map fun b => signed 8 b.toNat)).2
      ∧ t.flag PWR_STAT_THERM_STOP = false ∧ t.flag PWR_STAT_THERM_CRIT = false)
  ∧ (∀ (s : State) (rings : List (Nat × Nat)) (core sram : BitVec 24), s.runs 0 = true →
    let u := s.every .minute 48000000000
    let f := if u.pwr.tempCount = 0 then 0 else wearFactor u.pwr.tempSum u.pwr.tempCount
    let v := State.syncWear { u with pwr := { u.pwr with
      wear := u.pwr.wear + f, grids := (u.pwr.grids.zip [core, sram]).map fun g => g.1 + g.2.toNat * f / 2 ^ 16
      tempSum := 0, tempCount := 0 } }
    let r := v.put PWR_WEAR_LIFE_RO_SHIFT (min 65535 (slowing rings))
    let w := r.put PWR_WEAR_EM_EM_USED (min 65535 r.emUsed)
    exec (.wearUpdate rings core sram) s = s.done (w.wearWarn w.wearReached))
  ∧ (∀ s : State, s.runs 0 = true →
    let u := s.every .hour 2880000000000
    exec (.wearMirror true) s = s.done (({ u with flash := { u.flash with wear := u.wearTotals } } : State).emit (.flashWrite 0xFFC000))
      ∧ exec (.wearMirror false) s = s.done ((u.putFlag PWR_STAT_MIRROR_ERR true).raise 202))
  ∧ (∀ (s : State) (by_ : By) (v : Word), s.Lands by_ PWR_ISL_CTL →
    let u := s.put PWR_ISL_CTL_EN (bits v 0 12 ||| 0xF)
    exec (.islEnWrite by_ v) s = s.done (if u.modeCode = 10 then u.gateIslands (u.clocked .service) else u)))

/-! ## Arbiters and locks -/

/-- The arbiters' events complete (R377 to R380, R382): a cycle takes its arrivals and grants each free path in ascending order;
a window boundary, at the end of the window's length, latches the bank and starts the next window; a tin hold that is cut queues
again, its path grants anew, and the port's first cut raises vector 243. -/
def Obligations.ArbiterEventsComplete : Prop :=
  (∀ (s : State) (a : Fin 4) (n : Nat) (l : List (Nat × Nat)) (f : BitVec 32), s.runs (arbIsland a.val) = true →
    let u := (s.arbTickTo a.val (s.arbNow a.val + n)).arbArrive a.val l f
    exec (.arbGrant a n l f) s = s.done
      (((u.freePaths a.val).foldl (fun (t : State) p => t.grantPath a.val p) u).syncArbiter a.val))
  ∧ (∀ (s : State) (a : Fin 4) (n : Nat), s.runs (arbIsland a.val) = true →
    let u := s.arbTickTo a.val (max (s.arbNow a.val + n) ((s.arbiter a.val).windowAt + s.windowLength a.val))
    let w := (u.arbiter a.val).window
    exec (.arbWindow a n) s = s.done
      (((u.latchBank (ARB_A_STB_SEQ a.val) 7 (BitVec.ofNat 32 w) 6 0 false).handOver .arb a.val (BitVec.ofNat 32 (w + 1))).newWindow
        a.val))
  ∧ (∀ (s : State) (a : Fin 4) (p : Fin 32) (h : ArbReq),
      ((s.arbiter a.val).holds.find? fun h => h.path = p.val && s.portClass a.val h.port = 2) = some h →
    let u := (s.arbTickTo a.val (h.held + s.tinHold a.val)).updArbiter a.val fun x =>
      { x with holds := x.holds.erase h, reqs := x.reqs ++ [{ h with held := 0 }] }
    let v := ((u.grantPath a.val p.val).syncArbiter a.val).liveAdd (ARB_A_STB_INFO a.val) (ARB_A_STB_TIN_CUT_COUNT a.val) 1
    exec (.tinCut a p) s = s.done (if v.flag (ARB_PORT_CFG_CUT a.val h.port) then v
      else (v.putFlag (ARB_PORT_CFG_CUT a.val h.port) true).raise 243))

/-- The lock events complete (R385 to R387, R390). A free lock is granted, a held one queues its requester, a lower rank is
refused with vector 241, and a request of one that waits already is REFUSED. A holder's release serves the first waiter, a
waiter's withdraws it, and any other is refused; BROKEN is cleared by its holder. A wait that lasts WAIT_US aborts the request
of the most recent holder that waits. -/
def Obligations.LockEventsComplete : Prop :=
  (∀ (s : State) (by_ : By) (v : Word), s.Lands by_ ARB_HL_REQ → bits v 4 4 ≠ 0 →
    let i := 16 + bits v 0 4
    let r := hostReq (bits v 4 4)
    (s.lockWaits r = true → exec (.hlAcquire by_ v) s = s.done (s.lockResult r 6))
    ∧ (s.lockWaits r = false → s.lockOrder i r = true →
      exec (.hlAcquire by_ v) s = s.done (((s.incSat ARB_LOCK_STAT_ORDER).raise 241).lockResult r 3))
    ∧ (s.lockWaits r = false → s.lockOrder i r = false → (s.lock i).holder = none →
      exec (.hlAcquire by_ v) s = s.done (s.grantLock i r))
    ∧ (s.lockWaits r = false → s.lockOrder i r = false → (s.lock i).holder ≠ none →
      exec (.hlAcquire by_ v) s = s.done ((((s.updLock i fun l => { l with waiters := l.waiters ++ [r] }).syncLock i).lockResult r 0).mark
        (.lockWait r.id)))
    ∧ ((s.lock i).holder = some r → exec (.hlRelease by_ v) s = s.done
      ((((s.updLock i fun l => { l with holder := none }).syncLock i).lockResult r 0).serveLock i))
    ∧ ((s.lock i).holder ≠ some r → (s.lock i).waiters.contains r = true → exec (.hlRelease by_ v) s = s.done
      (((s.updLock i fun l => { l with waiters := l.waiters.erase r }).syncLock i).lockResult r 7))
    ∧ ((s.lock i).holder ≠ some r → (s.lock i).waiters.contains r = false →
      exec (.hlRelease by_ v) s = s.done (s.lockResult r 5))
    ∧ ((s.lock i).holder = some r → exec (.hlRepaired by_ v) s = s.done
      (((s.updLock i fun l => { l with broken := false }).syncLock i).lockResult r 8))
    ∧ ((s.lock i).holder ≠ some r → exec (.hlRepaired by_ v) s = s.done (s.lockResult r 5)))
  ∧ (∀ (s : State) (r : LockReq) (t : Nat), s.runs 5 = true → s.firstWaiter = some (r, t) →
    exec .lockWaitTimeout s = s.done (s.every (.lockWait r.id) (max 1 (s.get ARB_CTL_WAIT_US) * 800)).lockAbort)
  ∧ (∀ (s : State) (i : Fin 32) (r : LockReq), s.runs 5 = true → (s.lock i.val).holder = some r → s.lockWaits r = true →
    Completes .lockWaitTimeout s fun t => t.get ARB_LOCK_STAT_ABORT = min 0xFF (s.get ARB_LOCK_STAT_ABORT + 1))

/-! ## Barge channels -/

/-- START, RESUME, STOP and SEM complete (R396, R402, R404): a channel that is not running starts at the PC written, with its
loop stack empty on START; one that is running only sets CMD_REJ. -/
def Obligations.BargeCommandsComplete : Prop :=
  (∀ (s : State) (by_ : By) (n : Fin 32) (v : Word), s.Lands by_ (BRG_CH_CTL n.val) → s.bargeRuns n.val = false → 3 < s.modeCode →
    Completes (.brgStart by_ n v) s fun t => t.bargeState n.val = 1 ∧ t.bargePc n.val = bits v 0 8
      ∧ t.get (BRG_CH_STAT_DEPTH n.val) = 0 ∧ t.get (BRG_CH_STAT_CAUSE n.val) = 0)
  ∧ (∀ (s : State) (by_ : By) (n : Fin 32) (v : Word), s.Lands by_ (BRG_CH_CTL n.val) →
      s.bargeState n.val = 4 ∨ s.bargeState n.val = 5 → 3 < s.modeCode →
    Completes (.brgResume by_ n v) s fun t => t.bargeState n.val = 1 ∧ t.bargePc n.val = bits v 0 8
      ∧ t.get (BRG_CH_STAT_DEPTH n.val) = s.get (BRG_CH_STAT_DEPTH n.val))
  ∧ (∀ (s : State) (by_ : By) (n : Fin 32) (v : Word), s.Lands by_ (BRG_CH_CTL n.val) → s.bargeRuns n.val = true →
    exec (.brgStart by_ n v) s = s.done (s.putFlag (BRG_CH_STAT_CMD_REJ n.val) true)
    ∧ exec (.brgResume by_ n v) s = s.done (s.putFlag (BRG_CH_STAT_CMD_REJ n.val) true))
  ∧ (∀ (s : State) (by_ : By) (n : Fin 32) (v : Word), s.Lands by_ (BRG_CH_CTL n.val) → s.bargeRuns n.val = true →
    exec (.brgStop by_ n v) s = s.done
      ((s.updBarge n.val fun b => { b with stop := some (b.stop.getD 1) }).cutWait n))
  ∧ (∀ (s : State) (by_ : By) (n : Fin 32) (v : Word), s.Lands by_ (BRG_CH_SEM_ADD n.val) →
    exec (.semAdd by_ n v) s = s.done (s.addSat (BRG_CH_SEM_COUNT n.val) v.toNat))

/-- The instructions of a barge program that move no data complete (R397, R399, R401, R402): NOP goes on; LOOP pushes a level;
ENDLOOP returns to its LOOP or pops the level; END ends the program, with vector 244 where it asks; a WAIT is tested at once,
and again while the channel waits, and fails with cause 8 where it still does not hold after its time. -/
def Obligations.BargeControlInstructionsComplete : Prop :=
  (∀ (s : State) (n : Fin 32), s.Executes n.val 0 →
    exec (.bargeNop n) s = s.done (s.bargeGo n.val (s.bargePc n.val + 1)))
  ∧ (∀ (s : State) (n : Fin 32), s.Executes n.val 2 → s.get (BRG_CH_STAT_DEPTH n.val) < 4 →
    let d := s.get (BRG_CH_STAT_DEPTH n.val)
    let u := (s.put (BRG_CH_LOOP_START n.val d) (s.bargePc n.val)).put (BRG_CH_LOOP_IDX n.val d) 0
    exec (.bargeLoop n) s = s.done ((u.put (BRG_CH_STAT_DEPTH n.val) (d + 1)).bargeGo n.val (s.bargePc n.val + 1)))
  ∧ (∀ (s : State) (n : Fin 32), s.Executes n.val 3 → s.get (BRG_CH_STAT_DEPTH n.val) ≠ 0 →
    let d := s.get (BRG_CH_STAT_DEPTH n.val) - 1
    let start := s.get (BRG_CH_LOOP_START n.val d)
    let count := bits (s.bargeWord n.val start 1) 0 24
    let i := s.get (BRG_CH_LOOP_IDX n.val d)
    exec (.bargeEndloop n) s = s.done
      (if count = 0 ∨ i + 1 < count then (s.put (BRG_CH_LOOP_IDX n.val d) (i + 1)).bargeGo n.val (start + 1)
       else (s.put (BRG_CH_STAT_DEPTH n.val) d).bargeGo n.val (s.bargePc n.val + 1)))
  ∧ (∀ (s : State) (n : Fin 32), s.Executes n.val 15 → s.get (BRG_CH_STAT_DEPTH n.val) = 0 →
    let u := (s.setBarge n.val 3).updBarge n.val fun b => { b with stop := none }
    exec (.bargeEnd n) s = s.done
      (State.bargeDue (if (s.bargeWord n.val (s.bargePc n.val) 0).getLsbD 4 then u.raiseDetail 244 n.val else u) n.val))
  ∧ (∀ (s : State) (n : Fin 32), s.Executes n.val 4 →
    exec (.bargeWait n) s = s.done ((s.updBarge n.val fun b => { b with began := s.cycle }).setBarge n.val 2 |>.testWait n))
  ∧ (∀ (s : State) (n : Fin 32),
      (s.Executes n.val 2 → 4 ≤ s.get (BRG_CH_STAT_DEPTH n.val) → exec (.bargeLoop n) s = s.done (s.bargeError n.val 6))
      ∧ (s.Executes n.val 3 → s.get (BRG_CH_STAT_DEPTH n.val) = 0 → exec (.bargeEndloop n) s = s.done (s.bargeError n.val 6))
      ∧ (s.Executes n.val 15 → s.get (BRG_CH_STAT_DEPTH n.val) ≠ 0 → exec (.bargeEnd n) s = s.done (s.bargeError n.val 6)))
  ∧ (∀ (s : State) (n : Fin 32), ∀ q ∈ [(Instr.bargeNop n, 0), (.bargeMove n, 1), (.bargeLoop n, 2), (.bargeEndloop n, 3),
        (.bargeWait n, 4), (.bargeSignal n, 5), (.bargeEnd n, 15)],
      let w := s.bargeWord n.val (s.bargePc n.val)
      s.runs 3 = true → s.bargeState n.val = 1 → (s.barge n.val).moving = false →
      (bits (w 0) 0 4 = q.2 ∨ bits (w 0) 0 4 ∉ bargeOps) → bargeValid (w 0) (w 1) (w 2) (w 3) = false →
    exec q.1 s = s.done (s.bargeError n.val 6))
  ∧ (∀ (s : State) (n : Fin 32) (dt : Nat), s.runs 3 = true → s.bargeState n.val = 2 →
    exec (.waitSatisfied n dt) s = s.done ((s.tick dt).testWait n))
  ∧ (∀ (s : State) (n : Fin 32), s.runs 3 = true → s.bargeState n.val = 2 → s.get (BRG_CH_CFG_WAIT_MS n.val) ≠ 0 →
    let u := (s.tickTo ((s.barge n.val).began + 800000 * s.get (BRG_CH_CFG_WAIT_MS n.val))).testWait n
    exec (.waitTimeout n) s = s.done (if u.bargeState n.val = 2 then u.bargeError n.val 8 else u))

/-- MOVE and SIGNAL complete (R400, R401, R403, R405): a MOVE whose addresses and length fit their targets begins, with its
reads of host memory; its bytes are taken from the source and given to the destination when every beat passes, and the channel
goes on; a SIGNAL writes its word and raises vector 245 where it asks. -/
def Obligations.BargeDataInstructionsComplete : Prop :=
  (∀ (s : State) (n : Fin 32), s.Executes n.val 1 →
      ((s.moveOf n.val).source.aligned (s.moveOf n.val).src (s.moveOf n.val).len
        && (s.moveOf n.val).dest.aligned (s.moveOf n.val).dst (s.moveOf n.val).len) = true →
    let m := s.moveOf n.val
    let u := (s.put (BRG_CH_REMAIN_BYTES n.val) m.len).updBarge n.val fun b =>
      { b with moving := true, asks := (s.put (BRG_CH_REMAIN_BYTES n.val) m.len).moveRequests m }
    exec (.bargeMove n) s = s.done (if m.srcChip then u
      else u.issueReads n.val (max 1 (min 64 (u.get (BRG_CH_CFG_OUTSTANDING n.val))))))
  ∧ (∀ (s : State) (n : Fin 32), s.Executes n.val 1 →
      ((s.moveOf n.val).source.aligned (s.moveOf n.val).src (s.moveOf n.val).len
        && (s.moveOf n.val).dest.aligned (s.moveOf n.val).dst (s.moveOf n.val).len) = false →
    exec (.bargeMove n) s = s.done ((s.put (BRG_CH_REMAIN_BYTES n.val) (s.moveOf n.val).len).moveError n.val 7 none 0))
  ∧ (∀ (s : State) (n : Fin 32) (b : List Byte) (h : Option (BitVec 19)), s.runs 3 = true → s.bargeState n.val = 1 →
      (s.barge n.val).moving = true → s.firstFailure n (s.moveOf n.val) (h.map fun b => b.toNat) = none →
      s.sourceReady (s.moveOf n.val) = true → s.destReady (s.moveOf n.val) = true →
    exec (.moveDone n b h) s = s.done (s.movePasses n (s.moveOf n.val) b))
  ∧ (∀ (s : State) (n : Fin 32) (b : List Byte) (h : Option (BitVec 19)) (k cause : Nat) (side : Bool), s.runs 3 = true →
      s.bargeState n.val = 1 → (s.barge n.val).moving = true →
      s.firstFailure n (s.moveOf n.val) (h.map fun b => b.toNat) = some (k, cause, side) → s.destReady (s.moveOf n.val) = true →
    exec (.moveDone n b h) s = s.done (s.moveFails n (s.moveOf n.val) b k cause side))
  ∧ (∀ (s : State) (n : Fin 32), s.Executes n.val 5 →
    exec (.bargeSignal n) s = s.done (s.bargeSignal n))
  ∧ (∀ (s : State) (n : Fin 32),
      let w := s.bargeWord n.val (s.bargePc n.val)
      s.Executes n.val 5 → (w 0).getLsbD 4 = false → (w 0).getLsbD 6 = false → bits (w 1) 0 2 = 0 → s.bargePc n.val < 255 →
      (s.barge n.val).due = none → (s.barge n.val).stop = none →
    Completes (.bargeSignal n) s fun t =>
      Out.hostWrite ((s.get (BRG_CH_HOST_HI_ADDR n.val)) * 2 ^ 48 + bits (w 2) 0 16 * 2 ^ 32 + (w 1).toNat) (leBytes 4 (w 3).toNat) ∈ t.outs
      ∧ t.bargePc n.val = s.bargePc n.val + 1)

/-! ## Network time -/

/-- The messages of network time complete (R411, R413, R414, R417, R418, R424). An Announce of the port's domain, transport and
VLAN joins the masters under its sender; three intervals after the best master's latest Announce it is gone, with every master
whose time has passed; the answer to the latest request gives the delay of half the round trip, peer to peer, or of half the
four stamps' sum; the servo port's sample is written to TIM_OFFSET_NS and judged; a link that changes has no masters. -/
def Obligations.TimeMessagesComplete : Prop :=
  (∀ (s : State) (p : Fin 2) (h : PtpHead) (a : AnnounceSet) (k : Int) (dt : Nat),
      (s.tick dt).hears p.val h = true → (s.tick dt).clockPort p.val = true →
    let b : AnnounceSet := { a with sender := h.sender }
    let u := (s.tick dt).updTport p.val fun q =>
      { q with heard := (h.sender, s.cycle + dt, secondsLog k) :: q.heard.filter fun x => x.1 ≠ h.sender }
    exec (.announce p h a k dt) s = s.done
      (u.setMasters p.val ((u.tport p.val).masters.filter (fun (c : AnnounceSet) => c.sender ≠ h.sender) ++ [b])))
  ∧ (∀ (s : State) (p : Fin 2) (a : AnnounceSet), s.runs 11 = true → (s.tport p.val).best = some a →
    let u := s.tickTo ((s.tport p.val).deadline a.sender)
    exec (.announceTimeout p) s = s.done
      (u.setMasters p.val ((u.tport p.val).masters.filter fun (b : AnnounceSet) =>
        decide (b.sender ≠ a.sender) && decide (u.cycle < (u.tport p.val).deadline b.sender))))
  ∧ (∀ (s : State) (p : Fin 2) (h : PtpHead) (remote k tx : Int) (dt : Nat), (s.tick dt).hears p.val h = true →
      ((s.tick dt).tport p.val).request = some (h.seq, tx) → s.flag (TIM_P_CFG_P2P p.val) = true →
    let r := (s.tick dt).rxStamp p.val
    exec (.delayResp p h remote k dt) s = s.done
      ((r.2.updTport p.val fun q => { q with request := none }).newDelay p.val (roundDiv (r.1 - tx - remote) 8192)))
  ∧ (∀ (s : State) (p : Fin 2) (h : PtpHead) (remote k tx t1 t2 : Int) (dt : Nat), (s.tick dt).hears p.val h = true →
      ((s.tick dt).tport p.val).request = some (h.seq, tx) → s.flag (TIM_P_CFG_P2P p.val) = false →
      ((s.tick dt).tport p.val).sync = some (t1, t2) → (s.tick dt).clockPort p.val = true → (s.tick dt).fromBest p.val h = true →
    exec (.delayResp p h remote k dt) s = s.done
      (((s.tick dt).updTport p.val fun q => { q with request := none, period := secondsLog k }).newDelay p.val
        (roundDiv (t2 - tx + remote - t1) 8192)))
  ∧ (∀ (s : State) (p : Fin 2) (h : PtpHead) (sent k : Int) (dt : Nat), (s.tick dt).hears p.val h = true →
      (s.tick dt).clockPort p.val = true → (s.tick dt).fromBest p.val h = true → -7 ≤ k → k ≤ 4 →
    let r := ((s.tick dt).incWrap (TIM_P_STAT_SYNC_RX p.val)).rxStamp p.val
    let u := r.2.updTport p.val fun q => { q with sync := some (sent, r.1) }
    let c := sent + u.getInt (TIM_P_MPD_DELAY p.val) * 4096 + u.getInt (TIM_P_ASYM_DELAY_ASYM p.val) * 4096 - r.1
    let ns := satWord (roundDiv c 65536)
    let v := u.put (TIM_P_OFFSET_NS p.val) ns
    let w := v.updTport p.val fun q => { q with last := some (c, v.cycle) }
    ((u.tport p.val).path = false → exec (.syncSample p h sent k dt) s = s.done u)
    ∧ ((u.tport p.val).path = true → w.get (TIM_P_STAT_PORT_STATE p.val) = 9 → p.val = w.servoPort →
      exec (.syncSample p h sent k dt) s = s.done (((w.put TIM_OFFSET_NS ns).pairSample c).judgeSample c k))
    ∧ ((u.tport p.val).path = true → w.get (TIM_P_STAT_PORT_STATE p.val) = 9 → p.val ≠ w.servoPort →
      exec (.syncSample p h sent k dt) s = s.done w))
  ∧ (∀ (s : State) (p : Fin 2) (up : Bool), s.runs 11 = true → s.flag (TIM_P_STAT_LINK p.val) ≠ up →
    Completes (.ethLinkChange p up) s fun t => t.flag (TIM_P_STAT_LINK p.val) = up ∧ (t.tport p.val).masters = []
      ∧ (t.tport p.val).best = none)

/-- The clock's answers complete (R409 to R411, R413, R427, R428): Pdelay_Req is answered in the peer-to-peer profile with the
time it spent in the chip; one interval after the request before, a request goes to the peer, or to a master that is heard; a
message of a transparent clock leaves the other port with its residence time, a two-step Sync's with its Follow_Up; an address
query for the port's own address is answered to its asker, under the port's tag; a conversion within its window gives the time-
stamp of its cycle with VALID. -/
def Obligations.TimeAnswersComplete : Prop :=
  (∀ (s : State) (p : Fin 2) (h : PtpHead) (c : Int) (dt : Nat), s.hears p.val h = true → s.peerPort p.val = true →
    let a := s.rxStamp p.val
    let b := (a.2.tick dt).txStamp p.val
    exec (.pdelayReq p h c dt) s = s.done (b.2.emit (.ethernet p.val (s.vlanTag p.val) 1
      [h.transport.val, h.domain.toNat, h.seq.toNat, h.sender.toNat, unsigned 64 (c + b.1 - a.1)])))
  ∧ (∀ (s : State) (p : Fin 2), s.runs 11 = true → s.portUp p.val = true →
      (s.peerPort p.val = true ∨ (s.flag (TIM_P_CFG_P2P p.val) = false ∧ s.clockPort p.val = true ∧ (s.tport p.val).best.isSome = true)) →
    let kind := if s.peerPort p.val = true then 3 else 2
    let u := s.every (.asked p.val) (s.tport p.val).period
    let seq := (u.tport p.val).nextSeq
    let a := u.txStamp p.val
    let v := a.2.updTport p.val fun q => { q with request := some (seq, a.1), nextSeq := seq + 1 }
    exec (.delayReqSend p) s = s.done (v.emit (.ethernet p.val (v.vlanTag p.val) kind
      [v.get (TIM_P_CFG_TRANSPORT p.val) % 3, v.timDomain, seq.toNat])))
  ∧ (∀ (s : State) (p : Fin 2) (h : PtpHead) (kind : PtpKind) (c : Int) (dt : Nat), s.runs 11 = true → s.get TIM_CTL_MODE = 3 →
      s.portUp p.val = true → s.portUp (1 - p.val) = true → s.vlanOk p.val h.vlan = true →
      (kindPeer kind && s.flag (TIM_P_CFG_P2P p.val)) = false →
    let q := 1 - p.val
    let a := s.rxStamp p.val
    let b := (a.2.tick (min dt 8000)).txStamp q
    let t := s.residence h (b.1 - a.1)
    let r := b.2.dwellOf p.val h kind t
    let w := r.2.incWrap (TIM_P_RES_FWD q)
    let mpd := if kindPath kind && s.flag (TIM_P_CFG_P2P p.val) then s.getInt (TIM_P_MPD_DELAY p.val) * 4096 else 0
    let body := [h.transport.val, h.domain.toNat, h.seq.toNat, h.sender.toNat, unsigned 64 (c + r.1 + mpd)]
    (kindEvent kind = false → exec (.ptpForward p h kind c dt) s = s.done (w.emit (.ethernet q (w.vlanTag q) 0 body)))
    ∧ (kindEvent kind = true →
      let x := w.put (TIM_P_RES_RES_MAX q) (max (w.get (TIM_P_RES_RES_MAX q)) (min 65535 (t / 65536).toNat))
      exec (.ptpForward p h kind c dt) s = s.done (x.emit (.ethernet q (x.vlanTag q) 0 body))))
  ∧ (∀ (s : State) (p : Fin 2) (vlan : Option (BitVec 12)) (sender : BitVec 48) (target : BitVec 32), s.runs 11 = true →
      s.portUp p.val = true → s.vlanOk p.val vlan = true → target.toNat = s.get (TIM_P_IP4_ADDR p.val) →
    exec (.arpRequest p vlan sender target) s = s.done
      (s.emit (.ethernet p.val (s.vlanTag p.val) 4 [sender.toNat, target.toNat, s.mac p.val])))
  ∧ (∀ (s : State) (p : Fin 2) (vlan : Option (BitVec 12)) (sender : BitVec 48) (a : BitVec 128), s.runs 11 = true →
      s.portUp p.val = true → s.vlanOk p.val vlan = true → a.toNat = s.linkLocal p.val →
    exec (.neighbourSolicitation p vlan sender a) s = s.done
      (s.emit (.ethernet p.val (s.vlanTag p.val) 5 [sender.toNat, a.toNat, s.mac p.val])))
  ∧ (∀ (s : State) (by_ : By) (v : Word), s.Lands by_ TIM_CONV_HI →
      let u := s.writeWord TIM_CONV_HI v
      let y := u.getPair TIM_CONV_LO TIM_CONV_HI
      u.tim.since ≤ y → u.cycle ≤ y + 2 ^ 30 → y ≤ u.cycle + 2 ^ 20 →
    exec (.timConv by_ v) s = s.done (u.putStamp TIM_CONV_0 (stampOf (clockAt u.tim.history y) u.tim.epoch) true))

/-! ## Safety -/

/-- The emergency stop and its diagnostics complete (R437, R440 to R442). A filtered low input is shown and is a condition of
source 2; an input high again is shown with vector 225; filtered inputs that differ for longer than DISC_MS set their fault bit
with vector 226. The third compare in a row that disagrees is a lockout; a readback that differs from its channel's command 10
µs or more after the command changed is a lockout; so is contactor feedback that does not follow its output. -/
def Obligations.EstopAndDiagnosticsComplete : Prop :=
  (∀ (s : State) (i : Fin 2), (if i.val = 0 then s.saf.okA else s.saf.okB) = true → s.modeCode ≠ 0 → s.saf.proof.head? ≠ some 2 →
      s.flag SAF_FAULT_ESTOP_DISC = false →
    exec (.estopDemand i) s = s.done (((s.setEstop i.val false).estopEvent).condition 2 0 0))
  ∧ (∀ (s : State) (i : Fin 2), (if i.val = 0 then s.saf.okA else s.saf.okB) = false → s.modeCode ≠ 0 → s.saf.proof.head? ≠ some 2 →
      s.saf.bothLow = false →
    exec (.estopRelease i) s = s.done (((s.setEstop i.val true).estopEvent).syncCauses).syncOutputs)
  ∧ (∀ s : State, s.modeCode ≠ 0 → s.saf.okA ≠ s.saf.okB → s.flag SAF_FAULT_ESTOP_DISC = false → s.saf.proof.head? ≠ some 2 →
    let u := s.waitFor .differ (s.get SAF_P_ESTOP_DISC_MS * 800000 + 1)
    exec .estopDisc s = s.done ((u.putFlag SAF_FAULT_ESTOP_DISC true).raise 226).syncOutputs)
  ∧ (∀ (s : State) (a b : Bool), s.modeCode ≠ 0 →
    let u := s.every .compare 8000
    exec (.crossCompare true a b) s = s.done
      ((((({ u with saf := { u.saf with disagree := 0 } } : State).readback_ 0 a).readback_ 1 b).syncOutputs)))
  ∧ (∀ (s : State) (a b : Bool), s.modeCode ≠ 0 → s.saf.disagree < 2 →
    let u := s.every .compare 8000
    exec (.crossCompare false a b) s = s.done
      ((((({ u with saf := { u.saf with disagree := s.saf.disagree + 1 } } : State).readback_ 0 a).readback_ 1 b).syncOutputs)))
  ∧ (∀ (s : State) (a b : Bool), s.modeCode ≠ 0 → s.saf.disagree = 2 → s.saf.proof.head? ≠ some 3 →
    let u := s.every .compare 8000
    let v := ({ u with saf := { u.saf with disagree := 3 } } : State).lockout SAF_FAULT_CROSS
    exec (.crossCompare false a b) s = s.done ((v.readback_ 0 a).readback_ 1 b).syncOutputs)
  ∧ (∀ (s : State) (x : Fin 2) (level : Bool),
    let u := s.putFlag (if x.val = 0 then SAF_IN_RB_A else SAF_IN_RB_B) level
    (level = u.flag (if x.val = 0 then SAF_STAT_EN_A else SAF_STAT_EN_B) → s.readback_ x.val level = u)
    ∧ (u.cycle < u.since (.output x.val) + 8000 → s.readback_ x.val level = u)
    ∧ (level ≠ u.flag (if x.val = 0 then SAF_STAT_EN_A else SAF_STAT_EN_B) → u.since (.output x.val) + 8000 ≤ u.cycle →
      s.readback_ x.val level = u.lockout (if x.val = 0 then SAF_FAULT_OUT_A else SAF_FAULT_OUT_B)))
  ∧ (∀ (s : State) (c : Fin 2) (l : Bool), s.modeCode ≠ 0 → s.flag SAF_P_EDM_EN = true →
    let u := (s.waitFor (.output c.val) (s.get SAF_P_ESTOP_EDM_MS * 800000)).showFeedback c.val l
    (u.closed c.val l = u.commanded c.val → exec (.edmCheck c l) s = s.done u)
    ∧ (u.closed c.val l ≠ u.commanded c.val →
      exec (.edmCheck c l) s = s.done (u.lockout (if c.val = 0 then SAF_FAULT_EDM_A else SAF_FAULT_EDM_B))))

/-- The conditions of the safety island complete (R434, R443, R447, R449, R451, R471): each sets its fault bit and is recorded
in SAF_LAST with its source; telemetry is stale STALE_US after the latest valid reading; a parameter store that is not intact at
its check is a lockout; an hour counts in PROOF_HOURS, and at PROOF_H sets PROOF_DUE with vector 230; a clock within limits for
1 ms ends its cause in Safe. -/
def Obligations.SafetyConditionsComplete : Prop :=
  (∀ (s : State) (src : Fin 14) (c : Fin 16) (d : Fin 32), 1 ≤ src.val → (src.val ≠ 3 ∨ s.saf.proof.head? ≠ some 5) →
    exec (.safetyCondition src c d) s = s.done ((s.markSource src.val).condition src.val c.val d.val))
  ∧ (∀ s : State, s.get DBG_STAT_HALTED = 0 → ¬(s.modeCode = 1 ∧ s.sys.step ≤ 7) → s.saf.proof.head? ≠ some 4 →
    exec .watchdogExpiry s = s.done ((s.putFlag SAF_FAULT_WATCHDOG true).condition 8 0 0))
  ∧ (∀ (s : State) (c : Fin 16) (d : Fin 32), s.flag SAF_STAT_START_OK = true → s.flag SAF_STAT_EN_A = true →
      s.flag SAF_STAT_EN_B = true → (s.carrier c.val).enabled = true → (d.val < 26 ∨ d.val = 31) →
    let u := s.tickTo (s.staleFrom c.val (min d.val 26) + s.get SAF_P_WATCH_STALE_US * 800)
    exec (.telemStale c d) s = s.done ((u.putFlag SAF_FAULT_TELEM_STALE true).condition 4 c.val d.val))
  ∧ (∀ s : State, s.modeCode ≠ 0 → exec (.paramCheck true) s = s.done (s.every .params 4000000))
  ∧ (∀ s : State, s.modeCode ≠ 0 → exec (.paramCheck false) s = s.done ((s.every .params 4000000).lockout SAF_FAULT_PARAM))
  ∧ (∀ s : State, s.modeCode ≠ 0 →
    let u := (s.every .proofHour 2880000000000).incSat SAF_PROOF_HOURS_HOURS
    (u.flag SAF_STAT_PROOF_DUE = true ∨ u.get SAF_PROOF_HOURS_HOURS < u.get SAF_P_PROOF_PROOF_H →
      exec .proofHoursTick s = s.done u)
    ∧ (u.flag SAF_STAT_PROOF_DUE = false → u.get SAF_P_PROOF_PROOF_H ≤ u.get SAF_PROOF_HOURS_HOURS →
      exec .proofHoursTick s = s.done ((u.putFlag SAF_STAT_PROOF_DUE true).raise 230)))
  ∧ (∀ (s : State) (i : Fin 12), s.saf.clock.getLsbD i.val = true → s.modeCode = 2 →
    let u := s.tickTo (max (s.since (.island i.val)) (s.since .safe) + 800000)
    let v := ({ u with saf := { u.saf with clock := putBit u.saf.clock i.val false } } : State).syncCauses
    exec (.clockWithinLimits i) s = s.done (v.gateIslands (v.clocked .safe)).syncOutputs)

/-- The stop for a condition and the start test complete (R437, R440, R444 to R446): the grace period's end cuts the line in
progress, unless an ESTOP demand had, and turns both outputs off; two seconds after the switch-off every claim is released; a
phase of the start test whose readback and feedback match leads to the next, the last sets START_OK and starts the warm-up, and
one whose readback differs is a lockout with vector 228. -/
def Obligations.SafeStopAndStartTestComplete : Prop :=
  (∀ s : State, s.saf.stopping = true →
    let u := s.waitFor .grace (s.get SAF_P_TIMING_GRACE_US * 800)
    let v := if u.saf.reactFrom.isSome then u.putFlag SAF_LAST_CUT true else u
    let w := (v.drive false false).recordReact
    exec .graceExpiry s = s.done
      ((({ w with saf := { w.saf with stopping := false, waiting := true } } : State).disableAll.mark .safeWait).tryChange))
  ∧ (∀ s : State, s.saf.waiting = true →
    exec .safeWaitTimeout s = s.done
      ((List.range 16).foldl (fun (s : State) n => s.releaseClaim n) (s.waitFor .safeWait 1600000000)).tryChange)
  ∧ (∀ (s : State) (fb : Bool), (s.saf.test = 1 ∨ s.saf.test = 3) → s.flag SAF_P_EDM_EN = false →
    let x := if s.saf.test = 1 then 0 else 1
    let u := (s.waitFor .phase 4000000).putFlag (if x = 0 then SAF_IN_RB_A else SAF_IN_RB_B) true
    let v := { u with saf := { u.saf with test := s.saf.test + 1 } }
    exec (.startTestPhase true fb) s = s.done ((State.syncOutputs v).mark .phase))
  ∧ (∀ (s : State) (fb : Bool), s.saf.test = 2 → s.flag SAF_P_EDM_EN = false →
    let u := (s.waitFor .phase 8000).putFlag SAF_IN_RB_A false
    let v := { u with saf := { u.saf with test := 3 } }
    exec (.startTestPhase false fb) s = s.done ((State.syncOutputs v).mark .phase))
  ∧ (∀ (s : State) (fb : Bool), s.saf.test = 4 → s.flag SAF_P_EDM_EN = false →
    let u := (s.waitFor .phase 8000).putFlag SAF_IN_RB_B false
    let v := (({ u with saf := { u.saf with test := 0 } } : State).putFlag SAF_STAT_START_OK true).syncOutputs
    exec (.startTestPhase false fb) s = s.done (((v.mark .startOk).raise 228).armedEnds true).startWarmUp.tryChange)
  ∧ (∀ (s : State) (fb : Bool), (s.saf.test = 1 ∨ s.saf.test = 3) → s.flag SAF_P_EDM_EN = false → s.saf.proofArmed = false →
    let f := if s.saf.test = 1 then SAF_IN_RB_A else SAF_IN_RB_B
    let g := if s.saf.test = 1 then SAF_FAULT_OUT_A else SAF_FAULT_OUT_B
    exec (.startTestPhase false fb) s = s.done ((((s.waitFor .phase 4000000).putFlag f false).raise 228).lockout g))

/-! ## Events and the host attachment -/

/-- Event masks, MSI-X and configuration requests complete (R454 to R458, R461, R462, R464): a test raise appends a record with
SOURCE_DETAIL 0xFFFF and DATA 0; a mask cleared sends the messages that are due; an entry unmasked sends the message its PBA bit
holds back, to the entry's address with its data; a hold-off that had a raise ends in a message; a read nobody answers returns
all ones and is counted. A configuration request is retried until HST is ready; another function is none; a read of the first
word gives the identity; a write keeps what its enabled bytes set, and one of Initiate Function Level Reset makes a host-link
reset. -/
def Obligations.HostAttachmentEventsComplete : Prop :=
  (∀ (s : State) (by_ : By) (v : Word), s.Lands by_ EVT_RAISE → bits v 8 1 = 1 →
    exec (.evtRaise by_ v) s = s.done (s.raiseWith (bits v 0 8) (some 0xFFFF) (some 0) 0))
  ∧ (∀ (s : State) (by_ : By) (g : Fin 8) (v : Word), s.Lands by_ (EVT_MASK g.val) →
    exec (.evtMaskClear by_ g v) s = s.done
      ((bitList (s.reg (EVT_MASK g.val) &&& ~~~v &&& s.reg (EVT_PEND g.val))).foldl
        (fun (s : State) i => s.sendMessage (32 * g.val + i)) (s.setReg (EVT_MASK g.val) v)))
  ∧ (∀ s : State, s.runs 3 = true → s.evt.msixEnable = false →
    let u : State := { s with evt := { s.evt with msixEnable := true } }
    exec .msixEnable s = s.done
      ((List.range 256).foldl (fun (s : State) v => if s.flag (pendBit v) then s.sendMessage v else s) u))
  ∧ (∀ (s : State) (v : BitVec 8), s.runs 3 = true →
    let u := s.setReg (msixControl v.toNat) (s.reg (msixControl v.toNat) &&& 0xFFFFFFFE#32)
    (u.flag (pbaBit v.toNat) = true → u.evt.msixEnable = true → u.evt.functionMask = false → u.flag (maskBit v.toNat) = false →
      exec (.msixUnmask (some v)) s = s.done ((u.putFlag (pbaBit v.toNat) false).sendMessage v.toNat))
    ∧ (u.flag (pbaBit v.toNat) = false → exec (.msixUnmask (some v)) s = s.done u))
  ∧ (∀ s : State, s.runs 3 = true →
    let u : State := { s with evt := { s.evt with functionMask := false } }
    exec (.msixUnmask none) s = s.done ((List.range 256).foldl (fun (s : State) v => s.sendHeld v) u))
  ∧ (∀ (s : State) (v : Nat), s.evt.msixEnable = true → s.flag (maskBit v) = false → s.msixMasked v = false →
      s.get (EVT_HOLD_HOLDOFF_US (v / 32)) = 0 →
    s.sendMessage v = s.emit (.msix v ((s.reg (msixControl v - 12)).toNat + (s.reg (msixControl v - 8)).toNat * 2 ^ 32)
      (s.reg (msixControl v - 4))))
  ∧ (∀ (s : State) (v : BitVec 8) (raised : Bool) (due : Nat),
      (s.evt.holds.find? fun h => h.1 = v.toNat) = some (v.toNat, raised, due) →
    let w := s.tickTo due
    let u : State := { w with evt := { w.evt with holds := w.evt.holds.filter fun h => h.1 ≠ v.toNat } }
    exec (.holdoffEnd v) s = s.done (if raised then u.sendMessage v.toNat else u))
  ∧ (∀ (s : State) (crew : Bool) (off : BitVec 25), s.runs 3 = true → s.memEnabled = true →
    exec (.barReadTimeout (if crew then .crew else .keeper) off) s = s.done
      ((s.emit (.readData off.toNat 0xFFFFFFFF#32)).countAccess HST_ACC_ERR_2_TIMEOUT crew off.toNat))
  ∧ (∀ (s : State) (f : BitVec 8) (off : BitVec 12) (w : Option (Word × BitVec 4)), s.runs 3 = true → f ≠ 0 →
    exec (.configRequest f off w) s = s.done (s.emit (.configData none)))
  ∧ (∀ (s : State) (f : BitVec 8) (off : BitVec 12) (w : Option (Word × BitVec 4)), s.runs 3 = false →
    exec (.configRequest f off w) s = s.done (s.emit .configRetry))
  ∧ (∀ (s : State) (off : BitVec 12), s.runs 3 = true → off.toNat < 4 →
    exec (.configRequest 0 off none) s = s.done (s.draw.2.emit (.configData (some 0x08481F7A#32))))
  ∧ (∀ (s : State) (v : Word), s.runs 3 = true →
    let old := ((Sparse.find s.evt.config 4).getD 0)
    exec (.configRequest 0 4 (some (v, 1))) s = s.done (State.emit { s with evt := { s.evt with
      config := Sparse.insert s.evt.config 4 ((old &&& 0x00000500#32) ||| (v &&& 0x46#32)) } } .configDone))
  ∧ (∀ s : State, s.runs 3 = true →
    exec (.configRequest 0 (BitVec.ofNat 12 (4 * (Config.pcieCapability.val + 2))) (some (0x8000#32, 0xF#4))) s =
      s.done (s.linkReset.emit .configDone))

/-- A register write of a whole word lands and a read returns the register's value in this cycle (R6, R9, R40), for every
register whose write has no effect of its own; a host write with partial byte enables is counted instead (R456). -/
def Obligations.RegisterAccessesComplete : Prop :=
  (∀ (s : State) (by_ : By) (off : BitVec 25) (v hw : Word) (same : Bool), s.Lands by_ (off.toNat / 4 * 4) →
    exec (.registerWrite by_ false off v 0xF hw same) s = s.done (s.writeAny by_ (off.toNat / 4 * 4) v hw same))
  ∧ (∀ (s : State) (crew : Bool) (off : BitVec 25) (v hw : Word) (be : BitVec 4) (same : Bool), s.runs 3 = true →
      s.memEnabled = true → be ≠ 0xF →
    exec (.registerWrite (if crew then .crew else .keeper) false off v be hw same) s =
      s.done (s.countAccess HST_ACC_ERR_2_PARTIAL crew (off.toNat / 4 * 4)))
  ∧ (∀ (s : State) (by_ : By) (off : BitVec 25), s.reaches by_ = true → (rowOf (off.toNat / 4 * 4)).isSome = true →
      (s.keeperRights by_ || crewSees (off.toNat / 4 * 4)) = true → s.runs (islandOf (off.toNat / 4 * 4)) = true →
      s.debugReaches (off.toNat / 4 * 4) false = true →
    exec (.registerRead by_ false off) s = s.done
      ((s.readReg (off.toNat / 4 * 4)).2.emit (.readData (off.toNat / 4 * 4) (s.readReg (off.toNat / 4 * 4)).1)))
  ∧ (∀ (s : State) (crew : Bool) (off : BitVec 25), s.runs 3 = true → s.memEnabled = true → off.toNat / 4 * 4 < 0x800 →
    exec (.registerRead (if crew then .crew else .keeper) true off) s = s.done
      (s.emit (.readData (off.toNat / 4 * 4) (s.cmd.slots.get (fun _ => 0) (off.toNat / 4 * 4)))))

/-! ## The debug port -/

/-- The scan instructions complete (R465, R466): IDCODE and the reset select the identification 0x1848_0947, BYPASS a 0;
SAMPLE_PRELOAD shifts out the levels at the balls, whatever they are, and keeps those shifted in; EXTEST and CLAMP drive the
boundary register to the balls and HIGHZ drives none, in Boot, Safe and Standby; elsewhere they act as BYPASS with SCAN_REFUSED
set. -/
def Obligations.ScanInstructionsComplete : Prop :=
  (∀ s : State, s.dbg.scan = false →
    Completes .tapReset s (fun t => t.dbg.tap = .idcode ∧ t.dbg.capture = 0x18480947#64)
    ∧ Completes .idcode s (fun t => t.dbg.tap = .idcode ∧ t.dbg.capture = 0x18480947#64)
    ∧ Completes .bypass s (fun t => t.dbg.tap = .bypass ∧ t.dbg.capture = 0))
  ∧ (∀ (s : State) (l : List Bool), s.dbg.scan = false →
    let r := drawLevels l.length ({ s with dbg := { s.dbg with tap := .samplePreload, scan := false } } : State)
    exec (.samplePreload l) s = s.done (State.emit { r.2 with dbg := { r.2.dbg with boundary := l } } (.scanOut r.1)))
  ∧ (∀ s : State, s.dbg.scan = false → s.modeCode = 1 ∨ s.modeCode = 2 ∨ s.modeCode = 3 →
    exec .extest s = s.done (({ s with dbg := { s.dbg with tap := .extest, scan := true } } : State).emit (.balls (some s.dbg.boundary)))
    ∧ exec .clamp s = s.done
      (({ s with dbg := { s.dbg with tap := .clamp, scan := true, capture := 0 } } : State).emit (.balls (some s.dbg.boundary)))
    ∧ exec .highz s = s.done
      (({ s with dbg := { s.dbg with tap := .highz, scan := true, capture := 0 } } : State).emit (.balls none)))
  ∧ (∀ s : State, s.dbg.scan = false → ¬(s.modeCode = 1 ∨ s.modeCode = 2 ∨ s.modeCode = 3) → s.runs 2 = true →
    let u : State := { s with dbg := { s.dbg with tap := .bypass, scan := false, capture := 0 } }
    exec .extest s = s.done (u.putFlag DBG_STAT_SCAN_REFUSED true)
    ∧ exec .clamp s = s.done (u.putFlag DBG_STAT_SCAN_REFUSED true)
    ∧ exec .highz s = s.done (u.putFlag DBG_STAT_SCAN_REFUSED true))

/-- Debug levels, the unlock and the halting of the cores complete (R467 to R472): LOCK returns to level 0 with vector 5; a
challenge is drawn unless REFUSING; a response that verifies sets its level with vector 5, and one that does not counts as a
failure; a pair halts and steps with vector 6 and runs on in the modes that allow it; an access by the debug port works at the
register's level, and one below it is refused. -/
def Obligations.DebugCommandsComplete : Prop :=
  (∀ s : State, s.Lands .debug DBG_CTL → s.get DBG_STAT_LEVEL ≠ 0 →
    let u := s.put DBG_STAT_LEVEL 0
    exec .dbgLock s = s.done (u.raiseData 5 (u.reg DBG_STAT).toNat))
  ∧ (∀ s : State, s.Lands .debug DBG_CTL → s.get DBG_STAT_LEVEL = 0 → exec .dbgLock s = s.done s)
  ∧ (∀ s : State, s.Lands .debug DBG_CTL → s.flag DBG_STAT_REFUSING = false →
    Completes .newChal s fun t => t.flag DBG_STAT_CHAL_VALID = true)
  ∧ (∀ (s : State) (level : BitVec 2) (key : Bool), s.Lands .debug DBG_CTL → s.flag DBG_STAT_CHAL_VALID = true →
      s.cycle < s.since .challenge + 8000000000 →
    let ok := Config.verifies (s.debugKeyDigest (bit key)) (sha384 (s.challengeBytes level.toNat (bit key))) s.responseBytes
    Completes (.submit level key) s fun t => t.flag DBG_STAT_CHAL_VALID = false
      ∧ (ok = true → level.toNat = 1 ∨ level.toNat = 2 → t.get DBG_STAT_LEVEL = level.toNat)
      ∧ (ok = false ∨ level.toNat = 0 ∨ level.toNat = 3 →
          exec (.submit level key) s = s.done (s.putFlag DBG_STAT_CHAL_VALID false).unlockFails))
  ∧ (∀ s : State, s.flag DBG_STAT_CHAL_VALID = true →
    exec .challengeExpiry s = s.done ((s.waitFor .challenge 8000000000).putFlag DBG_STAT_CHAL_VALID false))
  ∧ (∀ (s : State) (p : Fin 2) (pc : Word), s.Lands .debug (DBG_CORE_CTL p.val) → s.mayHalt = true → s.flag (haltedBit p.val) = false →
    Completes (.coreHalt p pc) s fun t => t.flag (haltedBit p.val) = true ∧ t.reg (DBG_CORE_PC p.val) = pc
      ∧ t.get (DBG_CORE_CAUSE_CAUSE p.val) = 1)
  ∧ (∀ (s : State) (p : Fin 2) (pc : Word), s.Lands .debug (DBG_CORE_CTL p.val) → s.mayHalt = true →
    Completes (.coreStep p pc) s fun t => t.flag (haltedBit p.val) = true ∧ t.reg (DBG_CORE_PC p.val) = pc
      ∧ t.get (DBG_CORE_CAUSE_CAUSE p.val) = 2)
  ∧ (∀ (s : State) (p : Fin 2), s.Lands .debug (DBG_CORE_CTL p.val) → s.flag (haltedBit p.val) = true →
    exec (.coreResume p) s = s.done
      ((((s.putFlag (haltedBit p.val) false).setReg (DBG_CORE_PC p.val) 0).tryChange).fetchAll))
  ∧ (∀ (s : State) (p : Fin 2) (i : Fin 8), s.runs 2 = true → s.flag (DBG_BP_EN p.val i.val) = true → 2 ≤ s.get DBG_STAT_LEVEL →
      s.flag (haltedBit p.val) = false → s.mayHalt = true →
    exec (.breakpointHit p i) s = s.done (s.haltPair p.val 3 i.val (s.reg (DBG_BP p.val i.val) &&& 0xFFFFFFFC#32)))
  ∧ (∀ (s : State) (p : Fin 2) (i : Fin 4) (w : Bool) (a pc : Word), s.runs 2 = true → s.flag (DBG_WP_CFG_EN p.val i.val) = true →
      (s.reg (DBG_WP_ADDR p.val i.val)).toNat ≤ a.toNat →
      a.toNat ≤ (s.reg (DBG_WP_ADDR p.val i.val)).toNat + s.get (DBG_WP_CFG_LEN p.val i.val) →
      s.flag (if w then DBG_WP_CFG_WRITE p.val i.val else DBG_WP_CFG_READ p.val i.val) = true →
      2 ≤ s.get DBG_STAT_LEVEL → s.flag (haltedBit p.val) = false → s.mayHalt = true →
    exec (.watchpointHit p i w a pc) s = s.done (s.haltPair p.val 4 i.val pc))
  ∧ (∀ (s : State) (v w : Word), s.Lands .debug DBG_MEM_CMD → v.getLsbD 31 = true → v.getLsbD 30 = false → v.getLsbD 29 = false →
    exec (.dbgMemAccess v w true) s = s.done ((s.putRow DBG_MEM_CMD (v &&& 0x7FFFFFFF#32)).setReg DBG_MEM_DATA w)
    ∧ exec (.dbgMemAccess v w false) s = s.done (s.putRow DBG_MEM_CMD (v &&& 0x7FFFFFFF#32)).memRefused)
  ∧ (∀ (s : State) (v w : Word), s.Lands .debug DBG_MEM_CMD → v.getLsbD 31 = true → v.getLsbD 30 = true → v.getLsbD 29 = false →
    let u := s.putRow DBG_MEM_CMD (v &&& 0x7FFFFFFF#32)
    2 ≤ u.get DBG_STAT_LEVEL →
    exec (.dbgMemAccess v w true) s = s.done (u.emit (.coreWrite (bits v 28 1) (u.reg DBG_MEM_ADDR).toNat (u.reg DBG_MEM_DATA))))
  ∧ (∀ (s : State) (dr : BitVec 64), s.dbg.scan = false → dr.getLsbD 0 = false →
    exec (.dbgAccess dr) s = s.done { s with dbg := { s.dbg with tap := .dbgAccess, scan := false } })
  ∧ (∀ (s : State) (dr : BitVec 64),
      let off := 0x400000 + 4 * bits (dr.setWidth 32) 2 20
      let u : State := { s with dbg := { s.dbg with tap := .dbgAccess, scan := false } }
      let r := u.readReg off
      s.dbg.scan = false → dr.getLsbD 0 = true → dr.getLsbD 1 = false → (rowOf off).isSome = true → s.runs (islandOf off) = true →
      s.debugReaches off false = true →
    exec (.dbgAccess dr) s = s.done { r.2 with dbg := { r.2.dbg with capture := (r.1 ++ 1#32 : BitVec 64) } })
  ∧ (∀ (s : State) (dr : BitVec 64),
      let off := 0x400000 + 4 * bits (dr.setWidth 32) 2 20
      let u : State := { s with dbg := { s.dbg with tap := .dbgAccess, scan := false } }
      let w := (u.writeAny .debug off ((dr >>> 32).setWidth 32) 0 (u.sameCycle off)).draw
      s.dbg.scan = false → dr.getLsbD 0 = true → dr.getLsbD 1 = true → s.Lands .debug off →
    exec (.dbgAccess dr) s = s.done { w.2 with dbg := { w.2.dbg with capture := (w.1.setWidth 32 ++ 1#32 : BitVec 64) } })
  ∧ (∀ (s : State) (dr : BitVec 64),
      let off := 0x400000 + 4 * bits (dr.setWidth 32) 2 20
      let u : State := { s with dbg := { s.dbg with tap := .dbgAccess, scan := false } }
      s.dbg.scan = false → dr.getLsbD 0 = true → dr.getLsbD 1 = false → (rowOf off).isSome = true → s.runs 2 = true →
      s.debugReaches off false = false →
    exec (.dbgAccess dr) s = s.done { u with dbg := { u.dbg with capture := 3 } })

end
end

