-- ==== Sys2Proof/Laws/Sparse.lean ====
section
/-! SUPPORT. What a sparse word store does: reading after writing, and the canonical form every operation keeps. -/

namespace Sys2Proof.Machine

theorem Sparse.find_insert_same (m : Sparse) (k : Nat) (v : Word) : Sparse.find (Sparse.insert m k v) k = some v := by
  induction m with
  | nil => simp [Sparse.insert, Sparse.find]
  | cons p t ih =>
    simp only [Sparse.insert]
    split
    · simp [Sparse.find]
    · split
      · simp [Sparse.find]
      · rename_i h
        simp [Sparse.find, ih, Ne.symm h]

theorem Sparse.find_insert_other (m : Sparse) {k j : Nat} (v : Word) (h : j ≠ k) :
    Sparse.find (Sparse.insert m k v) j = Sparse.find m j := by
  induction m with
  | nil => simp [Sparse.insert, Sparse.find, h.symm]
  | cons p t ih =>
    simp only [Sparse.insert]
    split
    · simp [Sparse.find, h.symm]
    · split
      · rename_i e
        subst e
        simp [Sparse.find, h.symm]
      · simp [Sparse.find, ih]

theorem Sparse.find_erase_same (m : Sparse) (k : Nat) : Sparse.find (Sparse.erase m k) k = none := by
  induction m with
  | nil => rfl
  | cons p t ih =>
    by_cases e : p.1 = k
    · simpa [Sparse.erase, e] using ih
    · simpa [Sparse.erase, Sparse.find, e] using ih

theorem Sparse.find_erase_other (m : Sparse) {k j : Nat} (h : j ≠ k) : Sparse.find (Sparse.erase m k) j = Sparse.find m j := by
  induction m with
  | nil => rfl
  | cons p t ih =>
    by_cases e : p.1 = k
    · have hj : p.1 ≠ j := fun q => h (q.symm.trans e)
      simpa [Sparse.erase, Sparse.find, e, hj, e ▸ hj] using ih
    · by_cases q : p.1 = j
      · simp [Sparse.erase, Sparse.find, q, h]
      · simpa [Sparse.erase, Sparse.find, e, q] using ih

/-- A read of the key just written gives the word written. -/
@[simp] theorem Sparse.get_set_same (d : Nat → Word) (m : Sparse) (k : Nat) (v : Word) : (m.set d k v).get d k = v := by
  unfold Sparse.set Sparse.get
  split
  · rename_i h; simp [Sparse.find_erase_same, h]
  · simp [Sparse.find_insert_same]

/-- A write leaves every other key alone. -/
theorem Sparse.get_set_other (d : Nat → Word) (m : Sparse) {k j : Nat} (v : Word) (h : j ≠ k) :
    (m.set d k v).get d j = m.get d j := by
  unfold Sparse.set Sparse.get
  split
  · rw [Sparse.find_erase_other m h]
  · rw [Sparse.find_insert_other m v h]

/-- Erasing a key makes it read as unlisted. -/
@[simp] theorem Sparse.get_erase_same (d : Nat → Word) (m : Sparse) (k : Nat) : (m.erase k).get d k = d k := by
  simp [Sparse.get, Sparse.find_erase_same]

theorem Sparse.get_erase_other (d : Nat → Word) (m : Sparse) {k j : Nat} (h : j ≠ k) : (m.erase k).get d j = m.get d j := by
  simp [Sparse.get, Sparse.find_erase_other m h]

/-! ## The canonical form -/

theorem Sparse.wf_iff (d : Nat → Word) (m : Sparse) :
    m.wf d = true ↔ m.Pairwise (fun p q => p.1 < q.1) ∧ ∀ p ∈ m, p.2 ≠ d p.1 := by
  induction m with
  | nil => simp [Sparse.wf]
  | cons p t ih =>
    cases t with
    | nil => simp [Sparse.wf]
    | cons q u =>
      simp only [Sparse.wf, Bool.and_eq_true, decide_eq_true_eq, ih, List.pairwise_cons, List.forall_mem_cons]
      constructor
      · rintro ⟨⟨hp, hlt⟩, ⟨hq, hu⟩, hd, hall⟩
        exact ⟨⟨⟨hlt, fun x hx => lt_trans hlt (hq x hx)⟩, hq, hu⟩, hp, hd, hall⟩
      · rintro ⟨⟨⟨hlt, -⟩, hq, hu⟩, hp, hd, hall⟩
        exact ⟨⟨hp, hlt⟩, ⟨hq, hu⟩, hd, hall⟩

theorem Sparse.mem_insert {m : Sparse} {k : Nat} {v : Word} {p : Nat × Word} (h : p ∈ Sparse.insert m k v) :
    p = (k, v) ∨ p ∈ m := by
  induction m with
  | nil => simpa [Sparse.insert] using h
  | cons q t ih =>
    simp only [Sparse.insert] at h
    split at h
    · simpa using h
    · split at h
      · rcases List.mem_cons.1 h with h | h
        · exact .inl h
        · exact .inr (List.mem_cons_of_mem _ h)
      · rcases List.mem_cons.1 h with h | h
        · exact .inr (h ▸ List.mem_cons_self ..)
        · exact (ih h).imp_right (List.mem_cons_of_mem _)

/-- Writing keeps the canonical form. -/
theorem Sparse.wf_set {d : Nat → Word} {m : Sparse} (h : m.wf d = true) (k : Nat) (v : Word) : (m.set d k v).wf d = true := by
  rw [Sparse.wf_iff] at h ⊢
  unfold Sparse.set
  split
  · exact ⟨h.1.sublist List.filter_sublist, fun p hp => h.2 p (List.mem_of_mem_filter hp)⟩
  · rename_i hv
    refine ⟨?_, fun p hp => (Sparse.mem_insert hp).elim (fun e => e ▸ hv) (h.2 p)⟩
    obtain ⟨hs, -⟩ := h
    induction m with
    | nil => simp [Sparse.insert]
    | cons q t ih =>
      rw [List.pairwise_cons] at hs
      simp only [Sparse.insert]
      split
      · rename_i hk
        refine List.pairwise_cons.2 ⟨?_, List.pairwise_cons.2 hs⟩
        intro x hx
        rcases List.mem_cons.1 hx with hx | hx
        · exact hx ▸ hk
        · exact lt_trans hk (hs.1 x hx)
      · split
        · rename_i hk
          exact List.pairwise_cons.2 ⟨fun x hx => hk ▸ hs.1 x hx, hs.2⟩
        · rename_i h1 h2
          refine List.pairwise_cons.2 ⟨?_, ih hs.2⟩
          intro x hx
          rcases Sparse.mem_insert hx with hx | hx
          · subst hx; simp only; omega
          · exact hs.1 x hx

/-- Erasing keeps the canonical form. -/
theorem Sparse.wf_erase {d : Nat → Word} {m : Sparse} (h : m.wf d = true) (k : Nat) : (m.erase k).wf d = true := by
  rw [Sparse.wf_iff] at h ⊢
  exact ⟨h.1.sublist List.filter_sublist, fun p hp => h.2 p (List.mem_of_mem_filter hp)⟩

end Sys2Proof.Machine
end

