-- ==== Sys2Proof/Laws/Regs.lean ====
section
/-! SUPPORT. What the register operations do: fields of words, a field read after a write of it or of another, and what they leave
of the state. -/

namespace Sys2Proof.Machine

/-! ## Fields of words -/

theorem bits_lt (v : Word) (lo w : Nat) : bits v lo w < 2 ^ w := Nat.mod_lt _ (Nat.two_pow_pos w)

theorem bits_testBit (v : Word) (lo w i : Nat) : (bits v lo w).testBit i = (decide (i < w) && v.getLsbD (lo + i)) := by
  simp [bits, Nat.testBit_mod_two_pow, Nat.testBit_div_two_pow, BitVec.getLsbD, Nat.add_comm]

theorem withBits_getLsbD (v : Word) (lo w n i : Nat) (hi : i < 32) :
    (withBits v lo w n).getLsbD i = if lo ≤ i ∧ i < lo + w then n.testBit (i - lo) else v.getLsbD i := by
  simp only [withBits, BitVec.getLsbD_or, BitVec.getLsbD_and, BitVec.getLsbD_not, BitVec.getLsbD_ofNat, hi, decide_true,
    Bool.true_and, Nat.testBit_mul_two_pow, Nat.testBit_mod_two_pow, Nat.testBit_two_pow_sub_one]
  by_cases h1 : lo ≤ i
  · by_cases h2 : i < lo + w
    · have : i - lo < w := by omega
      simp [h1, h2, this]
    · have : ¬ i - lo < w := by omega
      simp [h1, h2, this]
  · simp [h1]

/-- A field reads what was written to it, modulo its width. -/
theorem bits_withBits_same (v : Word) (lo w n : Nat) (h : lo + w ≤ 32) : bits (withBits v lo w n) lo w = n % 2 ^ w := by
  apply Nat.eq_of_testBit_eq
  intro i
  rw [bits_testBit, Nat.testBit_mod_two_pow]
  by_cases hi : i < w
  · rw [withBits_getLsbD _ _ _ _ _ (by omega)]
    simp [hi]
  · simp [hi]

/-- Writing one field leaves every field apart from it. -/
theorem bits_withBits_other (v : Word) (lo w n lo' w' : Nat) (h' : lo' + w' ≤ 32) (h : lo + w ≤ lo' ∨ lo' + w' ≤ lo) :
    bits (withBits v lo w n) lo' w' = bits v lo' w' := by
  apply Nat.eq_of_testBit_eq
  intro i
  rw [bits_testBit, bits_testBit]
  by_cases hi : i < w'
  · rw [withBits_getLsbD _ _ _ _ _ (by omega)]
    have : ¬ (lo ≤ lo' + i ∧ lo' + i < lo + w) := by omega
    simp [this]
  · simp [hi]

/-! ## Registers -/

@[simp] theorem State.reg_setReg_same (s : State) (a : Nat) (v : Word) : (s.setReg a v).reg a = v := by
  simp [State.reg, State.setReg]

theorem State.reg_setReg_other (s : State) {a b : Nat} (v : Word) (h : b ≠ a) : (s.setReg a v).reg b = s.reg b := by
  simp [State.reg, State.setReg, Sparse.get_set_other _ _ _ h]

@[simp] theorem State.act_setAct_same (s : State) (a : Nat) (v : Word) : (s.setAct a v).act a = v := by
  simp [State.act, State.setAct]

theorem State.act_setAct_other (s : State) {a b : Nat} (v : Word) (h : b ≠ a) : (s.setAct a v).act b = s.act b := by
  simp [State.act, State.setAct, Sparse.get_set_other _ _ _ h]

/-- A field that fits its word reads what was put in it, modulo its width. -/
theorem State.get_put_same (s : State) (f : Fld) (n : Nat) (h : f.lo + f.width ≤ 32) : (s.put f n).get f = n % 2 ^ f.width := by
  simp [State.get, State.put, bits_withBits_same _ _ _ _ h]

/-- Fields of different words, or apart in one word. -/
def Fld.apart (f g : Fld) : Prop := f.addr ≠ g.addr ∨ f.lo + f.width ≤ g.lo ∨ g.lo + g.width ≤ f.lo

theorem State.get_put_other (s : State) (f g : Fld) (n : Nat) (hg : g.lo + g.width ≤ 32) (h : f.apart g) :
    (s.put f n).get g = s.get g := by
  unfold State.get State.put
  by_cases e : g.addr = f.addr
  · rw [e, State.reg_setReg_same]
    exact bits_withBits_other _ _ _ _ _ _ hg (h.resolve_left fun q => q e.symm)
  · rw [State.reg_setReg_other _ _ e]

theorem State.reg_put_other (s : State) (f : Fld) (n : Nat) {a : Nat} (h : a ≠ f.addr) : (s.put f n).reg a = s.reg a :=
  State.reg_setReg_other _ _ h

theorem State.get_setReg_other (s : State) (f : Fld) {a : Nat} (v : Word) (h : f.addr ≠ a) : (s.setReg a v).get f = s.get f := by
  simp [State.get, State.reg_setReg_other _ _ h]

theorem State.get_lt (s : State) (f : Fld) : s.get f < 2 ^ f.width := bits_lt ..

/-- A one-bit field reads the Bool put in it. -/
theorem State.flag_putFlag_same (s : State) (f : Fld) (b : Bool) (hw : f.width = 1) (h : f.lo < 32) :
    (s.putFlag f b).flag f = b := by
  rw [State.flag, State.putFlag, State.get_put_same _ _ _ (by omega), hw]
  cases b <;> rfl

theorem State.flag_put_other (s : State) (f g : Fld) (n : Nat) (hg : g.lo + g.width ≤ 32) (h : f.apart g) :
    (s.put f n).flag g = s.flag g := by
  simp [State.flag, State.get_put_other _ _ _ _ hg h]

theorem State.flag_putFlag_other (s : State) (f g : Fld) (b : Bool) (hg : g.lo + g.width ≤ 32) (h : f.apart g) :
    (s.putFlag f b).flag g = s.flag g := State.flag_put_other _ _ _ _ hg h

theorem State.get_putFlag_other (s : State) (f g : Fld) (b : Bool) (hg : g.lo + g.width ≤ 32) (h : f.apart g) :
    (s.putFlag f b).get g = s.get g := State.get_put_other _ _ _ _ hg h

/-- A saturating counter never falls and never passes all ones. -/
theorem State.get_addSat (s : State) (f : Fld) (n : Nat) (h : f.lo + f.width ≤ 32) :
    (s.addSat f n).get f = min (2 ^ f.width - 1) (s.get f + n) := by
  rw [State.addSat, State.get_put_same _ _ _ h]
  have := Nat.two_pow_pos f.width
  exact Nat.mod_eq_of_lt (by omega)

theorem State.get_incSat (s : State) (f : Fld) (h : f.lo + f.width ≤ 32) :
    (s.incSat f).get f = min (2 ^ f.width - 1) (s.get f + 1) := State.get_addSat s f 1 h

theorem State.get_incWrap (s : State) (f : Fld) (h : f.lo + f.width ≤ 32) :
    (s.incWrap f).get f = (s.get f + 1) % 2 ^ f.width := State.get_put_same _ _ _ h

/-! ## Register words a write of them leaves in canonical form -/

/-- The sparse stores of the state are in canonical form. -/
theorem State.regs_wf_setReg {s : State} (h : s.regs.wf resetVal = true) (a : Nat) (v : Word) :
    (s.setReg a v).regs.wf resetVal = true := Sparse.wf_set h a v

theorem State.regs_wf_put {s : State} (h : s.regs.wf resetVal = true) (f : Fld) (n : Nat) :
    (s.put f n).regs.wf resetVal = true := State.regs_wf_setReg h _ _

end Sys2Proof.Machine
end

