-- ==== Sys2Proof/Laws/State.lean ====
section
/-! SUPPORT. One lemma per field of State per named update: what the update leaves is unchanged, by unfolding once and for all. -/

namespace Sys2Proof.Machine

/-! ## setReg -/

@[simp] theorem State.pending_setReg (s : State) (a : Nat) (v : Word) : (s.setReg a v).pending = s.pending := rfl
@[simp] theorem State.cycle_setReg (s : State) (a : Nat) (v : Word) : (s.setReg a v).cycle = s.cycle := rfl
@[simp] theorem State.running_setReg (s : State) (a : Nat) (v : Word) : (s.setReg a v).running = s.running := rfl
@[simp] theorem State.active_setReg (s : State) (a : Nat) (v : Word) : (s.setReg a v).active = s.active := rfl
@[simp] theorem State.shadows_setReg (s : State) (a : Nat) (v : Word) : (s.setReg a v).shadows = s.shadows := rfl
@[simp] theorem State.handed_setReg (s : State) (a : Nat) (v : Word) : (s.setReg a v).handed = s.handed := rfl
@[simp] theorem State.timers_setReg (s : State) (a : Nat) (v : Word) : (s.setReg a v).timers = s.timers := rfl
@[simp] theorem State.captures_setReg (s : State) (a : Nat) (v : Word) : (s.setReg a v).captures = s.captures := rfl
@[simp] theorem State.latches_setReg (s : State) (a : Nat) (v : Word) : (s.setReg a v).latches = s.latches := rfl
@[simp] theorem State.live_setReg (s : State) (a : Nat) (v : Word) : (s.setReg a v).live = s.live := rfl
@[simp] theorem State.free_setReg (s : State) (a : Nat) (v : Word) : (s.setReg a v).free = s.free := rfl
@[simp] theorem State.outs_setReg (s : State) (a : Nat) (v : Word) : (s.setReg a v).outs = s.outs := rfl
@[simp] theorem State.sys_setReg (s : State) (a : Nat) (v : Word) : (s.setReg a v).sys = s.sys := rfl
@[simp] theorem State.cmd_setReg (s : State) (a : Nat) (v : Word) : (s.setReg a v).cmd = s.cmd := rfl
@[simp] theorem State.evt_setReg (s : State) (a : Nat) (v : Word) : (s.setReg a v).evt = s.evt := rfl
@[simp] theorem State.dbg_setReg (s : State) (a : Nat) (v : Word) : (s.setReg a v).dbg = s.dbg := rfl
@[simp] theorem State.flash_setReg (s : State) (a : Nat) (v : Word) : (s.setReg a v).flash = s.flash := rfl
@[simp] theorem State.ing_setReg (s : State) (a : Nat) (v : Word) : (s.setReg a v).ing = s.ing := rfl
@[simp] theorem State.pnd_setReg (s : State) (a : Nat) (v : Word) : (s.setReg a v).pnd = s.pnd := rfl
@[simp] theorem State.asm_setReg (s : State) (a : Nat) (v : Word) : (s.setReg a v).asm = s.asm := rfl
@[simp] theorem State.fir_setReg (s : State) (a : Nat) (v : Word) : (s.setReg a v).fir = s.fir := rfl
@[simp] theorem State.pos_setReg (s : State) (a : Nat) (v : Word) : (s.setReg a v).pos = s.pos := rfl
@[simp] theorem State.jgl_setReg (s : State) (a : Nat) (v : Word) : (s.setReg a v).jgl = s.jgl := rfl
@[simp] theorem State.cam_setReg (s : State) (a : Nat) (v : Word) : (s.setReg a v).cam = s.cam := rfl
@[simp] theorem State.ins_setReg (s : State) (a : Nat) (v : Word) : (s.setReg a v).ins = s.ins := rfl
@[simp] theorem State.cal_setReg (s : State) (a : Nat) (v : Word) : (s.setReg a v).cal = s.cal := rfl
@[simp] theorem State.pwr_setReg (s : State) (a : Nat) (v : Word) : (s.setReg a v).pwr = s.pwr := rfl
@[simp] theorem State.arb_setReg (s : State) (a : Nat) (v : Word) : (s.setReg a v).arb = s.arb := rfl
@[simp] theorem State.brg_setReg (s : State) (a : Nat) (v : Word) : (s.setReg a v).brg = s.brg := rfl
@[simp] theorem State.saf_setReg (s : State) (a : Nat) (v : Word) : (s.setReg a v).saf = s.saf := rfl
@[simp] theorem State.tim_setReg (s : State) (a : Nat) (v : Word) : (s.setReg a v).tim = s.tim := rfl

/-! ## put -/

@[simp] theorem State.pending_put (s : State) (f : Fld) (n : Nat) : (s.put f n).pending = s.pending := rfl
@[simp] theorem State.cycle_put (s : State) (f : Fld) (n : Nat) : (s.put f n).cycle = s.cycle := rfl
@[simp] theorem State.running_put (s : State) (f : Fld) (n : Nat) : (s.put f n).running = s.running := rfl
@[simp] theorem State.active_put (s : State) (f : Fld) (n : Nat) : (s.put f n).active = s.active := rfl
@[simp] theorem State.shadows_put (s : State) (f : Fld) (n : Nat) : (s.put f n).shadows = s.shadows := rfl
@[simp] theorem State.handed_put (s : State) (f : Fld) (n : Nat) : (s.put f n).handed = s.handed := rfl
@[simp] theorem State.timers_put (s : State) (f : Fld) (n : Nat) : (s.put f n).timers = s.timers := rfl
@[simp] theorem State.captures_put (s : State) (f : Fld) (n : Nat) : (s.put f n).captures = s.captures := rfl
@[simp] theorem State.latches_put (s : State) (f : Fld) (n : Nat) : (s.put f n).latches = s.latches := rfl
@[simp] theorem State.live_put (s : State) (f : Fld) (n : Nat) : (s.put f n).live = s.live := rfl
@[simp] theorem State.free_put (s : State) (f : Fld) (n : Nat) : (s.put f n).free = s.free := rfl
@[simp] theorem State.outs_put (s : State) (f : Fld) (n : Nat) : (s.put f n).outs = s.outs := rfl
@[simp] theorem State.sys_put (s : State) (f : Fld) (n : Nat) : (s.put f n).sys = s.sys := rfl
@[simp] theorem State.cmd_put (s : State) (f : Fld) (n : Nat) : (s.put f n).cmd = s.cmd := rfl
@[simp] theorem State.evt_put (s : State) (f : Fld) (n : Nat) : (s.put f n).evt = s.evt := rfl
@[simp] theorem State.dbg_put (s : State) (f : Fld) (n : Nat) : (s.put f n).dbg = s.dbg := rfl
@[simp] theorem State.flash_put (s : State) (f : Fld) (n : Nat) : (s.put f n).flash = s.flash := rfl
@[simp] theorem State.ing_put (s : State) (f : Fld) (n : Nat) : (s.put f n).ing = s.ing := rfl
@[simp] theorem State.pnd_put (s : State) (f : Fld) (n : Nat) : (s.put f n).pnd = s.pnd := rfl
@[simp] theorem State.asm_put (s : State) (f : Fld) (n : Nat) : (s.put f n).asm = s.asm := rfl
@[simp] theorem State.fir_put (s : State) (f : Fld) (n : Nat) : (s.put f n).fir = s.fir := rfl
@[simp] theorem State.pos_put (s : State) (f : Fld) (n : Nat) : (s.put f n).pos = s.pos := rfl
@[simp] theorem State.jgl_put (s : State) (f : Fld) (n : Nat) : (s.put f n).jgl = s.jgl := rfl
@[simp] theorem State.cam_put (s : State) (f : Fld) (n : Nat) : (s.put f n).cam = s.cam := rfl
@[simp] theorem State.ins_put (s : State) (f : Fld) (n : Nat) : (s.put f n).ins = s.ins := rfl
@[simp] theorem State.cal_put (s : State) (f : Fld) (n : Nat) : (s.put f n).cal = s.cal := rfl
@[simp] theorem State.pwr_put (s : State) (f : Fld) (n : Nat) : (s.put f n).pwr = s.pwr := rfl
@[simp] theorem State.arb_put (s : State) (f : Fld) (n : Nat) : (s.put f n).arb = s.arb := rfl
@[simp] theorem State.brg_put (s : State) (f : Fld) (n : Nat) : (s.put f n).brg = s.brg := rfl
@[simp] theorem State.saf_put (s : State) (f : Fld) (n : Nat) : (s.put f n).saf = s.saf := rfl
@[simp] theorem State.tim_put (s : State) (f : Fld) (n : Nat) : (s.put f n).tim = s.tim := rfl

/-! ## putFlag -/

@[simp] theorem State.pending_putFlag (s : State) (f : Fld) (b : Bool) : (s.putFlag f b).pending = s.pending := rfl
@[simp] theorem State.cycle_putFlag (s : State) (f : Fld) (b : Bool) : (s.putFlag f b).cycle = s.cycle := rfl
@[simp] theorem State.running_putFlag (s : State) (f : Fld) (b : Bool) : (s.putFlag f b).running = s.running := rfl
@[simp] theorem State.active_putFlag (s : State) (f : Fld) (b : Bool) : (s.putFlag f b).active = s.active := rfl
@[simp] theorem State.shadows_putFlag (s : State) (f : Fld) (b : Bool) : (s.putFlag f b).shadows = s.shadows := rfl
@[simp] theorem State.handed_putFlag (s : State) (f : Fld) (b : Bool) : (s.putFlag f b).handed = s.handed := rfl
@[simp] theorem State.timers_putFlag (s : State) (f : Fld) (b : Bool) : (s.putFlag f b).timers = s.timers := rfl
@[simp] theorem State.captures_putFlag (s : State) (f : Fld) (b : Bool) : (s.putFlag f b).captures = s.captures := rfl
@[simp] theorem State.latches_putFlag (s : State) (f : Fld) (b : Bool) : (s.putFlag f b).latches = s.latches := rfl
@[simp] theorem State.live_putFlag (s : State) (f : Fld) (b : Bool) : (s.putFlag f b).live = s.live := rfl
@[simp] theorem State.free_putFlag (s : State) (f : Fld) (b : Bool) : (s.putFlag f b).free = s.free := rfl
@[simp] theorem State.outs_putFlag (s : State) (f : Fld) (b : Bool) : (s.putFlag f b).outs = s.outs := rfl
@[simp] theorem State.sys_putFlag (s : State) (f : Fld) (b : Bool) : (s.putFlag f b).sys = s.sys := rfl
@[simp] theorem State.cmd_putFlag (s : State) (f : Fld) (b : Bool) : (s.putFlag f b).cmd = s.cmd := rfl
@[simp] theorem State.evt_putFlag (s : State) (f : Fld) (b : Bool) : (s.putFlag f b).evt = s.evt := rfl
@[simp] theorem State.dbg_putFlag (s : State) (f : Fld) (b : Bool) : (s.putFlag f b).dbg = s.dbg := rfl
@[simp] theorem State.flash_putFlag (s : State) (f : Fld) (b : Bool) : (s.putFlag f b).flash = s.flash := rfl
@[simp] theorem State.ing_putFlag (s : State) (f : Fld) (b : Bool) : (s.putFlag f b).ing = s.ing := rfl
@[simp] theorem State.pnd_putFlag (s : State) (f : Fld) (b : Bool) : (s.putFlag f b).pnd = s.pnd := rfl
@[simp] theorem State.asm_putFlag (s : State) (f : Fld) (b : Bool) : (s.putFlag f b).asm = s.asm := rfl
@[simp] theorem State.fir_putFlag (s : State) (f : Fld) (b : Bool) : (s.putFlag f b).fir = s.fir := rfl
@[simp] theorem State.pos_putFlag (s : State) (f : Fld) (b : Bool) : (s.putFlag f b).pos = s.pos := rfl
@[simp] theorem State.jgl_putFlag (s : State) (f : Fld) (b : Bool) : (s.putFlag f b).jgl = s.jgl := rfl
@[simp] theorem State.cam_putFlag (s : State) (f : Fld) (b : Bool) : (s.putFlag f b).cam = s.cam := rfl
@[simp] theorem State.ins_putFlag (s : State) (f : Fld) (b : Bool) : (s.putFlag f b).ins = s.ins := rfl
@[simp] theorem State.cal_putFlag (s : State) (f : Fld) (b : Bool) : (s.putFlag f b).cal = s.cal := rfl
@[simp] theorem State.pwr_putFlag (s : State) (f : Fld) (b : Bool) : (s.putFlag f b).pwr = s.pwr := rfl
@[simp] theorem State.arb_putFlag (s : State) (f : Fld) (b : Bool) : (s.putFlag f b).arb = s.arb := rfl
@[simp] theorem State.brg_putFlag (s : State) (f : Fld) (b : Bool) : (s.putFlag f b).brg = s.brg := rfl
@[simp] theorem State.saf_putFlag (s : State) (f : Fld) (b : Bool) : (s.putFlag f b).saf = s.saf := rfl
@[simp] theorem State.tim_putFlag (s : State) (f : Fld) (b : Bool) : (s.putFlag f b).tim = s.tim := rfl

/-! ## addSat -/

@[simp] theorem State.pending_addSat (s : State) (f : Fld) (n : Nat) : (s.addSat f n).pending = s.pending := rfl
@[simp] theorem State.cycle_addSat (s : State) (f : Fld) (n : Nat) : (s.addSat f n).cycle = s.cycle := rfl
@[simp] theorem State.running_addSat (s : State) (f : Fld) (n : Nat) : (s.addSat f n).running = s.running := rfl
@[simp] theorem State.active_addSat (s : State) (f : Fld) (n : Nat) : (s.addSat f n).active = s.active := rfl
@[simp] theorem State.shadows_addSat (s : State) (f : Fld) (n : Nat) : (s.addSat f n).shadows = s.shadows := rfl
@[simp] theorem State.handed_addSat (s : State) (f : Fld) (n : Nat) : (s.addSat f n).handed = s.handed := rfl
@[simp] theorem State.timers_addSat (s : State) (f : Fld) (n : Nat) : (s.addSat f n).timers = s.timers := rfl
@[simp] theorem State.captures_addSat (s : State) (f : Fld) (n : Nat) : (s.addSat f n).captures = s.captures := rfl
@[simp] theorem State.latches_addSat (s : State) (f : Fld) (n : Nat) : (s.addSat f n).latches = s.latches := rfl
@[simp] theorem State.live_addSat (s : State) (f : Fld) (n : Nat) : (s.addSat f n).live = s.live := rfl
@[simp] theorem State.free_addSat (s : State) (f : Fld) (n : Nat) : (s.addSat f n).free = s.free := rfl
@[simp] theorem State.outs_addSat (s : State) (f : Fld) (n : Nat) : (s.addSat f n).outs = s.outs := rfl
@[simp] theorem State.sys_addSat (s : State) (f : Fld) (n : Nat) : (s.addSat f n).sys = s.sys := rfl
@[simp] theorem State.cmd_addSat (s : State) (f : Fld) (n : Nat) : (s.addSat f n).cmd = s.cmd := rfl
@[simp] theorem State.evt_addSat (s : State) (f : Fld) (n : Nat) : (s.addSat f n).evt = s.evt := rfl
@[simp] theorem State.dbg_addSat (s : State) (f : Fld) (n : Nat) : (s.addSat f n).dbg = s.dbg := rfl
@[simp] theorem State.flash_addSat (s : State) (f : Fld) (n : Nat) : (s.addSat f n).flash = s.flash := rfl
@[simp] theorem State.ing_addSat (s : State) (f : Fld) (n : Nat) : (s.addSat f n).ing = s.ing := rfl
@[simp] theorem State.pnd_addSat (s : State) (f : Fld) (n : Nat) : (s.addSat f n).pnd = s.pnd := rfl
@[simp] theorem State.asm_addSat (s : State) (f : Fld) (n : Nat) : (s.addSat f n).asm = s.asm := rfl
@[simp] theorem State.fir_addSat (s : State) (f : Fld) (n : Nat) : (s.addSat f n).fir = s.fir := rfl
@[simp] theorem State.pos_addSat (s : State) (f : Fld) (n : Nat) : (s.addSat f n).pos = s.pos := rfl
@[simp] theorem State.jgl_addSat (s : State) (f : Fld) (n : Nat) : (s.addSat f n).jgl = s.jgl := rfl
@[simp] theorem State.cam_addSat (s : State) (f : Fld) (n : Nat) : (s.addSat f n).cam = s.cam := rfl
@[simp] theorem State.ins_addSat (s : State) (f : Fld) (n : Nat) : (s.addSat f n).ins = s.ins := rfl
@[simp] theorem State.cal_addSat (s : State) (f : Fld) (n : Nat) : (s.addSat f n).cal = s.cal := rfl
@[simp] theorem State.pwr_addSat (s : State) (f : Fld) (n : Nat) : (s.addSat f n).pwr = s.pwr := rfl
@[simp] theorem State.arb_addSat (s : State) (f : Fld) (n : Nat) : (s.addSat f n).arb = s.arb := rfl
@[simp] theorem State.brg_addSat (s : State) (f : Fld) (n : Nat) : (s.addSat f n).brg = s.brg := rfl
@[simp] theorem State.saf_addSat (s : State) (f : Fld) (n : Nat) : (s.addSat f n).saf = s.saf := rfl
@[simp] theorem State.tim_addSat (s : State) (f : Fld) (n : Nat) : (s.addSat f n).tim = s.tim := rfl

/-! ## incSat -/

@[simp] theorem State.pending_incSat (s : State) (f : Fld) : (s.incSat f).pending = s.pending := rfl
@[simp] theorem State.cycle_incSat (s : State) (f : Fld) : (s.incSat f).cycle = s.cycle := rfl
@[simp] theorem State.running_incSat (s : State) (f : Fld) : (s.incSat f).running = s.running := rfl
@[simp] theorem State.active_incSat (s : State) (f : Fld) : (s.incSat f).active = s.active := rfl
@[simp] theorem State.shadows_incSat (s : State) (f : Fld) : (s.incSat f).shadows = s.shadows := rfl
@[simp] theorem State.handed_incSat (s : State) (f : Fld) : (s.incSat f).handed = s.handed := rfl
@[simp] theorem State.timers_incSat (s : State) (f : Fld) : (s.incSat f).timers = s.timers := rfl
@[simp] theorem State.captures_incSat (s : State) (f : Fld) : (s.incSat f).captures = s.captures := rfl
@[simp] theorem State.latches_incSat (s : State) (f : Fld) : (s.incSat f).latches = s.latches := rfl
@[simp] theorem State.live_incSat (s : State) (f : Fld) : (s.incSat f).live = s.live := rfl
@[simp] theorem State.free_incSat (s : State) (f : Fld) : (s.incSat f).free = s.free := rfl
@[simp] theorem State.outs_incSat (s : State) (f : Fld) : (s.incSat f).outs = s.outs := rfl
@[simp] theorem State.sys_incSat (s : State) (f : Fld) : (s.incSat f).sys = s.sys := rfl
@[simp] theorem State.cmd_incSat (s : State) (f : Fld) : (s.incSat f).cmd = s.cmd := rfl
@[simp] theorem State.evt_incSat (s : State) (f : Fld) : (s.incSat f).evt = s.evt := rfl
@[simp] theorem State.dbg_incSat (s : State) (f : Fld) : (s.incSat f).dbg = s.dbg := rfl
@[simp] theorem State.flash_incSat (s : State) (f : Fld) : (s.incSat f).flash = s.flash := rfl
@[simp] theorem State.ing_incSat (s : State) (f : Fld) : (s.incSat f).ing = s.ing := rfl
@[simp] theorem State.pnd_incSat (s : State) (f : Fld) : (s.incSat f).pnd = s.pnd := rfl
@[simp] theorem State.asm_incSat (s : State) (f : Fld) : (s.incSat f).asm = s.asm := rfl
@[simp] theorem State.fir_incSat (s : State) (f : Fld) : (s.incSat f).fir = s.fir := rfl
@[simp] theorem State.pos_incSat (s : State) (f : Fld) : (s.incSat f).pos = s.pos := rfl
@[simp] theorem State.jgl_incSat (s : State) (f : Fld) : (s.incSat f).jgl = s.jgl := rfl
@[simp] theorem State.cam_incSat (s : State) (f : Fld) : (s.incSat f).cam = s.cam := rfl
@[simp] theorem State.ins_incSat (s : State) (f : Fld) : (s.incSat f).ins = s.ins := rfl
@[simp] theorem State.cal_incSat (s : State) (f : Fld) : (s.incSat f).cal = s.cal := rfl
@[simp] theorem State.pwr_incSat (s : State) (f : Fld) : (s.incSat f).pwr = s.pwr := rfl
@[simp] theorem State.arb_incSat (s : State) (f : Fld) : (s.incSat f).arb = s.arb := rfl
@[simp] theorem State.brg_incSat (s : State) (f : Fld) : (s.incSat f).brg = s.brg := rfl
@[simp] theorem State.saf_incSat (s : State) (f : Fld) : (s.incSat f).saf = s.saf := rfl
@[simp] theorem State.tim_incSat (s : State) (f : Fld) : (s.incSat f).tim = s.tim := rfl

/-! ## incWrap -/

@[simp] theorem State.pending_incWrap (s : State) (f : Fld) : (s.incWrap f).pending = s.pending := rfl
@[simp] theorem State.cycle_incWrap (s : State) (f : Fld) : (s.incWrap f).cycle = s.cycle := rfl
@[simp] theorem State.running_incWrap (s : State) (f : Fld) : (s.incWrap f).running = s.running := rfl
@[simp] theorem State.active_incWrap (s : State) (f : Fld) : (s.incWrap f).active = s.active := rfl
@[simp] theorem State.shadows_incWrap (s : State) (f : Fld) : (s.incWrap f).shadows = s.shadows := rfl
@[simp] theorem State.handed_incWrap (s : State) (f : Fld) : (s.incWrap f).handed = s.handed := rfl
@[simp] theorem State.timers_incWrap (s : State) (f : Fld) : (s.incWrap f).timers = s.timers := rfl
@[simp] theorem State.captures_incWrap (s : State) (f : Fld) : (s.incWrap f).captures = s.captures := rfl
@[simp] theorem State.latches_incWrap (s : State) (f : Fld) : (s.incWrap f).latches = s.latches := rfl
@[simp] theorem State.live_incWrap (s : State) (f : Fld) : (s.incWrap f).live = s.live := rfl
@[simp] theorem State.free_incWrap (s : State) (f : Fld) : (s.incWrap f).free = s.free := rfl
@[simp] theorem State.outs_incWrap (s : State) (f : Fld) : (s.incWrap f).outs = s.outs := rfl
@[simp] theorem State.sys_incWrap (s : State) (f : Fld) : (s.incWrap f).sys = s.sys := rfl
@[simp] theorem State.cmd_incWrap (s : State) (f : Fld) : (s.incWrap f).cmd = s.cmd := rfl
@[simp] theorem State.evt_incWrap (s : State) (f : Fld) : (s.incWrap f).evt = s.evt := rfl
@[simp] theorem State.dbg_incWrap (s : State) (f : Fld) : (s.incWrap f).dbg = s.dbg := rfl
@[simp] theorem State.flash_incWrap (s : State) (f : Fld) : (s.incWrap f).flash = s.flash := rfl
@[simp] theorem State.ing_incWrap (s : State) (f : Fld) : (s.incWrap f).ing = s.ing := rfl
@[simp] theorem State.pnd_incWrap (s : State) (f : Fld) : (s.incWrap f).pnd = s.pnd := rfl
@[simp] theorem State.asm_incWrap (s : State) (f : Fld) : (s.incWrap f).asm = s.asm := rfl
@[simp] theorem State.fir_incWrap (s : State) (f : Fld) : (s.incWrap f).fir = s.fir := rfl
@[simp] theorem State.pos_incWrap (s : State) (f : Fld) : (s.incWrap f).pos = s.pos := rfl
@[simp] theorem State.jgl_incWrap (s : State) (f : Fld) : (s.incWrap f).jgl = s.jgl := rfl
@[simp] theorem State.cam_incWrap (s : State) (f : Fld) : (s.incWrap f).cam = s.cam := rfl
@[simp] theorem State.ins_incWrap (s : State) (f : Fld) : (s.incWrap f).ins = s.ins := rfl
@[simp] theorem State.cal_incWrap (s : State) (f : Fld) : (s.incWrap f).cal = s.cal := rfl
@[simp] theorem State.pwr_incWrap (s : State) (f : Fld) : (s.incWrap f).pwr = s.pwr := rfl
@[simp] theorem State.arb_incWrap (s : State) (f : Fld) : (s.incWrap f).arb = s.arb := rfl
@[simp] theorem State.brg_incWrap (s : State) (f : Fld) : (s.incWrap f).brg = s.brg := rfl
@[simp] theorem State.saf_incWrap (s : State) (f : Fld) : (s.incWrap f).saf = s.saf := rfl
@[simp] theorem State.tim_incWrap (s : State) (f : Fld) : (s.incWrap f).tim = s.tim := rfl

/-! ## setPair -/

@[simp] theorem State.pending_setPair (s : State) (lo hi n : Nat) : (s.setPair lo hi n).pending = s.pending := rfl
@[simp] theorem State.cycle_setPair (s : State) (lo hi n : Nat) : (s.setPair lo hi n).cycle = s.cycle := rfl
@[simp] theorem State.running_setPair (s : State) (lo hi n : Nat) : (s.setPair lo hi n).running = s.running := rfl
@[simp] theorem State.active_setPair (s : State) (lo hi n : Nat) : (s.setPair lo hi n).active = s.active := rfl
@[simp] theorem State.shadows_setPair (s : State) (lo hi n : Nat) : (s.setPair lo hi n).shadows = s.shadows := rfl
@[simp] theorem State.handed_setPair (s : State) (lo hi n : Nat) : (s.setPair lo hi n).handed = s.handed := rfl
@[simp] theorem State.timers_setPair (s : State) (lo hi n : Nat) : (s.setPair lo hi n).timers = s.timers := rfl
@[simp] theorem State.captures_setPair (s : State) (lo hi n : Nat) : (s.setPair lo hi n).captures = s.captures := rfl
@[simp] theorem State.latches_setPair (s : State) (lo hi n : Nat) : (s.setPair lo hi n).latches = s.latches := rfl
@[simp] theorem State.live_setPair (s : State) (lo hi n : Nat) : (s.setPair lo hi n).live = s.live := rfl
@[simp] theorem State.free_setPair (s : State) (lo hi n : Nat) : (s.setPair lo hi n).free = s.free := rfl
@[simp] theorem State.outs_setPair (s : State) (lo hi n : Nat) : (s.setPair lo hi n).outs = s.outs := rfl
@[simp] theorem State.sys_setPair (s : State) (lo hi n : Nat) : (s.setPair lo hi n).sys = s.sys := rfl
@[simp] theorem State.cmd_setPair (s : State) (lo hi n : Nat) : (s.setPair lo hi n).cmd = s.cmd := rfl
@[simp] theorem State.evt_setPair (s : State) (lo hi n : Nat) : (s.setPair lo hi n).evt = s.evt := rfl
@[simp] theorem State.dbg_setPair (s : State) (lo hi n : Nat) : (s.setPair lo hi n).dbg = s.dbg := rfl
@[simp] theorem State.flash_setPair (s : State) (lo hi n : Nat) : (s.setPair lo hi n).flash = s.flash := rfl
@[simp] theorem State.ing_setPair (s : State) (lo hi n : Nat) : (s.setPair lo hi n).ing = s.ing := rfl
@[simp] theorem State.pnd_setPair (s : State) (lo hi n : Nat) : (s.setPair lo hi n).pnd = s.pnd := rfl
@[simp] theorem State.asm_setPair (s : State) (lo hi n : Nat) : (s.setPair lo hi n).asm = s.asm := rfl
@[simp] theorem State.fir_setPair (s : State) (lo hi n : Nat) : (s.setPair lo hi n).fir = s.fir := rfl
@[simp] theorem State.pos_setPair (s : State) (lo hi n : Nat) : (s.setPair lo hi n).pos = s.pos := rfl
@[simp] theorem State.jgl_setPair (s : State) (lo hi n : Nat) : (s.setPair lo hi n).jgl = s.jgl := rfl
@[simp] theorem State.cam_setPair (s : State) (lo hi n : Nat) : (s.setPair lo hi n).cam = s.cam := rfl
@[simp] theorem State.ins_setPair (s : State) (lo hi n : Nat) : (s.setPair lo hi n).ins = s.ins := rfl
@[simp] theorem State.cal_setPair (s : State) (lo hi n : Nat) : (s.setPair lo hi n).cal = s.cal := rfl
@[simp] theorem State.pwr_setPair (s : State) (lo hi n : Nat) : (s.setPair lo hi n).pwr = s.pwr := rfl
@[simp] theorem State.arb_setPair (s : State) (lo hi n : Nat) : (s.setPair lo hi n).arb = s.arb := rfl
@[simp] theorem State.brg_setPair (s : State) (lo hi n : Nat) : (s.setPair lo hi n).brg = s.brg := rfl
@[simp] theorem State.saf_setPair (s : State) (lo hi n : Nat) : (s.setPair lo hi n).saf = s.saf := rfl
@[simp] theorem State.tim_setPair (s : State) (lo hi n : Nat) : (s.setPair lo hi n).tim = s.tim := rfl

/-! ## setAct -/

@[simp] theorem State.pending_setAct (s : State) (a : Nat) (v : Word) : (s.setAct a v).pending = s.pending := rfl
@[simp] theorem State.cycle_setAct (s : State) (a : Nat) (v : Word) : (s.setAct a v).cycle = s.cycle := rfl
@[simp] theorem State.running_setAct (s : State) (a : Nat) (v : Word) : (s.setAct a v).running = s.running := rfl
@[simp] theorem State.regs_setAct (s : State) (a : Nat) (v : Word) : (s.setAct a v).regs = s.regs := rfl
@[simp] theorem State.shadows_setAct (s : State) (a : Nat) (v : Word) : (s.setAct a v).shadows = s.shadows := rfl
@[simp] theorem State.handed_setAct (s : State) (a : Nat) (v : Word) : (s.setAct a v).handed = s.handed := rfl
@[simp] theorem State.timers_setAct (s : State) (a : Nat) (v : Word) : (s.setAct a v).timers = s.timers := rfl
@[simp] theorem State.captures_setAct (s : State) (a : Nat) (v : Word) : (s.setAct a v).captures = s.captures := rfl
@[simp] theorem State.latches_setAct (s : State) (a : Nat) (v : Word) : (s.setAct a v).latches = s.latches := rfl
@[simp] theorem State.live_setAct (s : State) (a : Nat) (v : Word) : (s.setAct a v).live = s.live := rfl
@[simp] theorem State.free_setAct (s : State) (a : Nat) (v : Word) : (s.setAct a v).free = s.free := rfl
@[simp] theorem State.outs_setAct (s : State) (a : Nat) (v : Word) : (s.setAct a v).outs = s.outs := rfl
@[simp] theorem State.sys_setAct (s : State) (a : Nat) (v : Word) : (s.setAct a v).sys = s.sys := rfl
@[simp] theorem State.cmd_setAct (s : State) (a : Nat) (v : Word) : (s.setAct a v).cmd = s.cmd := rfl
@[simp] theorem State.evt_setAct (s : State) (a : Nat) (v : Word) : (s.setAct a v).evt = s.evt := rfl
@[simp] theorem State.dbg_setAct (s : State) (a : Nat) (v : Word) : (s.setAct a v).dbg = s.dbg := rfl
@[simp] theorem State.flash_setAct (s : State) (a : Nat) (v : Word) : (s.setAct a v).flash = s.flash := rfl
@[simp] theorem State.ing_setAct (s : State) (a : Nat) (v : Word) : (s.setAct a v).ing = s.ing := rfl
@[simp] theorem State.pnd_setAct (s : State) (a : Nat) (v : Word) : (s.setAct a v).pnd = s.pnd := rfl
@[simp] theorem State.asm_setAct (s : State) (a : Nat) (v : Word) : (s.setAct a v).asm = s.asm := rfl
@[simp] theorem State.fir_setAct (s : State) (a : Nat) (v : Word) : (s.setAct a v).fir = s.fir := rfl
@[simp] theorem State.pos_setAct (s : State) (a : Nat) (v : Word) : (s.setAct a v).pos = s.pos := rfl
@[simp] theorem State.jgl_setAct (s : State) (a : Nat) (v : Word) : (s.setAct a v).jgl = s.jgl := rfl
@[simp] theorem State.cam_setAct (s : State) (a : Nat) (v : Word) : (s.setAct a v).cam = s.cam := rfl
@[simp] theorem State.ins_setAct (s : State) (a : Nat) (v : Word) : (s.setAct a v).ins = s.ins := rfl
@[simp] theorem State.cal_setAct (s : State) (a : Nat) (v : Word) : (s.setAct a v).cal = s.cal := rfl
@[simp] theorem State.pwr_setAct (s : State) (a : Nat) (v : Word) : (s.setAct a v).pwr = s.pwr := rfl
@[simp] theorem State.arb_setAct (s : State) (a : Nat) (v : Word) : (s.setAct a v).arb = s.arb := rfl
@[simp] theorem State.brg_setAct (s : State) (a : Nat) (v : Word) : (s.setAct a v).brg = s.brg := rfl
@[simp] theorem State.saf_setAct (s : State) (a : Nat) (v : Word) : (s.setAct a v).saf = s.saf := rfl
@[simp] theorem State.tim_setAct (s : State) (a : Nat) (v : Word) : (s.setAct a v).tim = s.tim := rfl

/-! ## livePut -/

@[simp] theorem State.pending_livePut (s : State) (f : Fld) (n : Nat) : (s.livePut f n).pending = s.pending := rfl
@[simp] theorem State.cycle_livePut (s : State) (f : Fld) (n : Nat) : (s.livePut f n).cycle = s.cycle := rfl
@[simp] theorem State.running_livePut (s : State) (f : Fld) (n : Nat) : (s.livePut f n).running = s.running := rfl
@[simp] theorem State.regs_livePut (s : State) (f : Fld) (n : Nat) : (s.livePut f n).regs = s.regs := rfl
@[simp] theorem State.active_livePut (s : State) (f : Fld) (n : Nat) : (s.livePut f n).active = s.active := rfl
@[simp] theorem State.shadows_livePut (s : State) (f : Fld) (n : Nat) : (s.livePut f n).shadows = s.shadows := rfl
@[simp] theorem State.handed_livePut (s : State) (f : Fld) (n : Nat) : (s.livePut f n).handed = s.handed := rfl
@[simp] theorem State.timers_livePut (s : State) (f : Fld) (n : Nat) : (s.livePut f n).timers = s.timers := rfl
@[simp] theorem State.captures_livePut (s : State) (f : Fld) (n : Nat) : (s.livePut f n).captures = s.captures := rfl
@[simp] theorem State.latches_livePut (s : State) (f : Fld) (n : Nat) : (s.livePut f n).latches = s.latches := rfl
@[simp] theorem State.free_livePut (s : State) (f : Fld) (n : Nat) : (s.livePut f n).free = s.free := rfl
@[simp] theorem State.outs_livePut (s : State) (f : Fld) (n : Nat) : (s.livePut f n).outs = s.outs := rfl
@[simp] theorem State.sys_livePut (s : State) (f : Fld) (n : Nat) : (s.livePut f n).sys = s.sys := rfl
@[simp] theorem State.cmd_livePut (s : State) (f : Fld) (n : Nat) : (s.livePut f n).cmd = s.cmd := rfl
@[simp] theorem State.evt_livePut (s : State) (f : Fld) (n : Nat) : (s.livePut f n).evt = s.evt := rfl
@[simp] theorem State.dbg_livePut (s : State) (f : Fld) (n : Nat) : (s.livePut f n).dbg = s.dbg := rfl
@[simp] theorem State.flash_livePut (s : State) (f : Fld) (n : Nat) : (s.livePut f n).flash = s.flash := rfl
@[simp] theorem State.ing_livePut (s : State) (f : Fld) (n : Nat) : (s.livePut f n).ing = s.ing := rfl
@[simp] theorem State.pnd_livePut (s : State) (f : Fld) (n : Nat) : (s.livePut f n).pnd = s.pnd := rfl
@[simp] theorem State.asm_livePut (s : State) (f : Fld) (n : Nat) : (s.livePut f n).asm = s.asm := rfl
@[simp] theorem State.fir_livePut (s : State) (f : Fld) (n : Nat) : (s.livePut f n).fir = s.fir := rfl
@[simp] theorem State.pos_livePut (s : State) (f : Fld) (n : Nat) : (s.livePut f n).pos = s.pos := rfl
@[simp] theorem State.jgl_livePut (s : State) (f : Fld) (n : Nat) : (s.livePut f n).jgl = s.jgl := rfl
@[simp] theorem State.cam_livePut (s : State) (f : Fld) (n : Nat) : (s.livePut f n).cam = s.cam := rfl
@[simp] theorem State.ins_livePut (s : State) (f : Fld) (n : Nat) : (s.livePut f n).ins = s.ins := rfl
@[simp] theorem State.cal_livePut (s : State) (f : Fld) (n : Nat) : (s.livePut f n).cal = s.cal := rfl
@[simp] theorem State.pwr_livePut (s : State) (f : Fld) (n : Nat) : (s.livePut f n).pwr = s.pwr := rfl
@[simp] theorem State.arb_livePut (s : State) (f : Fld) (n : Nat) : (s.livePut f n).arb = s.arb := rfl
@[simp] theorem State.brg_livePut (s : State) (f : Fld) (n : Nat) : (s.livePut f n).brg = s.brg := rfl
@[simp] theorem State.saf_livePut (s : State) (f : Fld) (n : Nat) : (s.livePut f n).saf = s.saf := rfl
@[simp] theorem State.tim_livePut (s : State) (f : Fld) (n : Nat) : (s.livePut f n).tim = s.tim := rfl

/-! ## emit -/

@[simp] theorem State.pending_emit (s : State) (o : Out) : (s.emit o).pending = s.pending := rfl
@[simp] theorem State.cycle_emit (s : State) (o : Out) : (s.emit o).cycle = s.cycle := rfl
@[simp] theorem State.running_emit (s : State) (o : Out) : (s.emit o).running = s.running := rfl
@[simp] theorem State.regs_emit (s : State) (o : Out) : (s.emit o).regs = s.regs := rfl
@[simp] theorem State.active_emit (s : State) (o : Out) : (s.emit o).active = s.active := rfl
@[simp] theorem State.shadows_emit (s : State) (o : Out) : (s.emit o).shadows = s.shadows := rfl
@[simp] theorem State.handed_emit (s : State) (o : Out) : (s.emit o).handed = s.handed := rfl
@[simp] theorem State.timers_emit (s : State) (o : Out) : (s.emit o).timers = s.timers := rfl
@[simp] theorem State.captures_emit (s : State) (o : Out) : (s.emit o).captures = s.captures := rfl
@[simp] theorem State.latches_emit (s : State) (o : Out) : (s.emit o).latches = s.latches := rfl
@[simp] theorem State.live_emit (s : State) (o : Out) : (s.emit o).live = s.live := rfl
@[simp] theorem State.free_emit (s : State) (o : Out) : (s.emit o).free = s.free := rfl
@[simp] theorem State.sys_emit (s : State) (o : Out) : (s.emit o).sys = s.sys := rfl
@[simp] theorem State.cmd_emit (s : State) (o : Out) : (s.emit o).cmd = s.cmd := rfl
@[simp] theorem State.evt_emit (s : State) (o : Out) : (s.emit o).evt = s.evt := rfl
@[simp] theorem State.dbg_emit (s : State) (o : Out) : (s.emit o).dbg = s.dbg := rfl
@[simp] theorem State.flash_emit (s : State) (o : Out) : (s.emit o).flash = s.flash := rfl
@[simp] theorem State.ing_emit (s : State) (o : Out) : (s.emit o).ing = s.ing := rfl
@[simp] theorem State.pnd_emit (s : State) (o : Out) : (s.emit o).pnd = s.pnd := rfl
@[simp] theorem State.asm_emit (s : State) (o : Out) : (s.emit o).asm = s.asm := rfl
@[simp] theorem State.fir_emit (s : State) (o : Out) : (s.emit o).fir = s.fir := rfl
@[simp] theorem State.pos_emit (s : State) (o : Out) : (s.emit o).pos = s.pos := rfl
@[simp] theorem State.jgl_emit (s : State) (o : Out) : (s.emit o).jgl = s.jgl := rfl
@[simp] theorem State.cam_emit (s : State) (o : Out) : (s.emit o).cam = s.cam := rfl
@[simp] theorem State.ins_emit (s : State) (o : Out) : (s.emit o).ins = s.ins := rfl
@[simp] theorem State.cal_emit (s : State) (o : Out) : (s.emit o).cal = s.cal := rfl
@[simp] theorem State.pwr_emit (s : State) (o : Out) : (s.emit o).pwr = s.pwr := rfl
@[simp] theorem State.arb_emit (s : State) (o : Out) : (s.emit o).arb = s.arb := rfl
@[simp] theorem State.brg_emit (s : State) (o : Out) : (s.emit o).brg = s.brg := rfl
@[simp] theorem State.saf_emit (s : State) (o : Out) : (s.emit o).saf = s.saf := rfl
@[simp] theorem State.tim_emit (s : State) (o : Out) : (s.emit o).tim = s.tim := rfl

/-! ## mark -/

@[simp] theorem State.pending_mark (s : State) (t : Timer) : (s.mark t).pending = s.pending := rfl
@[simp] theorem State.cycle_mark (s : State) (t : Timer) : (s.mark t).cycle = s.cycle := rfl
@[simp] theorem State.running_mark (s : State) (t : Timer) : (s.mark t).running = s.running := rfl
@[simp] theorem State.regs_mark (s : State) (t : Timer) : (s.mark t).regs = s.regs := rfl
@[simp] theorem State.active_mark (s : State) (t : Timer) : (s.mark t).active = s.active := rfl
@[simp] theorem State.shadows_mark (s : State) (t : Timer) : (s.mark t).shadows = s.shadows := rfl
@[simp] theorem State.handed_mark (s : State) (t : Timer) : (s.mark t).handed = s.handed := rfl
@[simp] theorem State.captures_mark (s : State) (t : Timer) : (s.mark t).captures = s.captures := rfl
@[simp] theorem State.latches_mark (s : State) (t : Timer) : (s.mark t).latches = s.latches := rfl
@[simp] theorem State.live_mark (s : State) (t : Timer) : (s.mark t).live = s.live := rfl
@[simp] theorem State.free_mark (s : State) (t : Timer) : (s.mark t).free = s.free := rfl
@[simp] theorem State.outs_mark (s : State) (t : Timer) : (s.mark t).outs = s.outs := rfl
@[simp] theorem State.sys_mark (s : State) (t : Timer) : (s.mark t).sys = s.sys := rfl
@[simp] theorem State.cmd_mark (s : State) (t : Timer) : (s.mark t).cmd = s.cmd := rfl
@[simp] theorem State.evt_mark (s : State) (t : Timer) : (s.mark t).evt = s.evt := rfl
@[simp] theorem State.dbg_mark (s : State) (t : Timer) : (s.mark t).dbg = s.dbg := rfl
@[simp] theorem State.flash_mark (s : State) (t : Timer) : (s.mark t).flash = s.flash := rfl
@[simp] theorem State.ing_mark (s : State) (t : Timer) : (s.mark t).ing = s.ing := rfl
@[simp] theorem State.pnd_mark (s : State) (t : Timer) : (s.mark t).pnd = s.pnd := rfl
@[simp] theorem State.asm_mark (s : State) (t : Timer) : (s.mark t).asm = s.asm := rfl
@[simp] theorem State.fir_mark (s : State) (t : Timer) : (s.mark t).fir = s.fir := rfl
@[simp] theorem State.pos_mark (s : State) (t : Timer) : (s.mark t).pos = s.pos := rfl
@[simp] theorem State.jgl_mark (s : State) (t : Timer) : (s.mark t).jgl = s.jgl := rfl
@[simp] theorem State.cam_mark (s : State) (t : Timer) : (s.mark t).cam = s.cam := rfl
@[simp] theorem State.ins_mark (s : State) (t : Timer) : (s.mark t).ins = s.ins := rfl
@[simp] theorem State.cal_mark (s : State) (t : Timer) : (s.mark t).cal = s.cal := rfl
@[simp] theorem State.pwr_mark (s : State) (t : Timer) : (s.mark t).pwr = s.pwr := rfl
@[simp] theorem State.arb_mark (s : State) (t : Timer) : (s.mark t).arb = s.arb := rfl
@[simp] theorem State.brg_mark (s : State) (t : Timer) : (s.mark t).brg = s.brg := rfl
@[simp] theorem State.saf_mark (s : State) (t : Timer) : (s.mark t).saf = s.saf := rfl
@[simp] theorem State.tim_mark (s : State) (t : Timer) : (s.mark t).tim = s.tim := rfl

/-! ## samplePins -/

@[simp] theorem State.pending_samplePins (s : State)  : (s.samplePins).pending = s.pending := rfl
@[simp] theorem State.cycle_samplePins (s : State)  : (s.samplePins).cycle = s.cycle := rfl
@[simp] theorem State.running_samplePins (s : State)  : (s.samplePins).running = s.running := rfl
@[simp] theorem State.regs_samplePins (s : State)  : (s.samplePins).regs = s.regs := rfl
@[simp] theorem State.active_samplePins (s : State)  : (s.samplePins).active = s.active := rfl
@[simp] theorem State.shadows_samplePins (s : State)  : (s.samplePins).shadows = s.shadows := rfl
@[simp] theorem State.handed_samplePins (s : State)  : (s.samplePins).handed = s.handed := rfl
@[simp] theorem State.timers_samplePins (s : State)  : (s.samplePins).timers = s.timers := rfl
@[simp] theorem State.captures_samplePins (s : State)  : (s.samplePins).captures = s.captures := rfl
@[simp] theorem State.latches_samplePins (s : State)  : (s.samplePins).latches = s.latches := rfl
@[simp] theorem State.live_samplePins (s : State)  : (s.samplePins).live = s.live := rfl
@[simp] theorem State.outs_samplePins (s : State)  : (s.samplePins).outs = s.outs := rfl
@[simp] theorem State.cmd_samplePins (s : State)  : (s.samplePins).cmd = s.cmd := rfl
@[simp] theorem State.evt_samplePins (s : State)  : (s.samplePins).evt = s.evt := rfl
@[simp] theorem State.dbg_samplePins (s : State)  : (s.samplePins).dbg = s.dbg := rfl
@[simp] theorem State.flash_samplePins (s : State)  : (s.samplePins).flash = s.flash := rfl
@[simp] theorem State.ing_samplePins (s : State)  : (s.samplePins).ing = s.ing := rfl
@[simp] theorem State.pnd_samplePins (s : State)  : (s.samplePins).pnd = s.pnd := rfl
@[simp] theorem State.asm_samplePins (s : State)  : (s.samplePins).asm = s.asm := rfl
@[simp] theorem State.fir_samplePins (s : State)  : (s.samplePins).fir = s.fir := rfl
@[simp] theorem State.pos_samplePins (s : State)  : (s.samplePins).pos = s.pos := rfl
@[simp] theorem State.jgl_samplePins (s : State)  : (s.samplePins).jgl = s.jgl := rfl
@[simp] theorem State.cam_samplePins (s : State)  : (s.samplePins).cam = s.cam := rfl
@[simp] theorem State.ins_samplePins (s : State)  : (s.samplePins).ins = s.ins := rfl
@[simp] theorem State.cal_samplePins (s : State)  : (s.samplePins).cal = s.cal := rfl
@[simp] theorem State.pwr_samplePins (s : State)  : (s.samplePins).pwr = s.pwr := rfl
@[simp] theorem State.arb_samplePins (s : State)  : (s.samplePins).arb = s.arb := rfl
@[simp] theorem State.brg_samplePins (s : State)  : (s.samplePins).brg = s.brg := rfl
@[simp] theorem State.saf_samplePins (s : State)  : (s.samplePins).saf = s.saf := rfl
@[simp] theorem State.tim_samplePins (s : State)  : (s.samplePins).tim = s.tim := rfl

/-! ## The registers under updates that write none -/

@[simp] theorem State.reg_setAct (s : State) (a : Nat) (v : Word) (b : Nat) : (s.setAct a v).reg b = s.reg b := rfl
@[simp] theorem State.get_setAct (s : State) (a : Nat) (v : Word) (g : Fld) : (s.setAct a v).get g = s.get g := rfl
@[simp] theorem State.flag_setAct (s : State) (a : Nat) (v : Word) (g : Fld) : (s.setAct a v).flag g = s.flag g := rfl
@[simp] theorem State.reg_livePut (s : State) (f : Fld) (n : Nat) (b : Nat) : (s.livePut f n).reg b = s.reg b := rfl
@[simp] theorem State.get_livePut (s : State) (f : Fld) (n : Nat) (g : Fld) : (s.livePut f n).get g = s.get g := rfl
@[simp] theorem State.flag_livePut (s : State) (f : Fld) (n : Nat) (g : Fld) : (s.livePut f n).flag g = s.flag g := rfl
@[simp] theorem State.reg_emit (s : State) (o : Out) (b : Nat) : (s.emit o).reg b = s.reg b := rfl
@[simp] theorem State.get_emit (s : State) (o : Out) (g : Fld) : (s.emit o).get g = s.get g := rfl
@[simp] theorem State.flag_emit (s : State) (o : Out) (g : Fld) : (s.emit o).flag g = s.flag g := rfl
@[simp] theorem State.reg_mark (s : State) (t : Timer) (b : Nat) : (s.mark t).reg b = s.reg b := rfl
@[simp] theorem State.get_mark (s : State) (t : Timer) (g : Fld) : (s.mark t).get g = s.get g := rfl
@[simp] theorem State.flag_mark (s : State) (t : Timer) (g : Fld) : (s.mark t).flag g = s.flag g := rfl
@[simp] theorem State.reg_samplePins (s : State)  (b : Nat) : (s.samplePins).reg b = s.reg b := rfl
@[simp] theorem State.get_samplePins (s : State)  (g : Fld) : (s.samplePins).get g = s.get g := rfl
@[simp] theorem State.flag_samplePins (s : State)  (g : Fld) : (s.samplePins).flag g = s.flag g := rfl

@[simp] theorem State.outs_emit (s : State) (o : Out) : (s.emit o).outs = o :: s.outs := rfl

@[simp] theorem State.free_samplePins (s : State) : s.samplePins.free = s.free + 1 := rfl

/-! ## tick -/

theorem State.tick_cases (s : State) (n : Nat) : s.tick n = { s with cycle := s.cycle + n, tim := (s.tick n).tim } := by
  simp only [State.tick]
  split <;> rfl

@[simp] theorem State.cycle_tick (s : State) (n : Nat) : (s.tick n).cycle = s.cycle + n := by rw [State.tick_cases]

@[simp] theorem State.pending_tick (s : State) (n : Nat) : (s.tick n).pending = s.pending := by rw [State.tick_cases]
@[simp] theorem State.running_tick (s : State) (n : Nat) : (s.tick n).running = s.running := by rw [State.tick_cases]
@[simp] theorem State.regs_tick (s : State) (n : Nat) : (s.tick n).regs = s.regs := by rw [State.tick_cases]
@[simp] theorem State.active_tick (s : State) (n : Nat) : (s.tick n).active = s.active := by rw [State.tick_cases]
@[simp] theorem State.shadows_tick (s : State) (n : Nat) : (s.tick n).shadows = s.shadows := by rw [State.tick_cases]
@[simp] theorem State.handed_tick (s : State) (n : Nat) : (s.tick n).handed = s.handed := by rw [State.tick_cases]
@[simp] theorem State.timers_tick (s : State) (n : Nat) : (s.tick n).timers = s.timers := by rw [State.tick_cases]
@[simp] theorem State.captures_tick (s : State) (n : Nat) : (s.tick n).captures = s.captures := by rw [State.tick_cases]
@[simp] theorem State.latches_tick (s : State) (n : Nat) : (s.tick n).latches = s.latches := by rw [State.tick_cases]
@[simp] theorem State.live_tick (s : State) (n : Nat) : (s.tick n).live = s.live := by rw [State.tick_cases]
@[simp] theorem State.free_tick (s : State) (n : Nat) : (s.tick n).free = s.free := by rw [State.tick_cases]
@[simp] theorem State.outs_tick (s : State) (n : Nat) : (s.tick n).outs = s.outs := by rw [State.tick_cases]
@[simp] theorem State.sys_tick (s : State) (n : Nat) : (s.tick n).sys = s.sys := by rw [State.tick_cases]
@[simp] theorem State.cmd_tick (s : State) (n : Nat) : (s.tick n).cmd = s.cmd := by rw [State.tick_cases]
@[simp] theorem State.evt_tick (s : State) (n : Nat) : (s.tick n).evt = s.evt := by rw [State.tick_cases]
@[simp] theorem State.dbg_tick (s : State) (n : Nat) : (s.tick n).dbg = s.dbg := by rw [State.tick_cases]
@[simp] theorem State.flash_tick (s : State) (n : Nat) : (s.tick n).flash = s.flash := by rw [State.tick_cases]
@[simp] theorem State.ing_tick (s : State) (n : Nat) : (s.tick n).ing = s.ing := by rw [State.tick_cases]
@[simp] theorem State.pnd_tick (s : State) (n : Nat) : (s.tick n).pnd = s.pnd := by rw [State.tick_cases]
@[simp] theorem State.asm_tick (s : State) (n : Nat) : (s.tick n).asm = s.asm := by rw [State.tick_cases]
@[simp] theorem State.fir_tick (s : State) (n : Nat) : (s.tick n).fir = s.fir := by rw [State.tick_cases]
@[simp] theorem State.pos_tick (s : State) (n : Nat) : (s.tick n).pos = s.pos := by rw [State.tick_cases]
@[simp] theorem State.jgl_tick (s : State) (n : Nat) : (s.tick n).jgl = s.jgl := by rw [State.tick_cases]
@[simp] theorem State.cam_tick (s : State) (n : Nat) : (s.tick n).cam = s.cam := by rw [State.tick_cases]
@[simp] theorem State.ins_tick (s : State) (n : Nat) : (s.tick n).ins = s.ins := by rw [State.tick_cases]
@[simp] theorem State.cal_tick (s : State) (n : Nat) : (s.tick n).cal = s.cal := by rw [State.tick_cases]
@[simp] theorem State.pwr_tick (s : State) (n : Nat) : (s.tick n).pwr = s.pwr := by rw [State.tick_cases]
@[simp] theorem State.arb_tick (s : State) (n : Nat) : (s.tick n).arb = s.arb := by rw [State.tick_cases]
@[simp] theorem State.brg_tick (s : State) (n : Nat) : (s.tick n).brg = s.brg := by rw [State.tick_cases]
@[simp] theorem State.saf_tick (s : State) (n : Nat) : (s.tick n).saf = s.saf := by rw [State.tick_cases]
@[simp] theorem State.reg_tick (s : State) (n b : Nat) : (s.tick n).reg b = s.reg b := by rw [State.tick_cases]; rfl
@[simp] theorem State.get_tick (s : State) (n : Nat) (g : Fld) : (s.tick n).get g = s.get g := by rw [State.tick_cases]; rfl
@[simp] theorem State.flag_tick (s : State) (n : Nat) (g : Fld) : (s.tick n).flag g = s.flag g := by rw [State.tick_cases]; rfl

/-! ## Intervals -/

@[simp] theorem State.pending_tickTo (s : State) (t : Nat) : (s.tickTo t).pending = s.pending := by simp [State.tickTo]
@[simp] theorem State.running_tickTo (s : State) (t : Nat) : (s.tickTo t).running = s.running := by simp [State.tickTo]
@[simp] theorem State.regs_tickTo (s : State) (t : Nat) : (s.tickTo t).regs = s.regs := by simp [State.tickTo]
@[simp] theorem State.active_tickTo (s : State) (t : Nat) : (s.tickTo t).active = s.active := by simp [State.tickTo]
@[simp] theorem State.shadows_tickTo (s : State) (t : Nat) : (s.tickTo t).shadows = s.shadows := by simp [State.tickTo]
@[simp] theorem State.handed_tickTo (s : State) (t : Nat) : (s.tickTo t).handed = s.handed := by simp [State.tickTo]
@[simp] theorem State.timers_tickTo (s : State) (t : Nat) : (s.tickTo t).timers = s.timers := by simp [State.tickTo]
@[simp] theorem State.captures_tickTo (s : State) (t : Nat) : (s.tickTo t).captures = s.captures := by simp [State.tickTo]
@[simp] theorem State.latches_tickTo (s : State) (t : Nat) : (s.tickTo t).latches = s.latches := by simp [State.tickTo]
@[simp] theorem State.live_tickTo (s : State) (t : Nat) : (s.tickTo t).live = s.live := by simp [State.tickTo]
@[simp] theorem State.free_tickTo (s : State) (t : Nat) : (s.tickTo t).free = s.free := by simp [State.tickTo]
@[simp] theorem State.outs_tickTo (s : State) (t : Nat) : (s.tickTo t).outs = s.outs := by simp [State.tickTo]
@[simp] theorem State.sys_tickTo (s : State) (t : Nat) : (s.tickTo t).sys = s.sys := by simp [State.tickTo]
@[simp] theorem State.cmd_tickTo (s : State) (t : Nat) : (s.tickTo t).cmd = s.cmd := by simp [State.tickTo]
@[simp] theorem State.evt_tickTo (s : State) (t : Nat) : (s.tickTo t).evt = s.evt := by simp [State.tickTo]
@[simp] theorem State.dbg_tickTo (s : State) (t : Nat) : (s.tickTo t).dbg = s.dbg := by simp [State.tickTo]
@[simp] theorem State.flash_tickTo (s : State) (t : Nat) : (s.tickTo t).flash = s.flash := by simp [State.tickTo]
@[simp] theorem State.ing_tickTo (s : State) (t : Nat) : (s.tickTo t).ing = s.ing := by simp [State.tickTo]
@[simp] theorem State.pnd_tickTo (s : State) (t : Nat) : (s.tickTo t).pnd = s.pnd := by simp [State.tickTo]
@[simp] theorem State.asm_tickTo (s : State) (t : Nat) : (s.tickTo t).asm = s.asm := by simp [State.tickTo]
@[simp] theorem State.fir_tickTo (s : State) (t : Nat) : (s.tickTo t).fir = s.fir := by simp [State.tickTo]
@[simp] theorem State.pos_tickTo (s : State) (t : Nat) : (s.tickTo t).pos = s.pos := by simp [State.tickTo]
@[simp] theorem State.jgl_tickTo (s : State) (t : Nat) : (s.tickTo t).jgl = s.jgl := by simp [State.tickTo]
@[simp] theorem State.cam_tickTo (s : State) (t : Nat) : (s.tickTo t).cam = s.cam := by simp [State.tickTo]
@[simp] theorem State.ins_tickTo (s : State) (t : Nat) : (s.tickTo t).ins = s.ins := by simp [State.tickTo]
@[simp] theorem State.cal_tickTo (s : State) (t : Nat) : (s.tickTo t).cal = s.cal := by simp [State.tickTo]
@[simp] theorem State.pwr_tickTo (s : State) (t : Nat) : (s.tickTo t).pwr = s.pwr := by simp [State.tickTo]
@[simp] theorem State.arb_tickTo (s : State) (t : Nat) : (s.tickTo t).arb = s.arb := by simp [State.tickTo]
@[simp] theorem State.brg_tickTo (s : State) (t : Nat) : (s.tickTo t).brg = s.brg := by simp [State.tickTo]
@[simp] theorem State.saf_tickTo (s : State) (t : Nat) : (s.tickTo t).saf = s.saf := by simp [State.tickTo]
@[simp] theorem State.reg_tickTo (s : State) (t : Nat) (b : Nat) : (s.tickTo t).reg b = s.reg b := by simp [State.tickTo]
@[simp] theorem State.get_tickTo (s : State) (t : Nat) (g : Fld) : (s.tickTo t).get g = s.get g := by simp [State.tickTo]
@[simp] theorem State.flag_tickTo (s : State) (t : Nat) (g : Fld) : (s.tickTo t).flag g = s.flag g := by simp [State.tickTo]
@[simp] theorem State.pending_waitFor (s : State) (t : Timer) (n : Nat) : (s.waitFor t n).pending = s.pending := by simp [State.waitFor]
@[simp] theorem State.running_waitFor (s : State) (t : Timer) (n : Nat) : (s.waitFor t n).running = s.running := by simp [State.waitFor]
@[simp] theorem State.regs_waitFor (s : State) (t : Timer) (n : Nat) : (s.waitFor t n).regs = s.regs := by simp [State.waitFor]
@[simp] theorem State.active_waitFor (s : State) (t : Timer) (n : Nat) : (s.waitFor t n).active = s.active := by simp [State.waitFor]
@[simp] theorem State.shadows_waitFor (s : State) (t : Timer) (n : Nat) : (s.waitFor t n).shadows = s.shadows := by simp [State.waitFor]
@[simp] theorem State.handed_waitFor (s : State) (t : Timer) (n : Nat) : (s.waitFor t n).handed = s.handed := by simp [State.waitFor]
@[simp] theorem State.timers_waitFor (s : State) (t : Timer) (n : Nat) : (s.waitFor t n).timers = s.timers := by simp [State.waitFor]
@[simp] theorem State.captures_waitFor (s : State) (t : Timer) (n : Nat) : (s.waitFor t n).captures = s.captures := by simp [State.waitFor]
@[simp] theorem State.latches_waitFor (s : State) (t : Timer) (n : Nat) : (s.waitFor t n).latches = s.latches := by simp [State.waitFor]
@[simp] theorem State.live_waitFor (s : State) (t : Timer) (n : Nat) : (s.waitFor t n).live = s.live := by simp [State.waitFor]
@[simp] theorem State.free_waitFor (s : State) (t : Timer) (n : Nat) : (s.waitFor t n).free = s.free := by simp [State.waitFor]
@[simp] theorem State.outs_waitFor (s : State) (t : Timer) (n : Nat) : (s.waitFor t n).outs = s.outs := by simp [State.waitFor]
@[simp] theorem State.sys_waitFor (s : State) (t : Timer) (n : Nat) : (s.waitFor t n).sys = s.sys := by simp [State.waitFor]
@[simp] theorem State.cmd_waitFor (s : State) (t : Timer) (n : Nat) : (s.waitFor t n).cmd = s.cmd := by simp [State.waitFor]
@[simp] theorem State.evt_waitFor (s : State) (t : Timer) (n : Nat) : (s.waitFor t n).evt = s.evt := by simp [State.waitFor]
@[simp] theorem State.dbg_waitFor (s : State) (t : Timer) (n : Nat) : (s.waitFor t n).dbg = s.dbg := by simp [State.waitFor]
@[simp] theorem State.flash_waitFor (s : State) (t : Timer) (n : Nat) : (s.waitFor t n).flash = s.flash := by simp [State.waitFor]
@[simp] theorem State.ing_waitFor (s : State) (t : Timer) (n : Nat) : (s.waitFor t n).ing = s.ing := by simp [State.waitFor]
@[simp] theorem State.pnd_waitFor (s : State) (t : Timer) (n : Nat) : (s.waitFor t n).pnd = s.pnd := by simp [State.waitFor]
@[simp] theorem State.asm_waitFor (s : State) (t : Timer) (n : Nat) : (s.waitFor t n).asm = s.asm := by simp [State.waitFor]
@[simp] theorem State.fir_waitFor (s : State) (t : Timer) (n : Nat) : (s.waitFor t n).fir = s.fir := by simp [State.waitFor]
@[simp] theorem State.pos_waitFor (s : State) (t : Timer) (n : Nat) : (s.waitFor t n).pos = s.pos := by simp [State.waitFor]
@[simp] theorem State.jgl_waitFor (s : State) (t : Timer) (n : Nat) : (s.waitFor t n).jgl = s.jgl := by simp [State.waitFor]
@[simp] theorem State.cam_waitFor (s : State) (t : Timer) (n : Nat) : (s.waitFor t n).cam = s.cam := by simp [State.waitFor]
@[simp] theorem State.ins_waitFor (s : State) (t : Timer) (n : Nat) : (s.waitFor t n).ins = s.ins := by simp [State.waitFor]
@[simp] theorem State.cal_waitFor (s : State) (t : Timer) (n : Nat) : (s.waitFor t n).cal = s.cal := by simp [State.waitFor]
@[simp] theorem State.pwr_waitFor (s : State) (t : Timer) (n : Nat) : (s.waitFor t n).pwr = s.pwr := by simp [State.waitFor]
@[simp] theorem State.arb_waitFor (s : State) (t : Timer) (n : Nat) : (s.waitFor t n).arb = s.arb := by simp [State.waitFor]
@[simp] theorem State.brg_waitFor (s : State) (t : Timer) (n : Nat) : (s.waitFor t n).brg = s.brg := by simp [State.waitFor]
@[simp] theorem State.saf_waitFor (s : State) (t : Timer) (n : Nat) : (s.waitFor t n).saf = s.saf := by simp [State.waitFor]
@[simp] theorem State.reg_waitFor (s : State) (t : Timer) (n : Nat) (b : Nat) : (s.waitFor t n).reg b = s.reg b := by simp [State.waitFor]
@[simp] theorem State.get_waitFor (s : State) (t : Timer) (n : Nat) (g : Fld) : (s.waitFor t n).get g = s.get g := by simp [State.waitFor]
@[simp] theorem State.flag_waitFor (s : State) (t : Timer) (n : Nat) (g : Fld) : (s.waitFor t n).flag g = s.flag g := by simp [State.waitFor]
@[simp] theorem State.pending_every (s : State) (t : Timer) (n : Nat) : (s.every t n).pending = s.pending := by simp [State.every]
@[simp] theorem State.running_every (s : State) (t : Timer) (n : Nat) : (s.every t n).running = s.running := by simp [State.every]
@[simp] theorem State.regs_every (s : State) (t : Timer) (n : Nat) : (s.every t n).regs = s.regs := by simp [State.every]
@[simp] theorem State.active_every (s : State) (t : Timer) (n : Nat) : (s.every t n).active = s.active := by simp [State.every]
@[simp] theorem State.shadows_every (s : State) (t : Timer) (n : Nat) : (s.every t n).shadows = s.shadows := by simp [State.every]
@[simp] theorem State.handed_every (s : State) (t : Timer) (n : Nat) : (s.every t n).handed = s.handed := by simp [State.every]
@[simp] theorem State.captures_every (s : State) (t : Timer) (n : Nat) : (s.every t n).captures = s.captures := by simp [State.every]
@[simp] theorem State.latches_every (s : State) (t : Timer) (n : Nat) : (s.every t n).latches = s.latches := by simp [State.every]
@[simp] theorem State.live_every (s : State) (t : Timer) (n : Nat) : (s.every t n).live = s.live := by simp [State.every]
@[simp] theorem State.free_every (s : State) (t : Timer) (n : Nat) : (s.every t n).free = s.free := by simp [State.every]
@[simp] theorem State.outs_every (s : State) (t : Timer) (n : Nat) : (s.every t n).outs = s.outs := by simp [State.every]
@[simp] theorem State.sys_every (s : State) (t : Timer) (n : Nat) : (s.every t n).sys = s.sys := by simp [State.every]
@[simp] theorem State.cmd_every (s : State) (t : Timer) (n : Nat) : (s.every t n).cmd = s.cmd := by simp [State.every]
@[simp] theorem State.evt_every (s : State) (t : Timer) (n : Nat) : (s.every t n).evt = s.evt := by simp [State.every]
@[simp] theorem State.dbg_every (s : State) (t : Timer) (n : Nat) : (s.every t n).dbg = s.dbg := by simp [State.every]
@[simp] theorem State.flash_every (s : State) (t : Timer) (n : Nat) : (s.every t n).flash = s.flash := by simp [State.every]
@[simp] theorem State.ing_every (s : State) (t : Timer) (n : Nat) : (s.every t n).ing = s.ing := by simp [State.every]
@[simp] theorem State.pnd_every (s : State) (t : Timer) (n : Nat) : (s.every t n).pnd = s.pnd := by simp [State.every]
@[simp] theorem State.asm_every (s : State) (t : Timer) (n : Nat) : (s.every t n).asm = s.asm := by simp [State.every]
@[simp] theorem State.fir_every (s : State) (t : Timer) (n : Nat) : (s.every t n).fir = s.fir := by simp [State.every]
@[simp] theorem State.pos_every (s : State) (t : Timer) (n : Nat) : (s.every t n).pos = s.pos := by simp [State.every]
@[simp] theorem State.jgl_every (s : State) (t : Timer) (n : Nat) : (s.every t n).jgl = s.jgl := by simp [State.every]
@[simp] theorem State.cam_every (s : State) (t : Timer) (n : Nat) : (s.every t n).cam = s.cam := by simp [State.every]
@[simp] theorem State.ins_every (s : State) (t : Timer) (n : Nat) : (s.every t n).ins = s.ins := by simp [State.every]
@[simp] theorem State.cal_every (s : State) (t : Timer) (n : Nat) : (s.every t n).cal = s.cal := by simp [State.every]
@[simp] theorem State.pwr_every (s : State) (t : Timer) (n : Nat) : (s.every t n).pwr = s.pwr := by simp [State.every]
@[simp] theorem State.arb_every (s : State) (t : Timer) (n : Nat) : (s.every t n).arb = s.arb := by simp [State.every]
@[simp] theorem State.brg_every (s : State) (t : Timer) (n : Nat) : (s.every t n).brg = s.brg := by simp [State.every]
@[simp] theorem State.saf_every (s : State) (t : Timer) (n : Nat) : (s.every t n).saf = s.saf := by simp [State.every]
@[simp] theorem State.reg_every (s : State) (t : Timer) (n : Nat) (b : Nat) : (s.every t n).reg b = s.reg b := by simp [State.every]
@[simp] theorem State.get_every (s : State) (t : Timer) (n : Nat) (g : Fld) : (s.every t n).get g = s.get g := by simp [State.every]
@[simp] theorem State.flag_every (s : State) (t : Timer) (n : Nat) (g : Fld) : (s.every t n).flag g = s.flag g := by simp [State.every]

end Sys2Proof.Machine
end

