-- ==== Sys2Proof/Laws/Gate.lean ====
section
/-! SUPPORT. What the output gate does (R436): it writes SAF_STAT, the times of its changes and an output, lowers and never raises, and
leaves every other part of the state. -/

namespace Sys2Proof.Machine

/-- The register words after the outputs are driven: four bits of SAF_STAT. -/
theorem State.drive_regs (s : State) (a b : Bool) : ∃ c d, (s.drive a b).regs =
    ((((s.putFlag SAF_STAT_EN_A a).putFlag SAF_STAT_EN_B b).putFlag SAF_STAT_SAFE_A c).putFlag SAF_STAT_SAFE_B d).regs := by
  unfold State.drive
  simp only
  repeat' split
  all_goals exact ⟨_, _, rfl⟩

theorem State.reg_congr {s t : State} (h : s.regs = t.regs) (a : Nat) : s.reg a = t.reg a := by simp only [State.reg, h]

theorem State.get_congr {s t : State} (h : s.regs = t.regs) (f : Fld) : s.get f = t.get f := by
  simp only [State.get, State.reg_congr h]

theorem State.flag_congr {s t : State} (h : s.regs = t.regs) (f : Fld) : s.flag f = t.flag f := by
  simp only [State.flag, State.get_congr h]

/-- Driving the outputs writes no register but SAF_STAT. -/
theorem State.reg_drive (s : State) (a b : Bool) {x : Nat} (h : x ≠ SAF_STAT) : (s.drive a b).reg x = s.reg x := by
  obtain ⟨c, d, e⟩ := s.drive_regs a b
  rw [State.reg_congr e]
  simp only [State.putFlag]
  rw [State.reg_put_other _ _ _ h, State.reg_put_other _ _ _ h, State.reg_put_other _ _ _ h, State.reg_put_other _ _ _ h]

theorem State.get_drive (s : State) (a b : Bool) (f : Fld) (h : f.addr ≠ SAF_STAT) : (s.drive a b).get f = s.get f := by
  simp only [State.get, State.reg_drive s a b h]

/-- The outputs stand as driven. -/
theorem State.flag_drive_en (s : State) (a b : Bool) :
    (s.drive a b).flag SAF_STAT_EN_A = a ∧ (s.drive a b).flag SAF_STAT_EN_B = b := by
  obtain ⟨c, d, e⟩ := s.drive_regs a b
  rw [State.flag_congr e, State.flag_congr e]
  constructor
  · rw [State.flag_putFlag_other _ _ _ _ (by decide) (.inr (by decide)), State.flag_putFlag_other _ _ _ _ (by decide) (.inr (by decide)),
      State.flag_putFlag_other _ _ _ _ (by decide) (.inr (by decide)), State.flag_putFlag_same _ _ _ rfl (by decide)]
  · rw [State.flag_putFlag_other _ _ _ _ (by decide) (.inr (by decide)), State.flag_putFlag_other _ _ _ _ (by decide) (.inr (by decide)),
      State.flag_putFlag_same _ _ _ rfl (by decide)]

/-- The other fields of SAF_STAT are as they were. -/
theorem State.get_drive_stat (s : State) (a b : Bool) (f : Fld) (hf : f.lo + f.width ≤ 32)
    (ha : SAF_STAT_EN_A.apart f) (hb : SAF_STAT_EN_B.apart f) (hc : SAF_STAT_SAFE_A.apart f) (hd : SAF_STAT_SAFE_B.apart f) :
    (s.drive a b).get f = s.get f := by
  obtain ⟨c, d, e⟩ := s.drive_regs a b
  rw [State.get_congr e, State.get_putFlag_other _ _ _ _ hf hd, State.get_putFlag_other _ _ _ _ hf hc,
    State.get_putFlag_other _ _ _ _ hf hb, State.get_putFlag_other _ _ _ _ hf ha]

/-! ## Everything else a drive leaves -/

@[simp] theorem State.pending_drive (s : State) (a b : Bool) : (s.drive a b).pending = s.pending := by
  unfold State.drive; simp only; repeat' split
  all_goals simp
@[simp] theorem State.cycle_drive (s : State) (a b : Bool) : (s.drive a b).cycle = s.cycle := by
  unfold State.drive; simp only; repeat' split
  all_goals simp
@[simp] theorem State.running_drive (s : State) (a b : Bool) : (s.drive a b).running = s.running := by
  unfold State.drive; simp only; repeat' split
  all_goals simp
@[simp] theorem State.active_drive (s : State) (a b : Bool) : (s.drive a b).active = s.active := by
  unfold State.drive; simp only; repeat' split
  all_goals simp
@[simp] theorem State.shadows_drive (s : State) (a b : Bool) : (s.drive a b).shadows = s.shadows := by
  unfold State.drive; simp only; repeat' split
  all_goals simp
@[simp] theorem State.handed_drive (s : State) (a b : Bool) : (s.drive a b).handed = s.handed := by
  unfold State.drive; simp only; repeat' split
  all_goals simp
@[simp] theorem State.captures_drive (s : State) (a b : Bool) : (s.drive a b).captures = s.captures := by
  unfold State.drive; simp only; repeat' split
  all_goals simp
@[simp] theorem State.latches_drive (s : State) (a b : Bool) : (s.drive a b).latches = s.latches := by
  unfold State.drive; simp only; repeat' split
  all_goals simp
@[simp] theorem State.live_drive (s : State) (a b : Bool) : (s.drive a b).live = s.live := by
  unfold State.drive; simp only; repeat' split
  all_goals simp
@[simp] theorem State.free_drive (s : State) (a b : Bool) : (s.drive a b).free = s.free := by
  unfold State.drive; simp only; repeat' split
  all_goals simp
@[simp] theorem State.saf_drive (s : State) (a b : Bool) : (s.drive a b).saf = s.saf := by
  unfold State.drive; simp only; repeat' split
  all_goals simp
@[simp] theorem State.sys_drive (s : State) (a b : Bool) : (s.drive a b).sys = s.sys := by
  unfold State.drive; simp only; repeat' split
  all_goals simp
@[simp] theorem State.cmd_drive (s : State) (a b : Bool) : (s.drive a b).cmd = s.cmd := by
  unfold State.drive; simp only; repeat' split
  all_goals simp
@[simp] theorem State.evt_drive (s : State) (a b : Bool) : (s.drive a b).evt = s.evt := by
  unfold State.drive; simp only; repeat' split
  all_goals simp
@[simp] theorem State.dbg_drive (s : State) (a b : Bool) : (s.drive a b).dbg = s.dbg := by
  unfold State.drive; simp only; repeat' split
  all_goals simp
@[simp] theorem State.flash_drive (s : State) (a b : Bool) : (s.drive a b).flash = s.flash := by
  unfold State.drive; simp only; repeat' split
  all_goals simp
@[simp] theorem State.ing_drive (s : State) (a b : Bool) : (s.drive a b).ing = s.ing := by
  unfold State.drive; simp only; repeat' split
  all_goals simp
@[simp] theorem State.pnd_drive (s : State) (a b : Bool) : (s.drive a b).pnd = s.pnd := by
  unfold State.drive; simp only; repeat' split
  all_goals simp
@[simp] theorem State.asm_drive (s : State) (a b : Bool) : (s.drive a b).asm = s.asm := by
  unfold State.drive; simp only; repeat' split
  all_goals simp
@[simp] theorem State.fir_drive (s : State) (a b : Bool) : (s.drive a b).fir = s.fir := by
  unfold State.drive; simp only; repeat' split
  all_goals simp
@[simp] theorem State.pos_drive (s : State) (a b : Bool) : (s.drive a b).pos = s.pos := by
  unfold State.drive; simp only; repeat' split
  all_goals simp
@[simp] theorem State.jgl_drive (s : State) (a b : Bool) : (s.drive a b).jgl = s.jgl := by
  unfold State.drive; simp only; repeat' split
  all_goals simp
@[simp] theorem State.cam_drive (s : State) (a b : Bool) : (s.drive a b).cam = s.cam := by
  unfold State.drive; simp only; repeat' split
  all_goals simp
@[simp] theorem State.ins_drive (s : State) (a b : Bool) : (s.drive a b).ins = s.ins := by
  unfold State.drive; simp only; repeat' split
  all_goals simp
@[simp] theorem State.cal_drive (s : State) (a b : Bool) : (s.drive a b).cal = s.cal := by
  unfold State.drive; simp only; repeat' split
  all_goals simp
@[simp] theorem State.pwr_drive (s : State) (a b : Bool) : (s.drive a b).pwr = s.pwr := by
  unfold State.drive; simp only; repeat' split
  all_goals simp
@[simp] theorem State.arb_drive (s : State) (a b : Bool) : (s.drive a b).arb = s.arb := by
  unfold State.drive; simp only; repeat' split
  all_goals simp
@[simp] theorem State.brg_drive (s : State) (a b : Bool) : (s.drive a b).brg = s.brg := by
  unfold State.drive; simp only; repeat' split
  all_goals simp
@[simp] theorem State.tim_drive (s : State) (a b : Bool) : (s.drive a b).tim = s.tim := by
  unfold State.drive; simp only; repeat' split
  all_goals simp

/-! ## The gate -/

theorem State.reg_gateOutputs (s : State) {x : Nat} (h : x ≠ SAF_STAT) : s.gateOutputs.reg x = s.reg x := by
  unfold State.gateOutputs
  split
  · rfl
  · exact State.reg_drive _ _ _ h

theorem State.get_gateOutputs (s : State) (f : Fld) (h : f.addr ≠ SAF_STAT) : s.gateOutputs.get f = s.get f := by
  simp only [State.get, State.reg_gateOutputs s h]

theorem State.flag_gateOutputs (s : State) (f : Fld) (h : f.addr ≠ SAF_STAT) : s.gateOutputs.flag f = s.flag f := by
  simp only [State.flag, State.get_gateOutputs s f h]

theorem State.get_gateOutputs_stat (s : State) (f : Fld) (hf : f.lo + f.width ≤ 32)
    (ha : SAF_STAT_EN_A.apart f) (hb : SAF_STAT_EN_B.apart f) (hc : SAF_STAT_SAFE_A.apart f) (hd : SAF_STAT_SAFE_B.apart f) :
    s.gateOutputs.get f = s.get f := by
  unfold State.gateOutputs
  split
  · rfl
  · exact State.get_drive_stat _ _ _ f hf ha hb hc hd

/-- The gate never raises an output. -/
theorem State.gateOutputs_le (s : State) :
    (s.gateOutputs.flag SAF_STAT_EN_A = true → s.flag SAF_STAT_EN_A = true)
      ∧ (s.gateOutputs.flag SAF_STAT_EN_B = true → s.flag SAF_STAT_EN_B = true) := by
  unfold State.gateOutputs
  split
  · exact ⟨id, id⟩
  · rw [(State.flag_drive_en ..).1, (State.flag_drive_en ..).2]
    simp +contextual

@[simp] theorem State.pending_gateOutputs (s : State) : s.gateOutputs.pending = s.pending := by
  unfold State.gateOutputs; split <;> simp
@[simp] theorem State.cycle_gateOutputs (s : State) : s.gateOutputs.cycle = s.cycle := by
  unfold State.gateOutputs; split <;> simp
@[simp] theorem State.running_gateOutputs (s : State) : s.gateOutputs.running = s.running := by
  unfold State.gateOutputs; split <;> simp
@[simp] theorem State.active_gateOutputs (s : State) : s.gateOutputs.active = s.active := by
  unfold State.gateOutputs; split <;> simp
@[simp] theorem State.shadows_gateOutputs (s : State) : s.gateOutputs.shadows = s.shadows := by
  unfold State.gateOutputs; split <;> simp
@[simp] theorem State.handed_gateOutputs (s : State) : s.gateOutputs.handed = s.handed := by
  unfold State.gateOutputs; split <;> simp
@[simp] theorem State.captures_gateOutputs (s : State) : s.gateOutputs.captures = s.captures := by
  unfold State.gateOutputs; split <;> simp
@[simp] theorem State.latches_gateOutputs (s : State) : s.gateOutputs.latches = s.latches := by
  unfold State.gateOutputs; split <;> simp
@[simp] theorem State.live_gateOutputs (s : State) : s.gateOutputs.live = s.live := by
  unfold State.gateOutputs; split <;> simp
@[simp] theorem State.free_gateOutputs (s : State) : s.gateOutputs.free = s.free := by
  unfold State.gateOutputs; split <;> simp
@[simp] theorem State.saf_gateOutputs (s : State) : s.gateOutputs.saf = s.saf := by
  unfold State.gateOutputs; split <;> simp
@[simp] theorem State.sys_gateOutputs (s : State) : s.gateOutputs.sys = s.sys := by
  unfold State.gateOutputs; split <;> simp
@[simp] theorem State.cmd_gateOutputs (s : State) : s.gateOutputs.cmd = s.cmd := by
  unfold State.gateOutputs; split <;> simp
@[simp] theorem State.evt_gateOutputs (s : State) : s.gateOutputs.evt = s.evt := by
  unfold State.gateOutputs; split <;> simp
@[simp] theorem State.dbg_gateOutputs (s : State) : s.gateOutputs.dbg = s.dbg := by
  unfold State.gateOutputs; split <;> simp
@[simp] theorem State.flash_gateOutputs (s : State) : s.gateOutputs.flash = s.flash := by
  unfold State.gateOutputs; split <;> simp
@[simp] theorem State.ing_gateOutputs (s : State) : s.gateOutputs.ing = s.ing := by
  unfold State.gateOutputs; split <;> simp
@[simp] theorem State.pnd_gateOutputs (s : State) : s.gateOutputs.pnd = s.pnd := by
  unfold State.gateOutputs; split <;> simp
@[simp] theorem State.asm_gateOutputs (s : State) : s.gateOutputs.asm = s.asm := by
  unfold State.gateOutputs; split <;> simp
@[simp] theorem State.fir_gateOutputs (s : State) : s.gateOutputs.fir = s.fir := by
  unfold State.gateOutputs; split <;> simp
@[simp] theorem State.pos_gateOutputs (s : State) : s.gateOutputs.pos = s.pos := by
  unfold State.gateOutputs; split <;> simp
@[simp] theorem State.jgl_gateOutputs (s : State) : s.gateOutputs.jgl = s.jgl := by
  unfold State.gateOutputs; split <;> simp
@[simp] theorem State.cam_gateOutputs (s : State) : s.gateOutputs.cam = s.cam := by
  unfold State.gateOutputs; split <;> simp
@[simp] theorem State.ins_gateOutputs (s : State) : s.gateOutputs.ins = s.ins := by
  unfold State.gateOutputs; split <;> simp
@[simp] theorem State.cal_gateOutputs (s : State) : s.gateOutputs.cal = s.cal := by
  unfold State.gateOutputs; split <;> simp
@[simp] theorem State.pwr_gateOutputs (s : State) : s.gateOutputs.pwr = s.pwr := by
  unfold State.gateOutputs; split <;> simp
@[simp] theorem State.arb_gateOutputs (s : State) : s.gateOutputs.arb = s.arb := by
  unfold State.gateOutputs; split <;> simp
@[simp] theorem State.brg_gateOutputs (s : State) : s.gateOutputs.brg = s.brg := by
  unfold State.gateOutputs; split <;> simp
@[simp] theorem State.tim_gateOutputs (s : State) : s.gateOutputs.tim = s.tim := by
  unfold State.gateOutputs; split <;> simp

end Sys2Proof.Machine
end

