-- ==== Sys2Proof/Laws/Boot.lean ====
section
/-! SUPPORT. What Off leaves (R64), and what a journal update writes (R71). -/

namespace Sys2Proof.Machine

/-- A reset lowers the outputs: at most outputs are recorded, and the cycle of their change. -/
theorem State.outputsLow_cases (s : State) : ∃ o t, s.outputsLow = { s with outs := o, timers := t } := by
  unfold State.outputsLow
  dsimp only
  repeat' split
  all_goals exact ⟨_, _, rfl⟩

/-- Dropping the enables passes time and records outputs. -/
theorem State.dropEnables_cases (s : State) :
    ∃ c o t p, s.dropEnables = { s with cycle := c, outs := o, tim := t, pwr := p } := by
  have h : ∀ (l : List (Nat × Nat)) (u : State), ∃ c o t, l.foldl
      (fun (s : State) q => (if q.2 = 0 then s else s.tick 80000).emit (.railEnable (q.1 + 1) false)) u
        = { u with cycle := c, outs := o, tim := t } := by
    intro l
    induction l with
    | nil => exact fun u => ⟨_, _, _, rfl⟩
    | cons q l ih =>
      intro u
      simp only [List.foldl_cons]
      obtain ⟨c, o, t, e⟩ := ih ((if q.2 = 0 then u else u.tick 80000).emit (.railEnable (q.1 + 1) false))
      rw [e]
      split
      · exact ⟨_, _, _, rfl⟩
      · rw [State.tick_cases u]
        exact ⟨_, _, _, rfl⟩
  obtain ⟨c, o, t, e⟩ := h (bitList (s.pwr.enables.setWidth 8)).reverse.zipIdx s
  unfold State.dropEnables
  dsimp only
  rw [e]
  exact ⟨_, _, _, _, rfl⟩

/-- What Off keeps of a state is what a reset keeps, with the outputs recorded on the way. -/
theorem State.powerOff_cases (s : State) : ∃ o, s.powerOff =
    { ({ s.bare with outs := o }.setReg SYS_MODE 0).setReg SAF_STAT 0 with running := 0 } := by
  obtain ⟨o, t, e⟩ := s.outputsLow_cases
  obtain ⟨c, o', t', p, e'⟩ := State.dropEnables_cases { s with outs := o, timers := t }
  refine ⟨o', ?_⟩
  unfold State.powerOff
  rw [e, e']
  rfl

theorem State.regs_powerOff (s : State) : s.powerOff.regs = ((State.reset.setReg SYS_MODE 0).setReg SAF_STAT 0).regs := by
  obtain ⟨o, e⟩ := s.powerOff_cases
  rw [e]
  rfl

theorem State.stopping_powerOff (s : State) : s.powerOff.saf.stopping = false := by
  obtain ⟨o, e⟩ := s.powerOff_cases
  rw [e]
  rfl

theorem State.log_powerOff (s : State) : s.powerOff.evt.log = [] := by
  obtain ⟨o, e⟩ := s.powerOff_cases
  rw [e]
  rfl

theorem State.flash_powerOff (s : State) : s.powerOff.flash = s.flash := by
  obtain ⟨o, e⟩ := s.powerOff_cases
  rw [e]
  rfl

theorem State.running_powerOff (s : State) : s.powerOff.running = 0 := by
  simp only [State.powerOff]

/-- A journal update whose mirror write succeeds changes flash and the outputs only. -/
theorem State.journalUpdate_cases (s : State) : ∃ f o, s.journalUpdate false = { s with flash := f, outs := o } := by
  unfold State.journalUpdate State.mirror
  split
  · exact ⟨_, _, rfl⟩
  · exact ⟨_, _, rfl⟩

end Sys2Proof.Machine
end

