-- ==== Sys2Proof/Laws/Events.lean ====
section
/-! SUPPORT. What raising an event does (R459 to R462): it touches the event log, EVT_PEND, EVT_LOG_STAT, the PBA, the outputs and
the free values, and nothing else. -/

namespace Sys2Proof.Machine

/-! ## sendMessage -/

@[simp] theorem State.pending_sendMessage (s : State) (v : Nat) : (s.sendMessage v).pending = s.pending := by
  unfold State.sendMessage; simp only; repeat' split
  all_goals simp
@[simp] theorem State.cycle_sendMessage (s : State) (v : Nat) : (s.sendMessage v).cycle = s.cycle := by
  unfold State.sendMessage; simp only; repeat' split
  all_goals simp
@[simp] theorem State.running_sendMessage (s : State) (v : Nat) : (s.sendMessage v).running = s.running := by
  unfold State.sendMessage; simp only; repeat' split
  all_goals simp
@[simp] theorem State.active_sendMessage (s : State) (v : Nat) : (s.sendMessage v).active = s.active := by
  unfold State.sendMessage; simp only; repeat' split
  all_goals simp
@[simp] theorem State.shadows_sendMessage (s : State) (v : Nat) : (s.sendMessage v).shadows = s.shadows := by
  unfold State.sendMessage; simp only; repeat' split
  all_goals simp
@[simp] theorem State.handed_sendMessage (s : State) (v : Nat) : (s.sendMessage v).handed = s.handed := by
  unfold State.sendMessage; simp only; repeat' split
  all_goals simp
@[simp] theorem State.timers_sendMessage (s : State) (v : Nat) : (s.sendMessage v).timers = s.timers := by
  unfold State.sendMessage; simp only; repeat' split
  all_goals simp
@[simp] theorem State.captures_sendMessage (s : State) (v : Nat) : (s.sendMessage v).captures = s.captures := by
  unfold State.sendMessage; simp only; repeat' split
  all_goals simp
@[simp] theorem State.latches_sendMessage (s : State) (v : Nat) : (s.sendMessage v).latches = s.latches := by
  unfold State.sendMessage; simp only; repeat' split
  all_goals simp
@[simp] theorem State.live_sendMessage (s : State) (v : Nat) : (s.sendMessage v).live = s.live := by
  unfold State.sendMessage; simp only; repeat' split
  all_goals simp
@[simp] theorem State.sys_sendMessage (s : State) (v : Nat) : (s.sendMessage v).sys = s.sys := by
  unfold State.sendMessage; simp only; repeat' split
  all_goals simp
@[simp] theorem State.cmd_sendMessage (s : State) (v : Nat) : (s.sendMessage v).cmd = s.cmd := by
  unfold State.sendMessage; simp only; repeat' split
  all_goals simp
@[simp] theorem State.dbg_sendMessage (s : State) (v : Nat) : (s.sendMessage v).dbg = s.dbg := by
  unfold State.sendMessage; simp only; repeat' split
  all_goals simp
@[simp] theorem State.flash_sendMessage (s : State) (v : Nat) : (s.sendMessage v).flash = s.flash := by
  unfold State.sendMessage; simp only; repeat' split
  all_goals simp
@[simp] theorem State.ing_sendMessage (s : State) (v : Nat) : (s.sendMessage v).ing = s.ing := by
  unfold State.sendMessage; simp only; repeat' split
  all_goals simp
@[simp] theorem State.pnd_sendMessage (s : State) (v : Nat) : (s.sendMessage v).pnd = s.pnd := by
  unfold State.sendMessage; simp only; repeat' split
  all_goals simp
@[simp] theorem State.asm_sendMessage (s : State) (v : Nat) : (s.sendMessage v).asm = s.asm := by
  unfold State.sendMessage; simp only; repeat' split
  all_goals simp
@[simp] theorem State.fir_sendMessage (s : State) (v : Nat) : (s.sendMessage v).fir = s.fir := by
  unfold State.sendMessage; simp only; repeat' split
  all_goals simp
@[simp] theorem State.pos_sendMessage (s : State) (v : Nat) : (s.sendMessage v).pos = s.pos := by
  unfold State.sendMessage; simp only; repeat' split
  all_goals simp
@[simp] theorem State.jgl_sendMessage (s : State) (v : Nat) : (s.sendMessage v).jgl = s.jgl := by
  unfold State.sendMessage; simp only; repeat' split
  all_goals simp
@[simp] theorem State.cam_sendMessage (s : State) (v : Nat) : (s.sendMessage v).cam = s.cam := by
  unfold State.sendMessage; simp only; repeat' split
  all_goals simp
@[simp] theorem State.ins_sendMessage (s : State) (v : Nat) : (s.sendMessage v).ins = s.ins := by
  unfold State.sendMessage; simp only; repeat' split
  all_goals simp
@[simp] theorem State.cal_sendMessage (s : State) (v : Nat) : (s.sendMessage v).cal = s.cal := by
  unfold State.sendMessage; simp only; repeat' split
  all_goals simp
@[simp] theorem State.pwr_sendMessage (s : State) (v : Nat) : (s.sendMessage v).pwr = s.pwr := by
  unfold State.sendMessage; simp only; repeat' split
  all_goals simp
@[simp] theorem State.arb_sendMessage (s : State) (v : Nat) : (s.sendMessage v).arb = s.arb := by
  unfold State.sendMessage; simp only; repeat' split
  all_goals simp
@[simp] theorem State.brg_sendMessage (s : State) (v : Nat) : (s.sendMessage v).brg = s.brg := by
  unfold State.sendMessage; simp only; repeat' split
  all_goals simp
@[simp] theorem State.saf_sendMessage (s : State) (v : Nat) : (s.sendMessage v).saf = s.saf := by
  unfold State.sendMessage; simp only; repeat' split
  all_goals simp
@[simp] theorem State.tim_sendMessage (s : State) (v : Nat) : (s.sendMessage v).tim = s.tim := by
  unfold State.sendMessage; simp only; repeat' split
  all_goals simp
@[simp] theorem State.free_sendMessage (s : State) (v : Nat) : (s.sendMessage v).free = s.free := by
  unfold State.sendMessage; simp only; repeat' split
  all_goals simp

/-! ## signalVector -/

@[simp] theorem State.pending_signalVector (s : State) (v : Nat) : (s.signalVector v).pending = s.pending := by
  unfold State.signalVector; split <;> simp
@[simp] theorem State.cycle_signalVector (s : State) (v : Nat) : (s.signalVector v).cycle = s.cycle := by
  unfold State.signalVector; split <;> simp
@[simp] theorem State.running_signalVector (s : State) (v : Nat) : (s.signalVector v).running = s.running := by
  unfold State.signalVector; split <;> simp
@[simp] theorem State.active_signalVector (s : State) (v : Nat) : (s.signalVector v).active = s.active := by
  unfold State.signalVector; split <;> simp
@[simp] theorem State.shadows_signalVector (s : State) (v : Nat) : (s.signalVector v).shadows = s.shadows := by
  unfold State.signalVector; split <;> simp
@[simp] theorem State.handed_signalVector (s : State) (v : Nat) : (s.signalVector v).handed = s.handed := by
  unfold State.signalVector; split <;> simp
@[simp] theorem State.timers_signalVector (s : State) (v : Nat) : (s.signalVector v).timers = s.timers := by
  unfold State.signalVector; split <;> simp
@[simp] theorem State.captures_signalVector (s : State) (v : Nat) : (s.signalVector v).captures = s.captures := by
  unfold State.signalVector; split <;> simp
@[simp] theorem State.latches_signalVector (s : State) (v : Nat) : (s.signalVector v).latches = s.latches := by
  unfold State.signalVector; split <;> simp
@[simp] theorem State.live_signalVector (s : State) (v : Nat) : (s.signalVector v).live = s.live := by
  unfold State.signalVector; split <;> simp
@[simp] theorem State.sys_signalVector (s : State) (v : Nat) : (s.signalVector v).sys = s.sys := by
  unfold State.signalVector; split <;> simp
@[simp] theorem State.cmd_signalVector (s : State) (v : Nat) : (s.signalVector v).cmd = s.cmd := by
  unfold State.signalVector; split <;> simp
@[simp] theorem State.dbg_signalVector (s : State) (v : Nat) : (s.signalVector v).dbg = s.dbg := by
  unfold State.signalVector; split <;> simp
@[simp] theorem State.flash_signalVector (s : State) (v : Nat) : (s.signalVector v).flash = s.flash := by
  unfold State.signalVector; split <;> simp
@[simp] theorem State.ing_signalVector (s : State) (v : Nat) : (s.signalVector v).ing = s.ing := by
  unfold State.signalVector; split <;> simp
@[simp] theorem State.pnd_signalVector (s : State) (v : Nat) : (s.signalVector v).pnd = s.pnd := by
  unfold State.signalVector; split <;> simp
@[simp] theorem State.asm_signalVector (s : State) (v : Nat) : (s.signalVector v).asm = s.asm := by
  unfold State.signalVector; split <;> simp
@[simp] theorem State.fir_signalVector (s : State) (v : Nat) : (s.signalVector v).fir = s.fir := by
  unfold State.signalVector; split <;> simp
@[simp] theorem State.pos_signalVector (s : State) (v : Nat) : (s.signalVector v).pos = s.pos := by
  unfold State.signalVector; split <;> simp
@[simp] theorem State.jgl_signalVector (s : State) (v : Nat) : (s.signalVector v).jgl = s.jgl := by
  unfold State.signalVector; split <;> simp
@[simp] theorem State.cam_signalVector (s : State) (v : Nat) : (s.signalVector v).cam = s.cam := by
  unfold State.signalVector; split <;> simp
@[simp] theorem State.ins_signalVector (s : State) (v : Nat) : (s.signalVector v).ins = s.ins := by
  unfold State.signalVector; split <;> simp
@[simp] theorem State.cal_signalVector (s : State) (v : Nat) : (s.signalVector v).cal = s.cal := by
  unfold State.signalVector; split <;> simp
@[simp] theorem State.pwr_signalVector (s : State) (v : Nat) : (s.signalVector v).pwr = s.pwr := by
  unfold State.signalVector; split <;> simp
@[simp] theorem State.arb_signalVector (s : State) (v : Nat) : (s.signalVector v).arb = s.arb := by
  unfold State.signalVector; split <;> simp
@[simp] theorem State.brg_signalVector (s : State) (v : Nat) : (s.signalVector v).brg = s.brg := by
  unfold State.signalVector; split <;> simp
@[simp] theorem State.saf_signalVector (s : State) (v : Nat) : (s.signalVector v).saf = s.saf := by
  unfold State.signalVector; split <;> simp
@[simp] theorem State.tim_signalVector (s : State) (v : Nat) : (s.signalVector v).tim = s.tim := by
  unfold State.signalVector; split <;> simp
@[simp] theorem State.free_signalVector (s : State) (v : Nat) : (s.signalVector v).free = s.free := by
  unfold State.signalVector; split <;> simp

/-! ## appendLog -/

@[simp] theorem State.pending_appendLog (s : State) (r : EventRec) : (s.appendLog r).pending = s.pending := by
  unfold State.appendLog; simp only; split <;> simp
@[simp] theorem State.cycle_appendLog (s : State) (r : EventRec) : (s.appendLog r).cycle = s.cycle := by
  unfold State.appendLog; simp only; split <;> simp
@[simp] theorem State.running_appendLog (s : State) (r : EventRec) : (s.appendLog r).running = s.running := by
  unfold State.appendLog; simp only; split <;> simp
@[simp] theorem State.active_appendLog (s : State) (r : EventRec) : (s.appendLog r).active = s.active := by
  unfold State.appendLog; simp only; split <;> simp
@[simp] theorem State.shadows_appendLog (s : State) (r : EventRec) : (s.appendLog r).shadows = s.shadows := by
  unfold State.appendLog; simp only; split <;> simp
@[simp] theorem State.handed_appendLog (s : State) (r : EventRec) : (s.appendLog r).handed = s.handed := by
  unfold State.appendLog; simp only; split <;> simp
@[simp] theorem State.timers_appendLog (s : State) (r : EventRec) : (s.appendLog r).timers = s.timers := by
  unfold State.appendLog; simp only; split <;> simp
@[simp] theorem State.captures_appendLog (s : State) (r : EventRec) : (s.appendLog r).captures = s.captures := by
  unfold State.appendLog; simp only; split <;> simp
@[simp] theorem State.latches_appendLog (s : State) (r : EventRec) : (s.appendLog r).latches = s.latches := by
  unfold State.appendLog; simp only; split <;> simp
@[simp] theorem State.live_appendLog (s : State) (r : EventRec) : (s.appendLog r).live = s.live := by
  unfold State.appendLog; simp only; split <;> simp
@[simp] theorem State.sys_appendLog (s : State) (r : EventRec) : (s.appendLog r).sys = s.sys := by
  unfold State.appendLog; simp only; split <;> simp
@[simp] theorem State.cmd_appendLog (s : State) (r : EventRec) : (s.appendLog r).cmd = s.cmd := by
  unfold State.appendLog; simp only; split <;> simp
@[simp] theorem State.dbg_appendLog (s : State) (r : EventRec) : (s.appendLog r).dbg = s.dbg := by
  unfold State.appendLog; simp only; split <;> simp
@[simp] theorem State.flash_appendLog (s : State) (r : EventRec) : (s.appendLog r).flash = s.flash := by
  unfold State.appendLog; simp only; split <;> simp
@[simp] theorem State.ing_appendLog (s : State) (r : EventRec) : (s.appendLog r).ing = s.ing := by
  unfold State.appendLog; simp only; split <;> simp
@[simp] theorem State.pnd_appendLog (s : State) (r : EventRec) : (s.appendLog r).pnd = s.pnd := by
  unfold State.appendLog; simp only; split <;> simp
@[simp] theorem State.asm_appendLog (s : State) (r : EventRec) : (s.appendLog r).asm = s.asm := by
  unfold State.appendLog; simp only; split <;> simp
@[simp] theorem State.fir_appendLog (s : State) (r : EventRec) : (s.appendLog r).fir = s.fir := by
  unfold State.appendLog; simp only; split <;> simp
@[simp] theorem State.pos_appendLog (s : State) (r : EventRec) : (s.appendLog r).pos = s.pos := by
  unfold State.appendLog; simp only; split <;> simp
@[simp] theorem State.jgl_appendLog (s : State) (r : EventRec) : (s.appendLog r).jgl = s.jgl := by
  unfold State.appendLog; simp only; split <;> simp
@[simp] theorem State.cam_appendLog (s : State) (r : EventRec) : (s.appendLog r).cam = s.cam := by
  unfold State.appendLog; simp only; split <;> simp
@[simp] theorem State.ins_appendLog (s : State) (r : EventRec) : (s.appendLog r).ins = s.ins := by
  unfold State.appendLog; simp only; split <;> simp
@[simp] theorem State.cal_appendLog (s : State) (r : EventRec) : (s.appendLog r).cal = s.cal := by
  unfold State.appendLog; simp only; split <;> simp
@[simp] theorem State.pwr_appendLog (s : State) (r : EventRec) : (s.appendLog r).pwr = s.pwr := by
  unfold State.appendLog; simp only; split <;> simp
@[simp] theorem State.arb_appendLog (s : State) (r : EventRec) : (s.appendLog r).arb = s.arb := by
  unfold State.appendLog; simp only; split <;> simp
@[simp] theorem State.brg_appendLog (s : State) (r : EventRec) : (s.appendLog r).brg = s.brg := by
  unfold State.appendLog; simp only; split <;> simp
@[simp] theorem State.saf_appendLog (s : State) (r : EventRec) : (s.appendLog r).saf = s.saf := by
  unfold State.appendLog; simp only; split <;> simp
@[simp] theorem State.tim_appendLog (s : State) (r : EventRec) : (s.appendLog r).tim = s.tim := by
  unfold State.appendLog; simp only; split <;> simp
@[simp] theorem State.free_appendLog (s : State) (r : EventRec) : (s.appendLog r).free = s.free := by
  unfold State.appendLog; simp only; split <;> simp
@[simp] theorem State.outs_appendLog (s : State) (r : EventRec) : (s.appendLog r).outs = s.outs := by
  unfold State.appendLog; simp only; split <;> simp

/-! ## raiseOne -/

@[simp] theorem State.pending_raiseOne (s : State) (v detail : Nat) (data page : Word) : (s.raiseOne v detail data page).pending = s.pending := by
  simp [State.raiseOne]
@[simp] theorem State.cycle_raiseOne (s : State) (v detail : Nat) (data page : Word) : (s.raiseOne v detail data page).cycle = s.cycle := by
  simp [State.raiseOne]
@[simp] theorem State.running_raiseOne (s : State) (v detail : Nat) (data page : Word) : (s.raiseOne v detail data page).running = s.running := by
  simp [State.raiseOne]
@[simp] theorem State.active_raiseOne (s : State) (v detail : Nat) (data page : Word) : (s.raiseOne v detail data page).active = s.active := by
  simp [State.raiseOne]
@[simp] theorem State.shadows_raiseOne (s : State) (v detail : Nat) (data page : Word) : (s.raiseOne v detail data page).shadows = s.shadows := by
  simp [State.raiseOne]
@[simp] theorem State.handed_raiseOne (s : State) (v detail : Nat) (data page : Word) : (s.raiseOne v detail data page).handed = s.handed := by
  simp [State.raiseOne]
@[simp] theorem State.timers_raiseOne (s : State) (v detail : Nat) (data page : Word) : (s.raiseOne v detail data page).timers = s.timers := by
  simp [State.raiseOne]
@[simp] theorem State.captures_raiseOne (s : State) (v detail : Nat) (data page : Word) : (s.raiseOne v detail data page).captures = s.captures := by
  simp [State.raiseOne]
@[simp] theorem State.latches_raiseOne (s : State) (v detail : Nat) (data page : Word) : (s.raiseOne v detail data page).latches = s.latches := by
  simp [State.raiseOne]
@[simp] theorem State.live_raiseOne (s : State) (v detail : Nat) (data page : Word) : (s.raiseOne v detail data page).live = s.live := by
  simp [State.raiseOne]
@[simp] theorem State.sys_raiseOne (s : State) (v detail : Nat) (data page : Word) : (s.raiseOne v detail data page).sys = s.sys := by
  simp [State.raiseOne]
@[simp] theorem State.cmd_raiseOne (s : State) (v detail : Nat) (data page : Word) : (s.raiseOne v detail data page).cmd = s.cmd := by
  simp [State.raiseOne]
@[simp] theorem State.dbg_raiseOne (s : State) (v detail : Nat) (data page : Word) : (s.raiseOne v detail data page).dbg = s.dbg := by
  simp [State.raiseOne]
@[simp] theorem State.flash_raiseOne (s : State) (v detail : Nat) (data page : Word) : (s.raiseOne v detail data page).flash = s.flash := by
  simp [State.raiseOne]
@[simp] theorem State.ing_raiseOne (s : State) (v detail : Nat) (data page : Word) : (s.raiseOne v detail data page).ing = s.ing := by
  simp [State.raiseOne]
@[simp] theorem State.pnd_raiseOne (s : State) (v detail : Nat) (data page : Word) : (s.raiseOne v detail data page).pnd = s.pnd := by
  simp [State.raiseOne]
@[simp] theorem State.asm_raiseOne (s : State) (v detail : Nat) (data page : Word) : (s.raiseOne v detail data page).asm = s.asm := by
  simp [State.raiseOne]
@[simp] theorem State.fir_raiseOne (s : State) (v detail : Nat) (data page : Word) : (s.raiseOne v detail data page).fir = s.fir := by
  simp [State.raiseOne]
@[simp] theorem State.pos_raiseOne (s : State) (v detail : Nat) (data page : Word) : (s.raiseOne v detail data page).pos = s.pos := by
  simp [State.raiseOne]
@[simp] theorem State.jgl_raiseOne (s : State) (v detail : Nat) (data page : Word) : (s.raiseOne v detail data page).jgl = s.jgl := by
  simp [State.raiseOne]
@[simp] theorem State.cam_raiseOne (s : State) (v detail : Nat) (data page : Word) : (s.raiseOne v detail data page).cam = s.cam := by
  simp [State.raiseOne]
@[simp] theorem State.ins_raiseOne (s : State) (v detail : Nat) (data page : Word) : (s.raiseOne v detail data page).ins = s.ins := by
  simp [State.raiseOne]
@[simp] theorem State.cal_raiseOne (s : State) (v detail : Nat) (data page : Word) : (s.raiseOne v detail data page).cal = s.cal := by
  simp [State.raiseOne]
@[simp] theorem State.pwr_raiseOne (s : State) (v detail : Nat) (data page : Word) : (s.raiseOne v detail data page).pwr = s.pwr := by
  simp [State.raiseOne]
@[simp] theorem State.arb_raiseOne (s : State) (v detail : Nat) (data page : Word) : (s.raiseOne v detail data page).arb = s.arb := by
  simp [State.raiseOne]
@[simp] theorem State.brg_raiseOne (s : State) (v detail : Nat) (data page : Word) : (s.raiseOne v detail data page).brg = s.brg := by
  simp [State.raiseOne]
@[simp] theorem State.saf_raiseOne (s : State) (v detail : Nat) (data page : Word) : (s.raiseOne v detail data page).saf = s.saf := by
  simp [State.raiseOne]
@[simp] theorem State.tim_raiseOne (s : State) (v detail : Nat) (data page : Word) : (s.raiseOne v detail data page).tim = s.tim := by
  simp [State.raiseOne]
@[simp] theorem State.free_raiseOne (s : State) (v detail : Nat) (data page : Word) : (s.raiseOne v detail data page).free = s.free := by
  simp [State.raiseOne]

/-! ## orDraw -/

@[simp] theorem State.pending_orDraw (s : State) (w : Nat) (v : Option Nat) : ((s.orDraw w v).2).pending = s.pending := by
  unfold State.orDraw State.draw; split <;> rfl
@[simp] theorem State.cycle_orDraw (s : State) (w : Nat) (v : Option Nat) : ((s.orDraw w v).2).cycle = s.cycle := by
  unfold State.orDraw State.draw; split <;> rfl
@[simp] theorem State.running_orDraw (s : State) (w : Nat) (v : Option Nat) : ((s.orDraw w v).2).running = s.running := by
  unfold State.orDraw State.draw; split <;> rfl
@[simp] theorem State.active_orDraw (s : State) (w : Nat) (v : Option Nat) : ((s.orDraw w v).2).active = s.active := by
  unfold State.orDraw State.draw; split <;> rfl
@[simp] theorem State.shadows_orDraw (s : State) (w : Nat) (v : Option Nat) : ((s.orDraw w v).2).shadows = s.shadows := by
  unfold State.orDraw State.draw; split <;> rfl
@[simp] theorem State.handed_orDraw (s : State) (w : Nat) (v : Option Nat) : ((s.orDraw w v).2).handed = s.handed := by
  unfold State.orDraw State.draw; split <;> rfl
@[simp] theorem State.timers_orDraw (s : State) (w : Nat) (v : Option Nat) : ((s.orDraw w v).2).timers = s.timers := by
  unfold State.orDraw State.draw; split <;> rfl
@[simp] theorem State.captures_orDraw (s : State) (w : Nat) (v : Option Nat) : ((s.orDraw w v).2).captures = s.captures := by
  unfold State.orDraw State.draw; split <;> rfl
@[simp] theorem State.latches_orDraw (s : State) (w : Nat) (v : Option Nat) : ((s.orDraw w v).2).latches = s.latches := by
  unfold State.orDraw State.draw; split <;> rfl
@[simp] theorem State.live_orDraw (s : State) (w : Nat) (v : Option Nat) : ((s.orDraw w v).2).live = s.live := by
  unfold State.orDraw State.draw; split <;> rfl
@[simp] theorem State.sys_orDraw (s : State) (w : Nat) (v : Option Nat) : ((s.orDraw w v).2).sys = s.sys := by
  unfold State.orDraw State.draw; split <;> rfl
@[simp] theorem State.cmd_orDraw (s : State) (w : Nat) (v : Option Nat) : ((s.orDraw w v).2).cmd = s.cmd := by
  unfold State.orDraw State.draw; split <;> rfl
@[simp] theorem State.dbg_orDraw (s : State) (w : Nat) (v : Option Nat) : ((s.orDraw w v).2).dbg = s.dbg := by
  unfold State.orDraw State.draw; split <;> rfl
@[simp] theorem State.flash_orDraw (s : State) (w : Nat) (v : Option Nat) : ((s.orDraw w v).2).flash = s.flash := by
  unfold State.orDraw State.draw; split <;> rfl
@[simp] theorem State.ing_orDraw (s : State) (w : Nat) (v : Option Nat) : ((s.orDraw w v).2).ing = s.ing := by
  unfold State.orDraw State.draw; split <;> rfl
@[simp] theorem State.pnd_orDraw (s : State) (w : Nat) (v : Option Nat) : ((s.orDraw w v).2).pnd = s.pnd := by
  unfold State.orDraw State.draw; split <;> rfl
@[simp] theorem State.asm_orDraw (s : State) (w : Nat) (v : Option Nat) : ((s.orDraw w v).2).asm = s.asm := by
  unfold State.orDraw State.draw; split <;> rfl
@[simp] theorem State.fir_orDraw (s : State) (w : Nat) (v : Option Nat) : ((s.orDraw w v).2).fir = s.fir := by
  unfold State.orDraw State.draw; split <;> rfl
@[simp] theorem State.pos_orDraw (s : State) (w : Nat) (v : Option Nat) : ((s.orDraw w v).2).pos = s.pos := by
  unfold State.orDraw State.draw; split <;> rfl
@[simp] theorem State.jgl_orDraw (s : State) (w : Nat) (v : Option Nat) : ((s.orDraw w v).2).jgl = s.jgl := by
  unfold State.orDraw State.draw; split <;> rfl
@[simp] theorem State.cam_orDraw (s : State) (w : Nat) (v : Option Nat) : ((s.orDraw w v).2).cam = s.cam := by
  unfold State.orDraw State.draw; split <;> rfl
@[simp] theorem State.ins_orDraw (s : State) (w : Nat) (v : Option Nat) : ((s.orDraw w v).2).ins = s.ins := by
  unfold State.orDraw State.draw; split <;> rfl
@[simp] theorem State.cal_orDraw (s : State) (w : Nat) (v : Option Nat) : ((s.orDraw w v).2).cal = s.cal := by
  unfold State.orDraw State.draw; split <;> rfl
@[simp] theorem State.pwr_orDraw (s : State) (w : Nat) (v : Option Nat) : ((s.orDraw w v).2).pwr = s.pwr := by
  unfold State.orDraw State.draw; split <;> rfl
@[simp] theorem State.arb_orDraw (s : State) (w : Nat) (v : Option Nat) : ((s.orDraw w v).2).arb = s.arb := by
  unfold State.orDraw State.draw; split <;> rfl
@[simp] theorem State.brg_orDraw (s : State) (w : Nat) (v : Option Nat) : ((s.orDraw w v).2).brg = s.brg := by
  unfold State.orDraw State.draw; split <;> rfl
@[simp] theorem State.saf_orDraw (s : State) (w : Nat) (v : Option Nat) : ((s.orDraw w v).2).saf = s.saf := by
  unfold State.orDraw State.draw; split <;> rfl
@[simp] theorem State.tim_orDraw (s : State) (w : Nat) (v : Option Nat) : ((s.orDraw w v).2).tim = s.tim := by
  unfold State.orDraw State.draw; split <;> rfl
@[simp] theorem State.regs_orDraw (s : State) (w : Nat) (v : Option Nat) : ((s.orDraw w v).2).regs = s.regs := by
  unfold State.orDraw State.draw; split <;> rfl
@[simp] theorem State.evt_orDraw (s : State) (w : Nat) (v : Option Nat) : ((s.orDraw w v).2).evt = s.evt := by
  unfold State.orDraw State.draw; split <;> rfl
@[simp] theorem State.outs_orDraw (s : State) (w : Nat) (v : Option Nat) : ((s.orDraw w v).2).outs = s.outs := by
  unfold State.orDraw State.draw; split <;> rfl

/-! ## raiseWith -/

@[simp] theorem State.pending_raiseWith (s : State) (v : Nat) (detail data : Option Nat) (page : Word) : (s.raiseWith v detail data page).pending = s.pending := by
  unfold State.raiseWith; simp only; split <;> simp
@[simp] theorem State.cycle_raiseWith (s : State) (v : Nat) (detail data : Option Nat) (page : Word) : (s.raiseWith v detail data page).cycle = s.cycle := by
  unfold State.raiseWith; simp only; split <;> simp
@[simp] theorem State.running_raiseWith (s : State) (v : Nat) (detail data : Option Nat) (page : Word) : (s.raiseWith v detail data page).running = s.running := by
  unfold State.raiseWith; simp only; split <;> simp
@[simp] theorem State.active_raiseWith (s : State) (v : Nat) (detail data : Option Nat) (page : Word) : (s.raiseWith v detail data page).active = s.active := by
  unfold State.raiseWith; simp only; split <;> simp
@[simp] theorem State.shadows_raiseWith (s : State) (v : Nat) (detail data : Option Nat) (page : Word) : (s.raiseWith v detail data page).shadows = s.shadows := by
  unfold State.raiseWith; simp only; split <;> simp
@[simp] theorem State.handed_raiseWith (s : State) (v : Nat) (detail data : Option Nat) (page : Word) : (s.raiseWith v detail data page).handed = s.handed := by
  unfold State.raiseWith; simp only; split <;> simp
@[simp] theorem State.timers_raiseWith (s : State) (v : Nat) (detail data : Option Nat) (page : Word) : (s.raiseWith v detail data page).timers = s.timers := by
  unfold State.raiseWith; simp only; split <;> simp
@[simp] theorem State.captures_raiseWith (s : State) (v : Nat) (detail data : Option Nat) (page : Word) : (s.raiseWith v detail data page).captures = s.captures := by
  unfold State.raiseWith; simp only; split <;> simp
@[simp] theorem State.latches_raiseWith (s : State) (v : Nat) (detail data : Option Nat) (page : Word) : (s.raiseWith v detail data page).latches = s.latches := by
  unfold State.raiseWith; simp only; split <;> simp
@[simp] theorem State.live_raiseWith (s : State) (v : Nat) (detail data : Option Nat) (page : Word) : (s.raiseWith v detail data page).live = s.live := by
  unfold State.raiseWith; simp only; split <;> simp
@[simp] theorem State.sys_raiseWith (s : State) (v : Nat) (detail data : Option Nat) (page : Word) : (s.raiseWith v detail data page).sys = s.sys := by
  unfold State.raiseWith; simp only; split <;> simp
@[simp] theorem State.cmd_raiseWith (s : State) (v : Nat) (detail data : Option Nat) (page : Word) : (s.raiseWith v detail data page).cmd = s.cmd := by
  unfold State.raiseWith; simp only; split <;> simp
@[simp] theorem State.dbg_raiseWith (s : State) (v : Nat) (detail data : Option Nat) (page : Word) : (s.raiseWith v detail data page).dbg = s.dbg := by
  unfold State.raiseWith; simp only; split <;> simp
@[simp] theorem State.flash_raiseWith (s : State) (v : Nat) (detail data : Option Nat) (page : Word) : (s.raiseWith v detail data page).flash = s.flash := by
  unfold State.raiseWith; simp only; split <;> simp
@[simp] theorem State.ing_raiseWith (s : State) (v : Nat) (detail data : Option Nat) (page : Word) : (s.raiseWith v detail data page).ing = s.ing := by
  unfold State.raiseWith; simp only; split <;> simp
@[simp] theorem State.pnd_raiseWith (s : State) (v : Nat) (detail data : Option Nat) (page : Word) : (s.raiseWith v detail data page).pnd = s.pnd := by
  unfold State.raiseWith; simp only; split <;> simp
@[simp] theorem State.asm_raiseWith (s : State) (v : Nat) (detail data : Option Nat) (page : Word) : (s.raiseWith v detail data page).asm = s.asm := by
  unfold State.raiseWith; simp only; split <;> simp
@[simp] theorem State.fir_raiseWith (s : State) (v : Nat) (detail data : Option Nat) (page : Word) : (s.raiseWith v detail data page).fir = s.fir := by
  unfold State.raiseWith; simp only; split <;> simp
@[simp] theorem State.pos_raiseWith (s : State) (v : Nat) (detail data : Option Nat) (page : Word) : (s.raiseWith v detail data page).pos = s.pos := by
  unfold State.raiseWith; simp only; split <;> simp
@[simp] theorem State.jgl_raiseWith (s : State) (v : Nat) (detail data : Option Nat) (page : Word) : (s.raiseWith v detail data page).jgl = s.jgl := by
  unfold State.raiseWith; simp only; split <;> simp
@[simp] theorem State.cam_raiseWith (s : State) (v : Nat) (detail data : Option Nat) (page : Word) : (s.raiseWith v detail data page).cam = s.cam := by
  unfold State.raiseWith; simp only; split <;> simp
@[simp] theorem State.ins_raiseWith (s : State) (v : Nat) (detail data : Option Nat) (page : Word) : (s.raiseWith v detail data page).ins = s.ins := by
  unfold State.raiseWith; simp only; split <;> simp
@[simp] theorem State.cal_raiseWith (s : State) (v : Nat) (detail data : Option Nat) (page : Word) : (s.raiseWith v detail data page).cal = s.cal := by
  unfold State.raiseWith; simp only; split <;> simp
@[simp] theorem State.pwr_raiseWith (s : State) (v : Nat) (detail data : Option Nat) (page : Word) : (s.raiseWith v detail data page).pwr = s.pwr := by
  unfold State.raiseWith; simp only; split <;> simp
@[simp] theorem State.arb_raiseWith (s : State) (v : Nat) (detail data : Option Nat) (page : Word) : (s.raiseWith v detail data page).arb = s.arb := by
  unfold State.raiseWith; simp only; split <;> simp
@[simp] theorem State.brg_raiseWith (s : State) (v : Nat) (detail data : Option Nat) (page : Word) : (s.raiseWith v detail data page).brg = s.brg := by
  unfold State.raiseWith; simp only; split <;> simp
@[simp] theorem State.saf_raiseWith (s : State) (v : Nat) (detail data : Option Nat) (page : Word) : (s.raiseWith v detail data page).saf = s.saf := by
  unfold State.raiseWith; simp only; split <;> simp
@[simp] theorem State.tim_raiseWith (s : State) (v : Nat) (detail data : Option Nat) (page : Word) : (s.raiseWith v detail data page).tim = s.tim := by
  unfold State.raiseWith; simp only; split <;> simp

/-! ## raise -/

@[simp] theorem State.pending_raise (s : State) (v : Nat) (page : Word) : (s.raise v page).pending = s.pending := by
  simp [State.raise]
@[simp] theorem State.cycle_raise (s : State) (v : Nat) (page : Word) : (s.raise v page).cycle = s.cycle := by
  simp [State.raise]
@[simp] theorem State.running_raise (s : State) (v : Nat) (page : Word) : (s.raise v page).running = s.running := by
  simp [State.raise]
@[simp] theorem State.active_raise (s : State) (v : Nat) (page : Word) : (s.raise v page).active = s.active := by
  simp [State.raise]
@[simp] theorem State.shadows_raise (s : State) (v : Nat) (page : Word) : (s.raise v page).shadows = s.shadows := by
  simp [State.raise]
@[simp] theorem State.handed_raise (s : State) (v : Nat) (page : Word) : (s.raise v page).handed = s.handed := by
  simp [State.raise]
@[simp] theorem State.timers_raise (s : State) (v : Nat) (page : Word) : (s.raise v page).timers = s.timers := by
  simp [State.raise]
@[simp] theorem State.captures_raise (s : State) (v : Nat) (page : Word) : (s.raise v page).captures = s.captures := by
  simp [State.raise]
@[simp] theorem State.latches_raise (s : State) (v : Nat) (page : Word) : (s.raise v page).latches = s.latches := by
  simp [State.raise]
@[simp] theorem State.live_raise (s : State) (v : Nat) (page : Word) : (s.raise v page).live = s.live := by
  simp [State.raise]
@[simp] theorem State.sys_raise (s : State) (v : Nat) (page : Word) : (s.raise v page).sys = s.sys := by
  simp [State.raise]
@[simp] theorem State.cmd_raise (s : State) (v : Nat) (page : Word) : (s.raise v page).cmd = s.cmd := by
  simp [State.raise]
@[simp] theorem State.dbg_raise (s : State) (v : Nat) (page : Word) : (s.raise v page).dbg = s.dbg := by
  simp [State.raise]
@[simp] theorem State.flash_raise (s : State) (v : Nat) (page : Word) : (s.raise v page).flash = s.flash := by
  simp [State.raise]
@[simp] theorem State.ing_raise (s : State) (v : Nat) (page : Word) : (s.raise v page).ing = s.ing := by
  simp [State.raise]
@[simp] theorem State.pnd_raise (s : State) (v : Nat) (page : Word) : (s.raise v page).pnd = s.pnd := by
  simp [State.raise]
@[simp] theorem State.asm_raise (s : State) (v : Nat) (page : Word) : (s.raise v page).asm = s.asm := by
  simp [State.raise]
@[simp] theorem State.fir_raise (s : State) (v : Nat) (page : Word) : (s.raise v page).fir = s.fir := by
  simp [State.raise]
@[simp] theorem State.pos_raise (s : State) (v : Nat) (page : Word) : (s.raise v page).pos = s.pos := by
  simp [State.raise]
@[simp] theorem State.jgl_raise (s : State) (v : Nat) (page : Word) : (s.raise v page).jgl = s.jgl := by
  simp [State.raise]
@[simp] theorem State.cam_raise (s : State) (v : Nat) (page : Word) : (s.raise v page).cam = s.cam := by
  simp [State.raise]
@[simp] theorem State.ins_raise (s : State) (v : Nat) (page : Word) : (s.raise v page).ins = s.ins := by
  simp [State.raise]
@[simp] theorem State.cal_raise (s : State) (v : Nat) (page : Word) : (s.raise v page).cal = s.cal := by
  simp [State.raise]
@[simp] theorem State.pwr_raise (s : State) (v : Nat) (page : Word) : (s.raise v page).pwr = s.pwr := by
  simp [State.raise]
@[simp] theorem State.arb_raise (s : State) (v : Nat) (page : Word) : (s.raise v page).arb = s.arb := by
  simp [State.raise]
@[simp] theorem State.brg_raise (s : State) (v : Nat) (page : Word) : (s.raise v page).brg = s.brg := by
  simp [State.raise]
@[simp] theorem State.saf_raise (s : State) (v : Nat) (page : Word) : (s.raise v page).saf = s.saf := by
  simp [State.raise]
@[simp] theorem State.tim_raise (s : State) (v : Nat) (page : Word) : (s.raise v page).tim = s.tim := by
  simp [State.raise]

/-! ## raiseData -/

@[simp] theorem State.pending_raiseData (s : State) (v data : Nat) : (s.raiseData v data).pending = s.pending := by
  simp [State.raiseData]
@[simp] theorem State.cycle_raiseData (s : State) (v data : Nat) : (s.raiseData v data).cycle = s.cycle := by
  simp [State.raiseData]
@[simp] theorem State.running_raiseData (s : State) (v data : Nat) : (s.raiseData v data).running = s.running := by
  simp [State.raiseData]
@[simp] theorem State.active_raiseData (s : State) (v data : Nat) : (s.raiseData v data).active = s.active := by
  simp [State.raiseData]
@[simp] theorem State.shadows_raiseData (s : State) (v data : Nat) : (s.raiseData v data).shadows = s.shadows := by
  simp [State.raiseData]
@[simp] theorem State.handed_raiseData (s : State) (v data : Nat) : (s.raiseData v data).handed = s.handed := by
  simp [State.raiseData]
@[simp] theorem State.timers_raiseData (s : State) (v data : Nat) : (s.raiseData v data).timers = s.timers := by
  simp [State.raiseData]
@[simp] theorem State.captures_raiseData (s : State) (v data : Nat) : (s.raiseData v data).captures = s.captures := by
  simp [State.raiseData]
@[simp] theorem State.latches_raiseData (s : State) (v data : Nat) : (s.raiseData v data).latches = s.latches := by
  simp [State.raiseData]
@[simp] theorem State.live_raiseData (s : State) (v data : Nat) : (s.raiseData v data).live = s.live := by
  simp [State.raiseData]
@[simp] theorem State.sys_raiseData (s : State) (v data : Nat) : (s.raiseData v data).sys = s.sys := by
  simp [State.raiseData]
@[simp] theorem State.cmd_raiseData (s : State) (v data : Nat) : (s.raiseData v data).cmd = s.cmd := by
  simp [State.raiseData]
@[simp] theorem State.dbg_raiseData (s : State) (v data : Nat) : (s.raiseData v data).dbg = s.dbg := by
  simp [State.raiseData]
@[simp] theorem State.flash_raiseData (s : State) (v data : Nat) : (s.raiseData v data).flash = s.flash := by
  simp [State.raiseData]
@[simp] theorem State.ing_raiseData (s : State) (v data : Nat) : (s.raiseData v data).ing = s.ing := by
  simp [State.raiseData]
@[simp] theorem State.pnd_raiseData (s : State) (v data : Nat) : (s.raiseData v data).pnd = s.pnd := by
  simp [State.raiseData]
@[simp] theorem State.asm_raiseData (s : State) (v data : Nat) : (s.raiseData v data).asm = s.asm := by
  simp [State.raiseData]
@[simp] theorem State.fir_raiseData (s : State) (v data : Nat) : (s.raiseData v data).fir = s.fir := by
  simp [State.raiseData]
@[simp] theorem State.pos_raiseData (s : State) (v data : Nat) : (s.raiseData v data).pos = s.pos := by
  simp [State.raiseData]
@[simp] theorem State.jgl_raiseData (s : State) (v data : Nat) : (s.raiseData v data).jgl = s.jgl := by
  simp [State.raiseData]
@[simp] theorem State.cam_raiseData (s : State) (v data : Nat) : (s.raiseData v data).cam = s.cam := by
  simp [State.raiseData]
@[simp] theorem State.ins_raiseData (s : State) (v data : Nat) : (s.raiseData v data).ins = s.ins := by
  simp [State.raiseData]
@[simp] theorem State.cal_raiseData (s : State) (v data : Nat) : (s.raiseData v data).cal = s.cal := by
  simp [State.raiseData]
@[simp] theorem State.pwr_raiseData (s : State) (v data : Nat) : (s.raiseData v data).pwr = s.pwr := by
  simp [State.raiseData]
@[simp] theorem State.arb_raiseData (s : State) (v data : Nat) : (s.raiseData v data).arb = s.arb := by
  simp [State.raiseData]
@[simp] theorem State.brg_raiseData (s : State) (v data : Nat) : (s.raiseData v data).brg = s.brg := by
  simp [State.raiseData]
@[simp] theorem State.saf_raiseData (s : State) (v data : Nat) : (s.raiseData v data).saf = s.saf := by
  simp [State.raiseData]
@[simp] theorem State.tim_raiseData (s : State) (v data : Nat) : (s.raiseData v data).tim = s.tim := by
  simp [State.raiseData]

/-! ## raiseDetail -/

@[simp] theorem State.pending_raiseDetail (s : State) (v detail : Nat) : (s.raiseDetail v detail).pending = s.pending := by
  simp [State.raiseDetail]
@[simp] theorem State.cycle_raiseDetail (s : State) (v detail : Nat) : (s.raiseDetail v detail).cycle = s.cycle := by
  simp [State.raiseDetail]
@[simp] theorem State.running_raiseDetail (s : State) (v detail : Nat) : (s.raiseDetail v detail).running = s.running := by
  simp [State.raiseDetail]
@[simp] theorem State.active_raiseDetail (s : State) (v detail : Nat) : (s.raiseDetail v detail).active = s.active := by
  simp [State.raiseDetail]
@[simp] theorem State.shadows_raiseDetail (s : State) (v detail : Nat) : (s.raiseDetail v detail).shadows = s.shadows := by
  simp [State.raiseDetail]
@[simp] theorem State.handed_raiseDetail (s : State) (v detail : Nat) : (s.raiseDetail v detail).handed = s.handed := by
  simp [State.raiseDetail]
@[simp] theorem State.timers_raiseDetail (s : State) (v detail : Nat) : (s.raiseDetail v detail).timers = s.timers := by
  simp [State.raiseDetail]
@[simp] theorem State.captures_raiseDetail (s : State) (v detail : Nat) : (s.raiseDetail v detail).captures = s.captures := by
  simp [State.raiseDetail]
@[simp] theorem State.latches_raiseDetail (s : State) (v detail : Nat) : (s.raiseDetail v detail).latches = s.latches := by
  simp [State.raiseDetail]
@[simp] theorem State.live_raiseDetail (s : State) (v detail : Nat) : (s.raiseDetail v detail).live = s.live := by
  simp [State.raiseDetail]
@[simp] theorem State.sys_raiseDetail (s : State) (v detail : Nat) : (s.raiseDetail v detail).sys = s.sys := by
  simp [State.raiseDetail]
@[simp] theorem State.cmd_raiseDetail (s : State) (v detail : Nat) : (s.raiseDetail v detail).cmd = s.cmd := by
  simp [State.raiseDetail]
@[simp] theorem State.dbg_raiseDetail (s : State) (v detail : Nat) : (s.raiseDetail v detail).dbg = s.dbg := by
  simp [State.raiseDetail]
@[simp] theorem State.flash_raiseDetail (s : State) (v detail : Nat) : (s.raiseDetail v detail).flash = s.flash := by
  simp [State.raiseDetail]
@[simp] theorem State.ing_raiseDetail (s : State) (v detail : Nat) : (s.raiseDetail v detail).ing = s.ing := by
  simp [State.raiseDetail]
@[simp] theorem State.pnd_raiseDetail (s : State) (v detail : Nat) : (s.raiseDetail v detail).pnd = s.pnd := by
  simp [State.raiseDetail]
@[simp] theorem State.asm_raiseDetail (s : State) (v detail : Nat) : (s.raiseDetail v detail).asm = s.asm := by
  simp [State.raiseDetail]
@[simp] theorem State.fir_raiseDetail (s : State) (v detail : Nat) : (s.raiseDetail v detail).fir = s.fir := by
  simp [State.raiseDetail]
@[simp] theorem State.pos_raiseDetail (s : State) (v detail : Nat) : (s.raiseDetail v detail).pos = s.pos := by
  simp [State.raiseDetail]
@[simp] theorem State.jgl_raiseDetail (s : State) (v detail : Nat) : (s.raiseDetail v detail).jgl = s.jgl := by
  simp [State.raiseDetail]
@[simp] theorem State.cam_raiseDetail (s : State) (v detail : Nat) : (s.raiseDetail v detail).cam = s.cam := by
  simp [State.raiseDetail]
@[simp] theorem State.ins_raiseDetail (s : State) (v detail : Nat) : (s.raiseDetail v detail).ins = s.ins := by
  simp [State.raiseDetail]
@[simp] theorem State.cal_raiseDetail (s : State) (v detail : Nat) : (s.raiseDetail v detail).cal = s.cal := by
  simp [State.raiseDetail]
@[simp] theorem State.pwr_raiseDetail (s : State) (v detail : Nat) : (s.raiseDetail v detail).pwr = s.pwr := by
  simp [State.raiseDetail]
@[simp] theorem State.arb_raiseDetail (s : State) (v detail : Nat) : (s.raiseDetail v detail).arb = s.arb := by
  simp [State.raiseDetail]
@[simp] theorem State.brg_raiseDetail (s : State) (v detail : Nat) : (s.raiseDetail v detail).brg = s.brg := by
  simp [State.raiseDetail]
@[simp] theorem State.saf_raiseDetail (s : State) (v detail : Nat) : (s.raiseDetail v detail).saf = s.saf := by
  simp [State.raiseDetail]
@[simp] theorem State.tim_raiseDetail (s : State) (v detail : Nat) : (s.raiseDetail v detail).tim = s.tim := by
  simp [State.raiseDetail]


/-! ## Registers -/

@[simp] theorem State.reg_orDraw (s : State) (w : Nat) (v : Option Nat) (a : Nat) : (s.orDraw w v).2.reg a = s.reg a := by
  simp [State.reg]

/-- Offsets outside EVT and the MSI-X tables. -/
abbrev outsideEvt (a : Nat) : Prop := a < 0x20000 ∨ 0x40000 ≤ a

theorem State.reg_putFlag_other (s : State) (f : Fld) (b : Bool) {a : Nat} (h : a ≠ f.addr) : (s.putFlag f b).reg a = s.reg a :=
  State.reg_put_other _ _ _ h

theorem State.reg_sendMessage (s : State) {v a : Nat} (hv : v < 256) (ha : outsideEvt a) : (s.sendMessage v).reg a = s.reg a := by
  have h : a ≠ (pbaBit v).addr := by
    simp only [pbaBit]
    unfold outsideEvt at ha
    omega
  unfold State.sendMessage
  simp only
  split
  · rfl
  · split
    · exact State.reg_putFlag_other _ _ _ h
    · split <;> rfl

theorem State.reg_signalVector (s : State) {v a : Nat} (hv : v < 256) (ha : outsideEvt a) : (s.signalVector v).reg a = s.reg a := by
  unfold State.signalVector
  split
  · rfl
  · exact State.reg_sendMessage s hv ha

theorem State.reg_appendLog (s : State) (r : EventRec) {a : Nat} (ha : outsideEvt a) : (s.appendLog r).reg a = s.reg a := by
  have h : a ≠ EVT_LOG_STAT := fun e => absurd (e ▸ ha) (by decide : ¬ outsideEvt EVT_LOG_STAT)
  unfold State.appendLog
  simp only
  rw [State.reg_put_other _ _ _ h]
  split
  · exact State.reg_put_other _ _ _ h
  · rfl

theorem State.reg_raiseOne (s : State) {v : Nat} (detail : Nat) (data page : Word) {a : Nat} (hv : v < 256) (ha : outsideEvt a) :
    (s.raiseOne v detail data page).reg a = s.reg a := by
  have h : a ≠ (pendBit v).addr := by
    simp only [pendBit, EVT_PEND]
    unfold outsideEvt at ha
    omega
  unfold State.raiseOne
  simp only
  rw [State.reg_signalVector _ hv ha, State.reg_putFlag_other _ _ _ h, State.reg_appendLog _ _ ha]

/-- An event writes no register outside EVT and the MSI-X tables. -/
theorem State.reg_raiseWith (s : State) {v : Nat} (detail data : Option Nat) (page : Word) {a : Nat} (hv : v < 256)
    (ha : outsideEvt a) : (s.raiseWith v detail data page).reg a = s.reg a := by
  unfold State.raiseWith
  simp only
  split
  · rw [State.reg_raiseOne _ _ _ _ (by decide) ha, State.reg_orDraw, State.reg_raiseOne _ _ _ _ hv ha, State.reg_orDraw,
      State.reg_orDraw]
  · rw [State.reg_raiseOne _ _ _ _ hv ha, State.reg_orDraw, State.reg_orDraw]

theorem State.reg_raise (s : State) {v : Nat} (page : Word) {a : Nat} (hv : v < 256) (ha : outsideEvt a) :
    (s.raise v page).reg a = s.reg a := State.reg_raiseWith s _ _ _ hv ha

theorem State.reg_raiseData (s : State) {v : Nat} (data : Nat) {a : Nat} (hv : v < 256) (ha : outsideEvt a) :
    (s.raiseData v data).reg a = s.reg a := State.reg_raiseWith s _ _ _ hv ha

theorem State.reg_raiseDetail (s : State) {v : Nat} (detail : Nat) {a : Nat} (hv : v < 256) (ha : outsideEvt a) :
    (s.raiseDetail v detail).reg a = s.reg a := State.reg_raiseWith s _ _ _ hv ha

theorem State.get_raise (s : State) {v : Nat} (page : Word) (f : Fld) (hv : v < 256) (ha : outsideEvt f.addr) :
    (s.raise v page).get f = s.get f := by simp only [State.get, State.reg_raise s page hv ha]

theorem State.get_raiseData (s : State) {v : Nat} (data : Nat) (f : Fld) (hv : v < 256) (ha : outsideEvt f.addr) :
    (s.raiseData v data).get f = s.get f := by simp only [State.get, State.reg_raiseData s data hv ha]

theorem State.get_raiseDetail (s : State) {v : Nat} (detail : Nat) (f : Fld) (hv : v < 256) (ha : outsideEvt f.addr) :
    (s.raiseDetail v detail).get f = s.get f := by simp only [State.get, State.reg_raiseDetail s detail hv ha]

theorem State.flag_raise (s : State) {v : Nat} (page : Word) (f : Fld) (hv : v < 256) (ha : outsideEvt f.addr) :
    (s.raise v page).flag f = s.flag f := by simp only [State.flag, State.get_raise s page f hv ha]

end Sys2Proof.Machine
end

