-- ==== Sys2Proof/Laws/Commands.lean ====
section
/-! SUPPORT. What a command packet does (R98 to R101): each outcome of its checks once. -/

namespace Sys2Proof.Machine

open Sys2Proof

/-- A packet that its route does not bring has no effect. -/
theorem State.command_closed (s : State) (o : Op) (p : Packet) (h : s.open_ p.route = false) : s.command o p = s := by
  simp [State.command, h]

/-- A packet whose checks pass is executed. -/
theorem State.command_takes {s : State} {o : Op} {p : Packet} (h : s.Takes o p) : s.command o p = s.execute o p none := by
  simp [State.command, State.handle, h.1, h.2]

/-- A packet that acts at once. -/
theorem State.command_now {s : State} {o : Op} {p : Packet} (h : s.Acts o p) (hl : o.later = false) :
    s.command o p = o.post p.params
      ((o.act p s).2.answer p.route none (s.replyTo o.code o.legal p .ok 0 false (o.act p s).1)) := by
  rw [State.command_takes h.1]
  simp [State.execute, h.2, hl]

/-- A packet whose command completes later. -/
theorem State.command_later {s : State} {o : Op} {p : Packet} (h : s.Acts o p) (hl : o.later = true) :
    s.command o p = o.post p.params
      ((o.act p (if o.pends then s.pend o p else s)).2.answer p.route none
        (s.replyTo o.code o.legal p .accepted 0 false [])) := by
  rw [State.command_takes h.1]
  simp [State.execute, h.2, hl]

/-- A packet whose goal holds already. -/
theorem State.command_same {s : State} {o : Op} {p : Packet} (h : s.Takes o p) (hs : o.same s p.params = true) :
    s.command o p = s.answer p.route none (s.replyTo o.code o.legal p .ok 0 true []) := by
  rw [State.command_takes h]
  simp [State.execute, hs]

/-- A packet that fails a check is answered with the first failure and changes nothing but by its answer. -/
theorem State.command_fails {s : State} {o : Op} {p : Packet} {st : Status} {d : Nat} (ho : s.open_ p.route = true)
    (h : s.check o p = some (st, d)) (hb : ¬ (st = .noResource ∧ d = 2)) :
    s.command o p = s.answer p.route none (s.replyTo o.code o.legal p st d false []) := by
  simp [State.command, State.handle, ho, h, hb]

/-- A packet that acts at once, with no effect behind its reply: what it leaves, from what its effect answers. -/
theorem State.done_now {s : State} {o : Op} {p : Packet} (h : s.Acts o p) (hl : o.later = false)
    (hp : ∀ t, o.post p.params t = t) {d : List Byte} {t : State} (ha : o.act p s = (d, t)) :
    s.done (s.command o p) = s.answered o p d t := by
  rw [State.command_now h hl, hp, ha]
  rfl

/-- A packet whose command completes later, with no effect behind its reply. -/
theorem State.done_later {s : State} {o : Op} {p : Packet} (h : s.Acts o p) (hl : o.later = true) (hq : o.pends = true)
    (hp : ∀ t, o.post p.params t = t) {d : List Byte} {t : State} (ha : o.act p (s.pend o p) = (d, t)) :
    s.done (s.command o p) = s.accepted o p t := by
  rw [State.command_later h hl, hp, hq, if_pos rfl, ha]
  rfl

/-- What entering a request in the pending table leaves: everything but the table. -/
theorem State.pend_cases (s : State) (o : Op) (p : Packet) :
    s.pend o p = { s with cmd := { s.cmd with table := (s.pend o p).cmd.table } } := by
  unfold State.pend
  split <;> rfl

@[simp] theorem State.reg_pend (s : State) (o : Op) (p : Packet) (a : Nat) : (s.pend o p).reg a = s.reg a := by
  rw [State.pend_cases]
  rfl

@[simp] theorem State.modeCode_pend (s : State) (o : Op) (p : Packet) : (s.pend o p).modeCode = s.modeCode := by
  rw [State.pend_cases]
  rfl

@[simp] theorem State.saf_pend (s : State) (o : Op) (p : Packet) : (s.pend o p).saf = s.saf := by
  rw [State.pend_cases]

/-- A write that lands has its effect. -/
theorem State.hostWrite_lands {s : State} {by_ : By} {off : Nat} (h : s.Lands by_ off) (f : State → State) :
    s.hostWrite by_ off f = f s := by
  obtain ⟨h1, h2, h3, h4, h5, h6⟩ := h
  have h2' : (rowOf off).isNone = false := by
    cases e : rowOf off with
    | none => rw [e] at h2; exact absurd h2 (by decide)
    | some _ => rfl
  have h3' : (!s.keeperRights by_ && !crewSees off) = false := by
    rw [← Bool.not_or, h3]
    rfl
  simp [State.hostWrite, h1, h2', h3', h4, h5, h6]

end Sys2Proof.Machine
end

