-- ==== Sys2Proof/Laws/Shared.lean ====
section
/-! SUPPORT. What the shared operations of the meanings do: time passing, one bit of a word, the outputs' gate, and the execution of
a barge instruction. -/

namespace Sys2Proof.Machine

open Sys2Proof

/-- Time passing keeps the islands as they run. -/
@[simp] theorem State.runs_tick (s : State) (n i : Nat) : (s.tick n).runs i = s.runs i := by simp [State.runs]

/-- Time passing keeps the sensors. -/
@[simp] theorem State.sensor_tick (s : State) (n k : Nat) : (s.tick n).sensor k = s.sensor k := by simp [State.sensor]

/-- A field of one bit is that bit. -/
theorem bits_one (v : Word) (k : Nat) : bits v k 1 = (v.getLsbD k).toNat := by
  rw [bits, BitVec.getLsbD, Nat.testBit_eq_decide_div_mod_eq]
  rcases Nat.mod_two_eq_zero_or_one (v.toNat / 2 ^ k) with h | h <;> simp [h]

/-- Driving the outputs changes none of what decides their levels. -/
theorem State.wanted_drive (s : State) (a b : Bool) : (s.drive a b).wanted = s.wanted := by
  have h1 : ∀ f : Fld, f.addr ≠ SAF_STAT → (s.drive a b).flag f = s.flag f := fun f h => by
    simp [State.flag, State.get_drive s a b f h]
  have e1 : (s.drive a b).flag SAF_STAT_LOCKOUT = s.flag SAF_STAT_LOCKOUT := by
    simp only [State.flag]
    rw [State.get_drive_stat s a b _ (by decide)] <;> simp [Fld.apart]
  have e2 : (s.drive a b).flag SAF_STAT_START_OK = s.flag SAF_STAT_START_OK := by
    simp only [State.flag]
    rw [State.get_drive_stat s a b _ (by decide)] <;> simp [Fld.apart]
  have e3 : ∀ f : Fld, f.addr ≠ SAF_STAT → (s.drive a b).get f = s.get f := fun f h => State.get_drive s a b f h
  have hs := State.saf_drive s a b
  unfold State.wanted State.safOk State.modePermits State.changingTo State.modeCode
  rw [e1, e2, e3 _ (by decide), e3 _ (by decide), e3 _ (by decide), h1 _ (by decide), h1 _ (by decide), hs]

/-- A channel that executes an instruction of this opcode takes its effect. -/
theorem State.bargeStep_executes {s : State} {n op : Nat} {f : State → State} (h : s.Executes n op) : s.bargeStep n op f = f s := by
  obtain ⟨a, b, c, d, e⟩ := h
  simp [State.bargeStep, a, b, c, d, e]

/-- What the gate brings out is added in front of what the command brought out. -/
theorem State.outs_gate (s : State) (o : Out) (h : o ∈ s.outs) : o ∈ s.gateOutputs.outs := by
  unfold State.gateOutputs State.drive
  split
  · exact h
  · dsimp only
    repeat' split
    all_goals simp [h]

/-- A command completes with whatever its answer has. -/
theorem completes_of_done {c : Instr} {s t : State} {P : State → Prop} (h : exec c s = s.done t)
    (hp : P { t.gateOutputs with pending := s.pending }) : Completes c s P := ⟨_, h, hp⟩

/-- One of two runs of register writes leaves the store. -/
theorem State.pnd_words (s : State) (l : List Reprint) (a b c : Nat) (x y z : Word) (f g k : Reprint → Word) :
    (match l with
      | [] => ((s.setReg a x).setReg b y).setReg c z
      | e :: _ => ((s.setReg a (f e)).setReg b (g e)).setReg c (k e)).pnd = s.pnd := by
  cases l <;> rfl

/-- Showing the head of the reprint queue leaves the store. -/
@[simp] theorem State.pnd_syncReprint (s : State) : s.syncReprint.pnd = s.pnd := by
  unfold State.syncReprint
  exact (State.pnd_words (s.put PND_RPQ_STAT_COUNT s.pnd.reprints.length) _ _ _ _ _ _ _ _ _ _).trans (State.pnd_put _ _ _)

end Sys2Proof.Machine
end

