-- ==== Sys2Proof/WellFormed.lean ====
section
/-! DEFINITION. The commands the hardware can be sent: the sizes that the spec fixes of what arrives with an event. A command
that breaks one is no event of this hardware. -/

namespace Sys2Proof

/-- Parameter bytes a packet can carry (R83, R98): at most 4,080, in whole words. -/
def Packet.sized (p : Packet) : Bool := p.params.length ≤ 4080 && p.params.length % 4 = 0

/-- The command packet of an opcode row (R83, R105); none for an event. -/
def Instr.packet? : Instr → Option Packet
  | .queryState p | .getEvents p | .setMode p | .clearSafe p | .resetCmd p | .islandReset p | .bootJournalRead p
  | .bootJournalClear p | .netKeySet p | .startJob p | .stopPrint p | .jobDefine p | .pageQueue p | .pageReprint p
  | .jobCancel p | .jobStatus p | .nozzleRead p | .nozzleWrite p | .nozzleSetState p | .nozzleSummary p
  | .calStart p | .calAbort p | .calTableWrite p | .calTableRead p | .calReferenceSet p | .temperPolicy p
  | .camDiscover p | .camSettings p | .insDefectsRead p | .insConfig p | .pwrStatus p | .railSetpoint p
  | .supplyBudget p | .wearReport p | .timeStatus p | .timeAcceptJump p | .timeConfig p | .fireInhibit p
  | .safetyStatus p | .proofTest p | .safetyParamLoad p | .linkStatus p | .laneRetrain p | .prbsControl p
  | .linkErrInject p | .getAttestation p | .getCertificate p | .extendMeasurement p | .ackMeasurement p
  | .fwLoadBegin p | .fwLoadData p | .fwLoadEnd p => some p
  | _ => none

/-- Copies of one upstream message (R278, R287): at most one a lane, each of LEN 1 to 64 data blocks. -/
def copiesSized (l : List MsgCopy) : Bool :=
  l.length ≤ 2 && l.all fun c => 1 ≤ c.blocks.length && c.blocks.length ≤ 64

/-- The sizes the spec fixes for the operands of an event; every other command is well formed. -/
def Instr.wellFormed : Instr → Bool
  | .ntWportEntry words => words.length = 8
  | .telemetryRecord _ copies _ => copiesSized copies
  | .msgAck _ copies _ => copiesSized copies
  | .linkTestResult _ copies _ => copiesSized copies
  | .trainBlock _ _ _ _ wishes _ => wishes.length = 3
  | .thermalRead islands _ => islands.length = 12
  | .temperCheck _ sensors _ => sensors.length ≤ 16
  | .linkTrained _ width => width ≠ 0
  | .syncSample _ _ _ logInterval _ => -7 ≤ logInterval && logInterval ≤ 4
  | c => (c.packet?.map Packet.sized).getD true

end Sys2Proof
end

