-- ==== Sys2Proof/Tests/Slice0.lean ====
section
/-! SUPPORT. Small tests: what WellFormed refuses, values the spec states, and for every statement with hypotheses a state and
operands that meet them, clause by clause. -/

namespace Sys2Proof.Tests

open Sys2Proof Sys2Proof.Machine

set_option Elab.async false

/-! ## Helpers -/

/-- A request with its CHECK, by a route. -/
def pkBy (r : Route) (code : Nat) (l : List Byte) : Packet :=
  let p : Packet := ⟨r, 1, BitVec.ofNat 16 l.length, 0, 1, 0, l⟩
  { p with check := packetCrc p code }

/-- A request on the keeper ring. -/
def pk (code : Nat) (l : List Byte) : Packet := pkBy .keeper code l

theorem pk_check (code : Nat) (l : List Byte) : (pk code l).check = packetCrc (pk code l) code := rfl

/-- A chip that has started: every island clocked, channel 0 and sensor 0 enabled, the keeper ring open, Memory Space Enable set, in
mode m. -/
def up (m : Nat) : State :=
  let s : State := { State.reset with
    running := 0xFFF, sys := { State.reset.sys with channels := 1, sensors := 1, inspection := true, step := 17 }
    evt := { State.reset.evt with config := [(4, 2)] } }
  ((((s.put SYS_MODE_MODE m).setChModes fun _ => m).put CMD_K_RING_CTL_ENABLE 1).put CMD_K_RING_CTL_LOG2_SIZE 4).put
    PND_POOL_BLOCKS 2356928

/-- A job on channel 0. -/
def job : Job := ⟨7, 1, 0, 1000, 10, 8, false, false, false, 0, 0, 0⟩

/-- A page of it with one tile of channel 0. -/
def tile (st : TileState) : Tile := ⟨0, 0, 0, st, [], false, 16, 0, [2368], false, 256, false, false, [], 0, 0⟩

/-- A page of the job. -/
def page (st : TileState) : Page := { newPage 9 9 7 100 [2369] with tiles := [tile st] }

/-- The chip with the job and one page of it. -/
def withPage (m : Nat) (st : TileState) : State :=
  let s := up m
  { s with pnd := { s.pnd with jobs := [job], pages := [page st] } }

/-! ## The block, its registers and its locks -/

/-- A chip printing with both outputs high. -/
def hot : State :=
  let s := up 7
  ((({ s with saf := { s.saf with okA := true, okB := true } } : State).putFlag SAF_STAT_START_OK true).putFlag SAF_STAT_EN_A true).putFlag
    SAF_STAT_EN_B true

theorem queue_met :
    ({ up 4 with pending := [.lockstepMismatch, .msixEnable] } : State).pending = .lockstepMismatch :: [.msixEnable]
    ∧ ({ up 4 with pending := [.lockstepMismatch, .msixEnable] } : State).pending = [.lockstepMismatch] ++ [.msixEnable]
    ∧ (up 4).pending = [] := by
  decide +kernel

theorem gate_met : hot.Gated ∧ step hot = .next (hot.tick 1).samplePins ∧ (hot.tick 1).samplePins.flag SAF_STAT_EN_A = true := by
  refine ⟨?_, rfl, ?_⟩
  · unfold State.Gated
    decide +kernel
  · decide +kernel

theorem fire_energy_met :
    exec .msixEnable hot = .next (after .msixEnable hot)
    ∧ (after .msixEnable hot).saf.stopping = false ∧ (after .msixEnable hot).flag SAF_STAT_EN_A = true := by
  refine ⟨rfl, ?_⟩
  decide +kernel

theorem checks_met :
    ({ up 4 with running := 0xFF7 } : State).open_ .keeper = false
    ∧ ((up 4).open_ .keeper = true ∧ (up 4).check opQueryState (pk 0x0100 [0, 0, 0, 0]) = some (.badLength, 2))
    ∧ (up 4).open_ .keeper = true ∧ (up 4).check opSetMode (pk 0x0102 [4, 0, 0, 0]) = none
    ∧ opSetMode.same (up 4) [4, 0, 0, 0] = true := by
  decide +kernel

theorem route_refusals_met :
    let p := pkBy (.towpath 7) 0x0102 [4, 0, 0, 0]
    let s : State := (up 4).put CMD_TP_CTL_ENABLE 1
    (.setMode, opSetMode) ∈ commandRows ∧ s.open_ p.route = true ∧ s.sys.rom = false ∧ packetFormed p = true
      ∧ p.check = packetCrc p opSetMode.code ∧ ringOf p.route = none ∧ opSetMode.code ∉ [0x0100, 0x0101, 0x0201, 0x0800] := by
  refine ⟨?_, ?_⟩
  · simp [commandRows]
  · decide +kernel

theorem check_order_met :
    packetFormed { pk 0x0102 [4, 0, 0] with length := 4 } = false
    ∧ (let p := { pk 0x0102 [4, 0, 0, 0] with check := 0 }
       packetFormed p = true ∧ p.check ≠ packetCrc p opSetMode.code)
    ∧ (let p := pkBy (.towpath 7) 0x0102 [4, 0, 0, 0]
       packetFormed p = true ∧ p.check = packetCrc p opSetMode.code ∧ (up 4).sys.rom = false ∧ ringOf p.route = none
         ∧ opSetMode.code ∉ plainOps)
    ∧ (let p := pkBy .crew 0x0102 [4, 0, 0, 0]
       packetFormed p = true ∧ p.check = packetCrc p opSetMode.code ∧ (ringOf p.route).isSome = true ∧ opSetMode.keeper = true
         ∧ p.route ≠ .keeper)
    ∧ (up 4).check opSetMode (pk 0x0102 [4, 0, 0, 0]) = none := by
  decide +kernel

theorem register_writes_met :
    (up 4).Lands .keeper CAL_K ∧ (rowOf CAL_K).isSome = true ∧ CAL_K % 4 = 0 ∧ 0x2C0000 ≤ CAL_K ∧ CAL_K < 0x340000
    ∧ (up 4).writeHeld CAL_K = false ∧ (up 4).Lands .keeper 0x2C0000 ∧ (rowOf 0x2C0000).isSome = true
    ∧ (up 4).writeHeld 0x2C0000 = false := by
  unfold State.Lands
  decide +kernel

theorem discarded_accesses_met :
    ((up 4).runs 3 = true ∧ (up 4).memEnabled = true ∧ rowOf 0x1FFFFFC = none)
    ∧ ((rowOf SYS_RESET).isSome = true ∧ crewSees SYS_RESET = false)
    ∧ (let s : State := { up 4 with running := 0xFEF }
       s.runs 3 = true ∧ s.memEnabled = true ∧ (rowOf ING_CTL).isSome = true ∧ s.runs (islandOf ING_CTL) = false)
    ∧ (let s : State := { up 4 with running := 0xEFF }
       s.runs 3 = true ∧ (rowOf FIR_STAT).isSome = true ∧ crewSees FIR_STAT = true ∧ s.runs (islandOf FIR_STAT) = false)
    ∧ (let s : State := { up 4 with evt := { (up 4).evt with config := [] } }
       s.runs 3 = true ∧ s.memEnabled = false)
    ∧ ({ up 4 with running := 0xFF7 } : State).runs 3 = false := by
  decide +kernel

theorem event_rules_met :
    (up 4).Lands .crew (EVT_PEND 7) ∧ (up 4).Lands .keeper EVT_RAISE ∧ (0x1FF#32 : Word).getLsbD 8 = true := by
  unfold State.Lands
  decide +kernel

/-- The chip with a lock held by the host's requester o. -/
def holding (i o : Nat) : State :=
  let s := up 4
  { s with arb := { s.arb with locks := s.arb.locks.set i ⟨some (hostReq o), false, [], 1⟩ } }

theorem lock_ranks_met :
    (let s := holding 17 15
     let v : Word := 0xF1#32
     s.Lands .keeper ARB_HL_REQ ∧ bits v 4 4 ≠ 0 ∧ s.lockWaits (hostReq (bits v 4 4)) = false
       ∧ (s.lock 17).holder = some (hostReq (bits v 4 4)) ∧ lockArbiter 17 = lockArbiter (16 + bits v 0 4)
       ∧ lockRank (16 + bits v 0 4) ≤ lockRank 17)
    ∧ (let s := up 4
       let v : Word := 0x1F#32
       s.Lands .keeper ARB_HL_REQ ∧ bits v 4 4 ≠ 0 ∧ s.lockWaits (hostReq (bits v 4 4)) = false
         ∧ ∀ j : Fin 32, (s.lock j.val).holder = some (hostReq (bits v 4 4)) → lockArbiter j.val = lockArbiter (16 + bits v 0 4) →
             lockRank j.val < lockRank (16 + bits v 0 4)) := by
  unfold State.Lands
  decide +kernel

theorem frames_met :
    ((holding 17 15).Lands .keeper ARB_HL_REQ ∧ ∀ i : Fin 32, ∀ r ∈ ((holding 17 15).lock i.val).waiters, r.id < 16)
    ∧ (up 4).Lands (.barge 0) (BRG_CH_SEM_ADD 31)
    ∧ (let s := (up 4).put DBG_STAT_LEVEL 2
       s.dbg.scan = false ∧ s.Lands .debug DBG_CTL ∧ s.Lands .debug (DBG_CORE_CTL 1)) := by
  unfold State.Lands
  decide +kernel

theorem buffers_met :
    (up 4).runs 3 = true ∧ (up 4).memEnabled = true ∧ (0x7FC#25).toNat % 4 = 0 ∧ (0x7FC#25).toNat < 0x800
    ∧ (up 4).Acts opCalTableWrite (pk 0x0402 [0, 4, 0, 0, 4, 0, 0, 0, 1, 2, 0, 0]) ∧ (up 4).cal.staged = [] := by
  unfold State.Acts State.Takes
  decide +kernel

/-! ## WellFormed: an ill-formed command for each check -/

theorem refuses_packet_length : (Instr.queryState { pk 0x0100 [] with params := [1] }).wellFormed = false := by decide

theorem refuses_packet_size : (Instr.fwLoadData { pk 0x0A05 [] with params := List.replicate 4084 0 }).wellFormed = false := by decide +kernel

theorem refuses_wport_entry : (Instr.ntWportEntry [0, 0, 0, 0, 0, 0, 0]).wellFormed = false := by decide

theorem refuses_telemetry_copies : (Instr.telemetryRecord 0 [⟨false, 0, []⟩] 0).wellFormed = false := by decide

theorem refuses_ack_copies :
    (Instr.msgAck 0 [⟨false, 0, [0]⟩, ⟨true, 0, [0]⟩, ⟨true, 0, [0]⟩] 0).wellFormed = false := by decide

theorem refuses_train_wishes : (Instr.trainBlock 0 0 0 false [0, 1] 0).wellFormed = false := by decide

theorem refuses_thermal_islands : (Instr.thermalRead [1, 2, 3] 0).wellFormed = false := by decide

theorem refuses_temper_temperatures : (Instr.temperCheck 0 (List.replicate 17 20) 0).wellFormed = false := by decide

theorem refuses_link_width : (Instr.linkTrained 1 0).wellFormed = false := by decide

theorem refuses_sync_interval : (Instr.syncSample 0 ⟨none, 0, 0, 0, 0⟩ 0 5 0).wellFormed = false := by decide

theorem takes_a_request : (Instr.setMode (pk 0x0102 [4, 0, 0, 0])).wellFormed = true := by decide +kernel

theorem no_words : decodeTableWord 32 0 = none ∧ (up 4).withFetchWord 32 0 = up 4 := ⟨rfl, rfl⟩

/-! ## Values from outside the model: standard check values, and the worked examples of the spec -/

/-- The check value of CRC-32C (R84) over the digits 1 to 9. -/
theorem test_crc32c : crc32c [0x31, 0x32, 0x33, 0x34, 0x35, 0x36, 0x37, 0x38, 0x39] = 0xE3069283#32 := by decide +kernel

/-- SHA-256 of "abc" (FIPS 180-4; R95). -/
theorem test_sha256 : (sha256 [0x61, 0x62, 0x63]).take 4 = [0xBA, 0x78, 0x16, 0xBF] := by decide +kernel

/-- SHA-384 of "abc" (FIPS 180-4; R76). -/
theorem test_sha384 : (sha384 [0x61, 0x62, 0x63]).take 4 = [0xCB, 0x00, 0x75, 0x3F] := by decide +kernel

/-- HMAC-SHA-256 of "Hi There" under twenty bytes 0x0B (RFC 4231, case 1; R95). -/
theorem test_hmac : (hmacSha256 (List.replicate 20 0x0B) [0x48, 0x69, 0x20, 0x54, 0x68, 0x65, 0x72, 0x65]).take 4
    = [0xB0, 0x34, 0x4C, 0x61] := by decide +kernel

/-- A fixed-Huffman DEFLATE block of "aaaa" (RFC 1951; R123): literal, then a match of length 3 at distance 1. -/
theorem test_inflate : inflate 4 [0x4B, 0x04, 0x02, 0x00] = ([0x61, 0x61, 0x61, 0x61], none) := by decide +kernel

/-- Literals and a copy of length 9 at distance 3, in a fixed block, inflate to what they stand for (R123, R137). -/
theorem test_deflate :
    inflate 13 (packBits (true :: fixedBits [.lit 1, .lit 2, .lit 3, .copy 9 3, .lit 4])) =
      ([1, 2, 3, 1, 2, 3, 1, 2, 3, 1, 2, 3, 4], none) := by decide +kernel

/-- The phase of samples an eighth, a half and three quarters of a period in (R242). -/
theorem test_phase : phaseOf 1 1 = 512 ∧ phaseOf 0 (-1) = 2048 ∧ phaseOf (-1) 0 = 3072 := by decide +kernel

/-- The record of (channel 3, die 17, row 2, column 40) in the example of line assembly. -/
theorem test_record_index : recordIndex 3 17 2 40 = 1098280 := by decide

/-- Counts per metre and per line in the example "fixing counts per metre": C_L 2,167.1373, K 102,384,437. -/
theorem test_dimension :
    kOf (newCpl 0x87777777777 47244 1000150) = 102384437 ∧ (newCpl 0x87777777777 47244 1000150 * 10000 + 2 ^ 31) / 2 ^ 32 = 21671373 := by
  decide +kernel

/-- The example "a cycle across two arbiters": owners 1 and 2 wait for each other, and the younger holder is aborted. -/
def cycle : State :=
  let s := up 4
  { s with arb := { s.arb with locks :=
    (s.arb.locks.set 18 ⟨some (hostReq 1), false, [hostReq 2], 1⟩).set 25 ⟨some (hostReq 2), false, [hostReq 1], 2⟩ } }

theorem test_lock_cycle :
    ((after .lockWaitTimeout cycle).lock 18).waiters = [] ∧ ((after .lockWaitTimeout cycle).lock 25).waiters = [hostReq 1]
    ∧ (after .lockWaitTimeout cycle).flag (pendBit 240) = true := by decide +kernel

/-- Ranks are not compared across arbiters in the same example, and HOST_8 would be refused with LOCK_ORDER beside HOST_9. -/
theorem test_lock_order :
    (let s := holding 25 2
     s.lockOrder 18 (hostReq 2) = false ∧ s.lockOrder 24 (hostReq 2) = true) := by decide +kernel

/-- A test raise of vector 5 (R464). -/
theorem test_evt_raise :
    (after (.evtRaise .keeper 0x105) (up 4)).evt.log.getLast?.map (fun r => (r.vector, r.detail, r.data)) = some (5, 0xFFFF, 0) := by decide +kernel

/-- SET_MODE from Standby to Ready begins the change (R59, R60). -/
theorem test_set_mode :
    (after (.setMode (pk 0x0102 [4, 0, 0, 0])) (up 3)).changingTo 4 = true
    ∧ (after (.setMode (pk 0x0102 [4, 0, 0, 0])) (up 3)).modeCode = 3 := by decide +kernel

/-- A crew write of SYS_RESET, a K register, is denied and counted (R47, R110). -/
theorem test_crew_deny : (after (.registerWrite .crew false (BitVec.ofNat 25 SYS_RESET) 0xFFFFFFFF 0xF 0 false) (up 4)).get CMD_CREW_DENY_COUNT = 1 := by
  decide +kernel

/-- A W1C bit written 1 in the cycle in which hardware sets it stays set (R10). -/
theorem test_w1c_meets_set :
    (after (.registerWrite .keeper false (BitVec.ofNat 25 (EVT_PEND 0)) 3 0xF 2 false) ((up 4).setReg (EVT_PEND 0) 3)).reg (EVT_PEND 0) = 2#32 := by
  decide +kernel

/-! ## Command packets -/

theorem mode_and_reset_met :
    (up 4 |>.putFlag SYS_BOOT_STAT_ACKED true).Acts opSetMode (pk 0x0102 [5, 0, 0, 0])
    ∧ (up 4).Acts opSetMode (pk 0x0102 [10, 0, 0, 0]) ∧ (up 5).Acts opSetMode (pk 0x0102 [4, 0, 0, 0])
    ∧ (up 2).Acts opClearSafe (pk 0x0103 []) ∧ (up 3).Acts opReset (pk 0x0104 [1, 0, 0, 0])
    ∧ (up 3).Acts opReset (pk 0x0104 [2, 0, 0, 0]) ∧ (up 3).Acts opIslandReset (pk 0x0105 [3, 0, 0, 0]) := by
  unfold State.Acts State.Takes
  decide +kernel

theorem state_journal_and_measurement_met :
    (up 3).Acts opQueryState (pk 0x0100 []) ∧ (up 3).Acts opGetEvents (pk 0x0101 [4, 0, 0, 0])
    ∧ (up 3).Acts opBootJournalRead (pk 0x0106 []) ∧ (up 3).Acts opBootJournalClear (pk 0x0107 [])
    ∧ (up 3).Acts opNetKeySet (pk 0x0108 ([3, 0, 0, 0] ++ List.replicate 32 7))
    ∧ (up 3).Acts opExtendMeasurement (pk 0x0A02 (List.replicate 48 1))
    ∧ (up 3).Acts opAckMeasurement (pk 0x0A03 (up 3).composite)
    ∧ (up 3).Acts opGetAttestation (pk 0x0A00 (List.replicate 32 1))
    ∧ (up 3).Acts opGetCertificate.anyParams (pk 0x0A01 [0, 0, 0, 0]) := by
  unfold State.Acts State.Takes
  decide +kernel

theorem firmware_load_and_time_met :
    (up 2).Acts opFwLoadBegin (pk 0x0A04 [1, 0, 0, 0, 16, 0, 0, 0])
    ∧ (let s : State := { up 2 with cmd := { (up 2).cmd with fwCopy := some 0, fwSize := 4 } }
       s.Acts opFwLoadData (pk 0x0A05 [0, 0, 0, 0, 1, 2, 3, 4]) ∧ s.cmd.fwCopy.isSome = true)
    ∧ ((up 2).Acts opFwLoadData (pk 0x0A05 [0, 0, 0, 0, 1, 2, 3, 4]) ∧ (up 2).cmd.fwCopy = none)
    ∧ (up 2).Acts opFwLoadEnd (pk 0x0A06 [])
    ∧ (let s := (up 2).putFlag CMD_TP_CTL_ENABLE true
       ({ s with sys := { s.sys with rom := true } }).Acts opFwLoadEnd (pkBy (.towpath 0) 0x0A06 []))
    ∧ (up 3).Acts opTimeStatus (pk 0x0700 [])
    ∧ ((up 3).putFlag TIM_STAT_TIME_JUMP true).Acts opTimeAcceptJump (pk 0x0701 [])
    ∧ ((up 4).Acts opTimeConfig (pk 0x0702 [1, 0, 0, 0, 0, 0, 0, 0, 0, 0, 0, 0]) ∧ (up 4).runs 11 = true)
    ∧ (let s : State := { up 4 with running := 0x7FF }
       s.Acts opTimeConfig (pk 0x0702 [1, 0, 0, 0, 0, 0, 0, 0, 0, 0, 0, 0]) ∧ s.runs 11 = false) := by
  unfold State.Acts State.Takes
  decide +kernel

theorem job_and_page_met :
    (let s := (withPage 5 .stored).putFlag (POS_PORT_CFG_EN 0) true
     let t : State := { s with sys := { s.sys with webReady := true } }
     t.Acts opStartJob (pk 0x0200 [7, 0, 0, 0]) ∧ (t.job? 7) = some job ∧ t.modeCode = 5)
    ∧ (let s := (withPage 7 .stored).putFlag (POS_PORT_CFG_EN 0) true
       let t : State := { s with sys := { s.sys with webReady := true } }
       t.Acts opStartJob (pk 0x0200 [7, 0, 0, 0]) ∧ (t.job? 7) = some job ∧ t.modeCode ≠ 5)
    ∧ (up 7).Acts opStopPrint (pk 0x0201 [])
    ∧ (up 4).Acts opJobDefine (pk 0x0202 [8, 0, 1, 0, 64, 0, 0, 0, 0, 0, 0, 0, 64, 0, 0, 0])
    ∧ ((withPage 4 .stored).Acts opPageQueue (pk 0x0203 [7, 0, 0, 0, 10, 0, 0, 0, 64, 0, 0, 0])
      ∧ (withPage 4 .stored).job? 7 = some job)
    ∧ (let s := withPage 4 .stored
       let t : State := { s with pnd := { s.pnd with pages := [{ page .stored with queued := false, heldAt := some 0 }], reprints :=
          [⟨9, 7, 0, 1, true, false, 1, 1⟩] } }
       t.Acts opPageReprint (pk 0x0204 [9, 0, 0, 0, 0xFF, 0xFF, 0xFF, 0xFF]))
    ∧ (withPage 4 .stored).Acts opJobCancel (pk 0x0205 [7, 0, 0, 0])
    ∧ (withPage 4 .stored).Acts opJobStatus (pk 0x0206 [7, 0, 0, 0]) := by
  unfold State.Acts State.Takes
  decide +kernel

theorem nozzle_met :
    (up 4).Acts opNozzleRead (pk 0x0300 [7, 51, 5, 0, 0x1F, 4, 1, 0])
    ∧ ((up 4).Acts opNozzleWrite (pk 0x0301 ([0, 0, 0, 0, 0, 0, 1, 0, 1, 0, 0, 0] ++ List.replicate 16 0)) ∧ (up 4).runs 7 = true)
    ∧ (up 4).Acts opNozzleSetState (pk 0x0302 [0, 0, 0, 0, 0x1F, 4, 2, 1])
    ∧ (let s : State := { up 4 with running := 0xF7F }
       s.Acts opNozzleWrite (pk 0x0301 ([0, 0, 0, 0, 0, 0, 1, 0, 1, 0, 0, 0] ++ List.replicate 16 0))
       ∧ s.Acts opNozzleSetState (pk 0x0302 [0, 0, 0, 0, 0x1F, 4, 2, 1]) ∧ s.runs 7 = false)
    ∧ (up 4).Acts opNozzleSummary (pk 0x0303 [7, 0, 0, 0]) := by
  unfold State.Acts State.Takes
  decide +kernel

theorem calibration_met :
    (up 5).Acts opCalStart (pk 0x0400 [1, 0, 0, 0])
    ∧ (let s := up 11
       ({ s with cal := { s.cal with run := some (CalRun.mk 1 false 0 false false 0 []) } } : State).Acts opCalAbort (pk 0x0401 []))
    ∧ (up 4).Acts opCalTableWrite (pk 0x0402 [0, 4, 0, 0, 0, 0, 0, 0, 1, 2, 3, 4])
    ∧ (up 4).Acts opCalTableRead (pk 0x0403 [0, 4, 0, 0, 0, 0, 0, 0, 4, 0, 0, 0])
    ∧ (up 4).Acts opCalReferenceSet (pk 0x0404 [1, 0, 0, 0, 0xA0, 0x25, 0x26, 0, 0, 0, 0, 0])
    ∧ (up 4).Acts opCalReferenceSet (pk 0x0404 [2, 0, 0, 0, 2, 0, 0, 0, 1, 0, 0, 0])
    ∧ (let s := ((up 4).putFlag CAL_DIM_PENDING true).put CAL_DIM_LINES 12000
       s.Acts opCalReferenceSet (pk 0x0404 ([3, 0, 0, 0] ++ leBytes 4 254000 ++ [0, 0, 0, 0])))
    ∧ (up 4).Acts opTemperPolicy (pk 0x0405 [3, 2, 1, 0, 0, 0, 0, 0]) := by
  unfold State.Acts State.Takes
  decide +kernel

theorem camera_power_and_link_met :
    (up 4).Acts opCamDiscover (pk 0x0500 [15, 0, 0, 0])
    ∧ ((up 4).putFlag (CAM_SNS_CFG_EN 0) true).Acts opCamSettings (pk 0x0501 (List.replicate 32 0))
    ∧ (let s := up 4
       ({ s with ins := { s.ins with defects := [⟨9, [], false⟩] } } : State).Acts opInsDefectsRead (pk 0x0502 [9, 0, 0, 0, 1, 0, 0, 0]))
    ∧ (let s : State := { up 4 with running := 0xBFF }
       s.Acts opInsConfig (pk 0x0503 [3, 0xFF, 2, 3, 0, 0, 1, 0, 0, 0, 1, 0, 0, 0, 0, 0]) ∧ s.runs 10 = false)
    ∧ ((up 4).Acts opInsConfig (pk 0x0503 [3, 0xFF, 2, 3, 0, 0, 1, 0, 0, 0, 1, 0, 0, 0, 0, 0]) ∧ (up 4).runs 10 = true)
    ∧ (up 4).Acts opPwrStatus (pk 0x0600 []) ∧ (up 4).Acts opRailSetpoint (pk 0x0601 ([1, 0] ++ leBytes 2 60000))
    ∧ (up 4).Acts opSupplyBudget (pk 0x0602 [1, 0, 0, 0, 1, 0, 0, 0]) ∧ (up 4).Acts opWearReport (pk 0x0603 [])
    ∧ (up 4).Acts opLinkStatus (pk 0x0900 [3, 0, 0, 0]) ∧ (up 4).Acts opLaneRetrain (pk 0x0901 [3, 0, 0, 0])
    ∧ (up 10).Acts opPrbsControl (pk 0x0902 [15, 0, 0, 0, 3, 0, 0, 0])
    ∧ (((up 10).put (JGL_L_STAT_STATE 1) 5).Acts opLinkErrInject (pk 0x0903 [1, 4, 1, 0]) ∧ (up 10).runs 9 = true) := by
  unfold State.Acts State.Takes
  decide +kernel

/-- A safety set whose fields are in range. -/
def safetySet : List Byte := factorySafetySet ++ List.replicate 96 0

theorem safety_met :
    (up 5).Acts opFireInhibit (pk 0x0800 []) ∧ (up 3).Acts opSafetyStatus (pk 0x0801 [])
    ∧ (up 10).Acts opProofTest (pk 0x0802 [1, 0, 0, 0]) ∧ (up 10).Acts opProofTest (pk 0x0802 [0xFF, 0xFF, 0, 0]) := by
  unfold State.Acts State.Takes
  decide +kernel

theorem safety_set_acts : (up 10).Acts opSafetyParamLoad.anyParams (pk 0x0803 safetySet) := by
  have h := pk_check 0x0803 safetySet
  refine ⟨⟨by decide +kernel, ?_⟩, rfl⟩
  rw [State.check, show opSafetyParamLoad.anyParams.code = 0x0803 from rfl, h]
  simp only [ne_eq, not_true]
  decide +kernel

theorem safety_set_met : ∀ d, (up 10).badSafetySet safetySet = some d → d = 64 := by
  have h : ∀ b : Bool, (up 10).badSafetySet safetySet = none ∨ (up 10).badSafetySet safetySet = some 64 := by
    intro _
    unfold State.badSafetySet
    generalize Config.verifies _ _ _ = b
    revert b
    decide +kernel
  rcases h true with h | h <;> simp [h, eq_comm]

/-! ## Routes -/

/-- A command request's entry, settled. -/
def settled : PendingCmd := ⟨false, 0x0105, 1, 1, 3, some (.ok, 0), false, false, 3⟩

theorem ring_events_met :
    ((up 4).Lands .crew (sqTail true).addr ∧ (up 4).flag (ringEnable true) = false)
    ∧ ((up 4).Lands .keeper (sqTail false).addr ∧ (up 4).flag (ringEnable false) = true)
    ∧ ((up 4).Lands .crew (cqHead true).addr ∧ (up 4).Lands .keeper (cqHead false).addr ∧ (up 4).runs 3 = true)
    ∧ (let s : State := { up 4 with cmd := { (up 4).cmd with table := [settled] } }
       s.pendingCmd settled.crew settled.tag settled.session = some settled ∧ settled.result = some (.ok, 0) ∧ settled.mute = false)
    ∧ (let s : State := { up 2 with cmd := { (up 2).cmd with fwCopy := some 1, fwClosed := true } }
       s.pendingCmd true 1 1 = none ∧ s.cmd.fwClosed = true ∧ s.cmd.fwCopy = some 1) := by
  unfold State.Lands
  decide +kernel

/-- A datagram body under a key, with its tag. -/
def datagram (key : List Byte) (head body : List Byte) : List Byte :=
  head ++ body ++ (hmacSha256 key (head ++ body)).take 16

theorem towpath_and_ethernet_met :
    (((up 4).putFlag CMD_TP_CTL_ENABLE false).reaches .keeper = true ∧ ((up 4).putFlag CMD_TP_CTL_ENABLE false).flag CMD_TP_CTL_ENABLE = false)
    ∧ (let s := (up 4).putFlag CMD_TP_CTL_ENABLE true
       s.reaches .keeper = true ∧ s.flag CMD_TP_CTL_ENABLE = true ∧ s.cmd.busy.getLsbD 7 = false) := by
  decide +kernel

/-- A chip whose Ethernet port 1 takes commands under key 3, last SEQ 5. -/
def netted : State :=
  let s := ((up 4).setReg CMD_NET_CTL ((up 4).reg CMD_NET_CTL ||| 3)).putFlag (TIM_P_CFG_EN 1) true |>.putFlag (TIM_P_STAT_LINK 1) true
  { s with cmd := { s.cmd with keys := s.cmd.keys.set 3 ⟨List.replicate 32 7, 5, 1⟩ } }

/-- A datagram with a SEQ. -/
def datagramOf (seq : Nat) : List Byte :=
  datagram (List.replicate 32 7) ([0xC8, 0x57, 1, 3, 0, 0, 0, 0] ++ leBytes 8 seq) (List.replicate 16 0)

theorem datagrams_met :
    let port := BitVec.ofNat 16 (netted.get CMD_NET_CTL_UDP_PORT)
    (netted.runs 11 = true ∧ netted.sys.rom = false ∧ netted.portUp 1 = true ∧ netted.vlanOk 1 none = true)
    ∧ netted.datagramGood 1 port false [] = false
    ∧ (netted.datagramGood 1 port false (datagramOf 5) = true
      ∧ field (datagramOf 5) 8 8 ≤ (netted.netKey (field (datagramOf 5) 3 1)).seq)
    ∧ netted.datagramGood 1 port false (datagramOf 6) = true
    ∧ (netted.netKey (field (datagramOf 6) 3 1)).seq < field (datagramOf 6) 8 8 := by
  decide +kernel

/-! ## Resets, boot and mode changes -/

/-- Boot step n runs. -/
def bootStep (n : Nat) : State := { State.reset with sys := { State.reset.sys with step := n } }

theorem resets_met :
    ((State.reset.put SYS_MODE_MODE 0).modeCode = 0) ∧ (State.reset.modeCode = 1 ∧ State.reset.sys.step = 0)
    ∧ ((bootStep 3).modeCode ≠ 0 ∧ 3 ≤ (bootStep 3).sys.step)
    ∧ ((bootStep 2).stepping = true ∧ (bootStep 2).sys.step = 2)
    ∧ ({ State.reset with sys := { State.reset.sys with restartDue := true } } : State).sys.restartDue = true
    ∧ (up 4).Lands .keeper SYS_RESET ∧ (0xA55B : BitVec 16) ≠ 0xA55A
    ∧ (let s : State := { up 3 with dbg := { (up 3).dbg with scan := true, tap := .clamp } }
       s.dbg.scan = true ∧ s.dbg.tap = .clamp) := by
  unfold State.Lands
  decide +kernel

theorem boot_steps_met :
    ((bootStep 16).stepping = true ∧ 1 ≤ stepLimit (bootStep 16).sys.step
      ∧ ((stepIsland (bootStep 16).sys.step).any fun i => !(bootStep 16).runs i) = false
      ∧ (bootStep 16).sys.step ≠ 9 ∧ (bootStep 16).sys.step ≠ 10 ∧ (bootStep 16).sys.step ≠ 14)
    ∧ ((bootStep 9).stepping = true ∧ 0 ≤ stepLimit 9 ∧ ((stepIsland 9).any fun i => !(bootStep 9).runs i) = false)
    ∧ (let s : State := { bootStep 14 with running := 0xFFF }
       s.stepping = true ∧ stepLimit 14 ≤ stepLimit 14 ∧ ((stepIsland 14).any fun i => !s.runs i) = false ∧ s.carriersSettled = true)
    ∧ (let s : State := { bootStep 10 with running := 0x03F }
       let t : State := { s with sys := { s.sys with warming := true } }
       s.stepping = true ∧ 0 ≤ stepLimit 10 ∧ ((stepIsland 10).any fun i => !s.runs i) = false ∧ s.sys.warming = false
       ∧ 0 ≤ (0 : BitVec 8).toInt ∧ (0xFF : BitVec 8).toInt < 0
       ∧ t.stepping = true ∧ ((stepIsland 10).any fun i => !t.runs i) = false ∧ t.sys.warming = true ∧ 5 ≤ (5 : BitVec 8).toInt)
    ∧ ((bootStep 1).stepping = true ∧ stepLimit (bootStep 1).sys.step < stepLimit 1 + 1) := by
  decide +kernel

theorem mode_changes_met :
    (let s := ((up 4).putFlag SYS_MODE_TRANSITION true).put SYS_MODE_TARGET 10
     s.flag SYS_MODE_TRANSITION = true ∧ s.get SYS_MODE_TARGET = 10)
    ∧ (((up 4).putFlag SYS_MODE_TRANSITION true).put SYS_MODE_TARGET 5).changingTo 5 = true
    ∧ ((up 4).runs 3 = true ∧ (up 4).sys.rom = false ∧ (up 4).get (PWR_BJ_ENTRY_WAY 8) ≠ 1)
    ∧ ((up 4).modeCode ≠ 0 ∧ (up 4).saf.proof = [] ∧ (up 4).runs 0 = true ∧ (up 4).runs 1 = true ∧ (up 4).runs 2 = true ∧ (up 4).runs 3 = true ∧ (up 4).runs 11 = true) := by
  decide +kernel

/-! ## Ingest -/

/-- A tile header for channel 0, column 1, band 0 of the page: encoding 1, 100 lines. -/
def header (size : Nat) : List Byte :=
  let h := leBytes 4 (0x484E + 2 ^ 16 + 2 ^ 20) ++ leBytes 4 (2 ^ 20 + 7) ++ leBytes 4 9 ++ leBytes 4 (100 * 2 ^ 16) ++ leBytes 4 102400
    ++ leBytes 4 size ++ leBytes 4 0
  h ++ leBytes 4 (crc32c h).toNat

/-- A queue with a stream, landing or not, enabled. -/
def queued (q : Nat) (m : Nat) (st : TileState) (l : List Byte) (land : Bool) (payload : Nat) (stalled : Bool) : State :=
  ((withPage m st).putFlag (qEn q) true).updQueue q fun _ => ⟨l, if land then some (9, 0, 0, 0) else none, payload, 0, stalled⟩

theorem tile_arrival_met :
    (let s := queued 7 4 .empty (header 5 ++ List.replicate 32 0) false 0 false
     s.runs 4 = true ∧ s.flag (qEn 7) = true ∧ (s.queue 7).landing = none ∧ s.flag (qResync 7) = false ∧ (s.queue 7).skip = 0
       ∧ 64 ≤ (s.queue 7).stream.length ∧ fillerUnit (s.queue 7).stream = false ∧ s.checkTile (headerOf (s.queue 7).stream) = none)
    ∧ (let s := queued 7 4 .empty (header 0 ++ List.replicate 32 0) false 0 false
       s.runs 4 = true ∧ s.flag (qEn 7) = true ∧ (s.queue 7).landing = none ∧ s.flag (qResync 7) = false ∧ (s.queue 7).skip = 0
       ∧ 64 ≤ (s.queue 7).stream.length ∧ fillerUnit (s.queue 7).stream = false ∧ s.checkTile (headerOf (s.queue 7).stream) = some 3)
    ∧ (let s := queued 7 4 .landing (List.replicate 64 0) true 16 false
       s.runs 4 = true ∧ (s.queue 7).landing = some (9, 0, 0, 0) ∧ s.tile? 9 0 0 0 = some (tile .landing) ∧ (tile .landing).state = .landing
       ∧ pad64 (32 + (s.queue 7).payload) ≤ (s.queue 7).stream.length ∧ blocksOf (s.queue 7).payload ≤ (tile .landing).chain.length)
    ∧ (let s := queued 7 4 .landing [] true 16 true
       s.runs 4 = true ∧ (s.queue 7).stalled = true ∧ (s.queue 7).landing.isSome = true)
    ∧ (let s := queued 7 4 .landing [] false 16 true
       s.runs 4 = true ∧ (s.queue 7).stalled = true ∧ (s.queue 7).landing = none) := by
  decide +kernel

/-- One stored DEFLATE block of 16 zero bytes. -/
def stored16 : List Byte := [1, 16, 0, 0xEF, 0xFF] ++ List.replicate 16 0

/-- The chip with a DEFLATE tile in verification. -/
def verifying (raw : Nat) (crc : Word) (l : List Byte) : State :=
  let s := withPage 4 .verifying
  { s with pnd := { s.pnd with pages := [{ page .verifying with tiles :=
    [{ tile .verifying with deflate := true, rawSize := raw, crc := crc, bytes := l }] }] } }

theorem verification_met :
    (let s := verifying 16 (crc32c (List.replicate 16 0)) stored16
     s.runs 6 = true ∧ s.keyOf 9 = 9 ∧ (s.tile? 9 0 0 0).map (fun t => t.state) = some .verifying ∧ inflate 16 stored16 = (List.replicate 16 0, none)
       ∧ crc32c (List.replicate 16 0) = ((s.tile? 9 0 0 0).map fun t => t.crc).getD 1)
    ∧ crc32c (List.replicate 16 0) ≠ 0
    ∧ (inflate 8 stored16).2 = some .expansion ∧ (inflate 16 [1]).2 = some .bad ∧ memFailed .badDescriptor = true := by
  decide +kernel

/-- A compressor unit at work on the tile. -/
def unit_ (input : Nat) (waiting : Bool) : Compressor := ⟨31, 9, 0, 0, 0, 0, input, [], waiting, 0, 0⟩

/-- The chip with the unit at work. -/
def compressing (input : Nat) (waiting : Bool) : State :=
  let s := withPage 4 .landed
  { s with ing := { s.ing with compressors := [unit_ input waiting] } }

theorem compressors_met :
    (let s : State := { withPage 4 .landed with ing := { (withPage 4 .landed).ing with list := [(9, 0, 0, 0)] } }
     s.runs 4 = true ∧ s.compressor 31 = none ∧ s.ing.compressors.length + s.ing.hostJobs.length < 32
       ∧ s.ing.list = (9, 0, 0, 0) :: [] ∧ s.page? 9 = some (page .landed))
    ∧ ((compressing 0 false).runs 4 = true ∧ (compressing 0 false).compressor 31 = some (unit_ 0 false)
      ∧ 0 < (compressing 0 false).cmpSize (unit_ 0 false))
    ∧ ((compressing 16 false).compressor 31 = some (unit_ 16 false) ∧ (compressing 16 false).cmpSize (unit_ 16 false) ≤ 16
      ∧ (compressing 16 false).tile? 9 0 0 0 = some (tile .landed))
    ∧ ((compressing 16 true).compressor 31 = some (unit_ 16 true) ∧ (unit_ 16 true).waiting = true) := by
  decide +kernel

theorem queue_enable_and_host_ring_met :
    (up 4).Lands .keeper ING_CTL ∧ (up 4).Lands .keeper ING_HCJ_TAIL ∧ (up 4).Lands .keeper ING_HCJ_CTL
    ∧ ((up 4).putFlag ING_HCJ_CTL_ENABLE true).Lands .keeper ING_HCJ_TAIL
    ∧ ((up 4).putFlag ING_HCJ_CTL_ENABLE true).flag ING_HCJ_CTL_ENABLE = true ∧ (up 4).flag ING_HCJ_CTL_ENABLE = false
    ∧ (let j : HostJob := ⟨0, 64, 128, 1, 0⟩
       let s : State := { up 4 with ing := { (up 4).ing with hostJobs := [j] } }
       s.runs 4 = true ∧ s.ing.hostJobs = j :: [] ∧ 1 ≤ j.len ∧ j.len ≤ 262144 ∧ ([7] : List Byte).length = j.len)
    ∧ (let j : HostJob := ⟨0, 64, 128, 262144, 0⟩
       1 ≤ j.len ∧ j.len ≤ 262144)
    ∧ (let j : HostJob := ⟨0, 64, 128, 262145, 0⟩
       let s : State := { up 4 with ing := { (up 4).ing with hostJobs := [j] } }
       s.runs 4 = true ∧ s.ing.hostJobs = j :: [] ∧ 262144 < j.len) := by
  unfold State.Lands
  decide +kernel

/-! ## The pound store, shadow sets and the nozzle table -/

/-- A decode context of the tile. -/
def ctx (k : CtxKind) : Ctx := ⟨k, 9, 0, 0, 0, 0, 0⟩

/-- The chip with one decode context that may run. -/
def decoding (k : CtxKind) : State :=
  let s := withPage 7 (if k = .verification then .verifying else .stored)
  let p := { page (if k = .verification then .verifying else .stored) with first := some 0, begun := 1 }
  { s with pnd := { s.pnd with pages := [p], contexts := [ctx k] } }

theorem store_events_met :
    ((decoding .reference).runs 6 = true ∧ (decoding .reference).runs 5 = true ∧ (decoding .reference).pickContext = some (ctx .reference)
      ∧ ((decoding .reference).page? 9).isSome = true ∧ (decoding .reference).tile? 9 0 0 0 = some (tile .stored))
    ∧ ((decoding .verification).pickContext = some (ctx .verification) ∧ ((decoding .verification).page? 9).isSome = true
      ∧ (decoding .verification).tile? 9 0 0 0 = some (tile .verifying))
    ∧ (ctx .reference).kind ≠ .verification ∧ memFailed (.uncorrectable 0) = true
    ∧ (let s := (withPage 4 .stored).putFlag PND_SCRUB_EN true
       s.runs 5 = true ∧ s.flag PND_SCRUB_EN = true ∧ s.scrubs 2303 = true ∧ s.scrubs 2368 = true)
    ∧ (up 4).Lands .keeper PND_RPQ_POP
    ∧ ((up 4).Lands .keeper PND_RPR_RELEASE ∧ (up 4).stored? 9 = none)
    ∧ ((withPage 4 .stored).Lands .keeper PND_RPR_RELEASE ∧ (withPage 4 .stored).stored? 9 = some (page .stored)
      ∧ (page .stored).pinned = false ∧ (page .stored).heldAt = none)
    ∧ (let p := { page .stored with pinned := true, heldAt := some 0 }
       let s : State := { up 4 with pnd := { (up 4).pnd with jobs := [job], pages := [p] } }
       s.Lands .keeper PND_RPR_RELEASE ∧ s.stored? 9 = some p ∧ p.pinned = true ∧ s.job? p.job = some job) := by
  unfold State.Lands
  decide +kernel

theorem nozzle_table_met :
    (let s := (up 4).put ASM_NT_INDEX_INDEX 2635775
     s.Lands .keeper ASM_NT_CMD ∧ s.get ASM_NT_INDEX_INDEX ≤ lastRecord ∧ 0 < s.bufRoom ∧ s.anyPrinting = false)
    ∧ (let s := (up 7).put ASM_NT_INDEX_INDEX 2635776
       s.Lands .keeper ASM_NT_CMD ∧ lastRecord < s.get ASM_NT_INDEX_INDEX ∧ s.anyPrinting = true)
    ∧ (let w : List Word := [2635775, 0xFFF, 0, 0, 0, 0, 0, 0]
       (up 4).runs 7 = true ∧ bits (w.getD 0 0) 0 22 ≤ lastRecord ∧ 0 < (up 4).bufRoom)
    ∧ lastRecord < bits (([2635776, 0, 0, 0, 0, 0, 0, 0] : List Word).getD 0 0) 0 22
    ∧ (up 4).get ASM_NT_RP_START_INDEX ≤ lastRecord := by
  unfold State.Lands
  decide +kernel

/-- The chip with one commit pending. -/
def committing (b : ShdBlk) (n : Nat) (begun : Bool) : State := { up 4 with shadows := [⟨b, n, [], 1, begun, 0, 5⟩] }

theorem shadow_commands_met :
    (16 < shdCount .cam ∧ (up 4).Lands .keeper (shdStat .cam 16 + 8) ∧ ((up 4).pendingSet .cam 16).all (fun p => !p.begun) = true)
    ∧ (3 < shdCount .arb ∧ (committing .arb 3 true).Lands .keeper (shdStat .arb 3 + 8)
      ∧ (committing .arb 3 true).pendingSet .arb 3 = some ⟨.arb, 3, [], 1, true, 0, 5⟩)
    ∧ (committing .arb 3 false).pendingSet .arb 3 = some ⟨.arb, 3, [], 1, false, 0, 5⟩
    ∧ ((committing .arb 3 false).pendingSet .arb 3).all (fun p => !p.begun) = true
    ∧ (7 < shdCount .fir ∧ (up 4).Lands .keeper (shdStat .fir 7 + 8)) ∧ (8 < shdCount .asm ∧ (up 4).Lands .keeper (shdStat .asm 8 + 8))
    ∧ (31 < shdCount .brg ∧ (up 4).Lands .keeper (shdStat .brg 31 + 8)) := by
  unfold State.Lands
  decide +kernel

/-! ## The line clock and web position -/

/-- A fixed line of channel 0. -/
def line : FixedLine := ⟨0, 0, 100, 256, 9, false, false, false, [], true, true⟩

/-- The line as ASM has it. -/
def asmLine : AsmLine := ⟨0, 0, some 9, [], 256, true, true⟩

/-- A run with an anchor in force, a fixed line and an assembled one. -/
def running : State :=
  let s := (up 7).putFlag FIR_STAT_RUNNING true
  { s with
    fir := { s.fir with
      cl := 2 ^ 32, anchor := some ⟨0, 0, 256, 0⟩, channels := s.fir.channels.set 0 { s.fch 0 with on := true, a0 := some 0 }, lines := [line] }
    asm := { s.asm with lines := [asmLine] } }

theorem line_events_met :
    (running.runs 8 = true
      ∧ (running.fir.lines.find? fun l => l.ch = 0 && l.line = (running.fch 0).next && !l.passed) = some line ∧ line.t ≤ running.cycle + 100)
    ∧ (let s := (running.putFlag (POS_CMP_STAT_OWNED 0) true).putFlag (POS_CMP_CTL_EN 0) true
       let u := (s.tick 0).posNow
       u.runs 8 = true ∧ u.flag FIR_STAT_RUNNING = true ∧ u.flag (POS_CMP_STAT_OWNED 0) = true ∧ u.cmpDue 0 = true)
    ∧ (let s := running.setPos48 POS_COUNT_LO POS_COUNT_HI 1000000
       let u := (s.tick 0).posNow
       u.clockRuns = true ∧ u.newestAnchor = some ⟨0, 0, 256, 0⟩ ∧ u.strays ⟨0, 0, 256, 0⟩ = true)
    ∧ (let u := (running.tick 1000000).rollAnchor
       u.params = some ⟨0, 0, 256, 0⟩ ∧ u.clockRuns = true ∧ (u.fch 0).on = true ∧ (u.fch 0).a0.isSome = true
       ∧ (⟨0, 0, 256, 0⟩ : Anchor).p ≠ 0 ∧ u.fixTime ⟨0, 0, 256, 0⟩ 0 (u.fch 0).fix ≤ u.cycle)
    ∧ ((running.tick 0).nextMarker 1 = some line ∧ running.runs 8 = true ∧ running.runs 9 = true
      ∧ line.t ≤ (running.tick 0).cycle + (running.tick 0).lead + (running.tick 0).latency 1)
    ∧ (running.tick 0).nextFrame 1 = some asmLine := by
  decide +kernel

/-- Waiting for a trigger, as leader or alone. -/
def waitingStart (m tandem : Nat) : State := ((up m).putFlag FIR_STAT_WAIT_TRIGGER true).put FIR_CTL_TANDEM tandem

theorem start_triggers_met :
    (let s := (waitingStart 6 1).put FIR_CTL_START_GPI 7
     let u := (s.tick 3).posNow
     u.runs 8 = true ∧ u.flag FIR_STAT_WAIT_TRIGGER = true ∧ u.ctlGet FIR_CTL_TANDEM ≠ 2 ∧ u.ctlGet FIR_CTL_START_GPI = 7
       ∧ (u.ctlGet FIR_CTL_START_EDGE = 1 ↔ true = false))
    ∧ (let u := ((waitingStart 5 2).tick 3).posNow
       u.runs 8 = true ∧ u.ctlGet FIR_CTL_TANDEM = 2 ∧ u.modeCode ≠ 6)
    ∧ (let u := ((waitingStart 6 2).tick 3).posNow
       u.runs 8 = true ∧ u.ctlGet FIR_CTL_TANDEM = 2 ∧ u.modeCode = 6 ∧ u.flag FIR_STAT_WAIT_TRIGGER = true)
    ∧ (let u := ((({ running with fir := { running.fir with ctl := 2#32 <<< FIR_CTL_TANDEM.lo } } : State).tick 3).posNow)
       u.runs 8 = true ∧ u.ctlGet FIR_CTL_TANDEM = 2 ∧ u.flag FIR_STAT_RUNNING = true) := by
  decide +kernel

/-- The chip with an encoder port enabled, with an index of period 1. -/
def encoded (p : Nat) : State :=
  (((up 4).putFlag (POS_PORT_CFG_EN p) true).putFlag (POS_PORT_INDEX_EN p) true).put (POS_PORT_INDEX_PERIOD p) 1

/-- The analog port 1 with bounds 50 and 150 around radius 1,000, its phase known or not. -/
def analog (phi : Option Nat) : State :=
  ((((encoded 1).put (POS_PORT_GAIN_GAIN_COS 1) 16384).put (POS_PORT_GAIN_NOM 1) 1000).put (POS_PORT_AMP_AMP_LO 1) 25).put
    (POS_PORT_AMP_AMP_HI 1) 225 |>.updPort 1 fun x => { x with phi := phi }

theorem analog_samples_met :
    ((analog none).runs 8 = true ∧ (analog none).flag (POS_PORT_CFG_EN 1) = true
      ∧ (let u := (analog none).tick 5
         u.radiusBad 1 (u.sampleSC 1 0 0) = true ∧ u.radiusBad 1 (u.sampleSC 1 0 1000) = false ∧ u.sampleSC 1 0 1000 ≠ (0, 0)
         ∧ (u.port 1).phi = none))
    ∧ (let s := (analog none).put (POS_PORT_GAIN_NOM 1) 0
       let u := s.tick 5
       s.flag (POS_PORT_CFG_EN 1) = true ∧ u.radiusBad 1 (u.sampleSC 1 0 0) = false ∧ u.sampleSC 1 0 0 = (0, 0))
    ∧ (let u := (analog (some 2048)).tick 5
       let sc := u.sampleSC 1 0 1000
       (u.port 1).phi = some 2048 ∧ 1024 < (signed 12 (unsigned 12 ((phaseOf sc.1 sc.2 : Int) - 2048))).natAbs)
    ∧ (let u := (analog (some 1024)).tick 5
       let sc := u.sampleSC 1 0 1000
       (u.port 1).phi = some 1024 ∧ (signed 12 (unsigned 12 ((phaseOf sc.1 sc.2 : Int) - 1024))).natAbs ≤ 1024) := by
  decide +kernel

theorem encoder_events_met :
    ((encoded 3).runs 8 = true ∧ (encoded 3).flag (POS_PORT_CFG_EN 3) = true)
    ∧ (let s := (encoded 3).updPort 3 fun x => { x with forward := true }
       let u := (s.tick 5).posNow
       u.runs 8 = true ∧ u.flag (POS_PORT_CFG_EN 3) = true ∧ u.flag (POS_PORT_INDEX_EN 3) = true
       ∧ u.get (POS_PORT_INDEX_PERIOD 3) ≠ 0 ∧ u.filt 3 ≤ 100000 ∧ (u.port 3).forward = true ∧ (u.port 3).grid = none)
    ∧ (let s := (encoded 1).updPort 1 fun x => { x with forward := true, grid := some 0 }
       let u := (s.tick 5).posNow
       let m := u.get (POS_PORT_INDEX_PERIOD 1) * u.perPeriod 1
       let dev := diff48 (u.rawCount 1) (0 + roundDiv (diff48 (u.rawCount 1) 0) m * m)
       u.flag (POS_PORT_INDEX_EN 1) = true ∧ (u.port 1).forward = true ∧ (u.port 1).grid = some 0 ∧ dev.natAbs ≤ 2 * u.perPeriod 1)
    ∧ (let s := ((encoded 1).put (POS_PORT_INDEX_PERIOD 1) 8).setPos48 (POS_PORT_RAW_LO 1) (POS_PORT_RAW_HI 1) 12288 |>.updPort 1
         fun x => { x with forward := true, grid := some 0 }
       let u := (s.tick 5).posNow
       let m := u.get (POS_PORT_INDEX_PERIOD 1) * u.perPeriod 1
       let dev := diff48 (u.rawCount 1) (0 + roundDiv (diff48 (u.rawCount 1) 0) m * m)
       (u.port 1).grid = some 0 ∧ u.get (POS_PORT_INDEX_PERIOD 1) ≠ 0 ∧ 2 * u.perPeriod 1 < dev.natAbs) := by
  decide +kernel

theorem position_registers_met :
    ((up 4).Lands .keeper POS_COUNT_HI ∧ (up 4).flag FIR_STAT_RUNNING = false)
    ∧ (running.Lands .keeper POS_COUNT_HI ∧ running.flag FIR_STAT_RUNNING = true)
    ∧ (up 4).Lands .keeper POS_FAULT
    ∧ ((up 7).Lands .keeper POS_SEL ∧ (up 7).anyPrinting = true ∧ (up 7).portFault ((up 7).get POS_SEL_PRIMARY) = false)
    ∧ (let s := (up 4).putFlag POS_STAT_ON_BACKUP true
       s.Lands .keeper POS_SEL ∧ s.anyPrinting = false ∧ s.flag POS_STAT_ON_BACKUP = true
       ∧ (s.setReg POS_SEL (3 &&& 0x133#32)).portFault ((s.setReg POS_SEL (3 &&& 0x133#32)).get POS_SEL_PRIMARY) = false)
    ∧ ((up 4).Lands .keeper (POS_CMP_CTL 15) ∧ (up 4).flag (POS_CMP_STAT_OWNED 15) = false) := by
  unfold State.Lands
  decide +kernel

/-- The chip with a pulse of unit 15. -/
def pulsing (started : Bool) : State := { up 4 with pos := { (up 4).pos with pulses := (up 4).pos.pulses.set 15 [⟨5, started⟩] } }

theorem compare_units_met :
    (let s := (up 4).putFlag (POS_CMP_CTL_EN 15) true
     let u := (s.tick 0).posNow
     u.runs 8 = true ∧ u.cmpDue 15 = true ∧ u.flag (POS_CMP_STAT_OWNED 15) = false)
    ∧ ((pulsing false).runs 8 = true
      ∧ (((pulsing false).pos.pulses.getD 15 []).findIdx? fun p => !p.started && decide (p.start ≤ (pulsing false).cycle + 5)) = some 0) := by
  decide +kernel

/-! ## The carrier link -/

/-- The chip with lane l in a state, with block lock. -/
def laned (m l st : Nat) : State := ((up m).put (JGL_L_STAT_STATE l) st).putFlag (JGL_L_STAT_BLOCK_LOCK l) true

/-- The payload of a TRAIN block that names a carrier and a lane of it. -/
def trainOf (carrier odd : Nat) : BitVec 64 := BitVec.ofNat 64 (0x66 + odd * 2 ^ 35 + carrier * 2 ^ 36)

theorem lane_training_met :
    (let s := (laned 4 1 1).putFlag (JGL_L_STAT_BLOCK_LOCK 1) false |>.updLane 1 fun x => { x with valid := 63 }
     let u := (s.tick 5).limitNow 1
     s.runs 9 = true ∧ u.laneDark 1 = false ∧ (u.lane 1).valid = 63 ∧ u.flag (JGL_L_STAT_BLOCK_LOCK 1) = false ∧ 1 < s.jgl.lanes.length)
    ∧ (let u := (((laned 4 1 1).tick 5).limitNow 1).headerSeen 1 true
       (trainOf 0 1).toNat % 256 = 0x66 ∧ u.flag (JGL_L_STAT_BLOCK_LOCK 1) = true ∧ u.laneState 1 = 1
       ∧ (trainOf 0 1).toNat / 2 ^ 36 % 16 = 1 / 2 ∧ (trainOf 0 1).toNat / 2 ^ 35 % 2 = 1 % 2)
    ∧ (let u := (((laned 4 31 2).tick 5).limitNow 31).headerSeen 31 true
       u.flag (JGL_L_STAT_BLOCK_LOCK 31) = true ∧ u.laneState 31 = 2 ∧ (trainOf 15 1).toNat / 2 ^ 36 % 16 = 31 / 2
       ∧ (trainOf 15 1).toNat / 2 ^ 35 % 2 = 31 % 2 ∧ (trainOf 14 1).toNat / 2 ^ 36 % 16 ≠ 31 / 2
       ∧ (trainOf 15 0).toNat / 2 ^ 35 % 2 ≠ 31 % 2)
    ∧ (let s := laned 4 31 3
       let u := ((s.tick 0).tickTo (((s.tick 0).lane 31).cleanAt + 8589935)).limitNow 31
       s.runs 9 = true ∧ (s.tick 0).laneState 31 = 3 ∧ u.laneState 31 = 3)
    ∧ (let s := (laned 4 31 4).updLane 31 fun x => { x with requests := [(6, 0), (7, 0)] }
       let v : BitVec 64 := BitVec.ofNat 64 (0x78 + 2 ^ 8 + 7 * 2 ^ 16)
       let t := ((s.tick 5).limitNow 31).headerSeen 31 true
       let u := t.drain 15
       v.toNat % 256 = 0x78 ∧ v.toNat / 2 ^ 8 % 256 = 1 ∧ t.flag (JGL_L_STAT_BLOCK_LOCK 31) = true ∧ u.laneState 31 = 4
       ∧ ((u.lane 31).requests.find? fun r => r.1 = v.toNat / 2 ^ 16 % 2 ^ 16) = some (7, 0))
    ∧ ((laned 4 31 4).tick 5).training 31 = true := by
  decide +kernel

/-- The chip with a message of carrier 15 in flight. -/
def sent (sends : Nat) : State := (laned 4 31 5).updCarrier 15 fun c => { c with msgs := [⟨1, 0xFFFF, [], sends, 5⟩], record := some 0 }

/-- A copy of a message of a kind and one data block, on the odd lane, with its CRC-32C. -/
def copyOf (kind : Nat) (data : List Nat) : MsgCopy :=
  let v := 0x55 + kind * 2 ^ 8 + (data.length + 1) * 2 ^ 16 + 3 * 2 ^ 24
  let c := crc32c (leBytes 7 (v / 256) ++ data.flatMap fun b => leBytes 8 b)
  ⟨true, BitVec.ofNat 64 v, (data.map fun b => BitVec.ofNat 64 b) ++ [c.setWidth 64]⟩

theorem messages_met :
    ((sent 3).runs 9 = true ∧ (((sent 3).carrier 15).msgs.find? fun m => m.seq = (0xFFFF#16).toNat) = some ⟨1, 0xFFFF, [], 3, 5⟩)
    ∧ (((sent 4).carrier 15).msgs.find? fun m => m.seq = (0xFFFF#16).toNat) = some ⟨1, 0xFFFF, [], 4, 5⟩
    ∧ (let u := (sent 3).tick 5
       u.goodCopy 15 0x83 2 [] = none ∧ u.goodCopy 15 0x85 2 [copyOf 0x83 [0]] = none ∧ u.goodCopy 15 0x81 9 [copyOf 0x83 [0]] = none
       ∧ u.goodCopy 15 0x83 2 [copyOf 0x83 [0x2FFFF]] = some (3, (copyOf 0x83 [0x2FFFF]).blocks)
       ∧ 2 ≤ ((copyOf 0x83 [0x2FFFF]).blocks.getD 0 0).toNat / 2 ^ 16 % 256
       ∧ u.goodCopy 15 0x83 2 [copyOf 0x83 [0x1FFFF]] = some (3, (copyOf 0x83 [0x1FFFF]).blocks)
       ∧ ((copyOf 0x83 [0x1FFFF]).blocks.getD 0 0).toNat / 2 ^ 16 % 256 < 2
       ∧ u.goodCopy 15 0x85 2 [copyOf 0x85 [7]] = some (3, (copyOf 0x85 [7]).blocks))
    ∧ (let s := laned 4 1 5
       let b := [0, 0, 0, 0, 0, 0, 0, 0]
       (s.tick 5).goodCopy 0 0x81 9 [copyOf 0x81 b] = some (3, (copyOf 0x81 b).blocks) ∧ (s.tick 5).carrierOn 0 = true)
    ∧ ((up 4).putFlag (JGL_C_STAT_UP 15) true).flag (JGL_C_STAT_UP 15) = true
    ∧ ((sent 3).carrier 15).record.isSome = true
    ∧ ((up 4).runs 8 = true ∧ (up 4).sys.channels.getLsbD 0 = true) := by
  decide +kernel

theorem lane_loss_and_tests_met :
    (let s := laned 4 0 5
     let u := s.tick 5
     s.runs 9 = true ∧ -32 < (u.lane 0).level + 32 ∧ (u.lane 0).level + 32 ≤ 32 ∧ (u.lane 0).level + -32 ≤ -32 ∧ 32 < (u.lane 0).level + 33)
    ∧ (let w := ((laned 4 0 5).tick 5).tickTo ((((laned 4 0 5).tick 5).lane 0).checkedAt + 800000)
       let u := (w.updLane 0 fun x => { x with checkedAt := w.cycle }).putFlag (JGL_L_STAT_ADAPT_ON 0)
         (2 ≤ w.laneState 0 && w.laneState 0 ≤ 5 && 1024 * w.get JGL_ADAPT_TD_MIN ≤ (0#17).toNat)
       let v := u.put (JGL_L_RXEQ_DRIFT_MAX_SEEN 0) (max (255#8).toNat (u.get (JGL_L_RXEQ_DRIFT_MAX_SEEN 0)))
       u.laneState 0 = 5 ∧ (0#8).toNat ≤ v.get JGL_ADAPT_DRIFT_MAX ∧ v.get JGL_ADAPT_DRIFT_MAX < (255#8).toNat
       ∧ v.flag (JGL_L_CTL_FREEZE_DIS 0) = false)
    ∧ ((laned 4 0 1).tick 5).laneState 0 ≠ 5
    ∧ (let s := ((laned 4 0 5).put (JGL_L_STAT_STATE 1) 6).updLane 1 fun x => { x with due := true, test := false }
       let u := s.tick 0
       s.runs 9 = true ∧ (u.lane 1).due = true ∧ (u.lane 1).test = false ∧ u.trainable 1 = true ∧ u.mayRetrain 1 = true)
    ∧ (let s := (((laned 4 0 5).put (JGL_L_STAT_STATE 1) 7).putFlag JGL_CTL_AUTO_RETRAIN true).updLane 1 fun x => { x with wanted := true }
       let u := s.tick 0
       (u.lane 1).wanted = true ∧ u.flag JGL_CTL_AUTO_RETRAIN = true ∧ u.printing 0 = false ∧ u.laneState 1 = 7
       ∧ (u.lane 1).test = false ∧ u.trainable 1 = true ∧ u.mayRetrain 1 = true)
    ∧ ((up 4).Lands .keeper (JGL_L_CTL 31) ∧ bits (0x80000000#32) 31 1 = 1)
    ∧ (let s := (((up 10).putFlag (JGL_L_PRBS_CHK 31) true).put (JGL_L_PRBS_PATTERN 31) 3).updLane 31 fun x => { x with test := true }
       s.runs 9 = true ∧ (s.lane 31).test = true ∧ followsPattern 3 (List.replicate 95 false) = true ∧ s.flag (JGL_L_PRBS_CHK 31) = true ∧ s.get (JGL_L_PRBS_PATTERN 31) ≠ 0 ∧ s.flag (JGL_L_PRBS_LOCK 31) = false)
    ∧ ((up 10).putFlag (JGL_L_PRBS_LOCK 31) true).flag (JGL_L_PRBS_LOCK 31) = true
    ∧ ((up 10).Lands .keeper (JGL_L_PRBS 31) ∧ (up 10).modeCode = 10 ∧ (0x80000000#32).getLsbD 31 = true)
    ∧ ((up 4).Lands .keeper (JGL_L_PRBS 31) ∧ (up 4).modeCode ≠ 10) := by
  unfold State.Lands
  decide +kernel

/-! ## Cameras, inspection and calibration -/

/-- A frame of a sensor: bounded, started, admitted, ended, lines entered. -/
def frame (bounded started admitted ended : Bool) (entered : Nat) : Frame where
  number := 0
  trigPos := 0
  bounded := bounded
  at_ := 0
  stamp := State.reset.now
  tag := 0
  unknown := false
  words := []
  started := started
  order := 0
  admitted := admitted
  got := entered
  buffered := 0
  entered := entered
  lines := []
  marked := []
  bad := 0
  extra := false
  truncated := false
  crcErr := false
  overflow := false
  ended := ended
  closed := false
  done := []
  lums := []
  sat := 0
  dark := 0
  fixed := 0
  geo := []
  tone := []
  takes := []

/-- A settings request. -/
def request (sending sent : Bool) (w : List (Nat × Nat × Nat)) : SetReq := ⟨1, 0, 0, [0, 0, 0, 0], 0, 0, 0, w, 0, 0, sending, sent⟩

/-- A chip with sensor 15 on port 3, virtual channel 15, and what it holds. -/
def sensing (f : Sensor → Sensor) : State :=
  let s := (((up 7).putFlag (CAM_SNS_CFG_EN 15) true).put (CAM_SNS_CFG_PORT 15) 3).put (CAM_SNS_CFG_VC 15) 15
  ((s.putFlag ⟨CAM_PORT_CTL, 15, 1⟩ true).put (CAM_SNS_CFG_TRIG 15) 15).updSensor 15 f

theorem triggers_and_strobes_met :
    (let u := (((pulsing true).put (POS_CMP_CTL_TRIG 15) 0x8000).tick 5).posNow
     u.runs 10 = true ∧ (u.drivenBy POS_CMP_CTL_TRIG).testBit 15 = true)
    ∧ (let s := sensing fun x => { x with frames := [frame false false false false 0] }
       s.runs 10 = true ∧ ((s.sensor 15).frames.find? fun (f : Frame) => !f.bounded) = some (frame false false false false 0))
    ∧ (let s := sensing fun x => { x with flashes := [(5, 7, 10)] }
       s.runs 10 = true ∧ (s.sensor 15).flashes = (5, 7, 10) :: [])
    ∧ (let s := sensing fun x => { x with strobes := [(7, 15)] }
       s.runs 10 = true ∧ (s.sensor 15).strobes = (7, 15) :: [])
    ∧ ((pulsing true).runs 8 = true
      ∧ (((pulsing true).pos.pulses.getD 15 []).findIdx? fun p => p.started
          && decide (p.start + max 1 ((pulsing true).get (POS_CMP_PULSE_WIDTH 15)) ≤ (pulsing true).cycle + 6)) = some 0)
    ∧ (let s : State := { up 7 with fir := { (up 7).fir with syncEnd := some 5 } }
       s.runs 8 = true ∧ s.fir.syncEnd = some 5 ∧ 5 ≤ s.cycle + 5) := by
  decide +kernel

theorem frame_packets_met :
    (let u := (((sensing id).put (CAM_SNS_CFG_TRIG 15) 31).tick 3).posNow
     u.runs 10 = true ∧ u.camPortOn 3 = true ∧ u.snsAt 3 15 = some 15 ∧ u.receiving 15 = none ∧ 16 ≤ u.get (CAM_SNS_CFG_TRIG 15)
       ∧ ((u.newFrame 15).sensor 15).frames.getLast?.isSome = true)
    ∧ (let u := (((up 4).putFlag ⟨CAM_PORT_CTL, 15, 1⟩ true).tick 3).posNow
       u.runs 10 = true ∧ u.camPortOn 3 = true ∧ u.snsAt 3 15 = none)
    ∧ (let u := ((sensing id).tick 3).posNow
       u.snsAt 3 15 = some 15 ∧ u.receiving 15 = none ∧ u.get (CAM_SNS_CFG_TRIG 15) < 16
       ∧ ((u.sensor 15).frames.find? fun (f : Frame) => !f.started) = none)
    ∧ (let s := sensing fun x => { x with frames := [frame true false false false 0] }
       let u := (s.tick 3).posNow
       u.camPortOn 3 = true ∧ u.snsAt 3 15 = some 15 ∧ u.get (CAM_SNS_CFG_TRIG 15) < 16 ∧ u.receiving 15 = none
       ∧ ((u.sensor 15).frames.find? fun (f : Frame) => !f.started) = some (frame true false false false 0)
       ∧ s.runs 10 = true ∧ (State.takeLines 4 (s.tick 0)).camPortOn 3 = true)
    ∧ (let s := sensing fun x => { x with frames := [frame true true true false 0] }
       let t := (s.tick 0).incSat ⟨CAM_PORT_ERR 3, 24, 8⟩
       s.runs 10 = true ∧ s.camPortOn 3 = true ∧ EccResult.corrected ≠ .failed ∧ t.snsAt 3 15 = some 15
       ∧ t.receiving 15 = some (frame true true true false 0))
    ∧ (let s := sensing fun x => { x with frames := [frame true false false false 0] }
       s.runs 10 = true ∧ (frame true false false false 0).bounded = true
       ∧ ((s.sensor 15).frames.find? fun (f : Frame) => !f.started) = some (frame true false false false 0))
    ∧ (let f := frame true true true true 1
       let s := sensing fun x => { x with frames := [f] }
       let u := (List.range (f.got - f.entered)).foldl (fun t _ => t.enterLine 15 f.number) s
       s.runs 10 = true ∧ ((s.sensor 15).frames.find? fun (f : Frame) => f.admitted && f.ended) = some f
       ∧ ((u.sensor 15).frames.find? fun (g : Frame) => g.number = f.number) = some f) := by
  decide +kernel

theorem settings_and_buses_met :
    (let s := sensing fun x => { x with reqs := [request false false []] }
     s.runs 10 = true ∧ (s.sensor 15).reqs = request false false [] :: [] ∧ (request false false []).sending = false
       ∧ ((0 : Nat) : Int) - s.setLat 15 - 1 ≤ s.latestFrame 15 ∧ s.settingsBusy (s.get (CAM_SNS_BUS_BUSPORT 15)) = false
       ∧ s.accessOn (s.get (CAM_SNS_BUS_BUSPORT 15)) = false)
    ∧ (let s := sensing fun x => { x with reqs := [request true false []] }
       (s.sensor 15).reqs = request true false [] :: [] ∧ (request true false []).sending = true ∧ (request true false []).sent = false
       ∧ (request true false []).writes = [])
    ∧ (let s := sensing fun x => { x with reqs := [request true true []] }
       (s.sensor 15).reqs = request true true [] :: [] ∧ (request true true []).sent = true ∧ ((0 : Nat) : Int) - 1 ≤ s.latestFrame 15)
    ∧ ((up 4).Lands .keeper CAM_BUS_CMD ∧ bits (0x80000000#32) 31 1 = 1)
    ∧ (let s := sensing fun x => { x with reqs := [request true false [(1, 1, 1)]] }
       (s.sensor 15).reqs = request true false [(1, 1, 1)] :: [] ∧ (request true false [(1, 1, 1)]).writes = (1, 1, 1) :: [])
    ∧ (let a : BusAccess := ⟨15, true, 4, 0x100, 0, true⟩
       let s : State := { up 4 with cam := { (up 4).cam with access := some a } }
       s.runs 10 = true ∧ s.cam.access = some a ∧ a.sensor = 15 ∧ a.started = true)
    ∧ ((up 4).putFlag (CAM_SNS_BUS_I3C 15) true).flag (CAM_SNS_BUS_I3C 15) = true
    ∧ (let s : State := { up 4 with cam := { (up 4).cam with discovering := 8 } }
       s.cam.discovering.getLsbD 3 = true ∧ (bitList s.cam.discovering).isEmpty = false) := by
  unfold State.Lands
  decide +kernel

theorem inspection_and_calibration_met :
    ((running.tick 1000000).params = some ⟨0, 0, 256, 0⟩ ∧ (running.tick 1000000).clockRuns = true ∧ (⟨0, 0, 256, 0⟩ : Anchor).p ≠ 0 ∧ running.sys.inspection = true
      ∧ (running.tick 1000000).camLineTime ⟨0, 0, 256, 0⟩ running.fir.camNext ≤ running.cycle + 1000000)
    ∧ (let x : PageView := ⟨9, 1, 0, 2 ^ 32, 100, 10, []⟩
       let s : State := { withPage 4 .stored with ins := { (withPage 4 .stored).ins with waiting := [9], views := [x] } }
       s.runs 10 = true ∧ (s.ins.waiting.find? fun k => s.nameOf k = 9) = some 9 ∧ s.page? 9 = some (page .stored)
       ∧ (s.ins.views.find? fun (v : PageView) => v.page = 9) = some x)
    ∧ (let r : CalRun := ⟨6, true, 0, false, false, 0, []⟩
       let s : State := { up 11 with cal := { (up 11).cal with run := some r } }
       s.cal.run = some r ∧ r.aborting = false)
    ∧ (let r : CalRun := ⟨1, false, 0, false, true, 0, []⟩
       let s : State := { up 11 with cal := { (up 11).cal with run := some r } }
       s.cal.run = some r ∧ r.aborting = true)
    ∧ (let s := ((up 5).put (CAL_TMP_CTL_POLICY 3) 2).putFlag (CAL_TMP_STAT_DUE 3) true
       s.modeCode = 5 ∧ s.flag SYS_MODE_TRANSITION = false ∧ s.cmd.table = [] ∧ s.cal.run = none ∧ s.temperDue ≠ []) := by
  decide +kernel

/-! ## Power, arbiters, locks and barge channels -/

theorem power_met :
    (let s := (((({ up 4 with pwr := { (up 4).pwr with waiting := 0x8000 } } : State).putFlag SAF_STAT_START_OK true).put
        PWR_SUP_BUDGET_VALUE 0xFFFF).put PWR_SUP_SLEW_VALUE 0xFFFF).put PWR_SUP_USED_VALUE 0
     let u := s.every .admission 80000
     s.runs 0 = true ∧ bitList u.pwr.waiting = 15 :: [] ∧ u.flag SAF_STAT_START_OK = true
       ∧ u.get PWR_SUP_USED_VALUE + 10 * u.get (PWR_C_CLAIM_CLAIM_CA 15) ≤ u.get PWR_SUP_BUDGET_VALUE
       ∧ u.rampSum + u.get (PWR_C_RAIL_RAMP_MA_MS 15) ≤ u.get PWR_SUP_SLEW_VALUE)
    ∧ (let s := ((({ up 4 with pwr := { (up 4).pwr with waiting := 0x8000 } } : State).putFlag SAF_STAT_START_OK true).put
         PWR_SUP_BUDGET_VALUE 0).put (PWR_C_CLAIM_CLAIM_CA 15) 1
       let u := s.every .admission 80000
       bitList u.pwr.waiting = 15 :: [] ∧ u.flag SAF_STAT_START_OK = true
       ∧ u.get PWR_SUP_BUDGET_VALUE < u.get PWR_SUP_USED_VALUE + 10 * u.get (PWR_C_CLAIM_CLAIM_CA 15))
    ∧ (let s := ((({ up 4 with pwr := { (up 4).pwr with waiting := 0x8000 } } : State).putFlag SAF_STAT_START_OK true).put
         PWR_SUP_SLEW_VALUE 0).put (PWR_C_RAIL_RAMP_MA_MS 15) 1
       let u := s.every .admission 80000
       bitList u.pwr.waiting = 15 :: [] ∧ u.flag SAF_STAT_START_OK = true
       ∧ u.get PWR_SUP_SLEW_VALUE < u.rampSum + u.get (PWR_C_RAIL_RAMP_MA_MS 15))
    ∧ (let u := (({ up 4 with pwr := { (up 4).pwr with waiting := 1 } } : State).every .admission 80000)
       bitList u.pwr.waiting = 0 :: [] ∧ u.flag SAF_STAT_START_OK = false)
    ∧ (let u := ((({ up 5 with pwr := { (up 5).pwr with setWait := 0x8000 } } : State).put PWR_SUP_SLEW_VALUE 0xFFFF).every .admission 80000)
       u.pwr.waiting = 0 ∧ bitList u.pwr.setWait = 15 :: []
       ∧ u.rampSum + u.get (PWR_C_RAIL_RAMP_MA_MS 15) ≤ u.get PWR_SUP_SLEW_VALUE)
    ∧ (up 4).carrierOn 1 = true
    ∧ (((up 4).updCarrier 15 fun c => { c with leaving := true }).carrier 15).leaving = true
    ∧ (let s := up 4
       s.runs 0 = true ∧ List.replicate 12 (40#8) ≠ [] ∧ (List.replicate 12 (40#8)).length ≤ 12
       ∧ (∀ b ∈ List.replicate 12 (40#8), b.toInt < s.get PWR_THERM_WARN ∧ b.toInt < s.get PWR_THERM_STOP ∧ b.toInt < s.get PWR_THERM_CRIT)
       ∧ s.thermal = false ∧ s.pwr.warnLogic = false ∧ s.pwr.stopLogic = false ∧ s.pwr.critLogic = false
       ∧ s.pwr.warnStack = false ∧ s.pwr.stopStack = false ∧ s.pwr.critStack = false
       ∧ (40#8).toInt < s.get PWR_HBM_THERM_WARN ∧ (40#8).toInt < s.get PWR_HBM_THERM_STOP ∧ (40#8).toInt < s.get PWR_HBM_THERM_CRIT)
    ∧ (up 10).Lands .keeper PWR_ISL_CTL := by
  unfold State.Lands
  decide +kernel

theorem arbiters_met :
    ((up 4).runs (arbIsland 3) = true ∧ (up 4).runs (arbIsland 0) = true)
    ∧ (let s := ((up 4).updArbiter 0 fun x => { x with holds := [⟨8, 31, 0, 2⟩] }).setAct (ARB_PORT_CFG_CLASS 0 8).addr
        (withBits ((up 4).act (ARB_PORT_CFG_CLASS 0 8).addr) (ARB_PORT_CFG_CLASS 0 8).lo 2 2)
       s.flag (ARB_PORT_CFG_CUT 0 8) = false ∧ 8 < arbPorts 0
       ∧ ((s.arbiter 0).holds.find? fun h => h.path = 31 && s.portClass 0 h.port = 2) = some ⟨8, 31, 0, 2⟩) := by
  decide +kernel

theorem locks_met :
    ((up 4).Lands .keeper ARB_HL_REQ ∧ bits (0xFF#32) 4 4 ≠ 0 ∧ (up 4).lockWaits (hostReq (bits (0xFF#32) 4 4)) = false
      ∧ (up 4).lockOrder (16 + bits (0xFF#32) 0 4) (hostReq (bits (0xFF#32) 4 4)) = false
      ∧ ((up 4).lock (16 + bits (0xFF#32) 0 4)).holder = none)
    ∧ ((holding 17 15).lockWaits (hostReq 15) = false ∧ (holding 17 15).lockOrder (16 + bits (0xF1#32) 0 4) (hostReq (bits (0xF1#32) 4 4)) = true)
    ∧ ((holding 17 15).Lands .keeper ARB_HL_REQ ∧ ((holding 17 15).lock (16 + bits (0xF1#32) 0 4)).holder = some (hostReq (bits (0xF1#32) 4 4)))
    ∧ (let s : State := { up 4 with arb := { (up 4).arb with locks :=
         ((up 4).arb.locks.set 31 ⟨some (hostReq 1), false, [], 1⟩).set 30 ⟨some (hostReq 2), false, [hostReq 1], 2⟩ } }
       s.runs 5 = true ∧ (s.lock 31).holder = some (hostReq 1) ∧ s.lockWaits (hostReq 1) = true
       ∧ s.firstWaiter = some (hostReq 1, s.since (.lockWait 1))
       ∧ s.Lands .keeper ARB_HL_REQ ∧ bits (0x1E#32) 4 4 ≠ 0 ∧ s.lockWaits (hostReq (bits (0x1E#32) 4 4)) = true
       ∧ (s.lock (16 + bits (0x1E#32) 0 4)).holder ≠ some (hostReq (bits (0x1E#32) 4 4))
       ∧ (s.lock (16 + bits (0x1E#32) 0 4)).waiters.contains (hostReq (bits (0x1E#32) 4 4)) = true)
    ∧ ((holding 17 15).lockWaits (hostReq (bits (0x21#32) 4 4)) = false
      ∧ (holding 17 15).lockOrder (16 + bits (0x21#32) 0 4) (hostReq (bits (0x21#32) 4 4)) = false
      ∧ ((holding 17 15).lock (16 + bits (0x21#32) 0 4)).holder ≠ none
      ∧ ((holding 17 15).lock (16 + bits (0x21#32) 0 4)).holder ≠ some (hostReq (bits (0x21#32) 4 4))
      ∧ ((holding 17 15).lock (16 + bits (0x21#32) 0 4)).waiters.contains (hostReq (bits (0x21#32) 4 4)) = false) := by
  unfold State.Lands
  decide +kernel

/-- A barge channel in a state, at depth d, with the instruction of four words at its PC. -/
def barging (m st d : Nat) (w : List Word) : State :=
  let s := ((up m).put (BRG_CH_STAT_STATE 31) st).put (BRG_CH_STAT_DEPTH 31) d
  (List.range 4).foldl (fun (s : State) i => s.setAct (0xA0000 + 0x1000 * 31 + 4 * i) (w.getD i 0)) s

theorem barge_commands_met :
    ((barging 4 3 0 []).Lands .keeper (BRG_CH_CTL 31) ∧ (barging 4 3 0 []).bargeRuns 31 = false ∧ 3 < (barging 4 3 0 []).modeCode)
    ∧ ((barging 4 5 0 []).Lands .keeper (BRG_CH_CTL 31) ∧ (barging 4 5 0 []).bargeState 31 = 5)
    ∧ ((barging 4 2 0 []).Lands .keeper (BRG_CH_CTL 31) ∧ (barging 4 2 0 []).bargeRuns 31 = true)
    ∧ (up 4).Lands .keeper (BRG_CH_SEM_ADD 31) := by
  unfold State.Lands
  decide +kernel

theorem barge_control_met :
    (barging 4 1 0 [0]).Executes 31 0
    ∧ ((barging 4 1 3 [2]).Executes 31 2 ∧ (barging 4 1 3 [2]).get (BRG_CH_STAT_DEPTH 31) < 4)
    ∧ ((barging 4 1 1 [3]).Executes 31 3 ∧ (barging 4 1 1 [3]).get (BRG_CH_STAT_DEPTH 31) ≠ 0)
    ∧ ((barging 4 1 0 [0x1F]).Executes 31 15 ∧ (barging 4 1 0 [0x1F]).get (BRG_CH_STAT_DEPTH 31) = 0)
    ∧ (barging 4 1 0 [0x44]).Executes 31 4
    ∧ ((barging 4 1 4 [2]).Executes 31 2 ∧ 4 ≤ (barging 4 1 4 [2]).get (BRG_CH_STAT_DEPTH 31))
    ∧ ((barging 4 1 0 [3]).Executes 31 3 ∧ (barging 4 1 0 [3]).get (BRG_CH_STAT_DEPTH 31) = 0)
    ∧ ((barging 4 1 1 [15]).Executes 31 15 ∧ (barging 4 1 1 [15]).get (BRG_CH_STAT_DEPTH 31) ≠ 0)
    ∧ (let s := barging 4 1 0 [6]
       let w := s.bargeWord 31 (s.bargePc 31)
       s.runs 3 = true ∧ s.bargeState 31 = 1 ∧ (s.barge 31).moving = false ∧ bits (w 0) 0 4 ∉ bargeOps
         ∧ bargeValid (w 0) (w 1) (w 2) (w 3) = false)
    ∧ ((barging 4 2 0 [0x04]).runs 3 = true ∧ (barging 4 2 0 [0x04]).bargeState 31 = 2)
    ∧ ((barging 4 2 0 [0x04]).put (BRG_CH_CFG_WAIT_MS 31) 1).get (BRG_CH_CFG_WAIT_MS 31) ≠ 0 := by
  unfold State.Executes
  decide +kernel

/-- A MOVE of four bytes from host memory to register CAL_K, or one byte short. -/
def move (len : Nat) : List Word := [BitVec.ofNat 32 (1 + 2 ^ 5 + len * 2 ^ 8), 0, BitVec.ofNat 32 (CAL_K % 2 ^ 16 * 2 ^ 16), BitVec.ofNat 32 (CAL_K / 2 ^ 16)]

theorem barge_data_met :
    (let s := barging 4 1 0 (move 4)
     s.Executes 31 1 ∧ ((s.moveOf 31).source.aligned (s.moveOf 31).src (s.moveOf 31).len
        && (s.moveOf 31).dest.aligned (s.moveOf 31).dst (s.moveOf 31).len) = true)
    ∧ (let s := barging 4 1 0 (move 3)
       s.Executes 31 1 ∧ ((s.moveOf 31).source.aligned (s.moveOf 31).src (s.moveOf 31).len
        && (s.moveOf 31).dest.aligned (s.moveOf 31).dst (s.moveOf 31).len) = false)
    ∧ (let s := (barging 4 1 0 (move 4)).updBarge 31 fun b => { b with moving := true }
       s.runs 3 = true ∧ s.bargeState 31 = 1 ∧ (s.barge 31).moving = true ∧ s.firstFailure 31 (s.moveOf 31) none = none
       ∧ s.sourceReady (s.moveOf 31) = true ∧ s.destReady (s.moveOf 31) = true ∧ s.firstFailure 31 (s.moveOf 31) (some 0) = some (0, 3, false))
    ∧ (let s := barging 4 1 0 [5]
       s.Executes 31 5 ∧ ((s.bargeWord 31 (s.bargePc 31)) 0).getLsbD 4 = false ∧ ((s.bargeWord 31 (s.bargePc 31)) 0).getLsbD 6 = false
       ∧ bits ((s.bargeWord 31 (s.bargePc 31)) 1) 0 2 = 0 ∧ s.bargePc 31 < 255 ∧ (s.barge 31).due = none ∧ (s.barge 31).stop = none) := by
  unfold State.Executes
  decide +kernel

/-! ## Network time and safety -/

/-- A master. -/
def master : AnnounceSet := ⟨128, 248, 0xFE, 0, 128, 1, 0, 1⟩

/-- The head of a message the ports of such a chip hear, from the master. -/
def heard : PtpHead := ⟨none, 0, 0, 1, 7⟩

/-- A chip in a TIM mode, with port 1 enabled, its link up, and a best master or none. -/
def timed (mode : Nat) (best : Option AnnounceSet) : State :=
  (((((up 4).put TIM_CTL_MODE mode).put TIM_CTL_SERVO_SEL 1).putFlag (TIM_P_CFG_EN 1) true).putFlag (TIM_P_STAT_LINK 1) true).updTport 1
    fun x => { x with masters := best.toList, best := best, path := true }

theorem time_messages_met :
    (((timed 1 none).tick 5).hears 1 heard = true ∧ ((timed 1 none).tick 5).clockPort 1 = true)
    ∧ ((timed 1 (some master)).runs 11 = true ∧ ((timed 1 (some master)).tport 1).best = some master)
    ∧ (let s := (timed 1 (some master)).updTport 1 fun x => { x with request := some (7, 100), sync := some (3, 4) }
       let t := s.putFlag (TIM_P_CFG_P2P 1) true
       (s.tick 5).hears 1 heard = true ∧ ((s.tick 5).tport 1).request = some (heard.seq, 100) ∧ s.flag (TIM_P_CFG_P2P 1) = false
       ∧ ((s.tick 5).tport 1).sync = some (3, 4) ∧ (s.tick 5).clockPort 1 = true ∧ (s.tick 5).fromBest 1 heard = true
       ∧ (t.tick 5).hears 1 heard = true ∧ ((t.tick 5).tport 1).request = some (heard.seq, 100) ∧ t.flag (TIM_P_CFG_P2P 1) = true)
    ∧ ((timed 1 none).flag (TIM_P_STAT_LINK 1) ≠ false ∧ (timed 1 none).flag (TIM_P_STAT_LINK 0) ≠ true) := by
  decide +kernel

theorem time_answers_met :
    (let s := (timed 1 none).putFlag (TIM_P_CFG_P2P 1) true
     s.runs 11 = true ∧ s.hears 1 heard = true ∧ s.portUp 1 = true ∧ s.peerPort 1 = true)
    ∧ (let s := (timed 1 (some master)).putFlag (TIM_P_CFG_P2P 1) false
       s.portUp 1 = true ∧ s.flag (TIM_P_CFG_P2P 1) = false ∧ s.clockPort 1 = true ∧ (s.tport 1).best.isSome = true)
    ∧ (let s := ((timed 3 none).putFlag (TIM_P_CFG_EN 0) true).putFlag (TIM_P_STAT_LINK 0) true
       s.runs 11 = true ∧ s.get TIM_CTL_MODE = 3 ∧ s.portUp 1 = true ∧ s.portUp (1 - 1) = true
       ∧ s.vlanOk 1 heard.vlan = true ∧ (kindPeer (.event true) && s.flag (TIM_P_CFG_P2P 1)) = false
       ∧ kindEvent (.sync true) = true ∧ kindEvent .followUp = false)
    ∧ ((timed 1 none).runs 11 = true ∧ (0#32).toNat = (timed 1 none).get (TIM_P_IP4_ADDR 1))
    ∧ ((timed 1 none).vlanOk 1 none = true ∧ (BitVec.ofNat 128 ((timed 1 none).linkLocal 1)).toNat = (timed 1 none).linkLocal 1)
    ∧ ((up 4).Lands .keeper TIM_CONV_HI
      ∧ (let u := (up 4).writeWord TIM_CONV_HI 0
         let y := u.getPair TIM_CONV_LO TIM_CONV_HI
         u.tim.since ≤ y ∧ u.cycle ≤ y + 2 ^ 30 ∧ y ≤ u.cycle + 2 ^ 20)) := by
  unfold State.Lands
  decide +kernel

/-- A Sync and what follows it, on a port of state 9 or another, that the servo follows or does not. -/
def synced (path : Bool) (sel : Nat) : State :=
  (((timed 2 (some master)).put (TIM_P_STAT_PORT_STATE 1) 9).put TIM_CTL_SERVO_SEL sel).updTport 1 fun x => { x with path := path }

theorem sync_samples_met :
    ((synced false 1).tick 5).hears 1 heard = true ∧ ((synced false 1).tick 5).clockPort 1 = true
    ∧ ((synced false 1).tick 5).fromBest 1 heard = true
    ∧ (let r := (((synced false 1).tick 5).incWrap (TIM_P_STAT_SYNC_RX 1)).rxStamp 1
       (r.2.tport 1).path = false ∧ (r.2.tport 1).best = some master)
    ∧ (let r := (((synced true 1).tick 5).incWrap (TIM_P_STAT_SYNC_RX 1)).rxStamp 1
       let w := (r.2.updTport 1 fun q => { q with sync := some (0, r.1) }).put (TIM_P_OFFSET_NS 1) 0
       ((synced true 1).tick 5).hears 1 heard = true ∧ (r.2.tport 1).path = true ∧ w.get (TIM_P_STAT_PORT_STATE 1) = 9 ∧ 1 = w.servoPort)
    ∧ (let r := (((synced true 0).tick 5).incWrap (TIM_P_STAT_SYNC_RX 1)).rxStamp 1
       let w := (r.2.updTport 1 fun q => { q with sync := some (0, r.1) }).put (TIM_P_OFFSET_NS 1) 0
       ((synced true 0).tick 5).clockPort 1 = true ∧ (r.2.tport 1).path = true ∧ w.get (TIM_P_STAT_PORT_STATE 1) = 9 ∧ 1 ≠ w.servoPort) := by
  decide +kernel

/-- A chip whose safety island is as given. -/
def guarded (m : Nat) (f : Saf → Saf) : State := let s := up m; { s with saf := f s.saf }

theorem estop_and_diagnostics_met :
    (let s := guarded 5 fun x => { x with okA := true, okB := true }
     (if (1 : Nat) = 0 then s.saf.okA else s.saf.okB) = true ∧ s.modeCode ≠ 0 ∧ s.saf.proof.head? ≠ some 2
       ∧ s.flag SAF_FAULT_ESTOP_DISC = false)
    ∧ (let s := guarded 5 fun x => { x with okA := true, okB := false, bothLow := false }
       (if (1 : Nat) = 0 then s.saf.okA else s.saf.okB) = false ∧ s.modeCode ≠ 0 ∧ s.saf.proof.head? ≠ some 2 ∧ s.saf.bothLow = false
       ∧ s.saf.okA ≠ s.saf.okB ∧ s.flag SAF_FAULT_ESTOP_DISC = false)
    ∧ ((up 5).modeCode ≠ 0 ∧ (up 5).saf.disagree < 2)
    ∧ (let s := guarded 5 fun x => { x with disagree := 2 }
       s.modeCode ≠ 0 ∧ s.saf.disagree = 2 ∧ s.saf.proof.head? ≠ some 3)
    ∧ (let s : State := { up 5 with cycle := 20000, timers := [(.output 1, 12000)] }
       let t : State := { up 5 with cycle := 20000, timers := [(.output 1, 12001)] }
       true ≠ (s.putFlag SAF_IN_RB_B true).flag SAF_STAT_EN_B ∧ (s.putFlag SAF_IN_RB_B true).since (.output 1) + 8000 ≤ s.cycle
       ∧ s.cycle < (t.putFlag SAF_IN_RB_B true).since (.output 1) + 8000 ∧ false = (s.putFlag SAF_IN_RB_B false).flag SAF_STAT_EN_B)
    ∧ (let s := (up 5).putFlag SAF_P_EDM_EN true
       let u (l : Bool) := (s.waitFor (.output 1) (s.get SAF_P_ESTOP_EDM_MS * 800000)).showFeedback 1 l
       s.modeCode ≠ 0 ∧ s.flag SAF_P_EDM_EN = true
       ∧ (u (s.flag SAF_P_EDM_POL_B)).closed 1 (s.flag SAF_P_EDM_POL_B) = (u (s.flag SAF_P_EDM_POL_B)).commanded 1
       ∧ (u (!s.flag SAF_P_EDM_POL_B)).closed 1 (!s.flag SAF_P_EDM_POL_B) ≠ (u (!s.flag SAF_P_EDM_POL_B)).commanded 1) := by
  decide +kernel

theorem safety_conditions_met :
    ((up 4).get DBG_STAT_HALTED = 0 ∧ ¬((up 4).modeCode = 1 ∧ (up 4).sys.step ≤ 7) ∧ (up 4).saf.proof.head? ≠ some 4)
    ∧ (1 ≤ (13 : Fin 14).val ∧ ((13 : Fin 14).val ≠ 3 ∨ (up 4).saf.proof.head? ≠ some 5) ∧ ((3 : Fin 14).val ≠ 3 ∨ (up 4).saf.proof.head? ≠ some 5))
    ∧ (hot.updCarrier 0 fun c => { c with enabled := true }).flag SAF_STAT_START_OK = true
    ∧ ((hot.updCarrier 0 fun c => { c with enabled := true }).carrier 0).enabled = true
    ∧ hot.flag SAF_STAT_EN_A = true ∧ hot.flag SAF_STAT_EN_B = true
    ∧ (up 4).modeCode ≠ 0
    ∧ (let u := (((up 4).put SAF_P_PROOF_PROOF_H 2).every .proofHour 2880000000000).incSat SAF_PROOF_HOURS_HOURS
       u.get SAF_PROOF_HOURS_HOURS < u.get SAF_P_PROOF_PROOF_H ∧ u.flag SAF_STAT_PROOF_DUE = false)
    ∧ (let u := (((up 4).put SAF_P_PROOF_PROOF_H 1).every .proofHour 2880000000000).incSat SAF_PROOF_HOURS_HOURS
       u.get SAF_P_PROOF_PROOF_H ≤ u.get SAF_PROOF_HOURS_HOURS ∧ u.flag SAF_STAT_PROOF_DUE = false)
    ∧ (let s := guarded 2 fun x => { x with clock := 0x800 }
       s.saf.clock.getLsbD 11 = true ∧ s.modeCode = 2) := by
  decide +kernel

theorem safe_stop_and_start_test_met :
    (guarded 2 fun x => { x with stopping := true }).saf.stopping = true
    ∧ (guarded 2 fun x => { x with waiting := true }).saf.waiting = true
    ∧ (let s := (guarded 4 fun x => { x with test := 3 }).putFlag SAF_P_EDM_EN false
       s.saf.test = 3 ∧ s.flag SAF_P_EDM_EN = false ∧ s.saf.proofArmed = false)
    ∧ (let s := (guarded 4 fun x => { x with test := 1 }).putFlag SAF_P_EDM_EN false
       s.saf.test = 1 ∧ s.flag SAF_P_EDM_EN = false ∧ s.saf.proofArmed = false)
    ∧ (let s := (guarded 4 fun x => { x with test := 2 }).putFlag SAF_P_EDM_EN false
       s.saf.test = 2 ∧ s.flag SAF_P_EDM_EN = false)
    ∧ (let s := (guarded 4 fun x => { x with test := 4 }).putFlag SAF_P_EDM_EN false
       s.saf.test = 4 ∧ s.flag SAF_P_EDM_EN = false) := by
  decide +kernel

/-! ## The host attachment and the debug port -/

theorem host_attachment_met :
    ((up 4).Lands .keeper EVT_RAISE ∧ bits (0x100#32) 8 1 = 1 ∧ (up 4).Lands .keeper (EVT_MASK 7))
    ∧ ((up 4).runs 3 = true ∧ (up 4).memEnabled = true ∧ (up 4).evt.msixEnable = false)
    ∧ (let s : State := ({ up 4 with evt := { (up 4).evt with msixEnable := true } } : State)
       let t := ((s.putFlag (pbaBit 255) true).putFlag (maskBit 255) false).put (EVT_HOLD_HOLDOFF_US 7) 0
       let u := t.setReg (msixControl 255) (t.reg (msixControl 255) &&& 0xFFFFFFFE#32)
       t.runs 3 = true ∧ u.flag (pbaBit 255) = true ∧ u.evt.msixEnable = true ∧ u.evt.functionMask = false ∧ u.flag (maskBit 255) = false
       ∧ u.msixMasked 255 = false ∧ u.get (EVT_HOLD_HOLDOFF_US (255 / 32)) = 0)
    ∧ (up 4).flag (pbaBit 255) = false
    ∧ ((({ up 4 with evt := { (up 4).evt with holds := [(255, true, 6)] } } : State).evt.holds.find? fun h => h.1 = 255)
        = some (255, true, 6))
    ∧ (255 : BitVec 8) ≠ 0 ∧ ({ up 4 with running := 0xFF7 } : State).runs 3 = false ∧ (0#12).toNat < 4 := by
  unfold State.Lands
  decide +kernel

theorem register_accesses_met :
    (up 4).Lands .keeper ((BitVec.ofNat 25 (CAL_K + 3)).toNat / 4 * 4) ∧ (up 4).runs 3 = true ∧ (up 4).memEnabled = true ∧ (0xE#4) ≠ 0xF
    ∧ ((up 4).reaches .crew = true ∧ (rowOf (SYS_MODE / 4 * 4)).isSome = true ∧ ((up 4).keeperRights .crew || crewSees SYS_MODE) = true
      ∧ (up 4).runs (islandOf SYS_MODE) = true ∧ (up 4).debugReaches SYS_MODE false = true)
    ∧ (0x7FF#25).toNat / 4 * 4 < 0x800 := by
  unfold State.Lands
  decide +kernel

theorem scan_met :
    ((up 3).dbg.scan = false ∧ (up 3).modeCode = 3) ∧ ((up 4).dbg.scan = false
    ∧ ¬((up 4).modeCode = 1 ∨ (up 4).modeCode = 2 ∨ (up 4).modeCode = 3) ∧ (up 4).runs 2 = true) := by
  decide +kernel

/-- A chip at a debug level, with a live challenge. -/
def unlocked (m level : Nat) : State := ((up m).put DBG_STAT_LEVEL level).putFlag DBG_STAT_CHAL_VALID true

theorem debug_met :
    ((unlocked 4 2).Lands .debug DBG_CTL ∧ (unlocked 4 2).get DBG_STAT_LEVEL ≠ 0 ∧ (unlocked 4 2).flag DBG_STAT_REFUSING = false
      ∧ (unlocked 4 2).flag DBG_STAT_CHAL_VALID = true ∧ (unlocked 4 2).cycle < (unlocked 4 2).since .challenge + 8000000000)
    ∧ ((up 4).Lands .debug DBG_CTL ∧ (up 4).get DBG_STAT_LEVEL = 0)
    ∧ ((unlocked 4 2).Lands .debug (DBG_CORE_CTL 1) ∧ (unlocked 4 2).mayHalt = true ∧ (unlocked 4 2).flag (haltedBit 1) = false)
    ∧ (let s := (unlocked 4 2).putFlag (haltedBit 1) true
       s.Lands .debug (DBG_CORE_CTL 1) ∧ s.flag (haltedBit 1) = true)
    ∧ (let s := (unlocked 4 2).putFlag (DBG_BP_EN 1 7) true
       s.runs 2 = true ∧ s.flag (DBG_BP_EN 1 7) = true ∧ 2 ≤ s.get DBG_STAT_LEVEL ∧ s.flag (haltedBit 1) = false ∧ s.mayHalt = true)
    ∧ (let s := (((unlocked 4 2).putFlag (DBG_WP_CFG_EN 1 3) true).putFlag (DBG_WP_CFG_WRITE 1 3) true).put (DBG_WP_CFG_LEN 1 3) 4
       s.flag (DBG_WP_CFG_EN 1 3) = true ∧ (s.reg (DBG_WP_ADDR 1 3)).toNat ≤ (4#32).toNat
       ∧ (4#32).toNat ≤ (s.reg (DBG_WP_ADDR 1 3)).toNat + s.get (DBG_WP_CFG_LEN 1 3) ∧ s.flag (DBG_WP_CFG_WRITE 1 3) = true)
    ∧ ((unlocked 4 2).Lands .debug DBG_MEM_CMD ∧ (0x80000000#32).getLsbD 31 = true ∧ (0x80000000#32).getLsbD 30 = false
      ∧ (0x80000000#32).getLsbD 29 = false ∧ (0xC0000000#32).getLsbD 30 = true ∧ (0xC0000000#32).getLsbD 29 = false
      ∧ 2 ≤ ((unlocked 4 2).putRow DBG_MEM_CMD (0xC0000000#32 &&& 0x7FFFFFFF#32)).get DBG_STAT_LEVEL) := by
  unfold State.Lands
  decide +kernel

theorem debug_access_met :
    (let dr : BitVec 64 := 1
     let off := 0x400000 + 4 * bits (dr.setWidth 32) 2 20
     (up 4).dbg.scan = false ∧ dr.getLsbD 0 = true ∧ dr.getLsbD 1 = false ∧ (rowOf off).isSome = true ∧ (up 4).runs (islandOf off) = true
       ∧ (up 4).debugReaches off false = true)
    ∧ (let dr : BitVec 64 := 7
       let off := 0x400000 + 4 * bits (dr.setWidth 32) 2 20
       dr.getLsbD 0 = true ∧ dr.getLsbD 1 = true ∧ (up 4).Lands .debug off)
    ∧ ((0 : BitVec 64).getLsbD 0 = false ∧ (up 4).dbg.scan = false)
    ∧ (let dr : BitVec 64 := BitVec.ofNat 64 (1 + DBG_MEM_DATA % 0x400000)
       let off := 0x400000 + 4 * bits (dr.setWidth 32) 2 20
       dr.getLsbD 0 = true ∧ dr.getLsbD 1 = false ∧ (rowOf off).isSome = true ∧ (up 4).runs 2 = true ∧ (up 4).debugReaches off false = false) := by
  unfold State.Lands
  decide +kernel

end Sys2Proof.Tests
end

section
/-! The statements on registers: their values right after a cold reset, what stands against an access, and what a plain write leaves. -/

namespace Sys2Proof.Machine

open Sys2Proof

/-! ## The state right after a cold reset -/

/-- After a cold reset every register holds its reset value (R8). -/
theorem State.reg_reset (a : Nat) : State.reset.reg a = resetVal a := rfl

/-- Both outputs low is a state the gate of R436 permits. -/
theorem State.gated_of_low {s : State} (ha : s.flag SAF_STAT_EN_A = false) (hb : s.flag SAF_STAT_EN_B = false) : s.Gated :=
  fun _ => ⟨fun h => absurd (ha.symm.trans h) (by decide), fun h => absurd (hb.symm.trans h) (by decide)⟩

/-- KIND of shadow set n of a block (R41). -/
def shdKind : ShdBlk → Nat → Nat
  | .arb, _ => 6
  | .cam, n => if n < 16 then 5 else 3
  | _, _ => 3

theorem shdKind_lt (b : ShdBlk) (n : Nat) : shdKind b n < 8 := by
  unfold shdKind
  repeat' split
  all_goals omega

/-- SHD_STAT of a set shows its KIND and nothing else. -/
theorem resetVal_shdStat (b : ShdBlk) (n : Nat) (h : n < shdCount b) :
    resetVal (shdStat b n) = BitVec.ofNat 32 (shdKind b n * 2 ^ 24) := by
  cases b <;> simp only [shdCount, shdStat, shdKind, BRG_SHD_STAT, ARB_SHD_STAT, ASM_SHD_STAT, FIR_SHD_STAT, CAM_SHD_STAT] at h ⊢
  case brg =>
    rw [resetVal, if_neg (by omega), if_pos (by omega)]
    rfl
  case arb =>
    rw [resetVal, if_pos (by omega), if_neg (by omega), if_pos (by omega)]
    rfl
  case asm =>
    rw [resetVal, if_neg (by omega), if_neg (by omega), if_pos (by omega)]
    rfl
  case fir =>
    rw [resetVal, if_neg (by omega), if_neg (by omega), if_neg (by omega), if_pos (by omega)]
    rfl
  case cam =>
    rw [resetVal, if_neg (by omega), if_neg (by omega), if_neg (by omega), if_neg (by omega)]
    split
    case isTrue hn =>
      rw [if_pos (by omega)]
      rfl
    case isFalse hn =>
      obtain rfl : n = 16 := by omega
      rfl

/-- LK_STAT of a lock shows its arbiter and its rank (R384), and nothing else. -/
theorem resetVal_lkStat (i : Nat) (h : i < 32) :
    resetVal (ARB_LK_STAT i) = BitVec.ofNat 32 (lockArbiter i * 2 ^ 28 + lockRank i * 2 ^ 24) := by
  have hi : (0xC0080 + 0x4 * i - 0xC0080) / 4 = i := by omega
  rw [ARB_LK_STAT, resetVal, if_pos (by omega), if_pos (by omega), hi]

theorem lockRank_lt (i : Nat) : lockRank i < 16 := by
  unfold lockRank
  repeat' split
  all_goals omega

theorem lockArbiter_lt (i : Nat) : lockArbiter i < 4 := by
  unfold lockArbiter
  repeat' split
  all_goals omega

/-- A register that no rule of its own gives another value resets to its row's Reset column. -/
theorem resetVal_row {off : Nat} {r : RegRow} (h : rowOf off = some r)
    (hr : off < 0x30000 ∨ (0x40000 ≤ off ∧ off < 0x80000) ∨ (0x100000 ≤ off ∧ off < 0x180000) ∨ (0x240000 ≤ off ∧ off < 0x280000)
      ∨ (0x2C0000 ≤ off ∧ off < 0x300000) ∨ 0x340000 ≤ off) :
    resetVal off = BitVec.ofNat 32 r.reset := by
  rw [resetVal, if_neg (by omega), if_neg (by omega), if_neg (by omega), if_neg (by omega), if_neg (by omega), if_neg (by omega),
    if_neg (by omega), if_neg (by omega), if_neg (by omega), resetVal.rowReset, h]

theorem State.get_reset_shdKind (b : ShdBlk) (n : Nat) (h : n < shdCount b) :
    State.reset.get ⟨shdStat b n, 24, 3⟩ = shdKind b n := by
  have hk := shdKind_lt b n
  rw [State.get, State.reg_reset, resetVal_shdStat b n h, bits, BitVec.toNat_ofNat]
  dsimp only
  omega

theorem State.get_reset_lockRank (i : Nat) (h : i < 32) : State.reset.get (ARB_LK_STAT_RANK i) = lockRank i := by
  have hr := lockRank_lt i
  have ha := lockArbiter_lt i
  rw [State.get, State.reg_reset, resetVal_lkStat i h, bits, BitVec.toNat_ofNat]
  dsimp only
  omega

theorem State.flag_reset_lockHeld (i : Nat) (h : i < 32) : State.reset.flag (ARB_LK_STAT_HELD i) = false := by
  have hr := lockRank_lt i
  have ha := lockArbiter_lt i
  have hz : State.reset.get (ARB_LK_STAT_HELD i) = 0 := by
    rw [State.get, State.reg_reset, resetVal_lkStat i h, bits, BitVec.toNat_ofNat]
    dsimp only
    omega
  simp [State.flag, hz]

/-- The registers that a cold reset's rules name one by one (R48, R439, R349, R473). -/
theorem State.named_registers_reset :
    State.reset.flag SAF_STAT_EN_A = false ∧ State.reset.flag SAF_STAT_EN_B = false ∧ State.reset.modeCode = 1
      ∧ State.reset.reg SYS_ID = 0x0848B000#32 ∧ State.reset.get INS_WEAR_LIMIT = 1220703 ∧ State.reset.get DBG_STAT_LEVEL = 0 := by
  decide +kernel

/-- Settles O6: the reset state has no register word written, so each clause is a fact of the reset values. -/
theorem resetState : Obligations.ResetState := by
  obtain ⟨ha, hb, hmode, hid, hwear, hlevel⟩ := State.named_registers_reset
  refine ⟨State.gated_of_low ha hb, rfl, hmode, rfl, ha, hb, rfl, hid, hwear, hlevel, ?_, ?_, ?_⟩
  · intro b n h
    rw [State.get_reset_shdKind b n h]
    cases b <;> rfl
  · exact fun i => ⟨State.get_reset_lockRank i.val i.isLt, State.flag_reset_lockHeld i.val i.isLt⟩
  · exact fun off r h hr => (State.reg_reset off).trans (resetVal_row h hr)

/-! ## What stands against an access -/

/-- An access of the host: through BAR2 from the crew view, else through BAR0. -/
def hostView (crew : Bool) : By := if crew then .crew else .keeper

@[simp] theorem fromHost_hostView (crew : Bool) : fromHost (hostView crew) = true := by cases crew <;> rfl

@[simp] theorem isInner_hostView (crew : Bool) : isInner (hostView crew) = false := by cases crew <;> rfl

@[simp] theorem isCrew_hostView (crew : Bool) : isCrew (hostView crew) = crew := by cases crew <;> rfl

/-- The host reaches the chip through HST with Memory Space Enable set (R456, R499). -/
@[simp] theorem State.reaches_hostView (s : State) (crew : Bool) : s.reaches (hostView crew) = (s.runs 3 && s.memEnabled) := by
  cases crew <;> rfl

/-- The keeper view has its rights; the crew view has none of them. -/
@[simp] theorem State.keeperRights_hostView (s : State) (crew : Bool) : s.keeperRights (hostView crew) = !crew := by
  cases crew <;> rfl

theorem not_denied {a b : Bool} (h : (a || b) = true) : (!a && !b) = false := by
  rw [← Bool.not_or, h]
  rfl

/-! ### Writes -/

section
variable {s : State} {by_ : By} {off : Nat} {f : State → State}

theorem State.hostWrite_closed (h : s.reaches by_ = false) : s.hostWrite by_ off f = s := by
  simp [State.hostWrite, h]

theorem State.hostWrite_unmapped (h : s.reaches by_ = true) (hi : isInner by_ = false) (hr : rowOf off = none) :
    s.hostWrite by_ off f = s.countAccess HST_ACC_ERR_1_UNMAPPED (isCrew by_) off := by
  simp [State.hostWrite, h, hi, hr]

theorem State.hostWrite_denied (h : s.reaches by_ = true) (hi : isInner by_ = false) (hr : (rowOf off).isSome = true)
    (hk : (s.keeperRights by_ || crewSees off) = false) : s.hostWrite by_ off f = s.crewDeny off := by
  obtain ⟨hk, hc⟩ := Bool.or_eq_false_iff.1 hk
  simp [State.hostWrite, h, hi, Option.isNone_eq_false_iff.2 hr, hk, hc]

theorem State.hostWrite_inReset (h : s.reaches by_ = true) (hi : isInner by_ = false) (hr : (rowOf off).isSome = true)
    (hk : (s.keeperRights by_ || crewSees off) = true) (hn : s.runs (islandOf off) = false) :
    s.hostWrite by_ off f = s.countAccess HST_ACC_ERR_1_RESET_ISL (isCrew by_) off := by
  simp [State.hostWrite, h, hi, Option.isNone_eq_false_iff.2 hr, not_denied hk, hn]

end

/-! ### Reads -/

section
variable {s : State} {by_ : By} {off : Nat}

theorem State.hostRead_closed (h : s.reaches by_ = false) : s.hostRead by_ off = (none, s) := by
  simp [State.hostRead, h]

theorem State.hostRead_unmapped (h : s.reaches by_ = true) (hi : isInner by_ = false) (hr : rowOf off = none) :
    s.hostRead by_ off = (some 0, s.countAccess HST_ACC_ERR_1_UNMAPPED (isCrew by_) off) := by
  simp [State.hostRead, h, hi, hr]

theorem State.hostRead_denied (h : s.reaches by_ = true) (hr : (rowOf off).isSome = true)
    (hk : (s.keeperRights by_ || crewSees off) = false) : s.hostRead by_ off = (some 0, s) := by
  obtain ⟨hk, hc⟩ := Bool.or_eq_false_iff.1 hk
  simp [State.hostRead, h, Option.isNone_eq_false_iff.2 hr, hk, hc]

theorem State.hostRead_inReset (h : s.reaches by_ = true) (hi : isInner by_ = false) (hr : (rowOf off).isSome = true)
    (hk : (s.keeperRights by_ || crewSees off) = true) (hn : s.runs (islandOf off) = false) :
    s.hostRead by_ off = (some 0xFFFFFFFF#32, s.countAccess HST_ACC_ERR_1_RESET_ISL (isCrew by_) off) := by
  simp [State.hostRead, h, hi, Option.isNone_eq_false_iff.2 hr, not_denied hk, hn]

theorem State.hostRead_reads (h : s.reaches by_ = true) (hr : (rowOf off).isSome = true)
    (hk : (s.keeperRights by_ || crewSees off) = true) (hn : s.runs (islandOf off) = true) (hd : s.debugReaches off false = true) :
    s.hostRead by_ off = (some (s.readReg off).1, (s.readReg off).2) := by
  simp [State.hostRead, h, Option.isNone_eq_false_iff.2 hr, not_denied hk, hn, hd]

end

/-! ### The commands -/

theorem exec_registerWrite (s : State) (by_ : By) (bar4 : Bool) (off : BitVec 25) (v : Word) (be : BitVec 4) (hw : Word) (same : Bool) :
    exec (.registerWrite by_ bar4 off v be hw same) s = s.done (s.registerWrite by_ bar4 off.toNat v be hw same) := rfl

theorem exec_registerRead (s : State) (by_ : By) (bar4 : Bool) (off : BitVec 25) :
    exec (.registerRead by_ bar4 off) s = s.done (s.registerRead by_ bar4 off.toNat) := rfl

section
variable {s : State} {by_ : By} {off : BitVec 25} {v hw : Word} {be : BitVec 4} {same : Bool}

/-- A write of a whole word goes to its register, by whatever way it comes. -/
theorem exec_registerWrite_whole :
    exec (.registerWrite by_ false off v 0xF hw same) s =
      s.done (s.hostWrite by_ (off.toNat / 4 * 4) fun s => s.writeAny by_ (off.toNat / 4 * 4) v hw same) := by
  rw [exec_registerWrite]
  simp [State.registerWrite, State.busWrite]

theorem exec_registerWrite_aligned (ha : off.toNat % 4 = 0) :
    exec (.registerWrite by_ false off v 0xF hw same) s =
      s.done (s.hostWrite by_ off.toNat fun s => s.writeAny by_ off.toNat v hw same) := by
  rw [exec_registerWrite_whole, Nat.div_mul_cancel (Nat.dvd_of_mod_eq_zero ha)]

theorem exec_registerWrite_partial (hf : fromHost by_ = true) (h : s.reaches by_ = true) (hb : be ≠ 0xF) :
    exec (.registerWrite by_ false off v be hw same) s =
      s.done (s.countAccess HST_ACC_ERR_2_PARTIAL (isCrew by_) (off.toNat / 4 * 4)) := by
  have hb' : ¬ be = 15#4 := hb
  rw [exec_registerWrite]
  simp [State.registerWrite, hf, h, hb']

/-- A host write, whole or not, has no effect where nothing reaches the chip. -/
theorem exec_registerWrite_closed (hf : fromHost by_ = true) (h : s.reaches by_ = false) :
    exec (.registerWrite by_ false off v be hw same) s = s.done s := by
  by_cases hb : be = 15#4
  · subst hb
    exact exec_registerWrite_whole.trans (by rw [State.hostWrite_closed h])
  · rw [exec_registerWrite]
    simp [State.registerWrite, hf, h, hb]

/-- A read that returns a word brings it out. -/
theorem exec_registerRead_some {w : Word} {t : State} (h : s.hostRead by_ (off.toNat / 4 * 4) = (some w, t)) :
    exec (.registerRead by_ false off) s = s.done (t.emit (.readData (off.toNat / 4 * 4) w)) := by
  rw [exec_registerRead]
  simp [State.registerRead, h]

theorem exec_registerRead_aligned (ha : off.toNat % 4 = 0) {w : Word} {t : State} (h : s.hostRead by_ off.toNat = (some w, t)) :
    exec (.registerRead by_ false off) s = s.done (t.emit (.readData off.toNat w)) := by
  have hword : off.toNat / 4 * 4 = off.toNat := Nat.div_mul_cancel (Nat.dvd_of_mod_eq_zero ha)
  have hread := exec_registerRead_some (off := off) (hword.symm ▸ h)
  rwa [hword] at hread

/-- A host read where nothing reaches the chip returns no word; it is answered UR while HST runs. -/
theorem exec_registerRead_closed (h : s.reaches by_ = false) :
    exec (.registerRead by_ false off) s = s.done (s.answerUr by_ (off.toNat / 4 * 4)) := by
  rw [exec_registerRead]
  simp [State.registerRead, State.hostRead_closed h]

/-- A read of the packet and reply areas of the towpath mailbox returns their words. -/
theorem exec_registerRead_mailbox (hf : fromHost by_ = true) (h : s.reaches .keeper = true) (ho : off.toNat / 4 * 4 < 0x800) :
    exec (.registerRead by_ true off) s =
      s.done (s.emit (.readData (off.toNat / 4 * 4) (s.cmd.slots.get (fun _ => 0) (off.toNat / 4 * 4)))) := by
  have hlt : ¬ 0x1000 ≤ off.toNat / 4 * 4 := by omega
  rw [exec_registerRead]
  simp [State.registerRead, State.bar4Read, hf, h, ho, hlt]

end

/-- Settles O58: each access by what it passes on its way to the register. -/
theorem registerAccessesComplete : Obligations.RegisterAccessesComplete := by
  refine ⟨?_, ?_, ?_, ?_⟩
  · intro s by_ off v hw same h
    rw [exec_registerWrite_whole, State.hostWrite_lands h]
  · intro s crew off v hw be same hr hm hb
    have h := exec_registerWrite_partial (s := s) (off := off) (v := v) (hw := hw) (same := same) (fromHost_hostView crew)
      (by simp [hr, hm]) hb
    rwa [isCrew_hostView] at h
  · exact fun s by_ off h hr hk hn hd => exec_registerRead_some (State.hostRead_reads h hr hk hn hd)
  · exact fun s crew off hr hm ho => exec_registerRead_mailbox (fromHost_hostView crew) (by simp [State.reaches, hr, hm]) ho

/-! ## Accesses that reach no register -/

section
variable {s : State} {crew : Bool} {off : BitVec 25} {v hw : Word} {be : BitVec 4} {same : Bool}

/-- R28, R47, R456: an unmapped offset reads 0; every access is counted. -/
theorem access_unmapped (ha : off.toNat % 4 = 0) (hr : s.runs 3 = true) (hm : s.memEnabled = true) (hrow : rowOf off.toNat = none) :
    exec (.registerWrite (hostView crew) false off v 0xF hw same) s = s.done (s.countAccess HST_ACC_ERR_1_UNMAPPED crew off.toNat)
    ∧ exec (.registerRead (hostView crew) false off) s =
        s.done ((s.countAccess HST_ACC_ERR_1_UNMAPPED crew off.toNat).emit (.readData off.toNat 0)) := by
  have h : s.reaches (hostView crew) = true := by simp [hr, hm]
  have hread := exec_registerRead_aligned ha (State.hostRead_unmapped h (isInner_hostView crew) hrow)
  rw [isCrew_hostView] at hread
  refine ⟨?_, hread⟩
  rw [exec_registerWrite_aligned ha, State.hostWrite_unmapped h (isInner_hostView crew) hrow, isCrew_hostView]

/-- R11, R110: a crew-view write of a K register is denied, and its read returns 0. -/
theorem access_denied (ha : off.toNat % 4 = 0) (hr : s.runs 3 = true) (hm : s.memEnabled = true)
    (hrow : (rowOf off.toNat).isSome = true) (hc : crewSees off.toNat = false) :
    exec (.registerWrite .crew false off v 0xF hw same) s = s.done (s.crewDeny off.toNat)
    ∧ exec (.registerRead .crew false off) s = s.done (s.emit (.readData off.toNat 0)) := by
  have h : s.reaches .crew = true := by simp [State.reaches, hr, hm]
  have hk : (s.keeperRights .crew || crewSees off.toNat) = false := by simp [State.keeperRights, hc]
  refine ⟨?_, exec_registerRead_aligned ha (State.hostRead_denied h hrow hk)⟩
  rw [exec_registerWrite_aligned ha, State.hostWrite_denied h rfl hrow hk]

/-- R28: a register of an island in reset reads all ones; every access is counted. -/
theorem access_inReset (ha : off.toNat % 4 = 0) (hr : s.runs 3 = true) (hm : s.memEnabled = true)
    (hrow : (rowOf off.toNat).isSome = true) (hc : crew = true → crewSees off.toNat = true)
    (hn : s.runs (islandOf off.toNat) = false) :
    exec (.registerWrite (hostView crew) false off v 0xF hw same) s = s.done (s.countAccess HST_ACC_ERR_1_RESET_ISL crew off.toNat)
    ∧ exec (.registerRead (hostView crew) false off) s =
        s.done ((s.countAccess HST_ACC_ERR_1_RESET_ISL crew off.toNat).emit (.readData off.toNat 0xFFFFFFFF#32)) := by
  have h : s.reaches (hostView crew) = true := by simp [hr, hm]
  have hk : (s.keeperRights (hostView crew) || crewSees off.toNat) = true := by cases crew <;> simp [hc]
  have hread := exec_registerRead_aligned ha (State.hostRead_inReset h (isInner_hostView crew) hrow hk hn)
  rw [isCrew_hostView] at hread
  refine ⟨?_, hread⟩
  rw [exec_registerWrite_aligned ha, State.hostWrite_inReset h (isInner_hostView crew) hrow hk hn, isCrew_hostView]

/-- R499: without HST nothing reaches the chip, and nothing answers. -/
theorem access_withoutHst (hr : s.runs 3 = false) :
    exec (.registerWrite (hostView crew) false off v be hw same) s = s.done s
    ∧ exec (.registerRead (hostView crew) false off) s = s.done s := by
  have h : s.reaches (hostView crew) = false := by simp [hr]
  refine ⟨exec_registerWrite_closed (fromHost_hostView crew) h, ?_⟩
  rw [exec_registerRead_closed h]
  simp [State.answerUr, hr]

/-- R456: while Memory Space Enable is 0 a host write is dropped, and a host read is answered UR. -/
theorem access_memDisabled (hr : s.runs 3 = true) (hm : s.memEnabled = false) :
    exec (.registerWrite (hostView crew) false off v be hw same) s = s.done s
    ∧ exec (.registerRead (hostView crew) false off) s = s.done (s.emit (.unsupported (off.toNat / 4 * 4))) := by
  have h : s.reaches (hostView crew) = false := by simp [hm]
  refine ⟨exec_registerWrite_closed (fromHost_hostView crew) h, ?_⟩
  rw [exec_registerRead_closed h]
  simp [State.answerUr, hr, hm]

end

/-- What a denied crew write leaves, its offset one of the 25 bits a host access has. -/
theorem State.crewDeny_host (s : State) (off : BitVec 25) : s.crewDeny off.toNat =
    ((s.incSat CMD_CREW_DENY_COUNT).setReg CMD_CREW_DENY_ADDR (BitVec.ofNat 32 off.toNat)).raise 36 := by
  rw [State.crewDeny, Nat.mod_eq_of_lt off.isLt]

/-- Settles O11, clause by clause. -/
theorem discardedAccesses : Obligations.DiscardedAccesses := by
  refine ⟨fun _ _ _ _ _ _ => access_unmapped, fun s off _ _ _ ha hr hm hrow hc => ?_, fun _ _ _ _ _ _ => access_inReset,
    fun _ _ _ _ _ _ _ => access_withoutHst, fun _ _ _ _ _ _ _ => access_memDisabled⟩
  rw [← State.crewDeny_host]
  exact access_denied ha hr hm hrow hc

/-! ## Plain writes of INS and CAL -/

/-- The bits of a word written by access codes (R9). -/
theorem RegRow.written_getLsbD (r : RegRow) (old v : Word) (i : Nat) (hi : i < 32) :
    (r.written old v).getLsbD i =
      if r.rw.testBit i then v.getLsbD i else if r.w1c.testBit i && v.getLsbD i then false else old.getLsbD i := by
  simp only [RegRow.written, BitVec.getLsbD_or, BitVec.getLsbD_and, BitVec.getLsbD_not, BitVec.getLsbD_ofNat, hi, decide_true,
    Bool.true_and]
  cases r.rw.testBit i <;> cases r.w1c.testBit i <;> cases v.getLsbD i <;> simp

theorem State.reg_putRow_same {s : State} {off : Nat} {r : RegRow} (h : rowOf off = some r) (v : Word) :
    (s.putRow off v).reg off = r.written (s.reg off) v := by
  simp [State.putRow, h]

/-- The bits of a register after a write by its access codes and what hardware sets in that cycle (R9, R10). -/
theorem State.getLsbD_putRow_hardwareSets {s : State} {off : Nat} {r : RegRow} (h : rowOf off = some r) (v hw : Word) (i : Nat)
    (hi : i < 32) :
    (((s.putRow off v).hardwareSets off hw).reg off).getLsbD i =
      if r.w1c.testBit i && hw.getLsbD i then true
      else if r.rw.testBit i then v.getLsbD i
      else if r.w1c.testBit i && v.getLsbD i then false
      else (s.reg off).getLsbD i := by
  have hreg : ((s.putRow off v).hardwareSets off hw).reg off = r.written (s.reg off) v ||| (hw &&& BitVec.ofNat 32 r.w1c) := by
    simp [State.hardwareSets, h, State.reg_putRow_same h]
  rw [hreg, BitVec.getLsbD_or, BitVec.getLsbD_and, BitVec.getLsbD_ofNat, RegRow.written_getLsbD _ _ _ _ hi]
  cases r.w1c.testBit i <;> cases hw.getLsbD i <;> simp [hi]

theorem indexIn_eq_none {f : Nat → Nat} {n off : Nat} (h : ∀ i < n, f i ≠ off) : indexIn f n off = none := by
  simpa [indexIn] using h

/-- Every shadowed register lies below INS. -/
theorem lt_of_inSet {b : ShdBlk} {n a : Nat} (hn : n < shdCount b) (h : inSet b n a = true) : a < 0x2C0000 := by
  cases b <;> simp only [shdCount, inSet, Bool.or_eq_true, Bool.and_eq_true, decide_eq_true_eq] at hn h
  case brg => simp only [BRG_CH_ENTRY] at h; omega
  case arb => simp only [ARB_A_CTL, ARB_PORT_CFG] at h; omega
  case asm =>
    split at h
    · simp only [ASM_CH_CFG, ASM_CH_STITCH_HI, Bool.and_eq_true, decide_eq_true_eq] at h; omega
    · simp only [ASM_ROT_LO, ASM_ROT_HI, Bool.or_eq_true, decide_eq_true_eq] at h; omega
  case fir => simp only [FIR_CH_OFFSET_LO, FIR_CH_STROBE_T, FIR_CH_ROWPOS, FIR_DIEPOS] at h; omega
  case cam =>
    split at h
    · simp only [CAM_SNS_BLACK, CAM_SNS_LUT, Bool.and_eq_true, decide_eq_true_eq] at h; omega
    · simp only [CAM_OS_CFG, Bool.and_eq_true, decide_eq_true_eq] at h; omega

theorem shdStat_lt {b : ShdBlk} {n : Nat} (hn : n < shdCount b) : shdStat b n < 0x281000 := by
  cases b <;> simp only [shdCount, shdStat, BRG_SHD_STAT, ARB_SHD_STAT, ASM_SHD_STAT, FIR_SHD_STAT, CAM_SHD_STAT] at hn ⊢ <;> omega

/-- From the word below INS to the end of CAL no register is the low half of a pair (R6). -/
theorem pairLow_between {a : Nat} (lo : 0x2BFFFC ≤ a) (hi : a < 0x340000) : pairLow a = false := by
  have hch : indexIn FIR_CH_OFFSET_LO 8 a = none := indexIn_eq_none fun i _ => by rw [FIR_CH_OFFSET_LO]; omega
  have htgt : indexIn POS_CMP_TGT_LO 16 a = none := indexIn_eq_none fun i _ => by rw [POS_CMP_TGT_LO]; omega
  have hstep : indexIn POS_CMP_STEP_LO 16 a = none := indexIn_eq_none fun i _ => by rw [POS_CMP_STEP_LO]; omega
  simp [pairLow, hch, htgt, hstep, CMD_K_SQ_BASE_LO, CMD_K_CQ_BASE_LO, CMD_C_SQ_BASE_LO, CMD_C_CQ_BASE_LO, CMD_TP_RADDR_LO,
    ING_HCJ_BASE_LO, FIR_CPL_LO, FIR_START_DIST_LO, FIR_INS_OFFSET_LO, POS_COUNT_LO, CAM_SR_BASE_LO, TIM_CONV_LO]
  omega

section
variable {off : Nat} (lo : 0x2C0000 ≤ off) (hi : off < 0x340000)
include lo

/-- INS and CAL are not shadowed (R34). -/
theorem setOf_insCal : setOf off = none := by
  have h : ∀ b, ∀ n ∈ List.range (shdCount b), ¬ inSet b n off = true :=
    fun b n hn hs => absurd (lt_of_inSet (List.mem_range.1 hn) hs) (by omega)
  simp only [setOf, List.findSome?_eq_none_iff, Option.map_eq_none_iff, List.find?_eq_none]
  exact fun b _ => h b

theorem commitAt_insCal : commitAt off = none := by
  simp only [commitAt, List.findSome?_eq_none_iff, Option.map_eq_none_iff]
  exact fun b _ => indexIn_eq_none fun n hn => by have := shdStat_lt hn; omega

theorem writeRing_insCal (s : State) (v : Word) : s.writeRing off v = none := by
  simp only [State.writeRing, List.findSome?_eq_none_iff]
  rintro crew -
  have hEn : off ≠ (ringEnable crew).addr := by cases crew <;> exact Nat.ne_of_gt (lo.trans_lt' (by decide))
  have hSq : off ≠ (sqTail crew).addr := by cases crew <;> exact Nat.ne_of_gt (lo.trans_lt' (by decide))
  have hCq : off ≠ (cqHead crew).addr := by cases crew <;> exact Nat.ne_of_gt (lo.trans_lt' (by decide))
  simp [hEn, hSq, hCq]

include hi

theorem pairLow_insCal : pairLow off = false ∧ pairLow (off - 4) = false :=
  ⟨pairLow_between (by omega) hi, pairLow_between (by omega) (by omega)⟩

/-- A write of INS or CAL that is not held acts by the access codes of its row alone. -/
theorem State.writeAny_insCal {s : State} (by_ : By) (v hw : Word) (same : Bool) (h : s.writeHeld off = false) :
    s.writeAny by_ off v hw same = (s.putRow off v).hardwareSets off hw := by
  obtain ⟨hp, hp'⟩ := pairLow_insCal lo hi
  have hword : s.writeWord off v = s.putRow off v := by simp [State.writeWord, hp, hp']
  have hlate : s.markLate off same = s := by simp [State.markLate, setOf_insCal lo]
  have hreg : s.writeReg by_ off v hw same = (s.putRow off v).hardwareSets off hw := by
    have hreset : off ≠ SYS_RESET := Nat.ne_of_gt (lo.trans_lt' (by decide))
    have hlock : off ≠ ARB_HL_REQ := Nat.ne_of_gt (lo.trans_lt' (by decide))
    simp only [State.writeReg, hlate, h, commitAt_insCal lo, hreset, hlock, Bool.false_eq_true, if_false]
    rw [if_neg (by omega), if_neg (by omega), if_neg (by omega), if_neg (by omega), if_neg (by omega), if_neg (by omega),
      if_neg (by omega), if_neg (by omega), if_neg (by omega), if_neg (by omega), if_pos hi, Option.getD_none, hword]
  have hmem : off ≠ DBG_MEM_CMD := Nat.ne_of_lt (hi.trans (by decide))
  have hcore : ∀ p, off ≠ DBG_CORE_CTL p := fun p => by rw [DBG_CORE_CTL]; omega
  simp [State.writeAny, State.writeInner, hmem, writeRing_insCal lo, hreg, hcore]

end

/-- The gate at the end of a command leaves every register but SAF_STAT (R436). -/
theorem State.reg_afterGate (s t : State) {a : Nat} (h : a ≠ SAF_STAT) :
    ({ t.gateOutputs with pending := s.pending } : State).reg a = t.reg a := State.reg_gateOutputs t h

/-- Settles O10: a write of INS or CAL is a write by access codes, and the gate leaves the register as written. -/
theorem registerWritesFollowTheirCodes : Obligations.RegisterWritesFollowTheirCodes := by
  intro s by_ off r v hw same ha lo hi hrow hl hheld
  have hex : exec (.registerWrite by_ false off v 0xF hw same) s =
      s.done ((s.putRow off.toNat v).hardwareSets off.toNat hw) := by
    rw [exec_registerWrite_aligned ha, State.hostWrite_lands hl, State.writeAny_insCal lo hi by_ v hw same hheld]
  have hstat : off.toNat ≠ SAF_STAT := Nat.ne_of_lt (hi.trans (by decide))
  refine completes_of_done hex fun i => ?_
  rw [State.reg_afterGate _ _ hstat, State.getLsbD_putRow_hardwareSets hrow v hw i.val i.isLt]

end Sys2Proof.Machine
end

section
/-! The statements on mode changes, the host link and clock faults (R27, R60, R61, R66, R67, R449, R458), and on the events of lines
(R30, R214, R216, R217, R221, R222): what each event leaves once its condition holds. -/

namespace Sys2Proof.Machine

open Sys2Proof

/-! ## Mode changes -/

/-- A change to Standby or Service waits for nothing. -/
theorem State.changeReady_unconditional {s : State} (ht : s.get SYS_MODE_TARGET = 3 ∨ s.get SYS_MODE_TARGET = 10) :
    s.changeReady = true := by
  rcases ht with ht | ht <;> simp [State.changeReady, ht]

/-- A change to Standby or Service completes with cause COMMAND (R60). -/
theorem State.completeChange_unconditional {s : State} (h : s.flag SYS_MODE_TRANSITION = true)
    (ht : s.get SYS_MODE_TARGET = 3 ∨ s.get SYS_MODE_TARGET = 10) :
    s.completeChange = ((s.setChipMode (s.get SYS_MODE_TARGET) 1).resolve 0x0102 .ok 0).resolve 0x0103 .ok 0 := by
  have h2 : s.get SYS_MODE_TARGET ≠ 2 := by omega
  have h4 : s.get SYS_MODE_TARGET ≠ 4 := by omega
  have h5 : s.get SYS_MODE_TARGET ≠ 5 := by omega
  simp [State.completeChange, h, State.changeReady_unconditional ht, h2, h4, h5]

/-- A warm-up that times out fails its command and turns to Ready (R61). -/
theorem State.warmFails_changing {s : State} (h : s.changingTo 5 = true) :
    s.warmFails =
      let u := ((s.waitFor .warmUp (max 1 (s.get PWR_WARM_TO_SECONDS) * 800000000)).resolve 0x0102 .fault 3).put SYS_MODE_TARGET 4
      (({ u with saf := { u.saf with test := 0 } }.syncOutputs.disableAll).tryChange) := by
  rw [State.warmFails, h]
  rfl

/-! ## The host link -/

theorem State.hostReset_clocked {s : State} (h : s.runs 3 = true) (down : Bool) :
    s.hostReset down = if down then s.linkReset.setReg HST_LINK 0 else s.linkReset := by
  rw [State.hostReset, h]
  rfl

/-- Outside the boot ROM and the alternate way of step 8 the link comes up as it was trained (R66, R454). -/
theorem State.trained_full {s : State} {speed : Nat} (h : s.runs 3 = true) (h0 : speed ≠ 0) (h5 : speed ≤ 5)
    (hrom : s.sys.rom = false) (hway : s.get (PWR_BJ_ENTRY_WAY 8) ≠ 1) (width : Nat) :
    s.trained speed width = (((s.putFlag HST_LINK_UP true).put HST_LINK_SPEED speed).put HST_LINK_WIDTH width).rearm := by
  simp [State.trained, h, h0, hrom, hway, Nat.min_eq_right h5]

/-! ## Clock faults -/

theorem State.proofRuns_eq_false {s : State} (h : s.saf.proof = []) (t : Nat) : s.proofRuns t = false := by
  simp [State.proofRuns, h]

section
variable {s : State} {i : Nat} (hm : s.modeCode ≠ 0) (hr : s.runs i = true)
include hm hr

/-- A clock fault of AON or SAF with no proof test running is a lockout (R438, R451). -/
theorem State.clockFails_safety (hi : i ≤ 1) (hp : s.saf.proof = []) : s.clockFails i = s.lockout SAF_FAULT_CLOCK := by
  simp [State.clockFails, hm, hr, hi, State.proofRuns_eq_false hp]

/-- A clock fault of CTL is a warm reset (R67). -/
theorem State.clockFails_ctl (hi : i = 2) : s.clockFails i = s.warmReset 2 := by
  subst hi
  simp [State.clockFails, hm, hr]

/-- A clock fault of another island resets it and is a safety event (R27, R449). -/
theorem State.clockFails_other (hi : 3 ≤ i) :
    s.clockFails i =
      let u := (s.handshake i).endStranded.mark (.island i)
      ({ u with saf := { u.saf with clock := putBit u.saf.clock i true } }.condition 11 0 0) := by
  have h1 : ¬ i ≤ 1 := by omega
  have h2 : i ≠ 2 := by omega
  simp [State.clockFails, hm, hr, h1, h2]

end

/-- Settles O27: each command answers `s.done` of its operation, and the operation's equation in that case is the effect. -/
theorem modeChangeAndLinkEventsComplete : Obligations.ModeChangeAndLinkEventsComplete := by
  refine ⟨?modeChange, ?warmTimeout, ?linkReset, ?linkDown, ?trained, ?clockSafety, ?clockCtl, ?clockOther⟩
  case modeChange => exact fun s h ht => congrArg s.done (State.completeChange_unconditional h ht)
  case warmTimeout => exact fun s h => congrArg s.done (State.warmFails_changing h)
  case linkReset => exact fun s h => congrArg s.done (State.hostReset_clocked h false)
  case linkDown => exact fun s h => congrArg s.done (State.hostReset_clocked h true)
  case trained =>
    intro s speed width h h0 hrom hway
    exact congrArg s.done (State.trained_full h (Fin.val_ne_zero_iff.2 h0) (Nat.le_of_lt_succ speed.isLt) hrom hway width.toNat)
  case clockSafety => exact fun s i hm hr hi hp => congrArg s.done (State.clockFails_safety hm hr hi hp)
  case clockCtl => exact fun s hm hr => congrArg s.done (State.clockFails_ctl hm hr rfl)
  case clockOther => exact fun s i hm hr hi => congrArg s.done (State.clockFails_other hm hr hi)

/-! ## Line events -/

@[simp] theorem State.fch_tick (s : State) (n c : Nat) : (s.tick n).fch c = s.fch c := by simp [State.fch]

section
variable {s u : State} {dt : Nat}

/-- The next fixed line of a channel passes its boundary once its time has come (R30, R217). -/
theorem exec_lineBoundary_due {ch : Fin 8} {l : FixedLine} (ecc : List (Nat × Bool)) (hr : s.runs 8 = true)
    (hl : (s.fir.lines.find? fun l => l.ch = ch.val && l.line = (s.fch ch.val).next && !l.passed) = some l)
    (ht : l.t ≤ s.cycle + dt) :
    exec (.lineBoundary ch dt ecc) s = s.done (((s.tick dt).passLine l).lineBoundary ch.val l.line ecc) := by
  change execLineBoundary ch dt ecc s = _
  simp only [execLineBoundary, State.fir_tick, State.fch_tick, hl, State.runs_tick, hr, State.cycle_tick, ht, decide_true,
    Bool.and_self, if_true]

/-- The anchor of the next reach is taken where compare unit 0, owned by the line clock, is due (R214). -/
theorem exec_reachAnchor_due (hu : u = (s.tick dt).posNow) (hr : u.runs 8 = true) (hrun : u.flag FIR_STAT_RUNNING = true)
    (ho : u.flag (POS_CMP_STAT_OWNED 0) = true) (hd : u.cmpDue 0 = true) :
    exec (.reachAnchor dt) s = s.done u.rollAnchor.reachAnchor := by
  subst hu
  change execReachAnchor dt s = _
  simp only [execReachAnchor, hr, hrun, ho, hd, Bool.and_self, if_true]

/-- An anchor is forced where the counter strays from the newest anchor (R216). -/
theorem exec_forcedAnchor_strays {a : Anchor} (hu : u = (s.tick dt).posNow) (hc : u.clockRuns = true)
    (ha : u.newestAnchor = some a) (hs : u.strays a = true) :
    exec (.forcedAnchor dt) s = s.done u.rollAnchor.forceAnchor := by
  subst hu
  change execForcedAnchor dt s = _
  simp only [execForcedAnchor, hc, ha, hs, Option.map_some, Option.getD_some, Bool.and_self, if_true]

/-- A channel of the run fixes its next line under the parameters in force once its fixing cycle has come (R217). -/
theorem exec_lineFix_due {ch : Fin 8} {a : Anchor} (hu : u = (s.tick dt).rollAnchor) (ha : u.params = some a)
    (hc : u.clockRuns = true) (hon : (u.fch ch.val).on = true) (h0 : (u.fch ch.val).a0.isSome = true) (hp : a.p ≠ 0)
    (ht : u.fixTime a ch.val (u.fch ch.val).fix ≤ u.cycle) :
    exec (.lineFix ch dt) s = s.done (u.fixLine ch.val a).endTrail := by
  subst hu
  change execLineFix ch dt s = _
  simp only [execLineFix, ha, hc, hon, h0, hp, ht, ne_eq, not_false_eq_true, decide_true, Bool.and_self, if_true]

/-- The marker of the oldest line that waits for it is sent once the line is within the lead and the carrier's latency (R222). -/
theorem exec_markerSend_due {n : Fin 16} {l : FixedLine} (hu : u = s.tick dt) (hl : u.nextMarker n.val = some l)
    (h8 : s.runs 8 = true) (h9 : s.runs 9 = true) (ht : l.t ≤ u.cycle + u.lead + u.latency n.val) :
    exec (.markerSend n dt) s = s.done (u.sendMarker n.val l).endTrail := by
  subst hu
  change execMarkerSend n dt s = _
  simp only [execMarkerSend, hl, State.runs_tick, h8, h9, ht, decide_true, Bool.and_self, if_true]

/-- The frame of the oldest line assembled for a carrier is sent (R221). -/
theorem exec_frameSend_next {n : Fin 16} {l : AsmLine} (hu : u = s.tick dt) (hl : u.nextFrame n.val = some l)
    (h8 : s.runs 8 = true) (h9 : s.runs 9 = true) : exec (.frameSend n dt) s = s.done (u.sendFrame n.val l).endTrail := by
  subst hu
  change execFrameSend n dt s = _
  simp only [execFrameSend, hl, State.runs_tick, h8, h9, Bool.and_self, if_true]

end

/-- Settles O34: one clause for each event, whose guard its premises meet. -/
theorem lineEventsComplete : Obligations.LineEventsComplete := by
  refine ⟨?lineBoundary, ?reachAnchor, ?forcedAnchor, ?lineFix, ?markerSend, ?frameSend⟩
  case lineBoundary => exact fun s ch dt ecc l hr hl ht => exec_lineBoundary_due ecc hr hl ht
  case reachAnchor => exact fun s dt hr hrun ho hd => exec_reachAnchor_due rfl hr hrun ho hd
  case forcedAnchor => exact fun s a dt hc ha hs => exec_forcedAnchor_strays rfl hc ha hs
  case lineFix => exact fun s ch dt a ha hc hon h0 hp ht => exec_lineFix_due rfl ha hc hon h0 hp ht
  case markerSend => exact fun s n dt l hl h8 h9 ht => exec_markerSend_due rfl hl h8 h9 ht
  case frameSend => exact fun s n dt l hl h8 h9 => exec_frameSend_next rfl hl h8 h9

end Sys2Proof.Machine
end

section
/-! The statements on modes and starts: the gate of the fire-energy outputs (R49, R358, R436), and what mode, reset, job, safety and
boot commands leave (R53, R59 to R73, R104 to R105, R119 to R120, R174, R353, R446, R450 to R452, R466, R496 to R497). -/

namespace Sys2Proof.Machine

open Sys2Proof

/-! ## The gate of the fire-energy outputs -/

/-- Every row of the table answers through `State.done`, so the gate acts at the end of every command. -/
theorem exec_eq_done (c : Instr) (s : State) : ∃ u, exec c s = s.done u := by
  cases c <;> exact ⟨_, rfl⟩

/-- The gate's decision rests on the register words and on SAF alone. -/
theorem State.Gated.congr {s t : State} (hr : t.regs = s.regs) (hs : t.saf = s.saf) (h : s.Gated) : t.Gated := by
  have hw : t.wanted = s.wanted := by
    simp only [State.wanted, State.safOk, State.modePermits, State.changingTo, State.modeCode, State.flag_congr hr,
      State.get_congr hr, hs]
  intro hstop
  rw [hw, State.flag_congr hr, State.flag_congr hr]
  exact h (hs ▸ hstop)

/-- What the gate leaves high may be high (R436). -/
theorem State.gated_gateOutputs (s : State) : s.gateOutputs.Gated := by
  intro hstop
  rw [State.saf_gateOutputs] at hstop
  have hdrive : s.gateOutputs = s.drive (s.flag SAF_STAT_EN_A && s.wanted.1) (s.flag SAF_STAT_EN_B && s.wanted.2) := by
    simp [State.gateOutputs, hstop]
  rw [hdrive, State.wanted_drive, (State.flag_drive_en ..).1, (State.flag_drive_en ..).2]
  simp

/-- Every command leaves the gate kept, whatever state it starts from. -/
theorem gated_of_exec {c : Instr} {s t : State} (h : exec c s = .next t) : t.Gated := by
  obtain ⟨u, hu⟩ := exec_eq_done c s
  obtain rfl : { u.gateOutputs with pending := s.pending } = t := Host.Outcome.next.inj (hu.symm.trans h)
  exact u.gated_gateOutputs.congr rfl rfl

/-- Settles O4: a step with a command waiting ends in the gate, and a step with none lets time pass, which the gate does not see. -/
theorem gateIsKept : Obligations.GateIsKept := by
  intro s t hs h
  unfold step at h
  split at h
  case h_1 =>
    obtain rfl := Host.Outcome.next.inj h
    exact hs.congr (State.regs_tick s 1) (State.saf_tick s 1)
  case h_2 => exact gated_of_exec h

/-- What an output that may be high asks for (R49, R358, R436, R446). -/
theorem State.permitted_of_wanted {s : State} (h : s.wanted.1 = true ∨ s.wanted.2 = true) :
    s.safOk = true ∧ s.saf.disagree = 0 ∧ s.modePermits = true ∧ (s.flag SAF_STAT_START_OK = true ∨ s.saf.test ≠ 0) := by
  by_cases ht : s.saf.test = 0
  · simp_all [State.wanted]
  · rcases h with h | h <;> simp_all [State.wanted]

/-- SAF is satisfied: no cause of Safe, no emergency stop, no lockout and no discrepancy (R436, R442). -/
theorem State.safOk_iff (s : State) : s.safOk = true ↔
    s.get SYS_SAFE_CAUSE_PRESENT = 0 ∧ s.saf.okA = true ∧ s.saf.okB = true ∧ s.flag SAF_STAT_LOCKOUT = false
      ∧ s.flag SAF_FAULT_ESTOP_DISC = false := by
  simp [State.safOk, and_assoc]

/-- The modes that carry fire energy, and the change to Warm (R49, R358). -/
theorem State.modePermits_iff (s : State) : s.modePermits = true ↔
    ((5 ≤ s.modeCode ∧ s.modeCode ≤ 9) ∨ s.modeCode = 11 ∨ s.changingTo 5 = true) ∧ s.changingTo 2 = false := by
  simp [State.modePermits, energised, or_assoc]

/-- Settles O5: after any command an output that is high is one the gate has let pass. -/
theorem fireEnergyOnlyWherePermitted : Obligations.FireEnergyOnlyWherePermitted := by
  intro c s t h hstop hhigh
  obtain ⟨hA, hB⟩ := gated_of_exec h hstop
  obtain ⟨hsaf, hdis, hmode, hstart⟩ := State.permitted_of_wanted (hhigh.imp hA hB)
  obtain ⟨hcause, hokA, hokB, hlock, hdisc⟩ := t.safOk_iff.1 hsaf
  obtain ⟨hcode, hsafe⟩ := t.modePermits_iff.1 hmode
  exact ⟨hcause, hokA, hokB, hlock, hdisc, hdis, hstart, hcode, hsafe⟩

/-! ## What a pending request leaves to see -/

@[simp] theorem State.pnd_pend (s : State) (o : Op) (p : Packet) : (s.pend o p).pnd = s.pnd := by
  rw [State.pend_cases]

@[simp] theorem State.job?_pend (s : State) (o : Op) (p : Packet) (id : BitVec 16) : (s.pend o p).job? id = s.job? id := by
  simp [State.job?]

/-! ## Mode and reset commands -/

section
variable {s : State} {t : Nat}

/-- On the way to Warm the start test runs (R446). -/
theorem State.setMode_warm : s.setMode 5 = (s.beginChange 5).startTest := by
  simp [State.setMode]

/-- Between modes other than Warm the change begins, and nothing else (R60). -/
theorem State.setMode_other (ht : t ≠ 5) (hm : s.modeCode ≠ 5) : s.setMode t = s.beginChange t := by
  simp [State.setMode, ht, hm]

/-- On the way from Warm the carriers are switched off (R361). -/
theorem State.setMode_leavesWarm (ht : t ≠ 5) (hm : s.modeCode = 5) :
    s.setMode t = ((s.beginChange t).disableAll).tryChange := by
  simp [State.setMode, ht, hm]

end

/-- A SET_MODE that acts is accepted, with the effect of its target. -/
theorem exec_setMode {s : State} {p : Packet} (h : s.Acts opSetMode p) :
    exec (.setMode p) s = s.accepted opSetMode p ((s.pend opSetMode p).setMode (field p.params 0 1)) :=
  State.done_later h rfl rfl (fun _ => rfl) rfl

/-- A RESET that acts is answered ACCEPTED, and the reset of its kind follows (R105). -/
theorem exec_reset {s : State} {p : Packet} (h : s.Acts opReset p) :
    exec (.resetCmd p) s =
      let t := s.answer p.route none (s.replyTo 0x0104 classN p .accepted 0 false [])
      s.done (if field p.params 0 1 = 1 then t.warmReset 2 else t.coldReset 1) :=
  congrArg s.done (State.command_later h rfl)

/-- Settles O16: each command is accepted, and its effect is the equation of its case. -/
theorem modeAndResetCommandsComplete : Obligations.ModeAndResetCommandsComplete := by
  refine ⟨?toWarm, ?between, ?fromWarm, ?clearSafe, ?warm, ?cold, ?island⟩
  case toWarm =>
    intro s p h ht
    rw [exec_setMode h, ht, State.setMode_warm]
  case between =>
    intro s p h ht hm
    rw [exec_setMode h, State.setMode_other ht (by rwa [State.modeCode_pend])]
  case fromWarm =>
    intro s p h ht hm
    rw [exec_setMode h, State.setMode_leavesWarm ht (by rwa [State.modeCode_pend])]
  case clearSafe => exact fun s p h => State.done_later h rfl rfl (fun _ => rfl) rfl
  case warm =>
    intro s p h hk
    rw [exec_reset h]
    simp [hk]
  case cold =>
    intro s p h hk
    rw [exec_reset h]
    simp [hk]
  case island => exact fun s p h => congrArg s.done (State.command_later h rfl)

/-! ## Job and page commands -/

section
variable {s : State} {id : BitVec 16} {j : Job} (hj : s.job? id = some j)
include hj

/-- START_JOB from Warm starts or continues a run, behind a restart where the line rate differs (R104, R230). -/
theorem State.startJob_warm (hm : s.modeCode = 5) :
    s.startJob id =
      let u := (s.openJob j).primeChannels j.mask
      if u.flag FIR_STAT_RUNNING && u.fir.lpi600 ≠ j.lpi600 then { u with fir := { u.fir with restart := some id } }
      else u.startJobRun id := by
  simp only [State.startJob, hj, hm, if_true]

/-- START_JOB while channels print queues its job behind the run, or behind a start that waits (R53, R497). -/
theorem State.startJob_printing (hm : s.modeCode ≠ 5) :
    s.startJob id =
      let u := (s.openJob j).primeChannels j.mask
      if u.fir.waiting.isSome || u.fir.restart.isSome then { u with fir := { u.fir with later := u.fir.later ++ [id] } }
      else (u.enterChannels.layOut id).dueNow.openLines := by
  simp only [State.startJob, hj, hm, if_false]

end

/-- A START_JOB that acts is accepted, with its job's effect. -/
theorem exec_startJob {s : State} {p : Packet} (h : s.Acts opStartJob p) :
    exec (.startJob p) s = s.accepted opStartJob p ((s.pend opStartJob p).startJob (jobIdOf p.params)) :=
  State.done_later h rfl rfl (fun _ => rfl) rfl

/-- A page of a defined job takes the blocks of its position table and joins its job's queue (R120, R151). -/
theorem State.queuePage_defined {s : State} {l : List Byte} {j : Job} (hj : s.job? (jobIdOf l) = some j) :
    s.queuePage l =
      let name := BitVec.ofNat 32 (field l 4 4)
      let q := s.takeBlocks (tableBlocksOf j (field l 8 4))
      { q.2 with pnd := { q.2.pnd with pages := q.2.pnd.pages ++
          [newPage (s.freshKey name) name j.id (field l 8 4) q.1] } }.pageJoins j.id := by
  simp only [State.queuePage, hj]

/-- Settles O19: each command acts at once or is accepted, and its effect is the equation of its case. -/
theorem jobAndPageCommandsComplete : Obligations.JobAndPageCommandsComplete := by
  refine ⟨?startWarm, ?startPrinting, ?stop, ?define, ?queue, ?reprint, ?cancel, ?status⟩
  case startWarm =>
    intro s p j h hj hm
    rw [exec_startJob h, State.startJob_warm (j := j) (by rwa [State.job?_pend]) (by rwa [State.modeCode_pend])]
  case startPrinting =>
    intro s p j h hj hm
    rw [exec_startJob h, State.startJob_printing (j := j) (by rwa [State.job?_pend]) (by rwa [State.modeCode_pend])]
  case stop => exact fun s p h => State.done_later h rfl rfl (fun _ => rfl) rfl
  case define => exact fun s p h => State.done_now h rfl (fun _ => rfl) rfl
  case queue => exact fun s p j h hj => State.done_now h rfl (fun _ => rfl) (congrArg _ (State.queuePage_defined hj))
  case reprint => exact fun s p h => State.done_now h rfl (fun _ => rfl) rfl
  case cancel => exact fun s p h => State.done_now h rfl (fun _ => rfl) rfl
  case status => exact fun s p h => State.done_now h rfl (fun _ => rfl) rfl

/-! ## Safety commands -/

/-- Test 1 waits for the next start test (R451). -/
theorem State.beginProof_first (s : State) : s.beginProof 1 = { s with saf := { s.saf with proofArmed := true } } := by
  simp [State.beginProof]

/-- Another test runs at once, and test 0xFFFF stands for tests 2 to 6 (R451). -/
theorem State.beginProof_other (s : State) {t : Nat} (ht : t ≠ 1) :
    s.beginProof t =
      ({ s with saf := { s.saf with
          proof := if t = 0xFFFF then [2, 3, 4, 5, 6] else [t]
          proofAll := decide (t = 0xFFFF), proofSeen := 0 } }.putFlag SAF_STAT_TEST_ACTIVE true).mark .proof := by
  simp [State.beginProof, ht]

/-- A PROOF_TEST that acts is accepted, with the effect of its test. -/
theorem exec_proofTest {s : State} {p : Packet} (h : s.Acts opProofTest p) :
    exec (.proofTest p) s = s.accepted opProofTest p ((s.pend opProofTest p).beginProof (field p.params 0 2)) :=
  State.done_later h rfl rfl (fun _ => rfl) rfl

/-- In a list of checks all of which pass, one replaced by another check gives the answer of that check. -/
theorem findSome?_id_of_others_none {α : Type} {l₁ l₂ : List (Option α)} (h : (l₁ ++ none :: l₂).findSome? id = none)
    (x : Option α) : (l₁ ++ x :: l₂).findSome? id = x := by
  simp only [List.findSome?_append, List.findSome?_cons, id_eq, Option.or_eq_none_iff] at h ⊢
  obtain ⟨h₁, h₂⟩ := h
  rw [h₁, h₂]
  cases x <;> rfl

/-- Where every other check passes, the check of the parameters decides (R98). -/
theorem State.check_of_anyParams {s : State} {o : Op} {p : Packet} (h : s.check o.anyParams p = none) :
    s.check o p = (o.params s p.params).map fun n => (Status.badParam, n) :=
  findSome?_id_of_others_none (l₁ := [_, _, _, _, _, _]) h _

/-- A packet whose parameters alone may be bad, and are good, acts. -/
theorem State.Acts.of_anyParams {s : State} {o : Op} {p : Packet} (h : s.Acts o.anyParams p) (hp : o.params s p.params = none) :
    s.Acts o p := by
  obtain ⟨⟨hopen, hcheck⟩, hsame⟩ := h
  refine ⟨⟨hopen, ?_⟩, hsame⟩
  rw [State.check_of_anyParams hcheck, hp]
  rfl

/-- A packet whose parameters alone are bad is answered BAD_PARAM, and has no effect but its answer. -/
theorem State.command_badParam {s : State} {o : Op} {p : Packet} {d : Nat} (h : s.Acts o.anyParams p)
    (hp : o.params s p.params = some d) :
    s.command o p = s.answer p.route none (s.replyTo o.code o.legal p .badParam d false []) := by
  obtain ⟨⟨hopen, hcheck⟩, -⟩ := h
  have hbad : s.check o p = some (.badParam, d) := by
    rw [State.check_of_anyParams hcheck, hp]
    rfl
  exact State.command_fails hopen hbad (fun hr => nomatch hr.1)

/-- Where only the last of a list of tests, which alone answers its offset, can have failed, it decides. -/
theorem badAt_of_last {l : List (Bool × Nat)} {b : Bool} {n : Nat} (hl : n ∉ l.map Prod.snd)
    (h : ∀ d, badAt (l ++ [(b, n)]) = some d → d = n) : badAt (l ++ [(b, n)]) = if b then none else some n := by
  cases hf : l.find? fun x => !x.1 with
  | none => cases b <;> simp [badAt, List.find?_append, hf]
  | some x =>
    have hx : x.2 = n := h x.2 (by simp [badAt, List.find?_append, hf])
    exact absurd (List.mem_map.2 ⟨x, List.mem_of_find?_eq_some hf, hx⟩) hl

/-- The signature of a safety set is judged last (R450): where nothing else is bad, it decides. -/
theorem State.badSafetySet_of_signature {s : State} {p : List Byte} (h : ∀ d, s.badSafetySet p = some d → d = 64) :
    s.badSafetySet p = if Config.verifies s.sys.safetyKey (p.take 64) (p.drop 64) then none else some 64 :=
  badAt_of_last (l := [_, _, _, _, _, _, _, _, _, _, _, _, _, _, _]) (by simp) h

/-- Settles O23: each command acts at once or is accepted with the effect of its case, and a safety set is judged by its signature. -/
theorem safetyCommandsComplete : Obligations.SafetyCommandsComplete := by
  refine ⟨?inhibit, ?status, ?first, ?other, ?load⟩
  case inhibit => exact fun s p h => State.done_later h rfl rfl (fun _ => rfl) rfl
  case status => exact fun s p h => State.done_now h rfl (fun _ => rfl) rfl
  case first =>
    intro s p h ht
    rw [exec_proofTest h, ht, State.beginProof_first, State.saf_pend]
  case other =>
    intro s p h ht
    rw [exec_proofTest h, State.beginProof_other _ ht, State.saf_pend]
  case load =>
    intro s p h hset
    have hp : opSafetyParamLoad.params s p.params =
        if Config.verifies s.sys.safetyKey (p.params.take 64) (p.params.drop 64) then none else some 64 :=
      State.badSafetySet_of_signature hset
    split at hp
    case isTrue hv =>
      rw [if_pos hv]
      exact State.done_later (h.of_anyParams hp) rfl rfl (fun _ => rfl) rfl
    case isFalse hv =>
      rw [if_neg hv]
      exact congrArg s.done (State.command_badParam h hp)

/-! ## Reset events -/

/-- Off shows no mode, and both outputs low (R48, R64). -/
theorem State.modeCode_powerOff (s : State) : s.powerOff.modeCode = 0 := by
  rw [State.modeCode, State.get_congr s.regs_powerOff, State.get_setReg_other _ _ _ (by decide)]
  simp [State.get, bits]

theorem State.flag_powerOff_stat (s : State) {f : Fld} (hf : f.addr = SAF_STAT) : s.powerOff.flag f = false := by
  rw [State.flag_congr s.regs_powerOff]
  simp [State.flag, State.get, bits, hf]

/-- What Off leaves behind the gate: the gate keeps the outputs low, and writes nothing else of what Off shows. -/
theorem completes_off {c : Instr} {s : State} (h : exec c s = s.done s.powerOff) :
    Completes c s fun t => t.modeCode = 0 ∧ t.running = 0 ∧ t.flag SAF_STAT_EN_A = false ∧ t.flag SAF_STAT_EN_B = false
      ∧ t.evt.log = [] ∧ t.flash = s.flash ∧ t.pending = s.pending := by
  obtain ⟨hA, hB⟩ := s.powerOff.gateOutputs_le
  have hlow : ∀ f : Fld, f.addr = SAF_STAT → (s.powerOff.gateOutputs.flag f = true → s.powerOff.flag f = true) →
      s.powerOff.gateOutputs.flag f = false := fun f hf hle =>
    Bool.eq_false_iff.2 fun hhigh => Bool.false_ne_true ((s.flag_powerOff_stat hf).symm.trans (hle hhigh))
  refine completes_of_done h ⟨?mode, ?running, hlow _ rfl hA, hlow _ rfl hB, ?log, ?flash, rfl⟩
  case mode => exact (State.get_gateOutputs _ SYS_MODE_MODE (by decide)).trans s.modeCode_powerOff
  case running => exact (State.running_gateOutputs _).trans s.running_powerOff
  case log => exact (congrArg Evt.log (State.evt_gateOutputs _)).trans s.log_powerOff
  case flash => exact (State.flash_gateOutputs _).trans s.flash_powerOff

/-- PORST_N is released in Off, or right after a cold reset: a cold reset (R64). -/
theorem exec_porstRelease {s : State} (h : s.modeCode = 0 ∨ s.modeCode = 1 ∧ s.sys.step = 0) :
    exec .porstRelease s = s.done (s.coldReset 1) := by
  change execPorstRelease s = _
  rcases h with h | ⟨h1, h0⟩
  · simp [execPorstRelease, h]
  · simp [execPorstRelease, h1, h0]

/-- The boot steps run in mode Boot (R68). -/
theorem State.modeCode_of_stepping {s : State} (h : s.stepping = true) : s.modeCode = 1 := by
  simp only [State.stepping, Bool.and_eq_true, decide_eq_true_eq] at h
  exact h.1.1.1.1

/-- A loss of power-good after step 2 drops the enables before its cold reset (R353). -/
theorem exec_powerGoodLoss_later {s : State} (g : Fin 6) (hm : s.modeCode ≠ 0) (hs : 3 ≤ s.sys.step) :
    exec (.powerGoodLoss g) s = s.done (s.dropEnables.coldReset 5) := by
  have h1 : ¬ s.sys.step ≤ 1 := by omega
  have h2 : s.sys.step ≠ 2 := by omega
  change execPowerGoodLoss g s = _
  simp [execPowerGoodLoss, hm, h1, h2]

/-- A loss of power-good in step 2 fails the step, with the group in its DETAIL (R353, R483). -/
theorem exec_powerGoodLoss_step {s : State} (g : Fin 6) (h : s.stepping = true) (hs : s.sys.step = 2) :
    exec (.powerGoodLoss g) s = s.done (s.failStep 2 3 0 (g.val + 1) false) := by
  change execPowerGoodLoss g s = _
  simp [execPowerGoodLoss, State.modeCode_of_stepping h, h, hs]

/-- The restart that a failed mandatory step asks for stands 10 ms after it (R72). -/
theorem exec_bootRestart {s : State} (h : s.sys.restartDue = true) :
    exec .bootRestart s = s.done ((s.waitFor .restart 8000000).warmReset 3) := by
  change execBootRestart s = _
  rw [execBootRestart, if_pos h]

/-- SYS_RESET asks for its key: without it a write is counted (R65). -/
theorem State.writeReset_otherKey {s : State} {key : BitVec 16} (h : key ≠ 0xA55A) (kind : Nat) :
    s.writeReset key.toNat kind = s.incSat SYS_RESET_REJ_COUNT := by
  have hk : key.toNat ≠ 0xA55A := fun e => h (BitVec.eq_of_toNat_eq e)
  rw [State.writeReset, if_pos hk]

/-- Leaving a scan instruction that is in effect is a warm reset (R466). -/
theorem exec_scanExitReset {s : State} (h : s.dbg.scan = true)
    (ht : s.dbg.tap = .extest ∨ s.dbg.tap = .clamp ∨ s.dbg.tap = .highz) :
    exec .scanExitReset s =
      s.done ({ s with dbg := { s.dbg with tap := .idcode, scan := false, capture := 0x18480947#64 } }.warmReset 2) := by
  change execScanExitReset s = _
  rcases ht with ht | ht | ht <;> simp [execScanExitReset, h, ht]

/-- Settles O25: Off is what the gate leaves of it, and every other event is the reset of its kind. -/
theorem resetEventsComplete : Obligations.ResetEventsComplete := by
  refine ⟨?off, ?release, ?releaseBoot, ?goodLater, ?goodStep, ?restart, ?lockstep, ?warm, ?cold, ?otherKey, ?scan⟩
  case off => exact fun s => ⟨completes_off rfl, completes_off rfl⟩
  case release => exact fun s h => exec_porstRelease (.inl h)
  case releaseBoot => exact fun s h h0 => exec_porstRelease (.inr ⟨h, h0⟩)
  case goodLater => exact fun s g hm hs => exec_powerGoodLoss_later g hm hs
  case goodStep => exact fun s g h hs => exec_powerGoodLoss_step g h hs
  case restart => exact fun s h => exec_bootRestart h
  case lockstep => exact fun s => rfl
  case warm => exact fun s by_ h => congrArg s.done (State.hostWrite_lands h _)
  case cold => exact fun s by_ h => congrArg s.done (State.hostWrite_lands h _)
  case otherKey =>
    exact fun s by_ key h hk =>
      ⟨congrArg s.done ((State.hostWrite_lands h _).trans (State.writeReset_otherKey hk 1)),
        congrArg s.done ((State.hostWrite_lands h _).trans (State.writeReset_otherKey hk 2))⟩
  case scan => exact fun s h ht => exec_scanExitReset h ht

/-! ## Boot step events -/

/-- The island the running step works on runs. -/
def State.stepClocked (s : State) : Prop := ((stepIsland s.sys.step).any fun i => !s.runs i) = false

section
variable {s : State} {ms : Nat} (f : BootFound) (hs : s.stepping = true)
include hs

/-- A step past its limit fails with status 5, whatever it found (R68, R71). -/
theorem State.stepDone_late (ok : Bool) (hms : stepLimit s.sys.step < ms) :
    s.stepDone ok ms f = s.failStep s.sys.step 5 ms f.detail.toNat f.mirrorFails := by
  simp [State.stepDone, hs, hms]

section
variable (hms : ms ≤ stepLimit s.sys.step)
include hms

/-- A step that fails within its limit; step 2 leaves the enables asserted up to the group that failed (R351, R352). -/
theorem State.stepDone_failed :
    s.stepDone false ms f =
      let u : State := if s.sys.step = 2 then s.assertEnables (enablesAfter false f.detail.toNat) else s
      u.failStep s.sys.step 3 ms f.detail.toNat f.mirrorFails := by
  simp [State.stepDone, hs, Nat.not_lt.2 hms]

variable (hi : s.stepClocked)
include hi

/-- A step with no rule of its own leaves its effect and passes (R68). -/
theorem State.stepDone_passes (h9 : s.sys.step ≠ 9) (h10 : s.sys.step ≠ 10) (h14 : s.sys.step ≠ 14) :
    s.stepDone true ms f = (s.stepEffect s.sys.step f).passStep s.sys.step ms 0 f.mirrorFails := by
  rw [State.stepClocked] at hi
  simp [State.stepDone, hs, Nat.not_lt.2 hms, hi, h9, h10, h14]

/-- Step 9 takes the record where it is good, and fails otherwise (R68, R450). -/
theorem State.stepDone_record (h : s.sys.step = 9) :
    s.stepDone true ms f = (s.configure f.record).elim (s.failStep 9 3 ms f.detail.toNat f.mirrorFails)
      fun t => t.passStep 9 ms 0 f.mirrorFails := by
  rw [State.stepClocked] at hi
  rw [h] at hms hi
  cases hc : s.configure f.record <;> simp [State.stepDone, hs, Nat.not_lt.2 hms, hi, h, hc]

/-- Step 10 ends by the reading of its stack (R69). -/
theorem State.stepDone_stack (h : s.sys.step = 10) : s.stepDone true ms f = s.warmStack ms f := by
  rw [State.stepClocked] at hi
  rw [h] at hms hi
  simp [State.stepDone, hs, Nat.not_lt.2 hms, hi, h]

/-- Step 14 ends once every enabled carrier has settled (R70). -/
theorem State.stepDone_carriers (h : s.sys.step = 14) (hc : s.carriersSettled = true) :
    s.stepDone true ms f = s.carriersStep ms f := by
  rw [State.stepClocked] at hi
  rw [h] at hms hi
  simp [State.stepDone, hs, Nat.not_lt.2 hms, hi, h, hc]

end

/-- A step that is timed out closes its entry with status 5 and fails (R68). -/
theorem exec_bootStepTimeout : exec (.bootStepTimeout ms) s = s.done (s.failStep s.sys.step 5 ms 0 false) := by
  change execBootStepTimeout ms s = _
  rw [execBootStepTimeout, if_pos hs]

end

section
variable {s : State} {ms : Nat} {f : BootFound}

/-- A stack that reads 0 °C or more needs no warming (R69). -/
theorem State.warmStack_warm (hw : s.sys.warming = false) (hc : 0 ≤ f.stack.toInt) :
    s.warmStack ms f = (s.put PWR_TEMP_HBM_C f.stack.toNat).passStep 10 0 0 f.mirrorFails := by
  simp [State.warmStack, hw, hc]

/-- A stack that reads below 0 °C begins to warm (R69). -/
theorem State.warmStack_cold (hw : s.sys.warming = false) (hc : f.stack.toInt < 0) :
    s.warmStack ms f = { s.put PWR_TEMP_HBM_C f.stack.toNat with sys := { s.sys with warming := true } } := by
  simp [State.warmStack, hw, Int.not_le.2 hc]

/-- A stack that was warmed to 5 °C is warm (R69). -/
theorem State.warmStack_warmed (hw : s.sys.warming = true) (hc : 5 ≤ f.stack.toInt) :
    s.warmStack ms f =
      { s.put PWR_TEMP_HBM_C f.stack.toNat with sys := { s.sys with warming := false } }.passStep 10 ms 0 f.mirrorFails := by
  simp [State.warmStack, hw, hc]

end

/-- Settles O26: each event is the end of a step, and the end of a step is the equation of its case. -/
theorem bootStepEventsComplete : Obligations.BootStepEventsComplete := by
  refine ⟨?passes, ?record, ?carriers, ?stack, ?late, ?failed, ?timeout⟩
  case passes =>
    exact fun s ms f hs hms hi h9 h10 h14 => congrArg s.done (State.stepDone_passes f hs hms hi h9 h10 h14)
  case record =>
    exact fun s ms f hs hms hi h => congrArg s.done (State.stepDone_record f hs (by rwa [h]) (by rwa [State.stepClocked, h]) h)
  case carriers =>
    exact fun s ms f hs hms hi h hc =>
      congrArg s.done (State.stepDone_carriers f hs (by rwa [h]) (by rwa [State.stepClocked, h]) h hc)
  case stack =>
    intro s ms f hs hms hi h
    have hstep : s.stepDone true ms f = s.warmStack ms f :=
      State.stepDone_stack f hs (by rwa [h]) (by rwa [State.stepClocked, h]) h
    refine ⟨fun hw hc => ?_, fun hw hc => ?_, fun hw hc => ?_⟩
    · exact congrArg s.done (hstep.trans (State.warmStack_warm hw hc))
    · exact congrArg s.done (hstep.trans (State.warmStack_cold hw hc))
    · exact congrArg s.done (hstep.trans (State.warmStack_warmed hw hc))
  case late => exact fun s ok ms f hs hms => congrArg s.done (State.stepDone_late f hs ok hms)
  case failed => exact fun s ms f hs hms => congrArg s.done (State.stepDone_failed f hs hms)
  case timeout => exact fun s ms hs => exec_bootStepTimeout hs

end Sys2Proof.Machine
end

section
/-! The statements on command packets (R83 to R111): what every opcode has in common and the order of its checks, what the commands of each
class leave (R105), and the events of their routes. -/

namespace Sys2Proof.Machine

open Sys2Proof

/-- Settles O2: every row answers through `State.done`, which puts the queue back. -/
theorem everyCommandAnswersANextState : Obligations.EveryCommandAnswersANextState := by
  intro c s
  obtain ⟨u, hu⟩ := exec_eq_done c s
  exact ⟨_, hu, rfl⟩

/-- Each row of the opcode table is the command of its opcode. -/
theorem exec_commandRow {q : (Packet → Instr) × Op} (hq : q ∈ commandRows) (s : State) (p : Packet) :
    exec (q.1 p) s = s.done (s.command q.2 p) := by
  revert q
  simp only [commandRows, List.cons_append, List.nil_append, List.forall_mem_cons]
  and_intros
  iterate 52 exact rfl
  exact List.forall_mem_nil _

/-- Settles O7: a row is a command, and a command closed out, failed or without need of action has one equation each. -/
theorem commandChecks : Obligations.CommandChecks := by
  intro q hq s p
  rw [exec_commandRow hq]
  refine ⟨fun h => ?closed, fun st d ho hc hb => ?fails, fun ht hs => ?same⟩
  case closed => rw [State.command_closed s q.2 p h]
  case fails => rw [State.command_fails ho hc hb]
  case same => rw [State.command_same ht hs]

/-! ## The order of the checks (R98) -/

section
variable {s : State} {o : Op} {p : Packet}

theorem fails_eq_none_iff (b : Bool) (st : Status) (d : Nat) : fails b st d = none ↔ b = false := by
  cases b <;> simp [fails]

/-- Step 1 comes first. -/
theorem State.check_badLength (h : packetFormed p = false) : s.check o p = some (.badLength, 1) := by
  simp [State.check, fails, h]

/-- The CHECK comes second. -/
theorem State.check_badCheck (h : packetFormed p = true) (hc : p.check ≠ packetCrc p o.code) :
    s.check o p = some (.badCheck, 0) := by
  simp [State.check, fails, h, hc]

/-- Then comes the route. -/
theorem State.check_route (h : packetFormed p = true) (hc : p.check = packetCrc p o.code) {x : Status × Nat}
    (hr : s.routeFails o.code p.route = some x) : s.check o p = some x := by
  simp [State.check, fails, h, hc, hr]

/-- Then come the rights. -/
theorem State.check_viewDenied (h : packetFormed p = true) (hc : p.check = packetCrc p o.code)
    (hr : s.routeFails o.code p.route = none) (hk : o.keeper = true) (hv : s.rights p.route = false) :
    s.check o p = some (.viewDenied, 0) := by
  simp [State.check, fails, h, hc, hr, hk, hv]

end

/-- What the firmware serves elsewhere than on a ring are the opcodes of R86. -/
theorem State.routeFails_plain {s : State} {code : Nat} {r : Route} (hrom : s.sys.rom = false) (hr : ringOf r = none)
    (hc : code ∉ plainOps) : s.routeFails code r = some (.badOpcode, 1) := by
  simp [State.routeFails, fails, hrom, hr, hc]

theorem State.routeFails_served {s : State} {code : Nat} {r : Route} (hrom : s.sys.rom = false)
    (h : (ringOf r).isSome = true ∨ code ∈ plainOps) : s.routeFails code r = none := by
  rw [State.routeFails, hrom, if_neg Bool.false_ne_true, fails_eq_none_iff]
  rcases h with h | h
  · rw [Option.isNone_eq_false_iff.2 h]
    rfl
  · simp [h]

theorem State.rights_eq_false {s : State} {r : Route} (hrom : s.sys.rom = false) (hr : r ≠ .keeper) : s.rights r = false := by
  cases r with
  | keeper => exact absurd rfl hr
  | crew => simp [State.rights, routeCode, hrom]
  | towpath slot => simp [State.rights, routeCode, hrom]
  | ethernet port => simp [State.rights, routeCode, hrom]

/-- A packet whose checks pass has passed each of them. -/
theorem State.passed_of_check {s : State} {o : Op} {p : Packet} (h : s.check o p = none) :
    packetFormed p = true ∧ p.check = packetCrc p o.code ∧ o.fits p.params = true ∧ p.flags = 0
      ∧ o.params s p.params = none ∧ o.legal.testBit s.modeCode = true
      ∧ (o.keeper = true → s.rights p.route = true)
      ∧ (s.cmd.table.any fun c => c.tag = p.tag && c.session = p.session) = false := by
  simp only [State.check, List.findSome?_eq_none_iff, List.forall_mem_cons, id_eq, fails_eq_none_iff, Option.map_eq_none_iff] at h
  obtain ⟨hlen, hcheck, -, hrights, hfits, hflags, hparams, hmode, -, -, -, hused, -⟩ := h
  rw [Bool.not_eq_false', Bool.and_eq_true] at hmode
  refine ⟨by simpa using hlen, by simpa using hcheck, by simpa using hfits, by simpa using hflags, hparams, hmode.1, ?_, hused⟩
  intro hk
  simpa [hk] using hrights

/-- Settles O8: each failure by the equation of its step, and a packet that fails none by what each step asks for. -/
theorem checksInOrder : Obligations.ChecksInOrder := by
  intro s o p
  refine ⟨State.check_badLength, State.check_badCheck, fun hf hc hrom => ⟨fun ⟨hr, ho⟩ => ?route, fun hr hk hv => ?rights⟩,
    State.passed_of_check⟩
  case route => exact State.check_route hf hc (State.routeFails_plain hrom hr ho)
  case rights => exact State.check_viewDenied hf hc (State.routeFails_served hrom hr) hk (State.rights_eq_false hrom hv)

/-- Settles O9: off the rings the route is the first check that such a packet fails. -/
theorem routeRefusals : Obligations.RouteRefusals := by
  intro q hq s p ho hrom hf hc hr hcode
  have hroute : s.check q.2 p = some (.badOpcode, 1) := State.check_route hf hc (State.routeFails_plain hrom hr hcode)
  rw [exec_commandRow hq, State.command_fails ho hroute (fun h => nomatch h.1)]

/-! ## State, journal and measurement commands -/

/-- GET_CERTIFICATE of an INDEX that has a certificate answers it; of another it is a bad parameter (R105). -/
theorem exec_getCertificate {s : State} {p : Packet} (h : s.Acts opGetCertificate.anyParams p) :
    exec (.getCertificate p) s = (Config.certificate (field p.params 0 1)).elim
      (s.done (s.answer p.route none (s.replyTo 0x0A01 classI p .badParam 0 false [])))
      fun c => s.answered opGetCertificate p (c.take 4072) s := by
  cases hc : Config.certificate (field p.params 0 1) with
  | none =>
    have hp : opGetCertificate.params s p.params = some 0 := by simp [opGetCertificate, badAt, hc]
    exact congrArg s.done (State.command_badParam h hp)
  | some c =>
    have hp : opGetCertificate.params s p.params = none := by simp [opGetCertificate, badAt, hc]
    exact State.done_now (h.of_anyParams hp) rfl (fun _ => rfl) (by simp [opGetCertificate, hc])

/-- Settles O17: each command acts at once, with the data and the effect of its row. -/
theorem stateJournalAndMeasurementCommandsComplete : Obligations.StateJournalAndMeasurementCommandsComplete := by
  refine ⟨⟨?query, ?events⟩, ?journalRead, ?journalClear, ?key, ?extend, ?ack, ?attestation, ?certificate⟩
  case query => exact fun s p h => State.done_now h rfl (fun _ => rfl) rfl
  case events => exact fun s p h => State.done_now h rfl (fun _ => rfl) rfl
  case journalRead => exact fun s p h => State.done_now h rfl (fun _ => rfl) rfl
  case journalClear => exact fun s p h => State.done_now h rfl (fun _ => rfl) rfl
  case key => exact fun s p h => State.done_now h rfl (fun _ => rfl) rfl
  case extend => exact fun s p h => State.done_now h rfl (fun _ => rfl) rfl
  case ack => exact fun s p h => State.done_now h rfl (fun _ => rfl) rfl
  case attestation => exact fun s p h => State.done_now h rfl (fun _ => rfl) rfl
  case certificate => exact fun s p h => exec_getCertificate h

/-! ## Firmware load and time commands -/

/-- Bytes go to the load in progress (R105). -/
theorem State.fwBytes_loading {s : State} (h : s.cmd.fwCopy.isSome) (off : Nat) (l : List Byte) :
    s.fwBytes off l = { s with cmd := { s.cmd with fwData := (List.range l.length).foldl (fun (m : Sparse) i =>
      m.set (fun _ => 0) (off + i) ((l.getD i 0).setWidth 32)) s.cmd.fwData } } := by
  rw [State.fwBytes, Option.isNone_eq_false_iff.2 h, if_neg Bool.false_ne_true]

/-- Without a load in progress they go nowhere. -/
theorem State.fwBytes_idle {s : State} (h : s.cmd.fwCopy = none) (off : Nat) (l : List Byte) : s.fwBytes off l = s := by
  simp [State.fwBytes, h]

section
variable {s : State} {p : Packet}

/-- A FW_LOAD_DATA that acts. -/
theorem exec_fwLoadData (h : s.Acts opFwLoadData p) :
    exec (.fwLoadData p) s = s.answered opFwLoadData p [] (s.fwBytes (field p.params 0 4) (p.params.drop 4)) :=
  State.done_now h rfl (fun _ => rfl) rfl

/-- A TIME_CONFIG that acts writes its entries where TIM runs (R28, R429). -/
theorem exec_timeConfig (h : s.Acts opTimeConfig p) :
    exec (.timeConfig p) s =
      s.answered opTimeConfig p [] (if s.runs 11 then s.writeTim (timeEntries p.params) else s) :=
  State.done_now h rfl (fun _ => rfl) rfl

end

/-- Settles O18: each command acts at once or is accepted, with the effect of its case. -/
theorem firmwareLoadAndTimeCommandsComplete : Obligations.FirmwareLoadAndTimeCommandsComplete := by
  refine ⟨?loadBegin, ?data, ?dataIdle, ?loadEnd, ?status, ?jump, ?config, ?configReset⟩
  case loadBegin => exact fun s p h => State.done_now h rfl (fun _ => rfl) rfl
  case data =>
    intro s p h hload
    rw [exec_fwLoadData h, State.fwBytes_loading hload]
  case dataIdle =>
    intro s p h hidle
    rw [exec_fwLoadData h, State.fwBytes_idle hidle]
  case loadEnd => exact fun s p h => State.done_later h rfl rfl (fun _ => rfl) rfl
  case status => exact fun s p h => State.done_now h rfl (fun _ => rfl) rfl
  case jump => exact fun s p h => State.done_later h rfl rfl (fun _ => rfl) rfl
  case config =>
    intro s p h hr
    rw [exec_timeConfig h, if_pos hr]
  case configReset =>
    intro s p h hr
    rw [exec_timeConfig h, hr, if_neg Bool.false_ne_true]

/-! ## Nozzle commands -/

section
variable {s : State} {p : Packet}

/-- A NOZZLE_WRITE that acts. -/
theorem exec_nozzleWrite (h : s.Acts opNozzleWrite p) :
    exec (.nozzleWrite p) s = s.answered opNozzleWrite p [] (s.writeNozzles p.params) :=
  State.done_now h rfl (fun _ => rfl) rfl

/-- A NOZZLE_SET_STATE that acts. -/
theorem exec_nozzleSetState (h : s.Acts opNozzleSetState p) :
    exec (.nozzleSetState p) s = s.answered opNozzleSetState p [] (s.setNozzleState p.params) :=
  State.done_now h rfl (fun _ => rfl) rfl

end

section
variable {s : State} (l : List Byte)

/-- ASM in reset takes no write of its table (R28). -/
theorem State.writeNozzles_inReset (hr : s.runs 7 = false) : s.writeNozzles l = s := by
  simp [State.writeNozzles, hr]

theorem State.setNozzleState_inReset (hr : s.runs 7 = false) : s.setNozzleState l = s := by
  simp [State.setNozzleState, hr]

/-- Writes stage one change per record, and commit the channel's set (R191, R195). -/
theorem State.writeNozzles_clocked (hr : s.runs 7 = true) :
    s.writeNozzles l =
      ((List.range (field l 6 2)).foldl (fun (u : State) i =>
          u.stageChange (recordIndex (field l 0 1) (field l 1 1) (field l 2 1) (field l 4 2 + i))
            (BitVec.ofNat 12 (field l 8 2))
            (recOfWords ((List.range 4).map fun k => BitVec.ofNat 32 (field l (12 + 16 * i + 4 * k) 4)))) s).commitNow
        .asm (field l 0 1) := by
  rw [State.writeNozzles, hr]
  rfl

theorem State.setNozzleState_clocked (hr : s.runs 7 = true) :
    s.setNozzleState l =
      (s.stageChange (recordIndex (field l 0 1) (field l 1 1) (field l 2 1) (field l 4 2)) 3
        (recPut (recPut 0 0 (field l 6 1)) 1 (field l 7 1))).commitNow .asm (field l 0 1) := by
  rw [State.setNozzleState, hr]
  rfl

end

/-- Settles O20: reads act on nothing, and writes have the effect of their case. -/
theorem nozzleCommandsComplete : Obligations.NozzleCommandsComplete := by
  refine ⟨?read, ?write, ?setState, ?inReset, ?summary⟩
  case read => exact fun s p h => State.done_now h rfl (fun _ => rfl) rfl
  case write =>
    intro s p h hr
    rw [exec_nozzleWrite h, State.writeNozzles_clocked _ hr]
  case setState =>
    intro s p h hr
    rw [exec_nozzleSetState h, State.setNozzleState_clocked _ hr]
  case inReset =>
    intro s p hr
    refine ⟨fun h => ?_, fun h => ?_⟩
    · rw [exec_nozzleWrite h, State.writeNozzles_inReset _ hr]
    · rw [exec_nozzleSetState h, State.setNozzleState_inReset _ hr]
  case summary => exact fun s p h => State.done_now h rfl (fun _ => rfl) rfl

/-! ## Calibration commands -/

section
variable {s : State} {l : List Byte}

/-- Kind 1 sets the voltage reference. -/
theorem State.setReference_voltage (hk : field l 0 1 = 1) :
    s.setReference l = s.setReg CAL_VREF (BitVec.ofNat 32 (field l 4 4)) := by
  rw [State.setReference, hk]
  rfl

/-- Kind 2 sets the targets of white and black. -/
theorem State.setReference_targets (hk : field l 0 1 = 2) :
    s.setReference l = (s.put CAL_TARGET_WHITE (field l 4 4)).put CAL_TARGET_BLACK (field l 8 4) := by
  rw [State.setReference, hk]
  rfl

/-- Kind 3 enters a measured dimension (R345). -/
theorem State.setReference_dimension (hk : field l 0 1 = 3) :
    s.setReference l =
      let cl := newCpl s.cplWritten s.dimLines (field l 4 4)
      let u := if s.runs 8 then (s.setReg FIR_CPL_LO (BitVec.ofNat 32 cl)).put FIR_CPL_HI_INT (cl / 2 ^ 32) else s
      (u.setReg CAL_K (BitVec.ofNat 32 (kOf cl))).putFlag CAL_DIM_PENDING false := by
  rw [State.setReference, hk]
  rfl

end

/-- A CAL_REFERENCE_SET that acts enters its reference. -/
theorem exec_calReferenceSet {s : State} {p : Packet} (h : s.Acts opCalReferenceSet p) :
    exec (.calReferenceSet p) s = s.answered opCalReferenceSet p [] (s.setReference p.params) :=
  State.done_now h rfl (fun _ => rfl) rfl

/-- Settles O21: each command acts at once or is accepted, and a reference is entered by its kind. -/
theorem calibrationCommandsComplete : Obligations.CalibrationCommandsComplete := by
  refine ⟨?start, ?abort, ?tableWrite, ?tableRead, ?voltage, ?targets, ?dimension, ?temper⟩
  case start => exact fun s p h => State.done_later h rfl rfl (fun _ => rfl) rfl
  case abort => exact fun s p h => State.done_later h rfl rfl (fun _ => rfl) rfl
  case tableWrite => exact fun s p h => State.done_now h rfl (fun _ => rfl) rfl
  case tableRead => exact fun s p h => State.done_now h rfl (fun _ => rfl) rfl
  case voltage =>
    intro s p h hk
    rw [exec_calReferenceSet h, State.setReference_voltage hk]
  case targets =>
    intro s p h hk
    rw [exec_calReferenceSet h, State.setReference_targets hk]
  case dimension =>
    intro s p h hk
    rw [exec_calReferenceSet h, State.setReference_dimension hk]
  case temper => exact fun s p h => State.done_now h rfl (fun _ => rfl) rfl

/-! ## Commands of cameras, power and the carrier link -/

section
variable {s : State} {p : Packet}

/-- An INS_CONFIG that acts. -/
theorem exec_insConfig (h : s.Acts opInsConfig p) :
    exec (.insConfig p) s = s.answered opInsConfig p [] (s.configStream p.params) :=
  State.done_now h rfl (fun _ => rfl) rfl

/-- A LINK_ERR_INJECT that acts, JGL clocked. -/
theorem exec_linkErrInject (h : s.Acts opLinkErrInject p) (hr : s.runs 9 = true) :
    exec (.linkErrInject p) s = s.answered opLinkErrInject p []
      (s.injectErrors (field p.params 0 1) (field p.params 1 1) (field p.params 2 2)) :=
  State.done_now h rfl (fun _ => rfl) (congrArg (Prod.mk []) (if_pos hr))

end

/-- CAM in reset takes no stream definition (R28). -/
theorem State.configStream_inReset {s : State} (hr : s.runs 10 = false) (l : List Byte) : s.configStream l = s := by
  simp [State.configStream, hr]

/-- A stream definition is staged field by field, and set 16 committed (R341). -/
theorem State.configStream_clocked {s : State} (hr : s.runs 10 = true) (l : List Byte) :
    s.configStream l =
      let n := field l 0 1
      let on := field l 1 1 ≠ 0xFF
      let u := s.putFlag (CAM_OS_CFG_EN n) on
      let v := if on then u.put (CAM_OS_CFG_SENSOR n) (field l 1 1) else u
      ((((((v.put (CAM_OS_CFG_FMT n) (field l 2 1)).put (CAM_OS_CFG_SCALE n) (field l 3 1)).put (CAM_OS_CFG_DECIM n)
        (field l 12 2)).put (CAM_OS_CROP_COL_COL_FIRST n) (field l 4 2)).put (CAM_OS_CROP_COL_COLS n)
        (field l 6 2)).put (CAM_OS_CROP_LINE_LINE_FIRST n) (field l 8 2)).put (CAM_OS_CROP_LINE_LINES n)
        (field l 10 2) |>.commitNow .cam 16 := by
  rw [State.configStream, hr]
  rfl

/-- Settles O22: each command acts at once or is accepted, with the effect of its case. -/
theorem cameraPowerAndLinkCommandsComplete : Obligations.CameraPowerAndLinkCommandsComplete := by
  refine ⟨?discover, ?settings, ?defects, ?configReset, ?config, ?status, ?rail, ?budget, ?wear, ?link, ?retrain, ?prbs, ?inject⟩
  case discover => exact fun s p h => State.done_later h rfl rfl (fun _ => rfl) rfl
  case settings => exact fun s p h => State.done_now h rfl (fun _ => rfl) rfl
  case defects => exact fun s p h => State.done_now h rfl (fun _ => rfl) rfl
  case configReset =>
    intro s p h hr
    rw [exec_insConfig h, State.configStream_inReset hr]
  case config =>
    intro s p h hr
    rw [exec_insConfig h, State.configStream_clocked hr]
  case status => exact fun s p h => State.done_now h rfl (fun _ => rfl) rfl
  case rail => exact fun s p h => State.done_now h rfl (fun _ => rfl) rfl
  case budget => exact fun s p h => State.done_now h rfl (fun _ => rfl) rfl
  case wear => exact fun s p h => State.done_now h rfl (fun _ => rfl) rfl
  case link => exact fun s p h => State.done_now h rfl (fun _ => rfl) rfl
  case retrain => exact fun s p h => State.done_later h rfl rfl (fun _ => rfl) rfl
  case prbs => exact fun s p h => State.done_now h rfl (fun _ => rfl) rfl
  case inject => exact fun s p h hr => exec_linkErrInject h hr

/-! ## Routes -/

/-- An index of a ring is apart from its control word. -/
theorem State.enabled_put_index (s : State) (crew : Bool) {f : Fld} (n : Nat) (h : f = sqTail crew ∨ f = cqHead crew) :
    (s.put f n).flag (ringEnable crew) = s.flag (ringEnable crew) := by
  rcases h with rfl | rfl <;> cases crew <;> exact State.flag_put_other s _ _ n (by decide) (.inl (by decide))

section
variable {s : State} {crew : Bool}

/-- A doorbell of a ring that is not enabled moves the tail alone (R88). -/
theorem State.ringDoorbell_disabled (he : s.flag (ringEnable crew) = false) (tail : Word) (slots : List (List Byte)) :
    s.ringDoorbell crew tail slots = s.put (sqTail crew) (tail.toNat % s.ringSize crew) := by
  simp [State.ringDoorbell, State.enabled_put_index, he]

/-- A doorbell of an enabled ring submits the slots up to the new tail, and fetches on (R88). -/
theorem State.ringDoorbell_enabled (he : s.flag (ringEnable crew) = true) (tail : Word) (slots : List (List Byte)) :
    s.ringDoorbell crew tail slots =
      let n := s.ringSize crew
      let u := s.put (sqTail crew) (tail.toNat % n)
      let l := (List.range ((tail.toNat % n + n - s.get (sqTail crew) % n) % n)).map fun i => slots.getD i []
      (u.setQueue crew (s.ringQueue crew ++ l)).fetchAll := by
  have hq : ∀ n, (s.put (sqTail crew) n).ringQueue crew = s.ringQueue crew := fun _ => rfl
  simp [State.ringDoorbell, State.enabled_put_index, he, hq]

/-- A write of the head of a ring that is not enabled moves the head alone (R89). -/
theorem State.ringHead_disabled (he : s.flag (ringEnable crew) = false) (head : Word) :
    s.ringHead crew head = s.put (cqHead crew) (head.toNat % s.ringSize crew) := by
  simp [State.ringHead, State.enabled_put_index, he]

/-- A write of the head of an enabled ring lets waiting replies go, and fetches on (R89). -/
theorem State.ringHead_enabled (he : s.flag (ringEnable crew) = true) (head : Word) :
    s.ringHead crew head =
      (State.drainReplies crew (s.ringWaiting crew).length (s.put (cqHead crew) (head.toNat % s.ringSize crew))).fetchAll := by
  have hw : ∀ n, (s.put (cqHead crew) n).ringWaiting crew = s.ringWaiting crew := fun _ => rfl
  simp [State.ringHead, State.enabled_put_index, he, hw]

/-- A fetch error disables its ring, with FETCH_ERR and vector 38 (R111). -/
theorem State.ringFails_enabled (hr : s.runs 3 = true) (he : s.flag (ringEnable crew) = true) :
    s.ringFails crew =
      ((s.ringOff crew).putFlag (ringFld crew CMD_K_RING_CTL_FETCH_ERR CMD_C_RING_CTL_FETCH_ERR) true).raise 38 := by
  simp [State.ringFails, hr, he]

end

/-! ### The end of a pending command -/

section
variable {s : State} {crew : Bool} {tag : BitVec 16} {session : BitVec 32} {data : List Byte}

/-- A result that is settled stays (R101). -/
theorem State.settleCmd_settled {c : PendingCmd} (h : c.result.isSome) (outcome : Sys2Proof.Outcome) :
    s.settleCmd c outcome = s := by
  simp [State.settleCmd, h]

/-- A settled command gets its final reply, and leaves the table (R101). -/
theorem State.commandEnds_settled {c : PendingCmd} (hc : s.pendingCmd crew tag session = some c) (hr : c.result.isSome)
    (outcome : Sys2Proof.Outcome) :
    s.commandEnds crew tag session outcome data = (s.finishCmd c data).fetchAll := by
  simp [State.commandEnds, hc, State.settleCmd_settled hr]

/-- The final reply of a command whose host still listens. -/
theorem State.finishCmd_heard {c : PendingCmd} {st : Status} {d : Nat} (hr : c.result = some (st, d)) (hm : c.mute = false) :
    s.finishCmd c data =
      { s with cmd := { s.cmd with table := s.cmd.table.filter fun x =>
          !(x.crew = c.crew && x.tag = c.tag && x.session = c.session) } }.ringAnswer c.crew
        { s.replyTo c.opcode.toNat (((opOf c.opcode.toNat).map fun (o : Op) => o.legal).getD 0)
            ⟨ringRoute c.crew, c.tag, 0, 0, c.session, 0, []⟩ st d c.noChange data with modeByte := c.modeByte } := by
  simp [State.finishCmd, hr, hm]

/-- The end of no pending command ends the load that a FW_LOAD_END on the towpath closed (log entry 51). -/
theorem State.commandEnds_none (hc : s.pendingCmd crew tag session = none) (hf : s.cmd.fwClosed = true)
    (outcome : Sys2Proof.Outcome) :
    s.commandEnds crew tag session outcome data = s.endLoad (decide (outcome = .ok)) := by
  simp [State.commandEnds, hc, hf]

/-- A good load stays as the image of its copy (R105). -/
theorem State.endLoad_good {k : BitVec 8} (hk : s.cmd.fwCopy = some k) :
    s.endLoad true =
      (let image : List Byte := (List.range s.cmd.fwSize).map fun i => (s.cmd.fwData.get (fun _ => 0) i).setWidth 8
       let t : State := { s with
         cmd := { s.cmd with fwCopy := none, fwSize := 0, fwData := [], fwClosed := false }
         flash := { s.flash with images := s.flash.images.set k.toNat (some image) } }
       t.emit (.flashWrite 0)) := by
  simp only [State.endLoad, hk]

end

/-! ### The towpath and Ethernet -/

section
variable {s : State} {slot : Fin 8} {value : Word}

/-- A doorbell of a busy slot or a disabled towpath is an overrun (R93). -/
theorem State.doorbell_overrun (h : s.flag CMD_TP_CTL_ENABLE = false ∨ s.cmd.busy.getLsbD slot.val = true) :
    s.doorbell slot value = s.incSat CMD_TP_STAT_OVERRUN := by
  rcases h with h | h <;> simp [State.doorbell, h]

/-- Otherwise the slot is busy, and its packet is received (R92). -/
theorem State.doorbell_taken (he : s.flag CMD_TP_CTL_ENABLE = true) (hb : s.cmd.busy.getLsbD slot.val = false) :
    s.doorbell slot value =
      let l := s.slotBytes slot.val
      let ps := (l.drop 16).take (field l 4 2)
      { s with cmd := { s.cmd with busy := putBit s.cmd.busy slot.val true } }.receive (field l 0 2)
        (packetOf (.towpath slot) l (if bits value 0 8 = 16 + field l 4 2 then ps else 0 :: ps)) none := by
  rw [State.doorbell, he, hb]
  rfl

/-- The towpath doorbell acts while the host reaches the chip. -/
theorem exec_towpathDoorbell (h : s.reaches .keeper = true) :
    exec (.towpathDoorbell slot value) s = s.done (s.doorbell slot value) :=
  congrArg s.done (if_pos h)

end

section
variable {s : State} {port : Fin 2} {vlan : Option (BitVec 12)} {udp : BitVec 16} {frag : Bool} {src : BitVec 128} {sp : BitVec 16}
  {l : List Byte} (hr : s.runs 11 = true) (hrom : s.sys.rom = false) (hup : s.portUp port.val = true)
  (hv : s.vlanOk port.val vlan = true)
include hr hrom hup hv

/-- A datagram that fails a test is counted and discarded with vector 37 (R95). -/
theorem State.datagram_bad (hg : s.datagramGood port.val udp frag l = false) :
    s.datagram port vlan udp frag src sp l = s.datagramFails CMD_NET_STAT_AUTH_FAIL := by
  simp [State.datagram, hr, hrom, hup, hv, hg]

variable (hg : s.datagramGood port.val udp frag l = true)
include hg

/-- So is a replay (R95). -/
theorem State.datagram_replayed (hq : field l 8 8 ≤ (s.netKey (field l 3 1)).seq) :
    s.datagram port vlan udp frag src sp l = s.datagramFails CMD_NET_STAT_REPLAY := by
  simp [State.datagram, hr, hrom, hup, hv, hg, hq]

/-- A datagram that is accepted records its SEQ, raises vector 35, and brings its packet (R95). -/
theorem State.datagram_accepted (hq : (s.netKey (field l 3 1)).seq < field l 8 8) :
    s.datagram port vlan udp frag src sp l =
      let b := (l.take (l.length - 16)).drop 16
      let u := { s with cmd := { s.cmd with keys := s.cmd.keys.set (field l 3 1)
                                              { s.netKey (field l 3 1) with seq := field l 8 8 } } }
      (u.raise 35).receive (field b 0 2) (packetOf (.ethernet port) b (b.drop 16)) (some ⟨src, sp, field l 3 1⟩) := by
  simp [State.datagram, hr, hrom, hup, hv, hg, Nat.not_le.2 hq]

end

/-- Settles O24: each event by the equation of its operation in that case. -/
theorem commandRouteEventsComplete : Obligations.CommandRouteEventsComplete := by
  refine ⟨⟨?tailOff, ?tailOn, ?headOff, ?headOn, ?fetchError, ?settled, ?load⟩, ?overrun, ?doorbell, ?bad, ?replayed, ?accepted⟩
  case tailOff =>
    exact fun s crew tail slots hl he =>
      congrArg s.done ((State.hostWrite_lands hl _).trans (State.ringDoorbell_disabled he tail slots))
  case tailOn =>
    exact fun s crew tail slots hl he =>
      congrArg s.done ((State.hostWrite_lands hl _).trans (State.ringDoorbell_enabled he tail slots))
  case headOff =>
    exact fun s crew head hl he => congrArg s.done ((State.hostWrite_lands hl _).trans (State.ringHead_disabled he head))
  case headOn =>
    exact fun s crew head hl he => congrArg s.done ((State.hostWrite_lands hl _).trans (State.ringHead_enabled he head))
  case fetchError => exact fun s crew hr he => congrArg s.done (State.ringFails_enabled hr he)
  case settled =>
    intro s c outcome data st d hc hres hm
    have hsome : c.result.isSome := by simp [hres]
    exact congrArg s.done
      ((State.commandEnds_settled hc hsome outcome).trans (congrArg State.fetchAll (State.finishCmd_heard hres hm)))
  case load =>
    exact fun s crew tag session data k hc hf hk =>
      congrArg s.done ((State.commandEnds_none hc hf .ok).trans (State.endLoad_good hk))
  case overrun =>
    exact fun s slot value h ho => (exec_towpathDoorbell h).trans (congrArg s.done (State.doorbell_overrun ho))
  case doorbell =>
    exact fun s slot value h he hb => (exec_towpathDoorbell h).trans (congrArg s.done (State.doorbell_taken he hb))
  case bad =>
    exact fun s port vlan udp frag src sp l hr hrom hup hv hg => congrArg s.done (State.datagram_bad hr hrom hup hv hg)
  case replayed =>
    exact fun s port vlan udp frag src sp l hr hrom hup hv hg hq =>
      congrArg s.done (State.datagram_replayed hr hrom hup hv hg hq)
  case accepted =>
    exact fun s port vlan udp frag src sp l hr hrom hup hv hg hq =>
      congrArg s.done (State.datagram_accepted hr hrom hup hv hg hq)

end Sys2Proof.Machine
end

section
/-! The frames: what reads by command, locks, barge programs, the debug port, wear records, the towpath mailbox and calibration tables
leave alone (R91, R105, R315, R370, R385, R387, R399, R404, R471). -/

namespace Sys2Proof.Machine

open Sys2Proof

/-! ## Frames: what an operation writes, and what an outlook on the state does not see -/

/-- A part of the state that register words, events and the gate of R436 do not enter. -/
structure Outlook where
  Seen : Type
  look : State → Seen
  setReg : ∀ s a v, look (s.setReg a v) = look s
  raiseWith : ∀ s v d x p, look (s.raiseWith v d x p) = look s
  gate : ∀ s q, look { s.gateOutputs with pending := q } = look s

/-- From `s` to `t` an outlook stays, and so do the registers outside a block, the event registers and SAF_STAT aside. -/
structure Keeps (lo hi : Nat) (w : Outlook) (s t : State) : Prop where
  regs : SameOutside lo hi s t
  seen : w.look t = w.look s

/-- A command that completes keeps an outlook and the registers outside a block. -/
def Spares (lo hi : Nat) (w : Outlook) (c : Instr) (s : State) : Prop := Completes c s (Keeps lo hi w s)

section
variable {lo hi : Nat} {w : Outlook} {s t : State}

theorem Keeps.refl : Keeps lo hi w s s := ⟨fun _ _ _ _ => rfl, rfl⟩

/-- What changes neither a register nor the outlook. -/
theorem Keeps.congr (h : Keeps lo hi w s t) {u : State} (hr : u.regs = t.regs) (hw : w.look u = w.look t) : Keeps lo hi w s u :=
  ⟨fun a h1 h2 h3 => (State.reg_congr hr a).trans (h.regs a h1 h2 h3), hw.trans h.seen⟩

theorem Keeps.setReg (h : Keeps lo hi w s t) {a : Nat} (ha : lo ≤ a ∧ a < hi) (v : Word) : Keeps lo hi w s (t.setReg a v) := by
  refine ⟨fun b h1 h2 h3 => ?_, (w.setReg t a v).trans h.seen⟩
  have hb : b ≠ a := fun e => h1 (e ▸ ha)
  rw [State.reg_setReg_other _ _ hb, h.regs b h1 h2 h3]

theorem Keeps.put (h : Keeps lo hi w s t) {f : Fld} (hf : lo ≤ f.addr ∧ f.addr < hi) (n : Nat) : Keeps lo hi w s (t.put f n) :=
  h.setReg hf _

theorem Keeps.putFlag (h : Keeps lo hi w s t) {f : Fld} (hf : lo ≤ f.addr ∧ f.addr < hi) (b : Bool) :
    Keeps lo hi w s (t.putFlag f b) := h.put hf _

theorem Keeps.incSat (h : Keeps lo hi w s t) {f : Fld} (hf : lo ≤ f.addr ∧ f.addr < hi) : Keeps lo hi w s (t.incSat f) :=
  h.put hf _

theorem Keeps.incWrap (h : Keeps lo hi w s t) {f : Fld} (hf : lo ≤ f.addr ∧ f.addr < hi) : Keeps lo hi w s (t.incWrap f) :=
  h.put hf _

theorem Keeps.raiseWith (h : Keeps lo hi w s t) {v : Nat} (hv : v < 256) (d x : Option Nat) (p : Word) :
    Keeps lo hi w s (t.raiseWith v d x p) := by
  refine ⟨fun a h1 h2 h3 => ?_, (w.raiseWith t v d x p).trans h.seen⟩
  have ha : outsideEvt a := by
    unfold outsideEvt
    omega
  rw [State.reg_raiseWith t d x p hv ha, h.regs a h1 h2 h3]

theorem Keeps.raise (h : Keeps lo hi w s t) {v : Nat} (hv : v < 256) (p : Word := 0) : Keeps lo hi w s (t.raise v p) :=
  h.raiseWith hv _ _ _

theorem Keeps.raiseData (h : Keeps lo hi w s t) {v : Nat} (hv : v < 256) (x : Nat) : Keeps lo hi w s (t.raiseData v x) :=
  h.raiseWith hv _ _ _

theorem Keeps.raiseDetail (h : Keeps lo hi w s t) {v : Nat} (hv : v < 256) (d : Nat) : Keeps lo hi w s (t.raiseDetail v d) :=
  h.raiseWith hv _ _ _

/-- One of two ways on. -/
theorem Keeps.ite {p : Prop} [Decidable p] {t u : State} (ht : p → Keeps lo hi w s t) (hu : ¬ p → Keeps lo hi w s u) :
    Keeps lo hi w s (if p then t else u) := by
  split
  case isTrue h => exact ht h
  case isFalse h => exact hu h

/-- The same step made once for each entry of a list. -/
theorem Keeps.foldl {α : Type} {l : List α} {f : State → α → State}
    (hf : ∀ u, ∀ x ∈ l, Keeps lo hi w s u → Keeps lo hi w s (f u x)) {u : State} (h : Keeps lo hi w s u) :
    Keeps lo hi w s (l.foldl f u) := List.foldlRecOn l f h fun u hu x hx => hf u x hx hu

/-- The gate at the end of a command writes SAF_STAT alone, and enters no outlook. -/
theorem Keeps.spares {c : Instr} (h : Keeps lo hi w s t) (hc : exec c s = s.done t) : Spares lo hi w c s := by
  refine completes_of_done hc ⟨fun a h1 h2 h3 => ?_, (w.gate t s.pending).trans h.seen⟩
  rw [State.reg_afterGate s t h3, h.regs a h1 h2 h3]

end

/-- A command that completes, and what follows of what it leaves. -/
theorem Completes.imp {c : Instr} {s : State} {P Q : State → Prop} (h : Completes c s P) (hpq : ∀ t, P t → Q t) :
    Completes c s Q := by
  obtain ⟨t, ht, hp⟩ := h
  exact ⟨t, ht, hpq t hp⟩

/-! ## Reads by command -/

/-- What no reply enters: everything but the command routes, events, outputs and the free values. -/
def replyView : Outlook where
  Seen := _
  look s := (s.pnd, s.asm, s.ins, s.cal, s.cam, s.jgl, s.fir, s.pos, s.pwr, s.arb, s.brg, s.ing, s.tim, s.sys, s.dbg, s.flash,
    s.active, s.shadows, s.saf.params)
  setReg _ _ _ := rfl
  raiseWith _ _ _ _ _ := by simp
  gate _ _ := by simp

section
variable {s t : State}

theorem Keeps.emit {lo hi : Nat} (h : Keeps lo hi replyView s t) (o : Out) : Keeps lo hi replyView s (t.emit o) :=
  h.congr rfl rfl

/-- A ring's reply writes its completion tail (R89). -/
theorem Keeps.putReply (h : Keeps 0x10000 0x20000 replyView s t) (crew : Bool) (r : Reply) :
    Keeps 0x10000 0x20000 replyView s (t.putReply crew r) := by
  have hv : (if crew then 33 else 32) < 256 := by cases crew <;> decide
  have hf : 0x10000 ≤ (cqTail crew).addr ∧ (cqTail crew).addr < 0x20000 := by cases crew <;> decide
  have he : Keeps 0x10000 0x20000 replyView s (t.emit (.ringReply crew (t.get (cqTail crew)) r)) := h.emit _
  unfold State.putReply
  exact (he.put hf _).raise hv

theorem Keeps.ringAnswer (h : Keeps 0x10000 0x20000 replyView s t) (crew : Bool) (r : Reply) :
    Keeps 0x10000 0x20000 replyView s (t.ringAnswer crew r) := by
  unfold State.ringAnswer
  refine .ite (fun _ => h) fun _ => .ite (fun _ => ?waits) fun _ => h.putReply crew r
  cases crew <;> exact h.congr rfl rfl

/-- A towpath reply writes the slot, and counts DONE (R92). -/
theorem Keeps.towpathAnswer (h : Keeps 0x10000 0x20000 replyView s t) (slot : Nat) (r : Reply) :
    Keeps 0x10000 0x20000 replyView s (t.towpathAnswer slot r) := by
  have hw : Keeps 0x10000 0x20000 replyView s (t.writeSlot (0x100 * slot + 0x80) r.bytes) := h.congr rfl rfl
  have he := hw.emit (.towpathReply slot r)
  unfold State.towpathAnswer
  extract_lets u v c x
  have hv : Keeps 0x10000 0x20000 replyView s v := .ite (fun _ => he.emit _) fun _ => he
  have hx : Keeps 0x10000 0x20000 replyView s x := hv.congr rfl rfl
  exact (hx.incWrap (by decide)).raise (by decide)

/-- An answer, by whatever route, enters CMD and the event registers alone. -/
theorem Keeps.answer (h : Keeps 0x10000 0x20000 replyView s t) (route : Route) (src : Option Source) (r : Reply) :
    Keeps 0x10000 0x20000 replyView s (t.answer route src r) := by
  cases route with
  | keeper => exact h.ringAnswer false r
  | crew => exact h.ringAnswer true r
  | towpath slot => exact h.towpathAnswer slot.val r
  | ethernet port => cases src <;> exact h.congr rfl rfl

end

/-- An opcode that answers at once and changes nothing but by its answer. -/
structure Op.Reads (o : Op) : Prop where
  later : o.later = false
  act : ∀ p s, (o.act p s).2 = s
  post : ∀ l s, o.post l s = s
  blocked : ∀ s, o.blocked s = s

/-- A read that its route brings is an answer and no more, whatever its checks say. -/
theorem State.command_reads {o : Op} (h : o.Reads) (s : State) (p : Packet) :
    s.command o p = s ∨ ∃ r, s.command o p = s.answer p.route none r := by
  cases ho : s.open_ p.route with
  | false => exact .inl (s.command_closed o p ho)
  | true =>
    right
    cases hc : s.check o p with
    | some x =>
      refine ⟨s.replyTo o.code o.legal p x.1 x.2 false [], ?_⟩
      simp only [State.command, State.handle, ho, hc, h.blocked, ite_self, if_true]
    | none =>
      cases hs : o.same s p.params with
      | true => exact ⟨_, State.command_same ⟨ho, hc⟩ hs⟩
      | false => exact ⟨_, by rw [State.command_now ⟨⟨ho, hc⟩, hs⟩ h.later, h.act, h.post]⟩

/-- A read by command enters CMD and the event registers alone. -/
theorem Op.Reads.spares {o : Op} (h : o.Reads) {c : Packet → Instr} {s : State} {p : Packet}
    (hc : exec (c p) s = s.done (s.command o p)) : Spares 0x10000 0x20000 replyView (c p) s := by
  have hk : Keeps 0x10000 0x20000 replyView s (s.command o p) := by
    obtain e | ⟨r, e⟩ := s.command_reads h p
    · rw [e]
      exact .refl
    · rw [e]
      exact Keeps.refl.answer p.route none r
  exact hk.spares hc

/-- The opcodes that read. -/
def readRows : List ((Packet → Instr) × Op) :=
  [(.queryState, opQueryState), (.bootJournalRead, opBootJournalRead), (.jobStatus, opJobStatus), (.nozzleRead, opNozzleRead),
    (.nozzleSummary, opNozzleSummary), (.calTableRead, opCalTableRead), (.insDefectsRead, opInsDefectsRead),
    (.pwrStatus, opPwrStatus), (.wearReport, opWearReport), (.timeStatus, opTimeStatus), (.safetyStatus, opSafetyStatus),
    (.linkStatus, opLinkStatus), (.getAttestation, opGetAttestation), (.getCertificate, opGetCertificate)]

theorem readRows_reads : ∀ q ∈ readRows, q.2.Reads := by
  simp only [readRows, List.forall_mem_cons]
  and_intros
  iterate 14 exact ⟨rfl, fun _ _ => rfl, fun _ _ => rfl, fun _ => rfl⟩
  exact List.forall_mem_nil _

theorem exec_readRow : ∀ q ∈ readRows, ∀ (s : State) (p : Packet), exec (q.1 p) s = s.done (s.command q.2 p) := by
  simp only [readRows, List.forall_mem_cons]
  and_intros
  iterate 14 exact fun _ _ => rfl
  exact List.forall_mem_nil _

/-! ## Lock commands -/

/-- What the lock table does not enter. -/
def lockView : Outlook where
  Seen := _
  look s := (s.active, s.brg, s.cmd)
  setReg _ _ _ := rfl
  raiseWith _ _ _ _ _ := by simp
  gate _ _ := by simp

theorem lkStat_in_arb {i : Nat} (hi : i < 32) : 0xC0000 ≤ ARB_LK_STAT i ∧ ARB_LK_STAT i < 0x100000 := by
  simp only [ARB_LK_STAT]
  omega

theorem hlOwn_in_arb {o : Nat} (ho : o < 16) : 0xC0000 ≤ ARB_HL_OWN o ∧ ARB_HL_OWN o < 0x100000 := by
  simp only [ARB_HL_OWN]
  omega

section
variable {s t : State}

theorem Keeps.updLock (h : Keeps 0xC0000 0x100000 lockView s t) (i : Nat) (f : Lock → Lock) :
    Keeps 0xC0000 0x100000 lockView s (t.updLock i f) := h.congr rfl rfl

theorem Keeps.syncLock (h : Keeps 0xC0000 0x100000 lockView s t) {i : Nat} (hi : i < 32) :
    Keeps 0xC0000 0x100000 lockView s (t.syncLock i) := by
  have hf := lkStat_in_arb hi
  unfold State.syncLock
  exact (((((h.putFlag hf _).putFlag hf _).put hf _).put hf _).put hf _).put (by decide) _

theorem Keeps.syncOwner (h : Keeps 0xC0000 0x100000 lockView s t) {o : Nat} (ho : o < 16) :
    Keeps 0xC0000 0x100000 lockView s (t.syncOwner o) := by
  have hf := hlOwn_in_arb ho
  exact .ite (fun _ => h) fun _ => ((h.put hf _).putFlag hf _).put hf _

variable {i n : Nat} {r : LockReq} (hr : r.id < 16)
include hr

theorem Keeps.lockResult (h : Keeps 0xC0000 0x100000 lockView s t) : Keeps 0xC0000 0x100000 lockView s (t.lockResult r n) :=
  .ite (fun _ => (h.put (hlOwn_in_arb hr) _).syncOwner hr) fun _ => h

variable (hi : i < 32)
include hi

/-- A change of one lock, as it is shown. -/
theorem Keeps.showLock (h : Keeps 0xC0000 0x100000 lockView s t) (f : Lock → Lock) :
    Keeps 0xC0000 0x100000 lockView s (((t.updLock i f).syncLock i).lockResult r n) :=
  ((h.updLock i f).syncLock hi).lockResult hr

theorem Keeps.grantLock (h : Keeps 0xC0000 0x100000 lockView s t) : Keeps 0xC0000 0x100000 lockView s (t.grantLock i r) := by
  have hg : Keeps 0xC0000 0x100000 lockView s { t with arb := { t.arb with grants := t.arb.grants + 1 } } := h.congr rfl rfl
  exact hg.showLock hr hi _

/-- HL_ACQUIRE grants, waits or is refused (R385, R386). -/
theorem Keeps.acquire (h : Keeps 0xC0000 0x100000 lockView s t) : Keeps 0xC0000 0x100000 lockView s (t.acquire i r) := by
  unfold State.acquire
  refine .ite (fun _ => h.lockResult hr) fun _ => .ite (fun _ => ?order) fun _ => .ite (fun _ => h.grantLock hr hi) fun _ => ?waits
  case order => exact Keeps.lockResult hr ((h.incSat (by decide)).raise (by decide))
  case waits => exact Keeps.congr (h.showLock hr hi _) rfl rfl

theorem Keeps.repaired (h : Keeps 0xC0000 0x100000 lockView s t) : Keeps 0xC0000 0x100000 lockView s (t.repaired i r) :=
  .ite (fun _ => h.showLock hr hi _) fun _ => h.lockResult hr

end

/-- A free lock goes to its first waiter. -/
theorem Keeps.serveLock {s t : State} {i : Nat} (h : Keeps 0xC0000 0x100000 lockView s t) (hi : i < 32)
    (hw : ∀ r ∈ (t.lock i).waiters, r.id < 16) : Keeps 0xC0000 0x100000 lockView s (t.serveLock i) := by
  unfold State.serveLock
  split
  case h_1 r l _ hl => exact Keeps.grantLock (hw r (by simp [hl])) hi (h.congr rfl rfl)
  case h_2 => exact h

@[simp] theorem State.arb_syncLock (s : State) (i : Nat) : (s.syncLock i).arb = s.arb := by
  simp [State.syncLock]

@[simp] theorem State.arb_syncOwner (s : State) (o : Nat) : (s.syncOwner o).arb = s.arb := by
  unfold State.syncOwner
  split <;> rfl

@[simp] theorem State.arb_lockResult (s : State) (r : LockReq) (n : Nat) : (s.lockResult r n).arb = s.arb := by
  unfold State.lockResult
  split <;> simp

/-- A change of a lock is seen there, where the table has that lock. -/
theorem State.lock_updLock (s : State) (i : Nat) (f : Lock → Lock) :
    (s.updLock i f).lock i = f (s.lock i) ∨ (s.updLock i f).lock i = s.lock i := by
  rcases Nat.lt_or_ge i s.arb.locks.length with h | h <;> simp [State.lock, State.updLock, h]

/-- Who waits for a lock is as before where another part of it changes. -/
theorem State.waiters_showLock (s : State) (i : Nat) (r : LockReq) (n : Nat) {f : Lock → Lock}
    (hf : ∀ l, (f l).waiters = l.waiters) :
    ((((s.updLock i f).syncLock i).lockResult r n).lock i).waiters = (s.lock i).waiters := by
  have hl : (((s.updLock i f).syncLock i).lockResult r n).lock i = (s.updLock i f).lock i := by simp [State.lock]
  rw [hl]
  rcases s.lock_updLock i f with e | e <;> rw [e]
  exact hf _

/-- HL_RELEASE lets a lock go to its first waiter, withdraws a wait, or is refused (R390). -/
theorem Keeps.release {s t : State} {i : Nat} {r : LockReq} (hr : r.id < 16) (hi : i < 32)
    (hw : ∀ r ∈ (t.lock i).waiters, r.id < 16) (h : Keeps 0xC0000 0x100000 lockView s t) :
    Keeps 0xC0000 0x100000 lockView s (t.release i r) := by
  have hsame := t.waiters_showLock i r 0 (f := fun l => { l with holder := none }) fun _ => rfl
  unfold State.release
  refine .ite (fun _ => ?held) fun _ => .ite (fun _ => h.showLock hr hi _) fun _ => h.lockResult hr
  exact (h.showLock hr hi _).serveLock hi (hsame ▸ hw)

/-- A lock command: an owner other than 0 asks for one of the 16 host locks (R390). -/
theorem spares_hostLock {c : Instr} {s : State} {by_ : By} {v : Word} {f : State → Nat → LockReq → State}
    (hc : exec c s = s.done (s.hostLock by_ v f)) (hl : s.Lands by_ ARB_HL_REQ)
    (hf : ∀ i r, i < 32 → r.id < 16 → Keeps 0xC0000 0x100000 lockView s (f s i r)) : Spares 0xC0000 0x100000 lockView c s := by
  have hi : 16 + bits v 0 4 < 32 := by
    have := bits_lt v 0 4
    omega
  rw [State.hostLock, State.hostWrite_lands hl] at hc
  exact Keeps.spares (.ite (fun _ => .refl) fun _ => hf _ _ hi (bits_lt v 4 4)) hc

theorem spares_lockCommand {s : State} {by_ : By} {v : Word} (hl : s.Lands by_ ARB_HL_REQ)
    (hw : ∀ i : Fin 32, ∀ r ∈ (s.lock i.val).waiters, r.id < 16) {c : Instr}
    (hc : c ∈ [Instr.hlAcquire by_ v, .hlRelease by_ v, .hlRepaired by_ v]) : Spares 0xC0000 0x100000 lockView c s := by
  simp only [List.mem_cons, List.not_mem_nil, or_false] at hc
  rcases hc with rfl | rfl | rfl
  case inl => exact spares_hostLock rfl hl fun i r hi hr => Keeps.refl.acquire hr hi
  case inr.inl => exact spares_hostLock rfl hl fun i r hi hr => Keeps.refl.release hr hi (hw ⟨i, hi⟩)
  case inr.inr => exact spares_hostLock rfl hl fun i r hi hr => Keeps.refl.repaired hr hi

/-! ## Control instructions of barge programs -/

/-- What the barge channels do not enter. -/
def bargeView : Outlook where
  Seen := _
  look s := (s.arb, s.cmd, s.pnd)
  setReg _ _ _ := rfl
  raiseWith _ _ _ _ _ := by simp
  gate _ _ := by simp

/-! ### The hand-over of a program set -/

/-- The words of a set enter the active words alone. -/
theorem State.activate_cases (s : State) (b : ShdBlk) (n : Nat) (l : List (Nat × Word)) :
    ∃ m, s.activate b n l = { s with active := m } := by
  have h : ∀ (l : List (Nat × Word)) (u : State), ∃ m, l.foldl (fun s p => s.setAct p.1 p.2) u = { u with active := m } := by
    intro l
    induction l with
    | nil => exact fun u => ⟨_, rfl⟩
    | cons q l ih =>
      intro u
      obtain ⟨m, e⟩ := ih (u.setAct q.1 q.2)
      exact ⟨m, e⟩
  obtain ⟨m, e⟩ := h l { s with active := s.active.filter fun p => !inSet b n p.1 }
  exact ⟨m, e⟩

section
variable {s t : State}

theorem Keeps.updBarge (h : Keeps 0x80000 0xC0000 bargeView s t) (n : Nat) (f : Barge → Barge) :
    Keeps 0x80000 0xC0000 bargeView s (t.updBarge n f) := h.congr rfl rfl

/-- The hand-over of a program set writes active words, and SHD_STAT and SHD_ID of the set (R41). -/
theorem Keeps.handSet (h : Keeps 0x80000 0xC0000 bargeView s t) {p : Pending} (hb : p.blk = .brg) (hn : p.n < 32)
    (id : Option Word) : Keeps 0x80000 0xC0000 bargeView s (t.handSet p id) := by
  have hwords : ∀ u c, Keeps 0x80000 0xC0000 bargeView s u → Keeps 0x80000 0xC0000 bargeView s (u.handWords p c) := by
    intro u c hu
    obtain ⟨m, e⟩ := u.activate_cases p.blk p.n p.words
    have hasm : p.blk ≠ .asm := by simp [hb]
    rw [State.handWords, if_neg hasm, e]
    exact hu.congr rfl rfl
  have hstat : 0x80000 ≤ shdStat p.blk p.n ∧ shdStat p.blk p.n + 4 < 0xC0000 := by
    simp only [hb, shdStat, BRG_SHD_STAT]
    omega
  have hf : 0x80000 ≤ shdStat p.blk p.n ∧ shdStat p.blk p.n < 0xC0000 := by omega
  unfold State.handSet
  extract_lets left u
  have hu : Keeps 0x80000 0xC0000 bargeView s u :=
    .ite (fun _ => hwords t 0 h) fun _ => .foldl (fun v c _ hv => hwords v c hv) h
  have hcam : p.blk ≠ .cam := by simp [hb]
  have hd : Keeps 0x80000 0xC0000 bargeView s (u.dropSet p.blk p.n) := hu.congr rfl rfl
  have hflags := ((hd.putFlag (f := shdBit p.blk p.n 31) hf false).putFlag (f := shdBit p.blk p.n 27) hf id.isNone).incWrap
    (f := ⟨shdStat p.blk p.n, 0, 16⟩) hf
  unfold State.finishSet
  simp only [if_neg hcam]
  cases id with
  | none => exact hflags
  | some v => exact hflags.setReg ⟨by omega, hstat.2⟩ v

end

/-! ### The state of a channel -/

theorem pendingSet_names {s : State} {b : ShdBlk} {n : Nat} {p : Pending} (h : s.pendingSet b n = some p) : p.blk = b ∧ p.n = n := by
  simpa using List.find?_some h

section
variable {s t : State} {n : Nat} (hn : n < 32)
include hn

theorem chStat_in_brg : 0x80000 ≤ BRG_CH_STAT n ∧ BRG_CH_STAT n < 0xC0000 := by
  simp only [BRG_CH_STAT]
  omega

theorem chLoop_in_brg {d : Nat} (hd : d < 8) : 0x80000 ≤ BRG_CH_LOOP n d ∧ BRG_CH_LOOP n d < 0xC0000 := by
  simp only [BRG_CH_LOOP]
  omega

theorem Keeps.setBarge (h : Keeps 0x80000 0xC0000 bargeView s t) (code : Nat) :
    Keeps 0x80000 0xC0000 bargeView s (t.setBarge n code) := by
  unfold State.setBarge
  have hrun : 0x80000 ≤ BRG_RUNNING ∧ BRG_RUNNING < 0xC0000 := by decide
  have herr : 0x80000 ≤ BRG_ERRORS ∧ BRG_ERRORS < 0xC0000 := by decide
  exact ((h.put (chStat_in_brg hn) _).put hrun _).put herr _

theorem Keeps.bargeError (h : Keeps 0x80000 0xC0000 bargeView s t) (cause : Nat) :
    Keeps 0x80000 0xC0000 bargeView s (t.bargeError n cause) := by
  unfold State.bargeError
  exact (((h.setBarge hn 5).put (chStat_in_brg hn) _).updBarge _ _).raiseWith (by decide) _ _ _

theorem Keeps.bargeHalt (h : Keeps 0x80000 0xC0000 bargeView s t) (cause : Nat) :
    Keeps 0x80000 0xC0000 bargeView s (t.bargeHalt n cause) := by
  unfold State.bargeHalt
  exact (((h.setBarge hn 4).put (chStat_in_brg hn) _).updBarge _ _).raiseDetail (by decide) _

/-- A program hand-over due at an instruction boundary (R407). -/
theorem Keeps.bargeDue (h : Keeps 0x80000 0xC0000 bargeView s t) : Keeps 0x80000 0xC0000 bargeView s (t.bargeDue n) := by
  unfold State.bargeDue
  split
  case h_1 id p _ hp =>
    obtain ⟨hb, hpn⟩ := pendingSet_names hp
    have hs := (h.updBarge n fun b => { b with due := none }).handSet hb (hpn ▸ hn) id
    exact (hs.put (chStat_in_brg hn) _).put (chStat_in_brg hn) _
  case h_2 => exact h.updBarge _ _

/-- An instruction boundary: a due program, then a halt asked for (R404). -/
theorem Keeps.bargeBoundary (h : Keeps 0x80000 0xC0000 bargeView s t) : Keeps 0x80000 0xC0000 bargeView s (t.bargeBoundary n) := by
  unfold State.bargeBoundary
  extract_lets u
  have hu : Keeps 0x80000 0xC0000 bargeView s u := h.bargeDue hn
  split
  case h_1 => exact hu.bargeHalt hn _
  case h_2 => exact hu

theorem Keeps.bargeGo (h : Keeps 0x80000 0xC0000 bargeView s t) (pc : Nat) : Keeps 0x80000 0xC0000 bargeView s (t.bargeGo n pc) := by
  unfold State.bargeGo
  exact .ite (fun _ => h.bargeError hn 11) fun _ => ((h.put (chStat_in_brg hn) _).setBarge hn 1).bargeBoundary hn

/-! ### The instructions -/

theorem Keeps.bargeLoop (h : Keeps 0x80000 0xC0000 bargeView s t) : Keeps 0x80000 0xC0000 bargeView s (t.bargeLoop n) := by
  unfold State.bargeLoop
  refine .ite (fun _ => h.bargeError hn 6) fun hd => ?_
  have hf := chLoop_in_brg hn (d := t.get (BRG_CH_STAT_DEPTH n)) (by omega)
  exact (((h.put hf _).put hf _).put (chStat_in_brg hn) _).bargeGo hn _

theorem Keeps.bargeEndloop (h : Keeps 0x80000 0xC0000 bargeView s t) : Keeps 0x80000 0xC0000 bargeView s (t.bargeEndloop n) := by
  have hd : t.get (BRG_CH_STAT_DEPTH n) < 8 := t.get_lt _
  have hf := chLoop_in_brg hn (d := t.get (BRG_CH_STAT_DEPTH n) - 1) (by omega)
  unfold State.bargeEndloop
  refine .ite (fun _ => h.bargeError hn 6) fun _ => .ite (fun _ => ?again) fun _ => ?leave
  case again => exact (h.put hf _).bargeGo hn _
  case leave => exact (h.put (chStat_in_brg hn) _).bargeGo hn _

theorem Keeps.bargeEnd (h : Keeps 0x80000 0xC0000 bargeView s t) : Keeps 0x80000 0xC0000 bargeView s (t.bargeEnd n) := by
  unfold State.bargeEnd
  refine .ite (fun _ => h.bargeError hn 6) fun _ => ?_
  have hended := (h.setBarge hn 3).updBarge n fun b => { b with stop := none }
  exact Keeps.bargeDue hn (.ite (fun _ => hended.raiseDetail (by decide) _) fun _ => hended)

/-- A channel acts on the instruction at its PC, fails on one that is not well formed, or does nothing. -/
theorem Keeps.bargeStep {op : Nat} {f : State → State} (h : Keeps 0x80000 0xC0000 bargeView s t)
    (hf : Keeps 0x80000 0xC0000 bargeView s (f t)) : Keeps 0x80000 0xC0000 bargeView s (t.bargeStep n op f) := by
  unfold State.bargeStep
  exact .ite (fun _ => h) fun _ => .ite (fun _ => h) fun _ => .ite (fun _ => h.bargeError hn 6) fun _ => hf

end

theorem spares_bargeControl (s : State) (n : Fin 32) {c : Instr}
    (hc : c ∈ [Instr.bargeNop n, .bargeLoop n, .bargeEndloop n, .bargeEnd n]) : Spares 0x80000 0xC0000 bargeView c s := by
  have hn := n.isLt
  have hs : Keeps 0x80000 0xC0000 bargeView s s := .refl
  simp only [List.mem_cons, List.not_mem_nil, or_false] at hc
  rcases hc with rfl | rfl | rfl | rfl
  case inl => exact (hs.bargeStep (f := fun s => s.bargeGo n.val (s.bargePc n.val + 1)) hn (hs.bargeGo hn _)).spares rfl
  case inr.inl => exact (hs.bargeStep (f := fun s => s.bargeLoop n.val) hn (hs.bargeLoop hn)).spares rfl
  case inr.inr.inl => exact (hs.bargeStep (f := fun s => s.bargeEndloop n.val) hn (hs.bargeEndloop hn)).spares rfl
  case inr.inr.inr => exact (hs.bargeStep (f := fun s => s.bargeEnd n.val) hn (hs.bargeEnd hn)).spares rfl

/-- SEM_ADD counts in SEM alone (R402). -/
theorem completes_semAdd {s : State} {by_ : By} {n : Fin 32} (v : Word) (hl : s.Lands by_ (BRG_CH_SEM_ADD n.val)) :
    Completes (.semAdd by_ n v) s fun t => ∀ a, a ≠ BRG_CH_SEM n.val → a ≠ SAF_STAT → t.reg a = s.reg a := by
  refine completes_of_done (congrArg s.done (State.hostWrite_lands hl fun s => s.addSem n.val v)) fun a hsem hstat => ?_
  rw [State.reg_afterGate _ _ hstat]
  exact State.reg_put_other _ _ _ hsem

/-! ## Commands of the debug port -/

/-- What the debug port does not enter. -/
def debugView : Outlook where
  Seen := _
  look s := (s.cmd, s.sys, s.active)
  setReg _ _ _ := rfl
  raiseWith _ _ _ _ _ := by simp
  gate _ _ := by simp

section
variable {s t : State}

theorem Keeps.lockDebug (h : Keeps 0x400000 0x800000 debugView s t) : Keeps 0x400000 0x800000 debugView s t.lockDebug := by
  unfold State.lockDebug State.setLevel
  exact .ite (fun _ => h) fun _ => (h.put (by decide) 0).raiseData (by decide) _

theorem chal_in_dbg {i : Nat} (hi : i < 8) : 0x400000 ≤ DBG_CHAL i ∧ DBG_CHAL i < 0x800000 := by
  simp only [DBG_CHAL]
  omega

/-- NEW_CHAL writes the challenge (R469). -/
theorem Keeps.newChallenge (h : Keeps 0x400000 0x800000 debugView s t) : Keeps 0x400000 0x800000 debugView s t.newChallenge := by
  unfold State.newChallenge
  refine .ite (fun _ => h) fun _ => ?_
  have hword : ∀ u : State, ∀ i ∈ List.range 4, Keeps 0x400000 0x800000 debugView s u →
      Keeps 0x400000 0x800000 debugView s ((u.draw.2.setReg (DBG_CHAL (2 * i)) (u.draw.1.setWidth 32)).setReg
        (DBG_CHAL (2 * i + 1)) ((u.draw.1 >>> 32).setWidth 32)) := by
    intro u i hi hu
    have hi : i < 4 := List.mem_range.1 hi
    have hd : Keeps 0x400000 0x800000 debugView s u.draw.2 := hu.congr rfl rfl
    exact (hd.setReg (chal_in_dbg (by omega)) _).setReg (chal_in_dbg (by omega)) _
  have hvalid := (Keeps.foldl hword h).putFlag (f := DBG_STAT_CHAL_VALID) (by decide) true
  exact hvalid.congr rfl rfl

variable {p : Nat} (hp : p < 2) (pc : Word)
include hp

theorem corePair_in_dbg : (0x400000 ≤ DBG_CORE_PC p ∧ DBG_CORE_PC p < 0x800000)
    ∧ (0x400000 ≤ DBG_CORE_CAUSE p ∧ DBG_CORE_CAUSE p < 0x800000) := by
  simp only [DBG_CORE_PC, DBG_CORE_CAUSE]
  omega

theorem Keeps.haltPair (h : Keeps 0x400000 0x800000 debugView s t) (cause index : Nat) :
    Keeps 0x400000 0x800000 debugView s (t.haltPair p cause index pc) := by
  obtain ⟨hpc, hcause⟩ := corePair_in_dbg hp
  have hstat : 0x400000 ≤ DBG_STAT ∧ DBG_STAT < 0x800000 := by decide
  unfold State.haltPair
  exact ((((h.putFlag hstat true).setReg hpc pc).put hcause cause).put hcause index).raiseData (by decide) _

/-- A halt or a step that is refused shows it; else the pair is halted (R471, R472). -/
theorem Keeps.requestHalt (h : Keeps 0x400000 0x800000 debugView s t) :
    Keeps 0x400000 0x800000 debugView s (t.requestHalt p pc) := by
  unfold State.requestHalt
  exact .ite (fun _ => h.putFlag (by decide) true) fun _ => .ite (fun _ => h) fun _ => h.haltPair hp pc 1 0

theorem Keeps.requestStep (h : Keeps 0x400000 0x800000 debugView s t) :
    Keeps 0x400000 0x800000 debugView s (t.requestStep p pc) := by
  unfold State.requestStep
  exact .ite (fun _ => h.putFlag (by decide) true) fun _ => h.haltPair hp pc 2 0

end

/-- An instruction loaded while no scan instruction is in effect enters the TAP alone (R465). -/
theorem spares_loadTap {c : Instr} {s : State} (i : TapInstr) (hs : s.dbg.scan = false) (hc : exec c s = s.done (s.loadTap i)) :
    Spares 0x400000 0x800000 debugView c s := by
  have hleave : s.leaveScan = s := by simp [State.leaveScan, hs]
  rw [State.loadTap, hleave] at hc
  have htap : Keeps 0x400000 0x800000 debugView s (s.setTap i false) := Keeps.refl.congr rfl rfl
  exact htap.spares hc

/-- A write of a debug register that lands. -/
theorem spares_debugWrite {c : Instr} {s : State} {off : Nat} {f : State → State} (hl : s.Lands .debug off)
    (hc : exec c s = s.done (s.hostWrite .debug off f)) (hf : Keeps 0x400000 0x800000 debugView s (f s)) :
    Spares 0x400000 0x800000 debugView c s := hf.spares (hc.trans (congrArg s.done (State.hostWrite_lands hl f)))

/-- The end of a challenge clears CHAL_VALID (R469). -/
theorem spares_challengeExpiry (s : State) : Spares 0x400000 0x800000 debugView .challengeExpiry s := by
  refine Keeps.spares (.ite (fun _ => Keeps.putFlag ?_ (by decide) false) fun _ => .refl) rfl
  exact Keeps.refl.congr (by simp) (by simp [debugView])

theorem spares_debugCommand {s : State} {p : Fin 2} {pc : Word} (hs : s.dbg.scan = false) {c : Instr}
    (hc : c ∈ [Instr.dbgLock, .newChal, .challengeExpiry, .coreHalt p pc, .coreStep p pc, .tapReset, .idcode, .bypass])
    (hctl : s.Lands .debug DBG_CTL) (hcore : s.Lands .debug (DBG_CORE_CTL p.val)) : Spares 0x400000 0x800000 debugView c s := by
  simp only [List.mem_cons, List.not_mem_nil, or_false] at hc
  rcases hc with rfl | rfl | rfl | rfl | rfl | rfl | rfl | rfl
  · exact spares_debugWrite hctl rfl Keeps.refl.lockDebug
  · exact spares_debugWrite hctl rfl Keeps.refl.newChallenge
  · exact spares_challengeExpiry s
  · exact spares_debugWrite hcore rfl (Keeps.refl.requestHalt p.isLt pc)
  · exact spares_debugWrite hcore rfl (Keeps.refl.requestStep p.isLt pc)
  · exact spares_loadTap .idcode hs rfl
  · exact spares_loadTap .idcode hs rfl
  · exact spares_loadTap .bypass hs rfl

/-! ## Wear -/

/-- What the wear records do not enter. -/
def wearView : Outlook where
  Seen := _
  look s := (s.cmd, s.active)
  setReg _ _ _ := rfl
  raiseWith _ _ _ _ _ := by simp
  gate _ _ := by simp

section
variable {s t : State}

/-- An interval of the chip's own passes. -/
theorem Keeps.every (h : Keeps 0x340000 0x380000 wearView s t) (x : Timer) (n : Nat) :
    Keeps 0x340000 0x380000 wearView s (t.every x n) := h.congr (by simp) (by simp [wearView])

theorem Keeps.wearWarn (h : Keeps 0x340000 0x380000 wearView s t) (b : Bool) :
    Keeps 0x340000 0x380000 wearView s (t.wearWarn b) := by
  unfold State.wearWarn
  exact .ite (fun _ => (h.putFlag (by decide) true).raise (by decide)) fun _ => h

theorem Keeps.syncWear (h : Keeps 0x340000 0x380000 wearView s t) : Keeps 0x340000 0x380000 wearView s t.syncWear := by
  unfold State.syncWear
  exact (h.put (by decide) _).put (by decide) _

/-- A minute's wear is shown in PWR (R370, R371). -/
theorem Keeps.wearMinute (h : Keeps 0x340000 0x380000 wearView s t) (rings : List (Nat × Nat)) (core sram : BitVec 24) :
    Keeps 0x340000 0x380000 wearView s (t.wearMinute rings core sram) := by
  unfold State.wearMinute
  extract_lets u w grids pwr x y
  have hu : Keeps 0x340000 0x380000 wearView s u := h.every _ _
  have hx : Keeps 0x340000 0x380000 wearView s x := Keeps.syncWear (hu.congr rfl rfl)
  have hy : Keeps 0x340000 0x380000 wearView s y := (hx.put (by decide) _).put (by decide) _
  exact hy.wearWarn _

/-- The hourly mirror write goes to flash, or shows its failure (R372). -/
theorem Keeps.mirrorWear (h : Keeps 0x340000 0x380000 wearView s t) (ok : Bool) :
    Keeps 0x340000 0x380000 wearView s (t.mirrorWear ok) := by
  unfold State.mirrorWear
  extract_lets u
  have hu : Keeps 0x340000 0x380000 wearView s u := h.every _ _
  exact .ite (fun _ => hu.congr rfl rfl) fun _ => (hu.putFlag (by decide) true).raise (by decide)

end

theorem spares_wearCommand (s : State) (rings : List (Nat × Nat)) (core sram : BitVec 24) (ok : Bool) {c : Instr}
    (hc : c ∈ [Instr.wearUpdate rings core sram, .wearMirror ok]) : Spares 0x340000 0x380000 wearView c s := by
  simp only [List.mem_cons, List.not_mem_nil, or_false] at hc
  rcases hc with rfl | rfl
  · exact Keeps.spares (.ite (fun _ => Keeps.refl.wearMinute rings core sram) fun _ => .refl) rfl
  · exact Keeps.spares (.ite (fun _ => Keeps.refl.mirrorWear ok) fun _ => .refl) rfl

/-- Settles O14: each command keeps the outlook of its family and the registers outside its block. -/
theorem registerFrames : Obligations.RegisterFrames := by
  refine ⟨?reads, ?locks, ?barge, ?sem, ?debug, ?wear⟩
  case reads =>
    intro q hq s p
    refine ((readRows_reads q hq).spares (exec_readRow q hq s p)).imp fun t ht => ⟨ht.regs, ?_⟩
    simpa only [replyView, Prod.mk.injEq] using ht.seen
  case locks =>
    intro s by_ v hl hw c hc
    refine (spares_lockCommand hl hw hc).imp fun t ht => ⟨ht.regs, ?_⟩
    simpa only [lockView, Prod.mk.injEq] using ht.seen
  case barge =>
    intro s n c hc
    refine (spares_bargeControl s n hc).imp fun t ht => ⟨ht.regs, ?_⟩
    simpa only [bargeView, Prod.mk.injEq] using ht.seen
  case sem => exact fun s by_ n v hl => completes_semAdd v hl
  case debug =>
    intro s p pc hs c hc hctl hcore
    refine (spares_debugCommand hs hc hctl hcore).imp fun t ht => ⟨ht.regs, ?_⟩
    simpa only [debugView, Prod.mk.injEq] using ht.seen
  case wear =>
    intro s rings core sram ok _ c hc
    refine (spares_wearCommand s rings core sram ok hc).imp fun t ht => ⟨ht.regs, ?_⟩
    simpa only [wearView, Prod.mk.injEq] using ht.seen

/-! ## The towpath mailbox -/

theorem byteMask_getLsbD (k i : Nat) (hi : i < 32) :
    (0xFF#32 <<< (8 * k)).getLsbD i = decide (8 * k ≤ i ∧ i < 8 * (k + 1)) := by
  have h8 : (0xFF#32).getLsbD (i - 8 * k) = decide (i - 8 * k < 8) := by
    have hff : (0xFF#32).getLsbD (i - 8 * k) = (2 ^ 8 - 1).testBit (i - 8 * k) := rfl
    rw [hff, Nat.testBit_two_pow_sub_one]
  simp only [BitVec.getLsbD_shiftLeft, hi, decide_true, Bool.true_and, h8]
  by_cases h1 : 8 * k ≤ i
  · simp only [Nat.not_lt.2 h1, h1, decide_false, Bool.not_false, Bool.true_and, true_and]
    exact decide_eq_decide.2 (by omega)
  · simp [Nat.not_le.1 h1, h1]

/-- A bit of a word is enabled with its byte (R91). -/
theorem enabledBytes_getLsbD (be : BitVec 4) (i : Nat) (hi : i < 32) : (enabledBytes be).getLsbD i = be.getLsbD (i / 8) := by
  have h : ∀ n, ((List.range n).foldl (fun (m : Word) k => if be.getLsbD k then m ||| (0xFF#32 <<< (8 * k)) else m) 0).getLsbD i =
      (decide (i / 8 < n) && be.getLsbD (i / 8)) := by
    intro n
    induction n with
    | zero => simp
    | succ n ih =>
      rw [List.range_succ, List.foldl_append, List.foldl_cons, List.foldl_nil, apply_ite (fun m : Word => m.getLsbD i),
        BitVec.getLsbD_or, ih, byteMask_getLsbD n i hi]
      rcases Nat.lt_trichotomy (i / 8) n with hlt | rfl | hgt
      · have hmask : ¬ (8 * n ≤ i ∧ i < 8 * (n + 1)) := by omega
        simp [hlt, Nat.lt_succ_of_lt hlt, hmask]
      · have hmask : 8 * (i / 8) ≤ i ∧ i < 8 * (i / 8 + 1) := by omega
        simp [hmask]
      · have hmask : ¬ (8 * n ≤ i ∧ i < 8 * (n + 1)) := by omega
        simp [Nat.not_lt.2 (Nat.le_of_lt hgt), Nat.not_lt.2 (Nat.succ_le_of_lt hgt), hmask]
  have hbyte : i / 8 < 4 := by omega
  rw [enabledBytes, h, decide_eq_true hbyte, Bool.true_and]

/-- A word with some of its bits written. -/
theorem masked_getLsbD (old v m : Word) (i : Nat) (hi : i < 32) :
    ((old &&& ~~~m) ||| (v &&& m)).getLsbD i = if m.getLsbD i then v.getLsbD i else old.getLsbD i := by
  rw [BitVec.getLsbD_or, BitVec.getLsbD_and, BitVec.getLsbD_and, BitVec.getLsbD_not, decide_eq_true hi]
  cases m.getLsbD i <;> simp

section
variable {s : State} {off : Nat} (h : s.reaches .keeper = true) (v : Word) (be : BitVec 4)
include h

/-- A reply area takes no write (R91). -/
theorem State.bar4Write_reply (ho : off < 0x800) (hr : 0x80 ≤ off % 0x100) : s.bar4Write off v be = s := by
  have hlt : ¬ 0x1000 ≤ off := by omega
  simp [State.bar4Write, h, hlt, ho, hr]

/-- A packet area takes the enabled bytes (R91). -/
theorem State.bar4Write_packet (ho : off < 0x800) (hr : off % 0x100 < 0x80) :
    s.bar4Write off v be = 
      let word := (s.cmd.slots.get (fun _ => 0) off &&& ~~~enabledBytes be) ||| (v &&& enabledBytes be)
      { s with cmd := { s.cmd with slots := s.cmd.slots.set (fun _ => 0) off word } } := by
  have hlt : ¬ 0x1000 ≤ off := by omega
  simp [State.bar4Write, h, hlt, ho, Nat.not_le.2 hr]

end

/-- A write through BAR4 from the host. -/
theorem exec_registerWrite_bar4 (s : State) {by_ : By} (hf : fromHost by_ = true) {off : BitVec 25} (ha : off.toNat % 4 = 0) (v hw : Word)
    (be : BitVec 4) (same : Bool) :
    exec (.registerWrite by_ true off v be hw same) s = s.done (s.bar4Write off.toNat v be) := by
  rw [exec_registerWrite, State.registerWrite, Nat.div_mul_cancel (Nat.dvd_of_mod_eq_zero ha), if_pos rfl, if_pos hf]

/-- From `s` to `t` one word of the mailbox takes the bits that `on` names, and no register changes but SAF_STAT. -/
def MailboxWrite (off : Nat) (v : Word) (on : Nat → Bool) (s t : State) : Prop :=
  (∀ a, a ≠ off → t.cmd.slots.get (fun _ => 0) a = s.cmd.slots.get (fun _ => 0) a)
  ∧ (∀ i : Fin 32, (t.cmd.slots.get (fun _ => 0) off).getLsbD i.val =
      if on i.val then v.getLsbD i.val else (s.cmd.slots.get (fun _ => 0) off).getLsbD i.val)
  ∧ ∀ a, a ≠ SAF_STAT → t.reg a = s.reg a

/-- The gate enters neither the mailbox nor another register. -/
theorem MailboxWrite.afterGate {off : Nat} {v : Word} {on : Nat → Bool} {s t : State} (h : MailboxWrite off v on s t) :
    MailboxWrite off v on s { t.gateOutputs with pending := s.pending } := by
  obtain ⟨hother, hword, hreg⟩ := h
  have hcmd : t.gateOutputs.cmd = t.cmd := State.cmd_gateOutputs t
  refine ⟨fun a ha => ?_, fun i => ?_, fun a ha => (State.reg_afterGate s t ha).trans (hreg a ha)⟩
  · exact (congrArg (fun c : Cmd => c.slots.get (fun _ => 0) a) hcmd).trans (hother a ha)
  · exact (congrArg (fun c : Cmd => (c.slots.get (fun _ => 0) off).getLsbD i.val) hcmd).trans (hword i)

/-- A write below the doorbells writes the enabled bytes of its word, in a packet area (R91). -/
theorem State.bar4Write_mailbox {s : State} {off : Nat} (h : s.reaches .keeper = true) (v : Word) (be : BitVec 4) (ho : off < 0x800) :
    MailboxWrite off v (fun i => decide (off % 0x100 < 0x80) && be.getLsbD (i / 8)) s (s.bar4Write off v be) := by
  rcases Nat.lt_or_ge (off % 0x100) 0x80 with hr | hr
  · rw [State.bar4Write_packet h v be ho hr]
    refine ⟨fun a ha => Sparse.get_set_other _ _ _ ha, fun i => ?_, fun _ _ => rfl⟩
    dsimp only
    rw [Sparse.get_set_same, masked_getLsbD _ _ _ _ i.isLt, enabledBytes_getLsbD be _ i.isLt]
    simp [hr]
  · rw [State.bar4Write_reply h v be ho hr]
    refine ⟨fun _ _ => rfl, fun i => ?_, fun _ _ => rfl⟩
    simp [Nat.not_lt.2 hr]

/-! ## Calibration tables -/

/-- Bytes written into a list change its bytes of their range alone. -/
theorem writeBytes_getElem? (l b : List Byte) (off i : Nat) :
    (writeBytes l off b)[i]? = if off ≤ i ∧ i < off + b.length ∧ i < l.length then b[i - off]? else l[i]? := by
  rw [writeBytes, List.getElem?_take]
  by_cases hi : i < l.length
  · rw [if_pos hi, List.append_assoc]
    by_cases h1 : off ≤ i
    · have hlen : (l.take off).length = off := by rw [List.length_take]; omega
      rw [List.getElem?_append_right (by omega), hlen]
      by_cases h2 : i < off + b.length
      · rw [if_pos ⟨h1, h2, hi⟩, List.getElem?_append_left (by omega)]
      · rw [if_neg (by omega), List.getElem?_append_right (by omega), List.getElem?_drop]
        congr 1
        omega
    · have hlen : i < (l.take off).length := by rw [List.length_take]; omega
      rw [if_neg (by omega), List.getElem?_append_left (by omega), List.getElem?_take, if_pos (by omega)]
  · rw [if_neg hi, if_neg (by omega), List.getElem?_eq_none (by omega)]

theorem State.calTable_congr {s t : State} (h : t.cal.tables = s.cal.tables) (id : Nat) : t.calTable id = s.calTable id := by
  rw [State.calTable, State.calTable, h]

/-- One write reaches its own table. -/
theorem State.calTable_applyTable (s : State) (k off : Nat) (b : List Byte) (id : Nat) :
    (s.applyTable k off b).calTable id = if id = k then writeBytes (s.calTable k) off b else s.calTable id := by
  have hfind : ∀ l : List (Nat × List Byte), id ≠ k →
      (l.filter fun x => x.1 ≠ k).find? (fun x => x.1 = id) = l.find? fun x => x.1 = id := by
    intro l hid
    rw [List.find?_filter]
    congr 1
    funext x
    by_cases hx : x.1 = id <;> simp [hx, hid]
  rw [State.calTable, State.applyTable]
  by_cases hid : id = k
  · subst hid
    have hnone : (s.cal.tables.filter fun x => x.1 ≠ id).find? (fun x => x.1 = id) = none := by
      simp only [List.find?_eq_none, List.mem_filter, decide_eq_true_eq]
      exact fun x hx => hx.2
    simp only [List.find?_append, hnone, if_true]
    simp
  · simp only [List.find?_append, hfind _ hid, if_neg hid]
    simp [State.calTable, Ne.symm hid]

/-- A single staged write, handed over (R315). -/
theorem State.calTable_handTables {t : State} {k off : Nat} {b : List Byte} (h : t.cal.staged = [(k, off, b)]) (id : Nat) :
    t.handTables.calTable id = if id = k then writeBytes (t.calTable k) off b else t.calTable id := by
  rw [State.handTables, h]
  exact State.calTable_applyTable _ k off b id

/-- What a table reads after one write that was staged alone is handed over. -/
theorem State.handed_stageTable {s t : State} {k off : Nat} {b : List Byte} (hs : s.cal.staged = [])
    (ht : t.cal = (s.stageTable k off b).cal) (id i : Nat) :
    (t.handTables.calTable id)[i]? =
      if id = k ∧ off ≤ i ∧ i < off + b.length ∧ i < (s.calTable id).length then b[i - off]? else (s.calTable id)[i]? := by
  have hstaged : t.cal.staged = [(k, off, b)] := by simp [ht, State.stageTable, hs]
  have htables : ∀ j, t.calTable j = s.calTable j := State.calTable_congr (by rw [ht]; rfl)
  rw [State.calTable_handTables hstaged, htables, htables]
  by_cases hid : id = k
  · subst hid
    simp only [if_true, writeBytes_getElem?, true_and]
  · simp only [hid, if_false, false_and]

/-- A CAL_TABLE_WRITE that acts stages its bytes (R315). -/
theorem exec_calTableWrite {s : State} {p : Packet} (h : s.Acts opCalTableWrite p) :
    exec (.calTableWrite p) s = s.answered opCalTableWrite p []
      (s.stageTable (field p.params 0 2) (field p.params 4 4) (p.params.drop 8)) :=
  State.done_now h rfl (fun _ => rfl) rfl

/-- An answer enters no calibration table. -/
theorem State.cal_answer (s : State) (route : Route) (src : Option Source) (r : Reply) : (s.answer route src r).cal = s.cal := by
  have hk : Keeps 0x10000 0x20000 replyView s (s.answer route src r) := Keeps.refl.answer route src r
  have hseen := hk.seen
  simp only [replyView, Prod.mk.injEq] at hseen
  obtain ⟨-, -, -, hcal, -⟩ := hseen
  exact hcal

/-- A table write by command stages its bytes, and enters nothing else of the calibration. -/
theorem completes_calTableWrite {s : State} {p : Packet} (h : s.Acts opCalTableWrite p) :
    Completes (.calTableWrite p) s fun t =>
      t.cal = (s.stageTable (field p.params 0 2) (field p.params 4 4) (p.params.drop 8)).cal :=
  completes_of_done (exec_calTableWrite h) ((State.cal_gateOutputs _).trans (State.cal_answer _ _ _ _))

/-- Settles O15: a mailbox write is a masked write of one word, and a table's staged write is its bytes written at the hand-over. -/
theorem bufferFrames : Obligations.BufferFrames := by
  refine ⟨?mailbox, ?table⟩
  case mailbox =>
    intro s crew off v hw be same hr hm ha ho
    have h : s.reaches .keeper = true := by simp [State.reaches, hr, hm]
    exact completes_of_done (exec_registerWrite_bar4 s (fromHost_hostView crew) ha v hw be same)
      (State.bar4Write_mailbox h v be ho).afterGate
  case table =>
    intro s p h hstaged
    refine (completes_calTableWrite h).imp fun t ht => ⟨(congrArg Cal.tables ht).trans rfl, fun id i => ?_⟩
    have hread := State.handed_stageTable hstaged ht id i
    rw [List.length_drop, List.getElem?_drop, Nat.add_comm 8] at hread
    exact hread

end Sys2Proof.Machine
end

section
/-! The statements on raster ingest (R126 to R145): tiles that arrive, land and are verified, the compressors, the queue enables and the
host compression ring. -/

namespace Sys2Proof.Machine

open Sys2Proof

/-! ## What the operations of ingest leave of the store -/

/-- The positions of pages rest on the store alone. -/
theorem State.tile?_congr {s t : State} (h : t.pnd = s.pnd) : t.tile? = s.tile? := by
  funext id ch col band
  simp only [State.tile?, State.page?, h]

@[simp] theorem State.pnd_updQueue (s : State) (q : Nat) (f : Queue → Queue) : (s.updQueue q f).pnd = s.pnd := rfl
@[simp] theorem State.pnd_takeStream (s : State) (q n : Nat) : (s.takeStream q n).pnd = s.pnd := rfl
@[simp] theorem State.pnd_consume (s : State) (q n : Nat) : (s.consume q n).pnd = s.pnd := rfl
@[simp] theorem State.pnd_dropCompressor (s : State) (n : Nat) : (s.dropCompressor n).pnd = s.pnd := rfl

@[simp] theorem State.pnd_liveAddPair (s : State) (info : Nat) (lo hi : Fld) (n : Nat) :
    (s.liveAddPair info lo hi n).pnd = s.pnd := by
  simp only [State.liveAddPair, apply_ite State.pnd, State.pnd_livePut, ite_self]

/-! ## Tile arrival and landing -/

section
variable {s : State} {q : Nat}

/-- At a header, with nothing left to skip, the parser skips nothing (R124). -/
theorem State.skipFiller_atHeader (hs : (s.queue q).skip = 0) (hf : fillerUnit (s.queue q).stream = false) (n : Nat) :
    State.skipFiller q n s = s := by
  cases n <;> simp [State.skipFiller, hs, hf]

/-- At a whole header out of resync, with no tile in landing, the checks of the header decide (R128). -/
theorem State.parseTile_atHeader (hr : s.runs 4 = true) (he : s.flag (qEn q) = true) (hl : (s.queue q).landing = none)
    (hy : s.flag (qResync q) = false) (hs : (s.queue q).skip = 0) (hw : 64 ≤ (s.queue q).stream.length)
    (hf : fillerUnit (s.queue q).stream = false) :
    s.parseTile q =
      let h := headerOf (s.queue q).stream
      (s.checkTile h).elim ((s.putFlag (qResync q) false).acceptTile q h (((s.job? h.job).map Job.storeOnly).getD false))
        fun cause => (s.putFlag (qResync q) false).rejectTile q cause h := by
  have hwhole : ¬ (s.queue q).stream.length < 64 := Nat.not_lt.2 hw
  have hcheck (h : Header) : (s.putFlag (qResync q) false).checkTile h = s.checkTile h := rfl
  simp only [State.parseTile, State.skipFiller_atHeader hs hf, hr, he, hl, hy, hs, hwhole, hcheck]
  cases s.checkTile (headerOf (s.queue q).stream) <;> rfl

/-- A payload that has arrived, with its blocks taken, is consumed, and judged or verified (R132). -/
theorem State.landTile_arrived {id : Word} {ch col band : Nat} {t : Tile} (hr : s.runs 4 = true)
    (hl : (s.queue q).landing = some (id, ch, col, band)) (ht : s.tile? id ch col band = some t) (hst : t.state = .landing)
    (hw : pad64 (32 + (s.queue q).payload) ≤ (s.queue q).stream.length) (hb : blocksOf (s.queue q).payload ≤ t.chain.length) :
    s.landTile q =
      let total := pad64 (32 + (s.queue q).payload)
      let bytes := ((s.queue q).stream.drop 32).take (s.queue q).payload
      let u := ((s.takeStream q total).consume q total).updQueue q fun x => { x with landing := none, payload := 0 }
      let v := ((u.putFlag (qActive q) false).liveAddPair ING_STB_INFO ING_STB_BYTES_IN_LO_BYTES ING_STB_BYTES_IN_HI_BYTES
        bytes.length).updTile id ch col band fun t => { t with bytes := bytes }
      if t.deflate then (v.verify id ch col band).settleAll else v.landedRaw id { t with bytes := bytes } := by
  have htile (u : State) (hu : u.pnd = s.pnd) : u.tile? id ch col band = some t := by rw [State.tile?_congr hu, ht]
  simp [State.landTile, hl, hr, ht, hst, Nat.not_lt.2 hw, Nat.not_lt.2 hb, htile]

section
variable (hr : s.runs 4 = true) (hst : (s.queue q).stalled = true)
include hr hst

/-- A stalled queue with a tile in landing takes blocks for it (R135). -/
theorem State.resumeLanding_landing (hl : (s.queue q).landing.isSome = true) : s.resumeLanding q = s.landBlocks q := by
  simp [State.resumeLanding, hr, hst, hl]

/-- A stalled queue with no tile in landing parses its next header (R135, R136). -/
theorem State.resumeLanding_idle (hl : (s.queue q).landing = none) : s.resumeLanding q = s.parseTile q := by
  simp [State.resumeLanding, hr, hst, hl]

end

end

/-- Settles O28: each event is an operation of its queue, and the operation's equation in that case is the effect. -/
theorem tileArrivalAndLandingComplete : Obligations.TileArrivalAndLandingComplete := by
  refine ⟨?accepted, ?rejected, ?landed, ?resumeLanding, ?resumeIdle⟩
  case accepted =>
    intro s q hr he hl hy hs hw hf hc
    have hparse := State.parseTile_atHeader hr he hl hy hs hw hf
    simp only [hc] at hparse
    exact congrArg s.done hparse
  case rejected =>
    intro s q cause hr he hl hy hs hw hf hc
    have hparse := State.parseTile_atHeader hr he hl hy hs hw hf
    simp only [hc] at hparse
    exact congrArg s.done hparse
  case landed =>
    exact fun s q id ch col band t hr hl ht hst hw hb => congrArg s.done (State.landTile_arrived hr hl ht hst hw hb)
  case resumeLanding => exact fun s q hr hst hl => congrArg s.done (State.resumeLanding_landing hr hst hl)
  case resumeIdle => exact fun s q hr hst hl => congrArg s.done (State.resumeLanding_idle hr hst hl)

/-! ## Verifications -/

section
variable {s : State} {id : Word} {ch col band : Nat} {t : Tile} (ht : s.tile? id ch col band = some t) (hst : t.state = .verifying)
include ht hst

/-- A verification whose store read failed poisons the position with RAW_CRC (R133, R176). -/
theorem State.verified_memFailed {mem : MemRead} (hm : memFailed mem = true) :
    s.verified id ch col band mem = (s.memRead mem).poison id ch col band 8 := by
  simp [State.verified, ht, hst, hm]

/-- A payload that inflates past its size poisons the position with EXPANSION (R133). -/
theorem State.verified_expansion {out : List Byte} (hi : inflate t.rawSize t.bytes = (out, some .expansion)) :
    s.verified id ch col band .ok = s.poison id ch col band 9 := by
  simp [State.verified, ht, hst, memFailed, State.memRead, hi]

/-- A payload that is no DEFLATE stream poisons the position with BAD_STREAM (R133). -/
theorem State.verified_bad {out : List Byte} (hi : inflate t.rawSize t.bytes = (out, some .bad)) :
    s.verified id ch col band .ok = s.poison id ch col band 10 := by
  simp [State.verified, ht, hst, memFailed, State.memRead, hi]

/-- The CRC of a payload that inflates decides: its position is STORED, or poisoned (R132, R133). -/
theorem State.verified_inflated {out : List Byte} (hi : inflate t.rawSize t.bytes = (out, none)) :
    s.verified id ch col band .ok =
      if crc32c out ≠ t.crc then s.poison id ch col band 8
      else ((((s.dropContext .verification id ch col band).updTile id ch col band fun t => { t with state := .stored }).ingCount
        ING_STB_TILES_VERIFIED_COUNT 1).clearPoison id ch).settleAll := by
  simp [State.verified, ht, hst, memFailed, State.memRead, hi]

end

/-- A verification ends where DEC runs. -/
theorem exec_verifyDone {s : State} (hr : s.runs 6 = true) (page : Word) (ch : Fin 8) (col : Fin 13) (band : BitVec 12)
    (mem : MemRead) : exec (.verifyDone page ch col band mem) s =
      s.done (s.verified (s.keyOf page) ch.val col.val band.toNat mem) := by
  change execVerifyDone page ch col band mem s = _
  rw [execVerifyDone, if_pos hr]

/-- Settles O29: how the payload inflates, and then its CRC, decide the end of its verification. -/
theorem verificationCompletes : Obligations.VerificationCompletes := by
  intro s page ch col band t id hr hid ht hst
  simp only [exec_verifyDone hr, hid]
  refine ⟨?stored, ?rawCrc, ?expansion, ?bad, ?memFailed⟩
  case stored => exact fun out hi hc => congrArg s.done ((State.verified_inflated ht hst hi).trans (if_neg (not_not.2 hc)))
  case rawCrc => exact fun out hi hc => congrArg s.done ((State.verified_inflated ht hst hi).trans (if_pos hc))
  case expansion => exact fun out hi => congrArg s.done (State.verified_expansion ht hst hi)
  case bad => exact fun out hi => congrArg s.done (State.verified_bad ht hst hi)
  case memFailed => exact fun mem hm => congrArg s.done (State.verified_memFailed ht hst hm)

/-! ## Compressor events -/

section
variable {s : State} {n : Nat}

/-- A free compressor takes the oldest LANDED tile, with the parameters of its job (R136, R137). -/
theorem State.startCompressor_free {id : Word} {ch col band : Nat} {l : List (Word × Nat × Nat × Nat)} {p : Page}
    (hr : s.runs 4 = true) (hn : s.compressor n = none) (hroom : s.ing.compressors.length + s.ing.hostJobs.length < 32)
    (hl : s.ing.list = (id, ch, col, band) :: l) (hp : s.page? id = some p) :
    s.startCompressor n =
      let w := cmpParams (s.reg ING_CMP_CTL) (((s.jobOf p).map fun j => j.depth).getD 0)
      let u := { s with ing := { s.ing with list := l } }.updTile id ch col band fun t => { t with listed := false }
      (({ u with ing := { u.ing with compressors := u.ing.compressors ++
        [(⟨n, id, ch, col, band, w, 0, [], false, 0, bits w 27 5⟩ : Compressor)] } }).syncBusy.takeWeirs n 0).hostTurn := by
  have hpage : ({ s with ing := { s.ing with list := l } } : State).page? id = some p := hp
  simp only [State.startCompressor, hr, hn, hl, hpage, Nat.not_le.2 hroom]
  rfl

section
variable {c : Compressor} (hr : s.runs 4 = true) (hc : s.compressor n = some c)
include hr hc

section
variable (hw : c.waiting = false)
include hw

/-- A test whose store reads succeed compares the output with the input read so far (R139, R143). -/
theorem State.testCompressor_reads (hin : c.input < s.cmpSize c) :
    s.testCompressor n .ok =
      let c' := { c with input := min (s.cmpSize c) (c.input + 65536) }
      let u := s.updCompressor n fun x => { x with input := c'.input }
      if u.cmpOut c' > c'.input then u.abandon c' ING_STB_EXPANDS_COUNT
      else if 16 * u.cmpOut c' > c'.keep * c'.input then u.abandon c' ING_STB_NO_GAIN_COUNT
      else u.takeWeirs n (blocksOf (u.cmpOut c')) := by
  simp only [State.testCompressor, hr, hc, hw, Nat.not_le.2 hin]
  rfl

/-- At the end of its tile a compressor switches the position to its chain (R140). -/
theorem State.finishCompressor_atEnd {t : Tile} (hin : s.cmpSize c ≤ c.input)
    (ht : s.tile? c.page c.ch c.col c.band = some t) :
    s.finishCompressor n =
      let live := s.pnd.contexts.any fun x => x.page = c.page && x.ch = c.ch && x.col = c.col && x.band = c.band
      let u := (s.dropCompressor n).updTile c.page c.ch c.col c.band fun t =>
        { t with state := .stored, bytes := s.cmpStream c, deflate := true,
                 chain := c.chain.take (blocksOf (s.cmpOut c)), old := if live then t.chain else [] }
      ((u.ingCount ING_STB_TILES_COMPRESSED_COUNT 1).liveAddPair ING_STB_INFO ING_STB_BYTES_OUT_LO_BYTES
        ING_STB_BYTES_OUT_HI_BYTES (s.cmpOut c)).settleAll.hostTurn := by
  have htile : (s.dropCompressor n).tile? c.page c.ch c.col c.band = some t := by
    rw [State.tile?_congr (State.pnd_dropCompressor s n), ht]
  simp [State.finishCompressor, hr, hc, hw, Nat.not_lt.2 hin, htile, State.cmpOut]

end

section
variable (hw : c.waiting = true)
include hw

/-- A wait that ends with no weir buffer abandons the tile and raises vector 67 (R143). -/
theorem State.weirTimeout_waiting :
    s.weirTimeout n =
      ((s.tickTo (c.since + 800 * max 1 (s.get ING_WEIR_WAIT_WAIT_US))).abandon c ING_STB_WEIR_EMPTY_COUNT).raise 67 c.page := by
  simp [State.weirTimeout, hr, hc, hw]

/-- A compressor that waits takes the buffers its output needs (R143). -/
theorem State.weirArrives_waiting : s.weirArrives n = s.takeWeirs n (blocksOf (s.cmpOut c)) := by
  simp [State.weirArrives, hr, hc, hw]

end

end

end

/-- Settles O30: each event is an operation of its compressor, and the operation's equation in that case is the effect. -/
theorem compressorEventsComplete : Obligations.CompressorEventsComplete := by
  refine ⟨?start, ?test, ?done, ?weir⟩
  case start =>
    exact fun s n id ch col band l p hr hn hroom hl hp => congrArg s.done (State.startCompressor_free hr hn hroom hl hp)
  case test => exact fun s n c hr hc hw hin => congrArg s.done (State.testCompressor_reads hr hc hw hin)
  case done => exact fun s n c t hr hc hw hin ht => congrArg s.done (State.finishCompressor_atEnd hr hc hw hin ht)
  case weir =>
    exact fun s n c hr hc hw =>
      ⟨congrArg s.done (State.weirTimeout_waiting hr hc hw), congrArg s.done (State.weirArrives_waiting hr hc hw)⟩

/-! ## Queue enables and the host compression ring -/

/-- A doorbell moves the TAIL index; while the ring is enabled it offers the entries up to it (R144). -/
theorem State.offerHostJobs_tail (s : State) (tail : Word) (descs : List (List Byte)) :
    s.offerHostJobs tail descs =
      let size := 2 ^ max 1 (min 10 (s.get ING_HCJ_CTL_LOG2_SIZE))
      let n := (bits tail 0 10 + size - s.get ING_HCJ_TAIL_INDEX % size) % size
      let u := s.put ING_HCJ_TAIL_INDEX (bits tail 0 10)
      if s.flag ING_HCJ_CTL_ENABLE then { u with ing := { s.ing with
        hostDescs := s.ing.hostDescs ++ (List.range n).map fun i => descs.getD i [] } }.hostTurn
      else u := by
  have hflag : (s.put ING_HCJ_TAIL_INDEX (bits tail 0 10)).flag ING_HCJ_CTL_ENABLE = s.flag ING_HCJ_CTL_ENABLE :=
    State.flag_put_other _ _ _ _ (by decide) (.inl (by decide))
  rw [State.offerHostJobs, hflag]
  rfl

section
variable {s : State} {j : HostJob} {l : List HostJob} (hr : s.runs 4 = true) (hl : s.ing.hostJobs = j :: l)
include hr hl

/-- A job whose length is out of range ends with result 2 (R144, R145). -/
theorem State.endHostJob_badLength (hj : j.len = 0 ∨ 262144 < j.len) (input : List Byte) (e : Bool) :
    s.endHostJob input e = (s.hostResult 0 0 2).hostTurn := by
  simp [State.endHostJob, hr, hl, hj]

section
variable (h1 : 1 ≤ j.len) (h2 : j.len ≤ 262144)
include h1 h2

/-- A host error ends the job and stops the ring (R145). -/
theorem State.endHostJob_hostErr (input : List Byte) :
    s.endHostJob input true = (((s.hostResult 0 0 3).putFlag ING_HCJ_CTL_ERR true).stopHostJobs).raise 69 := by
  have hlen : ¬ (j.len = 0 ∨ 262144 < j.len) := by omega
  simp [State.endHostJob, hr, hl, hlen]

/-- A job whose input was read writes its output where it does not expand (R144, R145). -/
theorem State.endHostJob_coded {input : List Byte} (hin : input.length = j.len) :
    s.endHostJob input false =
      let out := deflate (cmpForm j.params) input true
      if j.len < out.length then (s.hostResult 0 0 1).hostTurn
      else ((s.emit (.hostWrite j.dst out)).hostResult (crc32c input) out.length 0).hostTurn := by
  have hlen : ¬ (j.len = 0 ∨ 262144 < j.len) := by omega
  have hwhole : input.take j.len ++ List.replicate (j.len - input.length) 0 = input := by simp [← hin]
  simp only [State.endHostJob, hl, hr, hlen, hwhole]
  rfl

end

end

/-- Settles O31: a write that lands is its effect, and the end of a job is the equation of its case. -/
theorem queueEnableAndHostRingComplete : Obligations.QueueEnableAndHostRingComplete := by
  refine ⟨?enable, ?doorbell, ?doorbellOff, ?coded, ?badLength, ?hostErr, ?disable⟩
  case enable =>
    exact fun s by_ q h => ⟨congrArg s.done (State.hostWrite_lands h _), congrArg s.done (State.hostWrite_lands h _)⟩
  case doorbell =>
    exact fun s by_ tail descs h he =>
      congrArg s.done ((State.hostWrite_lands h _).trans ((State.offerHostJobs_tail s tail descs).trans (if_pos he)))
  case doorbellOff =>
    exact fun s by_ tail descs h he =>
      congrArg s.done ((State.hostWrite_lands h _).trans
        ((State.offerHostJobs_tail s tail descs).trans (if_neg (Bool.eq_false_iff.1 he))))
  case coded => exact fun s j l input hr hl h1 h2 hin => congrArg s.done (State.endHostJob_coded hr hl h1 h2 hin)
  case badLength => exact fun s j l input e hr hl hj => congrArg s.done (State.endHostJob_badLength hr hl hj input e)
  case hostErr => exact fun s j l input hr hl h1 h2 => congrArg s.done (State.endHostJob_hostErr hr hl h1 h2 input)
  case disable => exact fun s by_ h => congrArg s.done (State.hostWrite_lands h _)

end Sys2Proof.Machine
end

section
/-! The statement on the events of the store (R133, R162, R166, R172, R175 to R177): decode quanta, scrub reads and the reprint
registers. -/

namespace Sys2Proof.Machine

open Sys2Proof

/-! ## Decode quanta -/

section
variable {s : State} {x : Ctx}

/-- A decode quantum runs the context of highest rank (R162). -/
theorem exec_decodeQuantum (h6 : s.runs 6 = true) (h5 : s.runs 5 = true) (hx : s.pickContext = some x) (e : Fin 96) (mem : MemRead) :
    exec (.decodeQuantum e mem) s = s.done (s.runContext x mem) := by
  change execDecodeQuantum e mem s = _
  simp [execDecodeQuantum, h6, h5, hx]

section
variable {p : Page} {t : Tile} (hp : s.page? x.page = some p) (ht : s.tile? x.page x.ch x.col x.band = some t)
include hp ht

/-- A firing or reference context writes its line, or fails with MEMORY where its store read failed (R162, R166, R176). -/
theorem State.runContext_line (hk : x.kind ≠ .verification) (mem : MemRead) :
    s.runContext x mem = if memFailed mem then (s.memRead mem).ctxFails p x 5 else (s.memRead mem).decodeLine p t x := by
  simp [State.runContext, hp, ht, hk]

/-- A verification advances by at most 16 lines; one whose store read failed poisons its position (R133, R162, R176). -/
theorem State.runContext_verification (hk : x.kind = .verification) (mem : MemRead) :
    s.runContext x mem =
      if memFailed mem then (s.memRead mem).poison x.page x.ch x.col x.band 8
      else (s.memRead mem).ctxStep x (min 16 (p.bandLines x.band - x.line)) := by
  simp [State.runContext, hp, ht, hk]

end

end

/-! ## Scrub reads and the reprint registers -/

/-- A scrub read of a block that is scrubbed accounts for its errors (R177). -/
theorem exec_scrubRead {s : State} {b : BitVec 22} (hr : s.runs 5 = true) (he : s.flag PND_SCRUB_EN = true)
    (hb : s.scrubs b.toNat = true) (mem : MemRead) : exec (.scrubRead b mem) s = s.done (s.memRead mem) := by
  change execScrubRead b mem s = _
  simp [execScrubRead, hr, he, hb]

/-- The page of a key with its entries in the reprint queue dropped and its pin lifted (R175). -/
def State.releasePage (s : State) (id : Word) : State :=
  ({ s with pnd := { s.pnd with reprints := s.pnd.reprints.filter fun (e : Reprint) => e.page ≠ id } }.syncReprint).updPage id
    fun p => { p with pinned := false, released := true, heldAt := none }

/-- A release leaves the jobs. -/
theorem State.job?_releasePage (s : State) (id : Word) (j : BitVec 16) : (s.releasePage id).job? j = s.job? j := by
  simp [State.job?, State.releasePage, State.updPage]

section
variable {s : State} {page : Word}

/-- A release of a page that is not in the page table, or that is not held, changes nothing (R175). -/
theorem State.releaseReprint_notHeld
    (h : s.stored? page = none ∨ ∃ p, s.stored? page = some p ∧ p.pinned = false ∧ p.heldAt = none) :
    s.releaseReprint page = s := by
  rcases h with h | ⟨p, h, hp, hh⟩
  · simp [State.releaseReprint, h]
  · simp [State.releaseReprint, h, hp, hh]

/-- A release of a pinned page evicts it once nothing waits for it (R175). -/
theorem State.releaseReprint_pinned {p : Page} {j : Job} (h : s.stored? page = some p) (hp : p.pinned = true)
    (hj : s.job? p.job = some j) :
    s.releaseReprint page =
      let id := s.keyOf page
      let u := s.releasePage id
      if (j.mask &&& ~~~p.done = 0) && p.tiles.all (tileDone (u.inspects j)) then (u.evictPage id).settleAll else u.settleAll := by
  have hjob : (s.releasePage (s.keyOf page)).jobOf p = some j := (State.job?_releasePage ..).trans hj
  rw [State.releasePage] at hjob
  simp only [State.releaseReprint, h, hp, hjob, State.releasePage]
  rfl

end

/-- Settles O32: a quantum is the run of its context, and a write that lands is its effect. -/
theorem storeEventsComplete : Obligations.StoreEventsComplete := by
  refine ⟨?line, ?verification, ?scrub, ?pop, ?notHeld, ?pinned⟩
  case line =>
    intro s e x p t h6 h5 hx hp ht hk
    simp only [exec_decodeQuantum h6 h5 hx, State.runContext_line hp ht hk]
    exact ⟨congrArg s.done (if_neg Bool.false_ne_true), fun mem hm => congrArg s.done (if_pos hm)⟩
  case verification =>
    intro s e x p t h6 h5 hx hp ht hk
    simp only [exec_decodeQuantum h6 h5 hx, State.runContext_verification hp ht hk]
    exact ⟨congrArg s.done (if_neg Bool.false_ne_true), fun mem hm => congrArg s.done (if_pos hm)⟩
  case scrub => exact fun s b mem hr he hb => exec_scrubRead hr he hb mem
  case pop => exact fun s by_ h => congrArg s.done (State.hostWrite_lands h _)
  case notHeld =>
    exact fun s by_ page h hn => congrArg s.done ((State.hostWrite_lands h _).trans (State.releaseReprint_notHeld hn))
  case pinned =>
    exact fun s by_ page p j h hs hp hj =>
      congrArg s.done ((State.hostWrite_lands h _).trans (State.releaseReprint_pinned hs hp hj))

end Sys2Proof.Machine
end

section
/-! The statement on the nozzle table's own commands and on COMMIT and DISCARD of a shadow set (R35 to R41, R188 to R196,
R407). -/

namespace Sys2Proof.Machine

open Sys2Proof

/-! ## The commands of the nozzle table -/

theorem bit_lt_two (b : Bool) : bit b < 2 := by cases b <;> decide

theorem bit_eq_one {b : Bool} : bit b = 1 ↔ b = true := by cases b <;> decide

/-- OP of a word of ASM_NT_CMD (R190). -/
theorem bits_ntWord_op {op : Nat} (h : op < 4) (inc : Bool) : bits (BitVec.ofNat 32 (op + 256 * bit inc)) 0 2 = op := by
  simp only [bits, BitVec.toNat_ofNat]
  omega

/-- INC of a word of ASM_NT_CMD (R190). -/
theorem bits_ntWord_inc {op : Nat} (h : op < 4) (inc : Bool) : bits (BitVec.ofNat 32 (op + 256 * bit inc)) 8 1 = bit inc := by
  have hb := bit_lt_two inc
  simp only [bits, BitVec.toNat_ofNat]
  omega

/-- NT_READ puts the record's words in RDATA, and refuses an INDEX past the last record (R190). -/
theorem State.ntCommand_read (s : State) (inc : Bool) :
    s.ntCommand (BitVec.ofNat 32 (1 + 256 * bit inc)) =
      let w := recWords (s.nozzle (s.get ASM_NT_INDEX_INDEX))
      if lastRecord < s.get ASM_NT_INDEX_INDEX then s.ntError 1
      else ((List.range 4).foldl (fun s i => s.setReg (ASM_NT_RDATA i) (w.getD i 0)) s).ntInc inc := by
  simp [State.ntCommand, bits_ntWord_op, bits_ntWord_inc, bit_eq_one]

/-- NT_STAGE stages WDATA under the mask, and refuses an INDEX past the last record or a full buffer (R190, R191, R196). -/
theorem State.ntCommand_stage (s : State) (inc : Bool) :
    s.ntCommand (BitVec.ofNat 32 (2 + 256 * bit inc)) =
      let n := s.get ASM_NT_INDEX_INDEX
      if lastRecord < n then s.ntError 1
      else if s.bufRoom = 0 then (s.ntError 3).bufFull
      else (s.stageChange n (BitVec.ofNat 12 (s.get ASM_NT_MASK_FIELDS))
        (recOfWords ((List.range 4).map fun i => s.reg (ASM_NT_WDATA i)))).ntInc inc := by
  simp [State.ntCommand, bits_ntWord_op, bits_ntWord_inc, bit_eq_one]

/-- NT_INIT fills the table unless a channel prints (R188). -/
theorem State.ntCommand_init (s : State) : s.ntCommand 3#32 = if s.anyPrinting then s.ntError 2 else s.ntFill := rfl

/-! ## COMMIT and DISCARD of a shadow set -/

/-- What a COMMIT that is taken leaves: the staged words of the set in place of what was pending, handed over at once where no
channel that the set covers prints (R35, R36, R194). -/
def State.takeCommit (s : State) (b : ShdBlk) (n : Nat) : State :=
  let w := s.dropSet b n
  let u := if b = .asm && n < 8 then w.markChanges n true else if b = .cam then w.bindTag n else w
  let p := Pending.mk b n (u.regs.filter fun q => inSet b n q.1) (u.covers b n) false
    (if b = .asm && n = 8 then u.asm.seq + 1 else 0) u.cycle
  let v := { u with shadows := u.shadows ++ [p] }.putFlag (shdBit b n 31) true
  if v.quickSet b n then v.handSet p none else v

section
variable {s : State} {b : ShdBlk} {n : Nat}

/-- A COMMIT with DISCARD is refused (R38). -/
theorem State.commitSet_discard : s.commitSet b n true false = s.putFlag (shdBit b n 28) true := rfl

/-- A COMMIT alone is taken, unless a hand-over of its set has begun (R36, R38). -/
theorem State.commitSet_alone :
    s.commitSet b n false false =
      (s.pendingSet b n).elim (s.takeCommit b n) fun p =>
        if p.begun then s.putFlag (shdBit b n 28) true else (s.putFlag (shdBit b n 29) true).takeCommit b n := by
  cases hp : s.pendingSet b n with
  | none => simp only [State.commitSet, Bool.false_eq_true, if_false, hp]; rfl
  | some p => simp only [State.commitSet, Bool.false_eq_true, if_false, hp]; rfl

/-- A COMMIT over a set whose hand-over has begun is refused (R38). -/
theorem State.commitSet_begun {p : Pending} (hp : s.pendingSet b n = some p) (hb : p.begun = true) :
    s.commitSet b n false false = s.putFlag (shdBit b n 28) true := by
  rw [State.commitSet_alone, hp, Option.elim_some, if_pos hb]

/-- A COMMIT with no hand-over begun is taken, and supersedes one that is pending (R36, R38). -/
theorem State.commitSet_taken (h : (s.pendingSet b n).all (fun p => !p.begun) = true) :
    s.commitSet b n false false =
      ((s.pendingSet b n).elim s fun _ => s.putFlag (shdBit b n 29) true).takeCommit b n := by
  rw [State.commitSet_alone]
  cases hp : s.pendingSet b n with
  | none => rfl
  | some p =>
    have hb : ¬ p.begun = true := by simpa [hp] using h
    exact if_neg hb

/-- A DISCARD drops a set whose hand-over has not begun, and leaves its values staged (R38). -/
theorem State.discardSet_waiting {p : Pending} (hp : s.pendingSet b n = some p) (hb : p.begun = false) :
    s.discardSet b n false =
      let u := if b = .asm && n < 8 then s.markChanges n false else if b = .cam then s.freeTag n else s
      (u.dropSet b n).putFlag (shdBit b n 31) false := by
  simp [State.discardSet, hp, hb]

end

section
variable {s : State} {by_ : By} {b : ShdBlk} {n : Fin 32} (hn : n.val < shdCount b) (hl : s.Lands by_ (shdStat b n.val + 8))
include hn hl

/-- A COMMIT that lands is made, and one of a program set is then the barge's (R36, R407). -/
theorem exec_shadowCommit (discard : Bool) :
    exec (.shadowCommit by_ b n discard false) s =
      s.done (if b = .brg then (s.commitSet b n.val discard false).bargeCommit n.val else s.commitSet b n.val discard false) := by
  change execShadowCommit by_ b n discard false s = _
  rw [execShadowCommit, if_pos hn, State.hostWrite_lands hl]
  rfl

/-- A DISCARD that lands is made (R38). -/
theorem exec_shadowDiscard : exec (.shadowDiscard by_ b n false) s = s.done (s.discardSet b n.val false) := by
  change execShadowDiscard by_ b n false s = _
  rw [execShadowDiscard, if_pos hn, State.hostWrite_lands hl]
  rfl

end

/-- Settles O33: a write that lands is its command, and each command has one equation for each case. -/
theorem nozzleTableAndShadowCommandsComplete : Obligations.NozzleTableAndShadowCommandsComplete := by
  refine ⟨⟨?read, ?stage, ?badIndex, ?init, ?printing, ?entry, ?dropped, ?portRead⟩, ?commit, ?begun, ?both, ?discard⟩
  case read =>
    intro s by_ inc hl hi
    exact congrArg s.done ((State.hostWrite_lands hl _).trans ((State.ntCommand_read s inc).trans (if_neg (Nat.not_lt.2 hi))))
  case stage =>
    intro s by_ inc hl hi hroom
    exact congrArg s.done ((State.hostWrite_lands hl _).trans ((State.ntCommand_stage s inc).trans
      ((if_neg (Nat.not_lt.2 hi)).trans (if_neg hroom.ne'))))
  case badIndex =>
    intro s by_ inc hl hi
    exact ⟨congrArg s.done ((State.hostWrite_lands hl _).trans ((State.ntCommand_read s inc).trans (if_pos hi))),
      congrArg s.done ((State.hostWrite_lands hl _).trans ((State.ntCommand_stage s inc).trans (if_pos hi)))⟩
  case init =>
    intro s by_ hl hp
    exact congrArg s.done ((State.hostWrite_lands hl _).trans
      ((State.ntCommand_init s).trans (if_neg (Bool.eq_false_iff.1 hp))))
  case printing =>
    intro s by_ hl hp
    exact congrArg s.done ((State.hostWrite_lands hl _).trans ((State.ntCommand_init s).trans (if_pos hp)))
  case entry =>
    intro s w hr hi hroom
    exact congrArg s.done ((if_pos hr).trans ((if_neg (Nat.not_lt.2 hi)).trans (if_neg hroom.ne')))
  case dropped => exact fun s w hr hi => congrArg s.done ((if_pos hr).trans (if_pos hi))
  case portRead =>
    intro s hr hi
    have hw : s.ntPortWords = recWords (s.nozzle (s.get ASM_NT_RP_START_INDEX)) := if_neg (Nat.not_lt.2 hi)
    refine congrArg s.done ((if_pos hr).trans ?_)
    rw [hw]
    rfl
  case commit =>
    intro s by_ b n hn hl hp
    rw [exec_shadowCommit hn hl, State.commitSet_taken hp]
    rfl
  case begun =>
    intro s by_ b n p hb hn hl hp hbegun
    rw [exec_shadowCommit hn hl, if_neg hb, State.commitSet_begun hp hbegun]
  case both =>
    intro s by_ b n hb hn hl
    rw [exec_shadowCommit hn hl, if_neg hb, State.commitSet_discard]
  case discard =>
    intro s by_ b n p hn hl hp hbegun
    rw [exec_shadowDiscard hn hl, State.discardSet_waiting hp hbegun]

end Sys2Proof.Machine
end

section
/-! The statements on start triggers, messages, telemetry, triggers, strobes, inspection and calibration (R217, R231, R236 to R239,
R257, R269, R278, R287 to R290, R301, R303, R307, R326, R334, R346 to R347). -/

namespace Sys2Proof.Machine

open Sys2Proof

/-! ## Start triggers -/

section
variable {s u : State} {dt : Nat}

/-- A start pulse outside Prime raises vector 107 (R239). -/
theorem State.startPulseIn_outsidePrime (hm : s.modeCode ≠ 6) : s.startPulseIn = s.raise 107 := by
  rw [State.startPulseIn, if_pos hm]

/-- A follower that waits in Prime begins its run with the start pulse (R239). -/
theorem State.startPulseIn_waiting (hm : s.modeCode = 6) (hw : s.flag FIR_STAT_WAIT_TRIGGER = true) :
    s.startPulseIn = s.beginRun s.counter := by
  rw [State.startPulseIn, if_neg (not_not.2 hm), if_pos hw]

/-- An anchor pulse shows how far the counter stands from the anchor, and raises 107 beyond the tolerance (R239). -/
theorem State.anchorPulseIn_running (hr : s.flag FIR_STAT_RUNNING = true) :
    s.anchorPulseIn =
      let dev := signed 80 (unsigned 80 (s.counter * 2 ^ 32 - s.anchorAt s.fir.nextReach)) / 2 ^ 32
      let v := s.setReg FIR_SYNC_DEV (BitVec.ofInt 32 (clampInt (-(2 ^ 31)) (2 ^ 31 - 1) dev))
      if s.get FIR_SYNC_CTL_SYNC_TOL < dev.natAbs then v.raise 107 else v := by
  have htol (x : Word) : (s.setReg FIR_SYNC_DEV x).get FIR_SYNC_CTL_SYNC_TOL = s.get FIR_SYNC_CTL_SYNC_TOL :=
    State.get_setReg_other s _ x (by decide)
  simp only [State.anchorPulseIn, hr, htol, Bool.not_true, Bool.false_eq_true, if_false]

/-- The edge that a waiting run asks for begins it at the counter's value (R231). -/
theorem exec_startTrigger_asked {g : Fin 8} {rising : Bool} (hu : u = (s.tick dt).posNow) (hr : u.runs 8 = true)
    (hw : u.flag FIR_STAT_WAIT_TRIGGER = true) (ht : u.ctlGet FIR_CTL_TANDEM ≠ 2) (hg : u.ctlGet FIR_CTL_START_GPI = g.val)
    (he : u.ctlGet FIR_CTL_START_EDGE = 1 ↔ rising = false) :
    exec (.startTrigger g rising dt) s = s.done (u.beginRun u.counter) := by
  subst hu
  have hedge : decide ((s.tick dt).posNow.ctlGet FIR_CTL_START_EDGE = 1) = !rising := by
    rw [decide_eq_decide.2 he]
    cases rising <;> rfl
  change execStartTrigger g rising dt s = _
  simp only [execStartTrigger, hr, hw, ht, hg, hedge, ne_eq, not_false_eq_true, decide_true, Bool.and_self, if_true]

/-- A follower tells the leader's pulses by their width (R239). -/
theorem exec_lineSyncPulse_follower (hu : u = (s.tick dt).posNow) (hr : u.runs 8 = true) (ht : u.ctlGet FIR_CTL_TANDEM = 2) (w : Nat) :
    exec (.lineSyncPulse w dt) s = s.done (if 100 < w then u.startPulseIn else if 20 ≤ w then u.anchorPulseIn else u) := by
  subst hu
  change execLineSyncPulse w dt s = _
  simp [execLineSyncPulse, hr, ht]

end

/-- Settles O35: a trigger by its guard, and a pulse by its width and by what its kind of pulse does. -/
theorem startTriggersComplete : Obligations.StartTriggersComplete := by
  refine ⟨fun s g rising dt hr hw ht hg he => exec_startTrigger_asked rfl hr hw ht hg he, ?_⟩
  intro s w dt u hr ht
  rw [exec_lineSyncPulse_follower (u := u) rfl hr ht]
  refine ⟨?outsidePrime, ?start, ?anchor, ?short⟩
  case outsidePrime => exact fun hw hm => congrArg s.done ((if_pos hw).trans (State.startPulseIn_outsidePrime hm))
  case start => exact fun hw hm hwait => congrArg s.done ((if_pos hw).trans (State.startPulseIn_waiting hm hwait))
  case anchor =>
    exact fun hlo hhi hrun =>
      congrArg s.done ((if_neg (Nat.not_lt.2 hhi)).trans ((if_pos hlo).trans (State.anchorPulseIn_running hrun)))
  case short => exact fun hw => congrArg s.done ((if_neg (by omega)).trans (if_neg (Nat.not_le.2 hw)))

/-! ## Messages and telemetry -/

@[simp] theorem State.carrier_tick (s : State) (k n : Nat) : (s.tick k).carrier n = s.carrier n := by simp [State.carrier]

section
variable {s : State} {n : Nat} {l : List MsgCopy} {b : List (BitVec 64)} {q : Nat}

/-- Without a good copy an ACK has no effect (R278). -/
theorem State.ack_noCopy (hc : s.goodCopy n 0x83 2 l = none) : s.ack n l = s := by
  rw [State.ack, hc]

/-- An ACK of status BAD_CRC leaves the message for its next send (R288). -/
theorem State.ack_badCrc (hc : s.goodCopy n 0x83 2 l = some (q, b)) (hb : 2 ≤ (b.getD 0 0).toNat / 2 ^ 16 % 256) :
    s.ack n l = s := by
  rw [State.ack, hc]
  exact if_pos hb

/-- Any other ACK ends the message that it names (R288). -/
theorem State.ack_taken (hc : s.goodCopy n 0x83 2 l = some (q, b)) (hb : (b.getD 0 0).toNat / 2 ^ 16 % 256 < 2) :
    s.ack n l =
      s.updCarrier n fun c => { c with msgs := c.msgs.filter fun (m : Msg) => m.seq ≠ (b.getD 0 0).toNat % 2 ^ 16 } := by
  rw [State.ack, hc]
  exact if_neg (Nat.not_le.2 hb)

/-- Without a good copy a link test's result has no effect (R278). -/
theorem State.testResult_noCopy (hc : s.goodCopy n 0x85 2 l = none) : s.testResult n l = s := by
  rw [State.testResult, hc]

/-- A link test's result is kept: the errors and the bits of its data block (R287). -/
theorem State.testResult_taken (hc : s.goodCopy n 0x85 2 l = some (q, b)) :
    s.testResult n l =
      s.updCarrier n fun c => { c with test := ((b.getD 0 0).setWidth 32, (b.getD 0 0 >>> 32).setWidth 32) } := by
  rw [State.testResult, hc]

section
variable {m : Msg} (hm : ((s.carrier n).msgs.find? fun m => m.seq = q) = some m)
include hm

/-- A message without an ACK is sent again while fewer than four sends were made (R288). -/
theorem State.resend_again (hs : m.sends < 4) :
    s.resend n q =
      let u := s.tickTo (m.at_ + 80000)
      let v := u.updCarrier n fun c => { c with msgs := c.msgs.map fun (x : Msg) =>
        if x.seq = q then { x with sends := x.sends + 1, at_ := u.cycle } else x }
      (((v.queueItem n ⟨none, msgBlocks m.kind m.seq m.body⟩).emit (.carrierMsg n m.kind m.seq m.body)).incSat
        JGL_MSG_RETRIES).liveAdd JGL_STB_INFO JGL_STB_MSG_RETRY_COUNT 1 := by
  rw [State.resend, hm]
  exact if_pos hs

/-- A message without an ACK fails after its fourth send, with vector 145, and its carrier is lost (R288). -/
theorem State.resend_fails (hs : 4 ≤ m.sends) :
    s.resend n q =
      let w := (s.tickTo (m.at_ + 80000)).updCarrier n fun c =>
        { c with msgs := c.msgs.filter fun (x : Msg) => x.seq ≠ q }
      (((w.incSat JGL_MSG_FAILS).putFlag (JGL_C_STAT_MSG_FAIL n) true).raise 145).carrierLost n := by
  rw [State.resend, hm]
  exact if_neg (Nat.not_lt.2 hs)

end

end

section
variable {s : State} (hr : s.runs 9 = true) (n : Fin 16) (l : List MsgCopy) (dt : Nat)
include hr

/-- An ACK is looked at where JGL runs. -/
theorem exec_msgAck_runs : exec (.msgAck n l dt) s = s.done ((s.tick dt).ack n.val l) :=
  congrArg s.done (if_pos ((s.runs_tick dt 9).trans hr))

/-- A link test's result is looked at where JGL runs. -/
theorem exec_linkTestResult_runs : exec (.linkTestResult n l dt) s = s.done ((s.tick dt).testResult n.val l) :=
  congrArg s.done (if_pos ((s.runs_tick dt 9).trans hr))

/-- A message is sent again where JGL runs. -/
theorem exec_msgRetry_runs (q : BitVec 16) : exec (.msgRetry n q dt) s = s.done ((s.tick dt).resend n.val q.toNat) :=
  congrArg s.done (if_pos ((s.runs_tick dt 9).trans hr))

omit hr in
/-- Without a good copy a telemetry record has no effect (R278). -/
theorem exec_telemetryRecord_noCopy (hc : (s.tick dt).goodCopy n.val 0x81 9 l = none) :
    exec (.telemetryRecord n l dt) s = s.done (s.tick dt) := by
  change execTelemetryRecord n l dt s = _
  simp only [execTelemetryRecord, hc]

/-- A record of a carrier that is on reaches every unit that uses it (R289, R290). -/
theorem exec_telemetryRecord_taken {q : Nat} {b : List (BitVec 64)} (hc : (s.tick dt).goodCopy n.val 0x81 9 l = some (q, b))
    (hon : (s.tick dt).carrierOn n.val = true) :
    exec (.telemetryRecord n l dt) s = s.done ((s.tick dt).telemetry n.val q b) := by
  change execTelemetryRecord n l dt s = _
  simp only [execTelemetryRecord, hc, State.runs_tick, hr, hon, Bool.and_self, if_true]

/-- The next ALIGN marker goes out on a carrier that is up, ALIGN_KB × 1,024 blocks after the latest (R269). -/
theorem exec_alignMarker_up (hup : s.flag (JGL_C_STAT_UP n.val) = true) :
    exec (.alignMarker n dt) s = s.done (((s.tick dt).tickTo (slotCycle (((s.tick dt).carrier n.val).marked
      + 1024 * max 1 ((s.tick dt).get JGL_FILL_ALIGN_KB)))).sendAlign n.val false) := by
  change execAlignMarker n dt s = _
  simp only [execAlignMarker, State.runs_tick, State.flag_tick, hr, hup, Bool.and_self, if_true]

/-- A carrier whose latest record is 300,001 cycles old is flagged (R290). -/
theorem exec_telemLate_due {t : Nat} (ht : (s.carrier n.val).record = some t) :
    exec (.telemLate n dt) s =
      s.done (((s.tick dt).tickTo (t + 300001)).putFlag (JGL_C_STAT_TELEM_LATE n.val) true) := by
  change execTelemLate n dt s = _
  simp only [execTelemLate, State.carrier_tick, ht, State.runs_tick, hr, if_true]

end

/-- A die of an enabled channel is blanked 1 ms after its latest report (R236). -/
theorem exec_dieReportTimeout_enabled {s : State} {ch : Fin 8} (hr : s.runs 8 = true) (hch : s.sys.channels.getLsbD ch.val = true)
    (d : Fin 52) (dt : Nat) :
    exec (.dieReportTimeout ch d dt) s = s.done (((s.tick dt).tickTo
      (((s.tick dt).fch ch.val).tempAt.getD d.val 0 + 800000)).blankDie ch.val d.val) := by
  change execDieReportTimeout ch d dt s = _
  simp only [execDieReportTimeout, State.runs_tick, State.sys_tick, hr, hch, Bool.and_self, if_true]

/-- Settles O40: the good copy of a message decides what it does, and every other event acts once its guard is met. -/
theorem messageAndTelemetryEventsComplete : Obligations.MessageAndTelemetryEventsComplete := by
  refine ⟨?copies, ?retry, ?align, ?late, ?timeout⟩
  case copies =>
    intro s n l dt q b hr u
    rw [exec_msgAck_runs hr, exec_linkTestResult_runs hr]
    exact ⟨fun hc => congrArg s.done (State.ack_noCopy hc), fun hc => congrArg s.done (State.testResult_noCopy hc),
      fun hc => exec_telemetryRecord_noCopy n l dt hc, fun hc hb => congrArg s.done (State.ack_badCrc hc hb),
      fun hc hb => congrArg s.done (State.ack_taken hc hb), fun hc => congrArg s.done (State.testResult_taken hc),
      fun hc hon => exec_telemetryRecord_taken hr n l dt hc hon⟩
  case retry =>
    intro s n q m dt hr hm
    rw [exec_msgRetry_runs hr]
    have hticked : (((s.tick dt).carrier n.val).msgs.find? fun m => m.seq = q.toNat) = some m := by rw [State.carrier_tick, hm]
    exact ⟨fun hs => congrArg s.done (State.resend_again hticked hs), fun hs => congrArg s.done (State.resend_fails hticked hs)⟩
  case align => exact fun s n dt hr hup => exec_alignMarker_up hr n dt hup
  case late => exact fun s n t dt hr ht => exec_telemLate_due hr n dt ht
  case timeout => exact fun s ch d dt hr hch => exec_dieReportTimeout_enabled hr hch d dt

/-! ## Triggers, frame boundaries and strobes -/

section
variable {s : State} {n : Nat}

/-- The strobe due first drives its output at its cycle (R303). -/
theorem State.startStrobe_first {q : Nat × Nat × Nat} {r : List (Nat × Nat × Nat)} (hf : (s.sensor n).flashes = q :: r) :
    s.startStrobe n =
      let first := r.foldl (fun a b => if b.1 < a.1 then b else a) q
      let u := s.tickTo first.1
      (u.updSensor n fun x =>
        { x with flashes := x.flashes.erase first, strobes := x.strobes ++ [(first.2.1, u.cycle + first.2.2)] }).emit
          (.strobe first.2.1 true) := by
  rw [State.startStrobe, hf]

/-- The strobe over first leaves its output to the other strobes at its cycle (R303). -/
theorem State.endStrobe_first {q : Nat × Nat} {r : List (Nat × Nat)} (hf : (s.sensor n).strobes = q :: r) :
    s.endStrobe n =
      let first := r.foldl (fun a b => if b.2 < a.2 then b else a) q
      let u := (s.tickTo first.2).updSensor n fun x => { x with strobes := x.strobes.erase first }
      u.emit (.strobe first.1 (u.strobeLevel first.1)) := by
  rw [State.endStrobe, hf]

/-- The oldest pulse of a compare unit that has lasted its width ends (R257). -/
theorem State.endPulse_lasted {i : Nat} (hi : ((s.pos.pulses.getD n []).findIdx? fun p => p.started
      && decide (p.start + max 1 (s.get (POS_CMP_PULSE_WIDTH n)) ≤ s.cycle)) = some i) :
    s.endPulse n = ({ s with pos := { s.pos with
      pulses := s.pos.pulses.set n ((s.pos.pulses.getD n []).eraseIdx i) } } : State).emitPulse n false := by
  simp only [State.endPulse, hi]

/-- The pulse on LINE_SYNC_OUT ends once its time is over (R238). -/
theorem State.endSync_due {t : Nat} (hs : s.fir.syncEnd = some t) (ht : t ≤ s.cycle) :
    s.endSync = ({ s with fir := { s.fir with syncEnd := none } } : State).emit (.lineSync false) := by
  simp only [State.endSync, hs, if_neg (Nat.not_lt.2 ht)]

end

section
variable {s u : State}

/-- A pulse reaches the sensors of an output that a compare unit drives (R301). -/
theorem exec_triggerPulse_driven {o : Fin 16} {dt : Nat} (hu : u = (s.tick dt).posNow) (hr : u.runs 10 = true)
    (hd : (u.drivenBy POS_CMP_CTL_TRIG).testBit o.val = true) :
    exec (.triggerPulse o dt) s = s.done (u.triggerOutput o.val) := by
  subst hu
  exact congrArg s.done (if_pos (Bool.and_eq_true_iff.2 ⟨hr, hd⟩))

/-- The oldest frame still without its boundary passes it once its exposure delay is over (R301, R307). -/
theorem exec_frameBoundary_oldest {n : Fin 16} {f : Frame} (hr : s.runs 10 = true)
    (hf : ((s.sensor n.val).frames.find? fun (f : Frame) => !f.bounded) = some f) (dt : Nat) :
    exec (.frameBoundary n dt) s =
      s.done (((s.tick dt).tickTo (f.at_ + s.get (CAM_SNS_TIMING_EXP_DELAY n.val))).frameBoundary n.val f) := by
  change execFrameBoundary n dt s = _
  simp only [execFrameBoundary, State.sensor_tick, hf, State.runs_tick, hr, State.get_tick, if_true]

/-- A strobe starts where CAM runs. -/
theorem exec_strobePulse_runs (hr : s.runs 10 = true) (n : Fin 16) (dt : Nat) :
    exec (.strobePulse n dt) s = s.done ((s.tick dt).startStrobe n.val) :=
  congrArg s.done (if_pos ((s.runs_tick dt 10).trans hr))

/-- A strobe ends where CAM runs. -/
theorem exec_pulseEnd_strobe (hr : s.runs 10 = true) (n : Fin 16) (dt : Nat) :
    exec (.pulseEnd (.strobe n) dt) s = s.done ((s.tick dt).endStrobe n.val) :=
  congrArg s.done (if_pos ((s.runs_tick dt 10).trans hr))

/-- A pulse of a compare unit ends where FIR runs. -/
theorem exec_pulseEnd_compare (hr : s.runs 8 = true) (n : Fin 16) (dt : Nat) :
    exec (.pulseEnd (.compare n) dt) s = s.done ((s.tick dt).endPulse n.val) :=
  congrArg s.done (if_pos ((s.runs_tick dt 8).trans hr))

/-- The pulse on LINE_SYNC_OUT ends where FIR runs. -/
theorem exec_pulseEnd_lineSync (hr : s.runs 8 = true) (dt : Nat) :
    exec (.pulseEnd .lineSync dt) s = s.done (s.tick dt).endSync :=
  congrArg s.done (if_pos ((s.runs_tick dt 8).trans hr))

end

/-- Settles O42: each event is an operation of its unit, and the operation's equation in that case is the effect. -/
theorem triggerAndStrobeEventsComplete : Obligations.TriggerAndStrobeEventsComplete := by
  refine ⟨?trigger, ?boundary, ?strobe, ?strobeEnd, ?compareEnd, ?syncEnd⟩
  case trigger => exact fun s o dt hr hd => exec_triggerPulse_driven rfl hr hd
  case boundary => exact fun s n dt f hr hf => exec_frameBoundary_oldest hr hf dt
  case strobe =>
    intro s n dt q r hr hf
    rw [exec_strobePulse_runs hr, State.startStrobe_first ((congrArg Sensor.flashes (s.sensor_tick dt n.val)).trans hf)]
  case strobeEnd =>
    intro s n dt q r hr hf
    rw [exec_pulseEnd_strobe hr, State.endStrobe_first ((congrArg Sensor.strobes (s.sensor_tick dt n.val)).trans hf)]
  case compareEnd =>
    intro s n dt i hr hi
    have hticked : (((s.tick dt).pos.pulses.getD n.val []).findIdx? fun p => p.started
        && decide (p.start + max 1 ((s.tick dt).get (POS_CMP_PULSE_WIDTH n.val)) ≤ (s.tick dt).cycle)) = some i := by
      rw [State.pos_tick, State.get_tick, State.cycle_tick, hi]
    rw [exec_pulseEnd_compare hr, State.endPulse_lasted hticked]
  case syncEnd =>
    intro s dt t hr ht hle
    rw [exec_pulseEnd_lineSync hr, State.endSync_due ((congrArg Fir.syncEnd (s.fir_tick dt)).trans ht)
      (hle.trans_eq (s.cycle_tick dt).symm)]

/-! ## Inspection and calibration -/

@[simp] theorem State.nameOf_tick (s : State) (k : Nat) (key : Word) : (s.tick k).nameOf key = s.nameOf key := by
  simp [State.nameOf]

@[simp] theorem State.page?_tick (s : State) (k : Nat) (id : Word) : (s.tick k).page? id = s.page? id := by
  simp [State.page?]

section
variable {s : State}

/-- A page that waits is analysed from what the station saw of it, and forgotten (R326). -/
theorem State.analysisDone_waiting {name id : Word} {x : PageView} {p : Page} (hr : s.runs 10 = true)
    (hid : (s.ins.waiting.find? fun k => s.nameOf k = name) = some id) (hp : s.page? id = some p)
    (hx : (s.ins.views.find? fun (v : PageView) => v.page = id) = some x) :
    s.analysisDone name =
      let u := (s.analysed p x).forget id
      let w : State := { u with ins := { u.ins with waiting := u.ins.waiting.filter fun (x : Word) => x ≠ id } }
      (w.putFlag INS_STAT_BUSY (!w.ins.waiting.isEmpty)).settleAll := by
  have hmem : s.ins.waiting.contains id = true := List.contains_iff_mem.2 (List.mem_of_find?_eq_some hid)
  simp only [State.analysisDone, hid, Option.getD_some, hmem, hr, hp, hx, Bool.not_true, Bool.or_self, Bool.false_eq_true, if_false]

/-- A run that is not aborted ends with its result, and the next of the visit begins (R334). -/
theorem State.runEnds_notAborting {r : CalRun} (hr : s.cal.run = some r) (ha : r.aborting = false) (v : Nat) (l : List CalItem) :
    s.runEnds v l = State.nextCal (s.endCal r v l).cal.queue (s.endCal r v l) := by
  simp [State.runEnds, hr, ha]

/-- An aborted run ends as aborted, and with it the visit (R334, R347). -/
theorem State.runEnds_aborting {r : CalRun} (hr : s.cal.run = some r) (ha : r.aborting = true) (v : Nat) (l : List CalItem) :
    s.runEnds v l = (s.endCal r 2 l).leaveCal := by
  simp [State.runEnds, hr, ha]

/-- Due runs start in Warm while no command is executed and no run is in progress (R347). -/
theorem State.temperStart_due (hm : s.modeCode = 5) (ht : s.flag SYS_MODE_TRANSITION = false) (hc : s.cmd.table = [])
    (hr : s.cal.run = none) (hd : s.temperDue ≠ []) : s.temperStart = State.nextCal s.temperDue (s.setChipMode 11 1) := by
  simp [State.temperStart, hm, ht, hc, hr, hd]

/-- The check of the temperatures: the sensors' registers are read, and each quantity with a reading is checked (R346, R347). -/
theorem State.temperCheck_eq (c : BitVec 8) (l : List (BitVec 8)) :
    s.temperCheck c l =
      let on := (List.range 16).filter s.snsOn
      let v := on.foldl (fun (t : State) n => t.emit (.busRead n (t.get (CAL_TMP_SRC_REG 1)) 1)) s.soak
      let w : State := { v with cal := { v.cal with heat := [(0, 0), (0, 0)], checkedAt := v.cycle } }
      [some (signed 8 c.toNat), hottestSensor (l.take on.length), v.averaged 2, v.averaged 3].zipIdx.foldl
        (fun (t : State) q => q.1.elim t fun x => t.temperOne q.2 (unsigned 8 x)) w := by
  have hone : (fun (t : State) (q : Option Int × Nat) => match q.1 with
        | some v => t.temperOne q.2 (unsigned 8 v)
        | none => t) = fun t q => q.1.elim t fun x => t.temperOne q.2 (unsigned 8 x) := by
    funext t ⟨o, k⟩
    cases o <;> rfl
  exact congrArg (fun f => List.foldl f _ _) hone

/-- The camera line passes the boundary of the next run line at its predicted cycle (R217). -/
theorem exec_cameraLineBoundary_due {dt : Nat} {a : Anchor} (ha : (s.tick dt).params = some a) (hc : (s.tick dt).clockRuns = true)
    (hp : a.p ≠ 0) (hi : s.sys.inspection = true) (ht : (s.tick dt).camLineTime a s.fir.camNext ≤ s.cycle + dt) :
    exec (.cameraLineBoundary dt) s = s.done ((s.tick dt).cameraLine s.fir.camNext) := by
  change execCameraLineBoundary dt s = _
  simp only [execCameraLineBoundary, ha, hc, hp, State.sys_tick, hi, State.fir_tick, State.cycle_tick, Nat.cast_add, ht, ne_eq,
    not_false_eq_true, decide_true, Bool.and_self, if_true]

end

/-- Settles O45: each event is one operation, and the operation's equation in that case is the effect. -/
theorem inspectionAndCalibrationEventsComplete : Obligations.InspectionAndCalibrationEventsComplete := by
  refine ⟨?camera, ?analysis, ?ended, ?aborted, ?check, ?start⟩
  case camera => exact fun s dt a ha hc hp hi ht => exec_cameraLineBoundary_due ha hc hp hi ht
  case analysis =>
    intro s page id dt x p hr hid hp hx
    have hticked : ((s.tick dt).ins.waiting.find? fun k => (s.tick dt).nameOf k = page) = some id := by simp [hid]
    exact congrArg s.done (State.analysisDone_waiting ((s.runs_tick dt 10).trans hr) hticked ((s.page?_tick dt id).trans hp)
      (by rw [State.ins_tick, hx]))
  case ended =>
    exact fun s v l dt r hr ha =>
      congrArg s.done (State.runEnds_notAborting ((congrArg Cal.run (s.cal_tick dt)).trans hr) ha v.toNat l)
  case aborted =>
    exact fun s v l dt r hr ha =>
      congrArg s.done (State.runEnds_aborting ((congrArg Cal.run (s.cal_tick dt)).trans hr) ha v.toNat l)
  case check => exact fun s c l dt => congrArg s.done (State.temperCheck_eq c l)
  case start => exact fun s hm ht hc hr hd => congrArg s.done (State.temperStart_due hm ht hc hr hd)

end Sys2Proof.Machine
end

section
/-! The statements on web position (R242 to R247, R250, R252 to R258): what an encoder port receives, the position registers with an
effect of their own, and the compare units. -/

namespace Sys2Proof.Machine

open Sys2Proof

/-! ## Samples of an analog port -/

section
variable {s : State} {p : Nat}

/-- A sample whose radius is out of bounds is counted, and is nothing else (R243). -/
theorem State.takeSample_bad {sin cos : BitVec 14} (hb : s.radiusBad p (s.sampleSC p sin.toInt cos.toInt) = true) :
    s.takeSample p sin cos = s.badSample p := if_pos hb

/-- The phase of a sample at the very centre is free (R242). -/
theorem State.takeSample_centre {sin cos : BitVec 14} (hb : s.radiusBad p (s.sampleSC p sin.toInt cos.toInt) = false)
    (h0 : s.sampleSC p sin.toInt cos.toInt = (0, 0)) :
    s.takeSample p sin cos = s.draw.2.takePhase p (s.draw.1.toNat % 4096) :=
  (if_neg (Bool.eq_false_iff.1 hb)).trans (if_pos h0)

/-- Any other good sample brings the phase of its signals (R242). -/
theorem State.takeSample_good {sin cos : BitVec 14} (hb : s.radiusBad p (s.sampleSC p sin.toInt cos.toInt) = false)
    (h0 : s.sampleSC p sin.toInt cos.toInt ≠ (0, 0)) :
    s.takeSample p sin cos =
      s.takePhase p (phaseOf (s.sampleSC p sin.toInt cos.toInt).1 (s.sampleSC p sin.toInt cos.toInt).2) :=
  (if_neg (Bool.eq_false_iff.1 hb)).trans (if_neg h0)

/-- A phase with none before it is the new reference within the period (R242). -/
theorem State.takePhase_reference (hn : (s.port p).phi = none) (phi : Nat) :
    s.takePhase p phi = (s.updPort p fun y => { y with
      steps := y.steps / 4096 * 4096 + phi, phi := some phi, sampleAt := s.cycle }).bringPort p := by
  simp only [State.takePhase, hn]

/-- A jump beyond a quarter period is an illegal edge, and the reference is lost (R243). -/
theorem State.takePhase_jump {old phi : Nat} (ho : (s.port p).phi = some old)
    (hd : 1024 < (signed 12 (unsigned 12 ((phi : Int) - old))).natAbs) :
    s.takePhase p phi = (s.illegalOn p).updPort p fun y => { y with phi := none } := by
  simp only [State.takePhase, ho, if_pos hd]

/-- Up to a quarter period the position moves by the signed difference of the phases (R242, R250). -/
theorem State.takePhase_move {old phi : Nat} (ho : (s.port p).phi = some old)
    (hd : (signed 12 (unsigned 12 ((phi : Int) - old))).natAbs ≤ 1024) :
    s.takePhase p phi =
      let d := signed 12 (unsigned 12 ((phi : Int) - old))
      let v := if d = 0 then s else s.crossQuarters p ((s.port p).steps + d)
      (v.updPort p fun y => { y with steps := y.steps + d, phi := some phi, sampleAt := v.cycle }).bringPort p := by
  simp only [State.takePhase, ho, if_neg (Nat.not_lt.2 hd)]

/-- An enabled analog port takes samples. -/
theorem State.takeInput_sample (he : s.flag (POS_PORT_CFG_EN p) = true) (hp : p < 2) (sin cos : BitVec 14) :
    s.takeInput p (.sample sin cos) = s.takeSample p sin cos := by
  simp only [State.takeInput, he, hp, Bool.not_true, Bool.false_eq_true, if_false, if_true]

/-- An enabled digital port takes levels. -/
theorem State.takeInput_levels (he : s.flag (POS_PORT_CFG_EN p) = true) (hp : 2 ≤ p) (a b : Bool) :
    s.takeInput p (.levels a b) = s.takeLevels p a b := by
  simp only [State.takeInput, he, Nat.not_lt.2 hp, Bool.not_true, Bool.false_eq_true, if_false]

/-- The first levels that an enabled port sees are no change (R245). -/
theorem State.takeLevels_eq (a b : Bool) :
    s.takeLevels p a b =
      let u := s.passEdges p
      if (u.port p).filtered = none then
        u.updPort p fun y => { y with filtered := some (a, b), raw := (a, b), since := (u.cycle, u.cycle) }
      else (u.updPort p fun y => { y with
        raw := (a, b)
        since := (if a = (u.port p).raw.1 then (u.port p).since.1 else u.cycle,
          if b = (u.port p).raw.2 then (u.port p).since.2 else u.cycle) }).passEdges p := by
  simp only [State.takeLevels, Option.isNone_iff_eq_none]

end

section
variable {s : State} (hr : s.runs 8 = true)
include hr

/-- Where FIR runs, a port takes what it receives. -/
theorem exec_encoderMotion_runs (p : Fin 4) (i : EncInput) (dt : Nat) :
    exec (.encoderMotion p i dt) s = s.done ((s.tick dt).takeInput p.val i) :=
  congrArg s.done (if_pos ((s.runs_tick dt 8).trans hr))

/-- An illegal edge is judged as any other input. -/
theorem exec_illegalEdge_runs (p : Fin 4) (i : EncInput) (dt : Nat) :
    exec (.illegalEdge p i dt) s = s.done ((s.tick dt).takeInput p.val i) :=
  congrArg s.done (if_pos ((s.runs_tick dt 8).trans hr))

/-- A bad sample is judged as any other input. -/
theorem exec_ampBad_runs (p : Fin 4) (sin cos : BitVec 14) (dt : Nat) :
    exec (.ampBad p sin cos dt) s = s.done ((s.tick dt).takeInput p.val (.sample sin cos)) :=
  congrArg s.done (if_pos ((s.runs_tick dt 8).trans hr))

/-- The end of a fault window judges every port where FIR runs (R252). -/
theorem exec_faultWindowEnd_runs (dt : Nat) :
    exec (.faultWindowEnd dt) s = s.done ((s.tick dt).tickTo ((s.tick dt).pos.windowAt + (s.tick dt).windowLen)).rollWindow :=
  congrArg s.done (if_pos ((s.runs_tick dt 8).trans hr))

/-- A pulse of a compare unit starts where FIR runs. -/
theorem exec_cmpPulse_runs (n : Fin 16) (dt : Nat) : exec (.cmpPulse n dt) s = s.done ((s.tick dt).startPulse n.val) :=
  congrArg s.done (if_pos ((s.runs_tick dt 8).trans hr))

variable {p : Fin 4} (he : s.flag (POS_PORT_CFG_EN p.val) = true)
include he

/-- An enabled analog port takes a sample, whichever command brings it. -/
theorem exec_sample_taken (hp : p.val < 2) {sin cos : BitVec 14} {dt : Nat} {t : State}
    (ht : (s.tick dt).takeSample p.val sin cos = t) :
    exec (.encoderMotion p (.sample sin cos) dt) s = s.done t ∧ exec (.illegalEdge p (.sample sin cos) dt) s = s.done t
      ∧ exec (.ampBad p sin cos dt) s = s.done t := by
  have htaken : (s.tick dt).takeInput p.val (.sample sin cos) = t :=
    (State.takeInput_sample ((s.flag_tick dt _).trans he) hp sin cos).trans ht
  rw [exec_encoderMotion_runs hr, exec_illegalEdge_runs hr, exec_ampBad_runs hr, htaken]
  exact ⟨rfl, rfl, rfl⟩

/-- An enabled digital port takes levels, whichever command brings them. -/
theorem exec_levels_taken (hp : 2 ≤ p.val) (a b : Bool) (dt : Nat) :
    exec (.encoderMotion p (.levels a b) dt) s = s.done ((s.tick dt).takeLevels p.val a b)
      ∧ exec (.illegalEdge p (.levels a b) dt) s = s.done ((s.tick dt).takeLevels p.val a b) := by
  rw [exec_encoderMotion_runs hr, exec_illegalEdge_runs hr, State.takeInput_levels ((s.flag_tick dt _).trans he) hp]
  exact ⟨rfl, rfl⟩

end

/-! ## Index crossings -/

/-- A port's index counts (R245, R246): the port and its index are enabled and have a period, Z has passed the filter, and the port
moves forward. -/
structure State.IndexCounts (s : State) (p stable : Nat) : Prop where
  enabled : s.flag (POS_PORT_CFG_EN p) = true
  indexed : s.flag (POS_PORT_INDEX_EN p) = true
  period : s.get (POS_PORT_INDEX_PERIOD p) ≠ 0
  passed : p < 2 ∨ s.filt p ≤ stable
  forward : (s.port p).forward = true

/-- How far a port stands from the nearest line of its index grid fixed at `g` (R246). -/
def State.indexDev (s : State) (p : Nat) (g : Int) : Int :=
  let m := s.get (POS_PORT_INDEX_PERIOD p) * s.perPeriod p
  diff48 (s.rawCount p) (g + roundDiv (diff48 (s.rawCount p) g) m * m)

/-- The port with the deviation of an index crossing in its register (R246). -/
def State.showDev (s : State) (p : Nat) (g : Int) : State :=
  s.setReg (POS_PORT_INDEX_DEV p) (BitVec.ofInt 32 (clampInt (-(2 ^ 31)) (2 ^ 31 - 1) (s.indexDev p g)))

/-- A mismatch is counted, with vector 111 (R246). -/
def State.countMismatch (s : State) (p : Nat) : State :=
  ((((s.incSat (POS_PORT_STAT_MISMATCH p)).posCount POS_STB_INDEX_MISMATCH_COUNT 1).addSat (POS_PORT_STAT_CONSEC p) 1).raise 111)

section
variable {s : State} {p stable : Nat} (h : s.IndexCounts p stable)
include h

/-- The guard of `crossIndex` lets an index that counts pass. -/
theorem State.IndexCounts.notIgnored :
    (!s.flag (POS_PORT_CFG_EN p) || !s.flag (POS_PORT_INDEX_EN p) || s.get (POS_PORT_INDEX_PERIOD p) = 0
      || (2 ≤ p && decide (stable < s.filt p)) || !(s.port p).forward) = false := by
  obtain ⟨he, hi, hper, hz, hf⟩ := h
  have hpassed : (2 ≤ p && decide (stable < s.filt p)) = false := by
    rcases hz with hz | hz
    · simp [Nat.not_le.2 hz]
    · simp [Nat.not_lt.2 hz]
  simp only [he, hi, hper, hpassed, hf, Bool.not_true, decide_false, Bool.or_self]

/-- The first index crossing forward fixes the grid (R246). -/
theorem State.crossIndex_first (hg : (s.port p).grid = none) :
    s.crossIndex p stable = (s.updPort p fun q => { q with grid := some (s.rawCount p) }).putFlag (POS_PORT_STAT_GRID p) true := by
  simp only [State.crossIndex, h.notIgnored, hg, Bool.false_eq_true, if_false]

variable {g : Int} (hg : (s.port p).grid = some g)
include hg

/-- A crossing near a line of the grid ends a row of mismatches (R246). -/
theorem State.crossIndex_match (hd : (s.indexDev p g).natAbs ≤ 2 * (s.showDev p g).perPeriod p) :
    s.crossIndex p stable = (s.showDev p g).put (POS_PORT_STAT_CONSEC p) 0 := by
  simp only [State.crossIndex, h.notIgnored, hg, Bool.false_eq_true, if_false]
  exact if_pos hd

/-- A crossing off the grid is a mismatch, and the third in a row sets SLIP (R246, R252). -/
theorem State.crossIndex_mismatch (hd : 2 * (s.showDev p g).perPeriod p < (s.indexDev p g).natAbs) :
    s.crossIndex p stable =
      let w := (s.showDev p g).countMismatch p
      if w.get (POS_PORT_STAT_CONSEC p) = 3 ∧ ¬ w.flag ⟨POS_FAULT, 12 + p, 1⟩ then w.setFaults [(p, 12 + p)] else w := by
  simp only [State.crossIndex, h.notIgnored, hg, Bool.false_eq_true, if_false]
  exact if_neg (Nat.not_le.2 hd)

end

/-- A crossing is looked at where FIR runs. -/
theorem exec_indexCrossing_runs {s : State} {dt : Nat} (hr : (s.tick dt).posNow.runs 8 = true) (p : Fin 4) (stable : Nat) :
    exec (.indexCrossing p stable dt) s = s.done ((s.tick dt).posNow.crossIndex p.val stable) := congrArg s.done (if_pos hr)

/-- Settles O36: a sample by its radius and by the phase before it, an index crossing by the grid, and each event by its operation. -/
theorem encoderEventsComplete : Obligations.EncoderEventsComplete := by
  refine ⟨?sample, ?levels, ?index, ?window, ?stale⟩
  case sample =>
    intro s p sin cos dt hr he hp
    refine ⟨fun hb => ?bad, fun hb h0 => ?centre, fun hb h0 hn => ?reference, fun old hb h0 ho =>
      ⟨fun hd => ?jump, fun hd => ?move⟩⟩
    case bad => exact exec_sample_taken hr he hp (State.takeSample_bad hb)
    case centre => exact exec_sample_taken hr he hp (State.takeSample_centre hb h0)
    case reference => exact exec_sample_taken hr he hp ((State.takeSample_good hb h0).trans (State.takePhase_reference hn _))
    case jump => exact exec_sample_taken hr he hp ((State.takeSample_good hb h0).trans (State.takePhase_jump ho hd))
    case move => exact exec_sample_taken hr he hp ((State.takeSample_good hb h0).trans (State.takePhase_move ho hd))
  case levels =>
    intro s p a b dt hr he hp
    have htaken := exec_levels_taken hr he hp a b dt
    rwa [State.takeLevels_eq] at htaken
  case index =>
    intro s p n dt u hr he hi hper hz hf
    have hcounts : u.IndexCounts p.val n := ⟨he, hi, hper, hz, hf⟩
    rw [exec_indexCrossing_runs hr]
    exact ⟨fun hg => congrArg s.done (State.crossIndex_first hcounts hg), fun g hg =>
      ⟨fun hd => congrArg s.done (State.crossIndex_match hcounts hg hd),
        fun hd => congrArg s.done (State.crossIndex_mismatch hcounts hg hd)⟩⟩
  case window => exact fun s dt hr => exec_faultWindowEnd_runs hr dt
  case stale => exact fun s dt hr => congrArg s.done (if_pos hr)

/-! ## Position registers -/

section
variable {s : State}

/-- The load of the counter while the line clock stands still sets it and H (R247, R248). -/
theorem State.loadCounter_stopped (hr : s.flag FIR_STAT_RUNNING = false) (x : Int) :
    s.loadCounter x = (s.setPos48 POS_COUNT_LO POS_COUNT_HI x).setPos48 POS_HWM_LO POS_HWM_HI x :=
  if_neg (Bool.eq_false_iff.1 hr)

/-- The load of the counter while the line clock runs is discarded (R247). -/
theorem State.loadCounter_running (hr : s.flag FIR_STAT_RUNNING = true) (x : Int) : s.loadCounter x = s := if_pos hr

/-- Showing VALID and FAULT leaves every register but POS_STAT and those of the ports' states. -/
theorem State.reg_syncValid {a : Nat} (ha : a ≠ POS_STAT) (hp : ∀ p, a ≠ POS_PORT_STAT p) : s.syncValid.reg a = s.reg a := by
  have hvalid : (s.putFlag POS_STAT_VALID s.validNow).reg a = s.reg a := State.reg_putFlag_other _ _ _ ha
  exact List.foldlRecOn (motive := fun (t : State) => t.reg a = s.reg a) _ _ hvalid
    fun t ht p _ => (State.reg_putFlag_other _ _ _ (hp p)).trans ht

theorem posFault_ne_portStat (p : Nat) : POS_FAULT ≠ POS_PORT_STAT p := by
  unfold POS_FAULT POS_PORT_STAT
  omega

/-- A clear of fault bits leaves exactly the bits not written 1 (R252): what else it resets lies outside POS_FAULT. -/
theorem State.reg_clearFaults (v : Word) : (s.clearFaults v).reg POS_FAULT = s.reg POS_FAULT &&& ~~~v := by
  rw [State.clearFaults, State.reg_syncValid (by decide) posFault_ne_portStat]
  refine List.foldlRecOn (motive := fun (t : State) => t.reg POS_FAULT = s.reg POS_FAULT &&& ~~~v) _ _
    (State.reg_setReg_same _ _ _) fun t ht p _ => ?_
  have hconsec (u : State) : (u.put (POS_PORT_STAT_CONSEC p) 0).reg POS_FAULT = u.reg POS_FAULT :=
    State.reg_put_other _ _ _ (posFault_ne_portStat p)
  dsimp only
  split
  · split
    · exact (State.reg_putFlag_other _ _ _ (posFault_ne_portStat p)).trans ((hconsec _).trans ht)
    · exact (hconsec _).trans ht
  · exact ht

/-- RESELECT while a channel prints waits for an idle boundary (R254). -/
theorem State.writeSel_printing {v : Word} (hv : v.getLsbD 12 = true) (ha : s.anyPrinting = true)
    (hf : s.portFault (s.get POS_SEL_PRIMARY) = false) : s.writeSel v = s.putFlag POS_STAT_RESELECT_PENDING true := by
  simp only [State.writeSel, ha, hf, hv, if_true, Bool.not_true, Bool.or_self, Bool.false_eq_true, if_false]

/-- Whether a channel prints does not depend on POS_SEL. -/
theorem State.anyPrinting_setSel (v : Word) : (s.setReg POS_SEL v).anyPrinting = s.anyPrinting := by
  have hmode (c : Nat) : (s.setReg POS_SEL v).chMode c = s.chMode c := by
    rw [State.chMode, State.reg_setReg_other _ _ (by decide), State.chMode]
  simp only [State.anyPrinting, hmode]

/-- RESELECT while no channel prints makes a healthy primary port active in place of the backup (R254). -/
theorem State.writeSel_idle {v : Word} (hv : v.getLsbD 12 = true) (ha : s.anyPrinting = false)
    (hb : s.flag POS_STAT_ON_BACKUP = true) (hf : (s.setReg POS_SEL (v &&& 0x133#32)).portFault
      ((s.setReg POS_SEL (v &&& 0x133#32)).get POS_SEL_PRIMARY) = false) :
    s.writeSel v = (s.setReg POS_SEL (v &&& 0x133#32)).reselect := by
  have hbackup : (s.setReg POS_SEL (v &&& 0x133#32)).flag POS_STAT_ON_BACKUP = true := by
    rw [State.flag, State.get_setReg_other _ _ _ (by decide)]
    exact hb
  simp only [State.writeSel, ha, hbackup, State.anyPrinting_setSel, hf, hv, Bool.not_true, Bool.false_and, Bool.or_self,
    Bool.false_eq_true, if_false]

/-- A write of a unit's CTL with LOAD makes its masks and its shadows active (R256, R258). -/
theorem State.writeCmp_load {n : Nat} {v : Word} (hv : v.getLsbD 30 = true) (ho : s.flag (POS_CMP_STAT_OWNED n) = false) :
    s.writeCmp n v false =
      let u := (s.setReg (POS_CMP_CTL n) (v &&& 0xA0FFFFFF#32)).redrive s.outLevels
      { u with pos := { u.pos with
        target := u.pos.target.set n (u.pos48 (POS_CMP_TGT_LO n) (POS_CMP_TGT_HI n) * 2 ^ 32)
        step := u.pos.step.set n (u.getPair (POS_CMP_STEP_LO n) (POS_CMP_STEP_HI n))
        count := u.pos.count.set n (u.reg (POS_CMP_COUNT n)).toNat } } := by
  simp only [State.writeCmp, ho, hv, Bool.not_true, Bool.false_eq_true, if_false]

end

/-- A command bit outside a register's mask is not kept. -/
theorem or_and_of_outside {b m : Word} (h : b &&& m = 0#32) (v : Word) : (v ||| b) &&& m = v &&& m := by
  rw [BitVec.and_or_distrib_right, h, BitVec.or_zero]

theorem getLsbD_or_reselect (v : Word) : (v ||| 0x1000#32).getLsbD 12 = true := by simp

section
variable {s : State} {by_ : By}

/-- A write of RESELECT that lands. -/
theorem exec_encReselect_lands (hl : s.Lands by_ POS_SEL) (v : Word) :
    exec (.encReselect by_ v) s = s.done (s.writeSel (v ||| 0x1000#32)) := congrArg s.done (State.hostWrite_lands hl _)

/-- A write of LOAD that lands. -/
theorem exec_cmpLoad_lands {n : Fin 16} (hl : s.Lands by_ (POS_CMP_CTL n.val)) (v : Word) (same : Bool) :
    exec (.cmpLoad by_ n v same) s = s.done (s.writeCmp n.val (v ||| 0x40000000#32) same) :=
  congrArg s.done (State.hostWrite_lands hl _)

end

/-- Settles O37: each write lands, and has the effect of its register. -/
theorem positionRegisterCommandsComplete : Obligations.PositionRegisterCommandsComplete := by
  refine ⟨?loaded, ?discarded, ?cleared, ?pending, ?reselected, ?compare⟩
  case loaded =>
    exact fun s by_ x hl hr => congrArg s.done ((State.hostWrite_lands hl _).trans (State.loadCounter_stopped hr _))
  case discarded =>
    exact fun s by_ x hl hr => congrArg s.done ((State.hostWrite_lands hl _).trans (State.loadCounter_running hr _))
  case cleared =>
    exact fun s by_ v hl => completes_of_done (congrArg s.done (State.hostWrite_lands hl _))
      ((State.reg_afterGate s _ (by decide)).trans (State.reg_clearFaults v))
  case pending =>
    intro s by_ hl ha hf v
    rw [exec_encReselect_lands hl, State.writeSel_printing (getLsbD_or_reselect v) ha hf]
  case reselected =>
    intro s by_ v hl ha hb u hf
    have hmask : (v ||| 0x1000#32) &&& 0x133#32 = v &&& 0x133#32 := or_and_of_outside (by decide) v
    rw [exec_encReselect_lands hl, State.writeSel_idle (getLsbD_or_reselect v) ha hb (hmask ▸ hf), hmask]
  case compare =>
    intro s by_ n v hl ho
    have hbit : (v ||| 0x40000000#32).getLsbD 30 = true := by simp
    rw [exec_cmpLoad_lands hl, State.writeCmp_load hbit ho, or_and_of_outside (by decide)]

/-! ## Compare units -/

/-- The first pulse whose delay has passed starts, and shows on the outputs (R257). -/
theorem State.startPulse_due {s : State} {n c i : Nat} {q : Pos} (hc : s.cycle = c) (hq : s.pos = q)
    (hi : ((q.pulses.getD n []).findIdx? fun p => !p.started && decide (p.start ≤ c)) = some i) :
    s.startPulse n = ({ s with pos := { q with
      pulses := q.pulses.set n ((q.pulses.getD n []).set i ⟨c, true⟩) } } : State).emitPulse n true := by
  subst hc hq
  simp only [State.startPulse, hi]

/-- A unit that is due fires where the line clock does not own it (R256). -/
theorem exec_cmpFire_due {s u : State} {n : Fin 16} {dt : Nat} (hu : u = (s.tick dt).posNow) (hr : u.runs 8 = true)
    (hd : u.cmpDue n.val = true) (ho : u.flag (POS_CMP_STAT_OWNED n.val) = false) :
    exec (.cmpFire n dt) s = s.done (u.fireUnit n.val) := by
  subst hu
  change execCmpFire n dt s = _
  simp only [execCmpFire, hr, hd, ho, Bool.not_false, Bool.and_self, if_true]

/-- Settles O38: a fire by its guard, and the pulse that starts by its delay. -/
theorem compareUnitEventsComplete : Obligations.CompareUnitEventsComplete := by
  refine ⟨?fire, ?pulse⟩
  case fire => exact fun s n dt hr hd ho => exec_cmpFire_due rfl hr hd ho
  case pulse =>
    exact fun s n dt i hr hi => (exec_cmpPulse_runs hr n dt).trans
      (congrArg s.done (State.startPulse_due (s.cycle_tick dt) (s.pos_tick dt) hi))

end Sys2Proof.Machine
end

section
/-! The statements on the carrier lanes (R264 to R267, R272 to R276, R279 to R283, R291, R292, R294): the events of training, of
loss, drift and retraining, and of the lane tests. -/

namespace Sys2Proof.Machine

open Sys2Proof

/-! ## Lane records -/

@[simp] theorem State.lane_tick (s : State) (k l : Nat) : (s.tick k).lane l = s.lane l := by simp [State.lane]

@[simp] theorem State.flag_updLane (s : State) (l : Nat) (f : Lane → Lane) (g : Fld) : (s.updLane l f).flag g = s.flag g := rfl

/-- A lane that exists reads what its record was changed to. -/
theorem State.lane_updLane_same {s : State} {l : Nat} (hl : l < s.jgl.lanes.length) (f : Lane → Lane) :
    (s.updLane l f).lane l = f (s.lane l) := by
  simp [State.lane, State.updLane, List.getD_eq_getElem?_getD, hl]

/-- A lane that has counted valid headers has a record: beyond the records a lane reads as after reset. -/
theorem State.lt_length_of_valid {s : State} {l : Nat} (hv : (s.lane l).valid ≠ 0) : l < s.jgl.lanes.length := by
  by_contra hl
  exact hv (congrArg Lane.valid (List.getD_eq_default _ _ (Nat.not_lt.1 hl)))

/-! ## Headers and blocks (R264, R265) -/

section
variable {s : State} {l : Nat}

/-- 64 good headers in a row show block lock (R265). -/
theorem State.judgeHeaders_locks (hb : s.flag (JGL_L_STAT_BLOCK_LOCK l) = false) (hv : 64 ≤ (s.lane l).valid) :
    (s.judgeHeaders l).flag (JGL_L_STAT_BLOCK_LOCK l) = true := by
  simp only [State.judgeHeaders, hb, hv, Bool.not_false, if_true, State.flag_updLane]
  exact State.flag_putFlag_same _ _ true rfl (show (28 : Nat) < 32 by decide)

/-- The 64th good header in a row shows block lock (R265). -/
theorem State.headerSeen_locks (hd : s.laneDark l = false) (hv : (s.lane l).valid = 63)
    (hb : s.flag (JGL_L_STAT_BLOCK_LOCK l) = false) : (s.headerSeen l true).flag (JGL_L_STAT_BLOCK_LOCK l) = true := by
  have hl : l < s.jgl.lanes.length := State.lt_length_of_valid (by omega)
  rw [State.headerSeen, if_neg (Bool.eq_false_iff.1 hd)]
  refine State.judgeHeaders_locks hb ?_
  simp only [if_true, State.lane_updLane_same hl, hv, Nat.reduceAdd, le_refl]

/-- On a lane with block lock a control block of a defined type brings its type (R264). -/
theorem State.blockIn_known {v : BitVec 64} {kind : Nat} (hk : v.toNat % 256 = kind) (hm : blockTypes.contains kind = true)
    (hb : (s.headerSeen l true).flag (JGL_L_STAT_BLOCK_LOCK l) = true) : s.blockIn l 2 v = (some kind, s.headerSeen l true) := by
  subst hk
  simp only [State.blockIn, hm, hb, decide_true, Bool.and_self, Bool.or_true, if_true]

end

/-! ## Training (R272 to R276) -/

section
variable {s : State} {l v : Nat}

/-- A TRAIN block that reaches a lane in DETECT or TAP_TRAIN (R273 to R275): one that names the lane takes it to TAP_TRAIN or works
its taps, and one that names another fails it as WIRING. -/
theorem State.trainBlock_eq (hst : s.laneState l = 1 ∨ s.laneState l = 2) (near : Bool) (wishes : List (Fin 3)) :
    s.trainBlock l v near wishes =
      if v / 2 ^ 36 % 16 ≠ l / 2 ∨ v / 2 ^ 35 % 2 ≠ l % 2 then
        ((s.putFlag (JGL_C_STAT_WIRING (l / 2)) true).trainFails l 5).raise (128 + l / 2)
      else if s.laneState l = 1 then (s.laneEnter l 2).putFlag (JGL_L_STAT_ADAPT_ON l) true
      else (s.drain (l / 2)).tapTrain l v near wishes := by
  have htrains : (decide (s.laneState l = 1) || decide (s.laneState l = 2)) = true := by
    rwa [Bool.or_eq_true, decide_eq_true_iff, decide_eq_true_iff]
  simp only [State.trainBlock, htrains, Bool.not_true, Bool.false_eq_true, if_false, Bool.or_eq_true, decide_eq_true_iff]

/-- A lane in ALIGN with an ECHO reply to the request `tag`, sent in cycle `at_` (R276): its round trip is summed, and the requests
before it go out again. -/
def State.echoTaken (s : State) (l v tag at_ : Nat) : State :=
  s.updLane l fun x => { x with
    echoSum := x.echoSum + ((s.cycle : Int) - at_ - (v / 2 ^ 32 % 2 ^ 32 : Nat))
    echoes := x.echoes + 1
    requests := (x.requests.dropWhile fun r => r.1 ≠ tag).drop 1
    body := x.body ++ (x.requests.takeWhile fun r => r.1 ≠ tag).map fun r => echoBlock r.1 }

/-- An ECHO reply to a request still out counts, and the 64th aligns the lane (R276). -/
theorem State.echo_requested (hst : (s.drain (l / 2)).laneState l = 4) (hr : v / 2 ^ 8 % 256 = 1) {q : Nat × Nat}
    (hq : (((s.drain (l / 2)).lane l).requests.find? fun r => r.1 = v / 2 ^ 16 % 2 ^ 16) = some q) :
    s.echo l v =
      let w := (s.drain (l / 2)).echoTaken l v (v / 2 ^ 16 % 2 ^ 16) q.2
      if (w.lane l).echoes < 64 then w else w.laneAligned l (roundDiv (w.lane l).echoSum 128).toNat := by
  simp only [State.echo, hst, hr, hq, ne_eq, not_true_eq_false, decide_false, Bool.or_self, Bool.false_eq_true, if_false]
  rfl

end

section
variable {s : State} (hr : s.runs 9 = true) (l : Fin 32) (dt : Nat)
include hr

/-- Where JGL runs, a lane's receiver takes the headers that reach it. -/
theorem exec_blockLockGained_runs (h : List (BitVec 2)) :
    exec (.blockLockGained l h dt) s =
      s.done (h.foldl (fun t v => t.headerSeen l.val (v = 1 || v = 2)) ((s.tick dt).limitNow l.val)) :=
  congrArg s.done (if_pos ((s.runs_tick dt 9).trans hr))

/-- Where JGL runs and the lane has block lock, a TRAIN block is worked. -/
theorem exec_trainBlock_locked {v : BitVec 64} (hk : v.toNat % 256 = 0x66)
    (hb : (((s.tick dt).limitNow l.val).headerSeen l.val true).flag (JGL_L_STAT_BLOCK_LOCK l.val) = true)
    (near : Bool) (wishes : List (Fin 3)) :
    exec (.trainBlock l 2 v near wishes dt) s =
      s.done ((((s.tick dt).limitNow l.val).headerSeen l.val true).trainBlock l.val v.toNat near wishes) := by
  change execTrainBlock l 2 v near wishes dt s = _
  simp only [execTrainBlock, State.runs_tick, hr, State.blockIn_known hk (by decide) hb, Bool.not_true, Bool.false_eq_true,
    if_false, if_true]

/-- Where JGL runs and the lane has block lock, an ECHO block is worked. -/
theorem exec_echoReply_locked {v : BitVec 64} (hk : v.toNat % 256 = 0x78)
    (hb : (((s.tick dt).limitNow l.val).headerSeen l.val true).flag (JGL_L_STAT_BLOCK_LOCK l.val) = true) :
    exec (.echoReply l 2 v dt) s = s.done ((((s.tick dt).limitNow l.val).headerSeen l.val true).echo l.val v.toNat) := by
  change execEchoReply l 2 v dt s = _
  simp only [execEchoReply, State.runs_tick, hr, State.blockIn_known hk (by decide) hb, Bool.not_true, Bool.false_eq_true,
    if_false, if_true]

/-- A lane still in VERIFY at the end of its clean time goes by the far end's verdict (R272, R276). -/
theorem exec_laneVerifyPass_verify {u : State} (hst : (s.tick dt).laneState l.val = 3)
    (hu : u = ((s.tick dt).tickTo (((s.tick dt).lane l.val).cleanAt + 8589935)).limitNow l.val) (hv : u.laneState l.val = 3)
    (far : Bool) : exec (.laneVerifyPass l far dt) s = s.done (if far then u.beginAlign l.val else u) := by
  subst hu
  change execLaneVerifyPass l far dt s = _
  simp only [execLaneVerifyPass, State.runs_tick, hr, hst, hv, ne_eq, not_true_eq_false, decide_false, decide_true, Bool.not_true,
    Bool.or_self, Bool.and_true, Bool.false_eq_true, if_false]

/-- A state that lasts too long fails a lane that trains, with that state as its cause (R272). -/
theorem exec_laneTrainTimeout_training (ht : (s.tick dt).training l.val = true) :
    exec (.laneTrainTimeout l dt) s =
      s.done (((s.tick dt).tickTo (((s.tick dt).lane l.val).entered + trainLimit ((s.tick dt).laneState l.val))).trainFails l.val
        ((s.tick dt).laneState l.val)) :=
  congrArg s.done (if_pos (Bool.and_eq_true_iff.2 ⟨(s.runs_tick dt 9).trans hr, ht⟩))

end

theorem laneStat_ne_safStat (l : Nat) : JGL_L_STAT l ≠ SAF_STAT := by
  unfold JGL_L_STAT SAF_STAT
  omega

/-- Either kind of valid sync header is a good one. -/
theorem good_of_sync {h : BitVec 2} (hh : h = 1 ∨ h = 2) : (decide (h = 1) || decide (h = 2)) = true := by
  rcases hh with rfl | rfl <;> rfl

/-- Settles O39: headers one by one, a block by its type where the lane has block lock, and each training state by what ends it. -/
theorem laneTrainingEventsComplete : Obligations.LaneTrainingEventsComplete := by
  refine ⟨?headers, ?locks, ?train, ?verify, ?echo, ?timeout⟩
  case headers => exact fun s l h dt hr => exec_blockLockGained_runs hr l dt h
  case locks =>
    intro s l h dt hr hh u hd hv hb _
    have hlocks : (u.headerSeen l.val true).flag (JGL_L_STAT_BLOCK_LOCK l.val) = true := State.headerSeen_locks hd hv hb
    refine completes_of_done (exec_blockLockGained_runs hr l dt [h]) ?_
    rw [List.foldl_cons, List.foldl_nil, good_of_sync hh]
    exact (State.flag_gateOutputs _ (JGL_L_STAT_BLOCK_LOCK l.val) (laneStat_ne_safStat l.val)).trans hlocks
  case train =>
    intro s l v near wishes dt hr hk u c o hb
    rw [exec_trainBlock_locked hr l dt hk hb]
    refine ⟨fun hst hc ho => congrArg s.done ?detect, fun hst hc ho => congrArg s.done ?taps,
      fun hst hw => congrArg s.done ?wiring⟩
    case detect =>
      exact (State.trainBlock_eq (.inl hst) near wishes).trans
        ((if_neg (not_or.2 ⟨not_not.2 hc, not_not.2 ho⟩)).trans (if_pos hst))
    case taps =>
      exact (State.trainBlock_eq (.inr hst) near wishes).trans
        ((if_neg (not_or.2 ⟨not_not.2 hc, not_not.2 ho⟩)).trans (if_neg (by omega)))
    case wiring => exact (State.trainBlock_eq hst near wishes).trans (if_pos hw)
  case verify =>
    intro s l dt hr hst u hv
    exact ⟨exec_laneVerifyPass_verify hr l dt hst rfl hv true, exec_laneVerifyPass_verify hr l dt hst rfl hv false⟩
  case echo =>
    intro s l v dt hr hk hreply u tag hb hst q hq w
    rw [exec_echoReply_locked hr l dt hk hb]
    exact congrArg s.done (State.echo_requested hst hreply hq)
  case timeout => exact fun s l dt hr ht => exec_laneTrainTimeout_training hr l dt ht

/-! ## Loss, drift and retraining (R265 to R267, R279 to R283) -/

section
variable {s : State} {l : Nat}

/-- An elastic buffer that neither overflows nor runs empty only moves (R267). -/
theorem State.moveBuffer_kept {k : Int} (hlo : -32 < (s.lane l).level + k) (hhi : (s.lane l).level + k ≤ 32) :
    s.moveBuffer l k = s.updLane l fun x => { x with level := (s.lane l).level + k } :=
  if_pos (Bool.and_eq_true_iff.2 ⟨decide_eq_true hlo, decide_eq_true hhi⟩)

/-- An elastic buffer that overflows or runs empty counts an error and loses the lane (R267, R279). -/
theorem State.moveBuffer_lost {k : Int} (hk : (s.lane l).level + k ≤ -32 ∨ 32 < (s.lane l).level + k) :
    s.moveBuffer l k = ((s.updLane l fun x => { x with level := 0 }).incSat (JGL_L_ERR_ELASTIC l)).laneLost l 11 := by
  refine if_neg fun hin => ?_
  obtain ⟨hlo, hhi⟩ := Bool.and_eq_true_iff.1 hin
  have hlo := of_decide_eq_true hlo
  have hhi := of_decide_eq_true hhi
  omega

/-- A lane after the start of its drift check (R283): whether its receiver adapts depends on its state and on the transitions
seen. -/
def State.driftChecked (s : State) (l transitions : Nat) : State :=
  (s.updLane l fun x => { x with checkedAt := s.cycle }).putFlag (JGL_L_STAT_ADAPT_ON l)
    (2 ≤ s.laneState l && s.laneState l ≤ 5 && 1024 * s.get JGL_ADAPT_TD_MIN ≤ transitions)

/-- The largest drift of a lane kept in its register (R283). -/
def State.driftSeen (s : State) (l steps : Nat) : State :=
  s.put (JGL_L_RXEQ_DRIFT_MAX_SEEN l) (max steps (s.get (JGL_L_RXEQ_DRIFT_MAX_SEEN l)))

/-- An ACTIVE lane is FROZEN for its drift (R283), with vector 128 + n and a retrain wanted. -/
def State.driftFrozen (s : State) (l : Nat) : State :=
  (((((s.laneEnter l 6).putFlag (JGL_L_STAT_ADAPT_ON l) false).putFlag (JGL_L_STAT_DRIFT l) true).putFlag
    (JGL_C_STAT_DRIFT (l / 2)) true).updLane l fun x => { x with wanted := true }).raise (128 + l / 2)

/-- The check of a lane's drift (R283): only that of an ACTIVE lane is recorded, and beyond the limit it freezes the lane. -/
theorem State.drift_eq (steps transitions : Nat) :
    s.drift l steps transitions =
      let u := s.driftChecked l transitions
      let v := u.driftSeen l steps
      if u.laneState l ≠ 5 then u
      else if steps ≤ v.get JGL_ADAPT_DRIFT_MAX || v.flag (JGL_L_CTL_FREEZE_DIS l) then v
      else v.driftFrozen l := rfl

/-- A retrain that is due starts, 1 s after the latest attempt at the earliest (R282). -/
theorem State.autoRetrain_due
    (hd : (s.lane l).due = true ∨ ((s.lane l).wanted = true ∧ s.flag JGL_CTL_AUTO_RETRAIN = true ∧ s.printing (l / 4) = false
      ∧ (s.laneState l = 6 ∨ s.laneState l = 7)))
    (ht : (s.lane l).test = false) (hc : s.trainable l = true) (hm : s.mayRetrain l = true) :
    s.autoRetrain l = (((s.lane l).tried.map fun t => s.tickTo (t + 800000000)).getD s).retrain l := by
  have hmay : ((s.lane l).due || ((s.lane l).wanted && s.flag JGL_CTL_AUTO_RETRAIN && !s.printing (l / 4)
      && (decide (s.laneState l = 6) || decide (s.laneState l = 7)))) = true := by
    simpa only [Bool.or_eq_true, Bool.and_eq_true, Bool.not_eq_true', decide_eq_true_iff, and_assoc] using hd
  simp only [State.autoRetrain, hmay, ht, hc, hm, Bool.not_false, Bool.and_self, if_true]

end

/-! ## Lane tests (R291, R292, R294) -/

section
variable {s : State} {l : Nat}

/-- A checker that has received 64 bits of its pattern locks and restarts its counts (R291). -/
theorem State.checkerLock_follows (ht : (s.lane l).test = true) (hc : s.flag (JGL_L_PRBS_CHK l) = true)
    (hp : s.get (JGL_L_PRBS_PATTERN l) ≠ 0) (hk : s.flag (JGL_L_PRBS_LOCK l) = false) {b : List Bool}
    (hb : followsPattern (s.get (JGL_L_PRBS_PATTERN l)) b = true) :
    s.checkerLock l b = (((s.putFlag (JGL_L_PRBS_LOCK l) true).setReg (JGL_L_PRBS_ERR l) 0).setReg (JGL_L_PRBS_BITS l) 0).updLane l
      fun x => { x with lockAt := s.cycle, errAt := [] } := by
  simp only [State.checkerLock, ht, hc, hp, hk, hb, ne_eq, not_false_eq_true, decide_true, Bool.not_false, Bool.and_self, if_true]

/-- A bit error at a locked checker counts, and 1,024 within 4,096 bits drop the lock with vector 146 (R291). -/
theorem State.bitError_locked (hk : s.flag (JGL_L_PRBS_LOCK l) = true) (e : Nat) :
    s.bitError l e =
      let u := (s.incSat (JGL_L_PRBS_ERR_ERRORS l)).updLane l fun x =>
        { x with errAt := (e :: x.errAt).filter fun k => e < k + 4096 }
      if 1024 ≤ (u.lane l).errAt.length then (u.dropChecker l).raise 146 else u := by
  simp only [State.bitError, hk, Bool.not_true, Bool.false_eq_true, if_false]

/-- A write of a lane's PRBS settings in Service takes them (R292, R294). -/
theorem State.writePrbs_service (hm : s.modeCode = 10) (v : Word) :
    s.writePrbs l v =
      let d := s.drain (l / 2)
      let old := d.reg (JGL_L_PRBS l)
      let u := if bits old 0 4 = bits v 0 4 then d else d.dropChecker l
      (u.setReg (JGL_L_PRBS l) ((v &&& 0x40FF000F) ||| (u.reg (JGL_L_PRBS l) &&& 0x10))).updLane l fun x =>
        { x with flip := x.flip || v.getLsbD 31
                 generator := if v.getLsbD 2 && bits old 0 3 ≠ bits v 0 3 then 0x7FFFFFFF else x.generator } :=
  if_neg (not_not.2 hm)

/-- Outside Service a write of a lane's PRBS settings is discarded (R294). -/
theorem State.writePrbs_otherMode (hm : s.modeCode ≠ 10) (v : Word) : s.writePrbs l v = s := if_pos hm

end

/-! ## The commands of loss, drift, retraining and lane tests -/

section
variable {s : State} (hr : s.runs 9 = true) (l : Fin 32) (dt : Nat)
include hr

/-- Where JGL runs, what a receiver finds counts (R279). -/
theorem exec_laneLost_runs (news : LaneNews) : exec (.laneLost l news dt) s = s.done ((s.tick dt).laneNews l.val news) :=
  congrArg s.done (if_pos ((s.runs_tick dt 9).trans hr))

/-- Where JGL runs, the check of a lane's drift stands 1 ms after the one before (R283). -/
theorem exec_driftCheck_runs (steps : BitVec 8) (transitions : BitVec 17) :
    exec (.driftCheck l steps transitions dt) s =
      s.done (((s.tick dt).tickTo (((s.tick dt).lane l.val).checkedAt + 800000)).drift l.val steps.toNat transitions.toNat) :=
  congrArg s.done (if_pos ((s.runs_tick dt 9).trans hr))

/-- Where JGL runs, a retrain starts if it is due (R282). -/
theorem exec_retrainStart_runs : exec (.retrainStart l dt) s = s.done ((s.tick dt).autoRetrain l.val) :=
  congrArg s.done (if_pos ((s.runs_tick dt 9).trans hr))

/-- Where JGL runs, a checker takes the bits it receives (R291). -/
theorem exec_prbsCheckerLock_runs (b : List Bool) :
    exec (.prbsCheckerLock l b dt) s = s.done ((s.tick dt).checkerLock l.val b) :=
  congrArg s.done (if_pos ((s.runs_tick dt 9).trans hr))

/-- Where JGL runs, bit errors count one by one (R291). -/
theorem exec_prbsLockLoss_runs (errors : List Nat) :
    exec (.prbsLockLoss l errors dt) s = s.done (errors.foldl (fun t e => t.bitError l.val e) (s.tick dt)) :=
  congrArg s.done (if_pos ((s.runs_tick dt 9).trans hr))

end

/-- Settles O41: what a receiver finds by its kind, drift by the lane's state and the limit, and each of the rest by its guard. -/
theorem laneLossAndTestEventsComplete : Obligations.LaneLossAndTestEventsComplete := by
  refine ⟨⟨?found, ?drift, ?retrain, ?asked⟩, ?locks, ?errors, ?error, ?service, ?discarded⟩
  case found =>
    intro s l dt hr u
    simp only [exec_laneLost_runs hr]
    exact ⟨fun h => rfl, fun k hlo hhi => congrArg s.done (State.moveBuffer_kept hlo hhi),
      fun k hk => congrArg s.done (State.moveBuffer_lost hk), rfl, fun g => rfl⟩
  case drift =>
    intro s l steps tr dt hr w u v
    rw [exec_driftCheck_runs hr, State.drift_eq]
    refine ⟨fun hst => congrArg s.done ?other, fun hst hin => congrArg s.done ?recorded,
      fun hst hout hf => congrArg s.done ?frozen⟩
    case other => exact if_pos hst
    case recorded =>
      exact (if_neg (not_not.2 hst)).trans (if_pos (Bool.or_eq_true_iff.2 (hin.imp_left decide_eq_true)))
    case frozen =>
      have hbeyond : ¬ (steps.toNat ≤ v.get JGL_ADAPT_DRIFT_MAX || v.flag (JGL_L_CTL_FREEZE_DIS l.val)) = true := by
        rw [hf, decide_eq_false (Nat.not_le.2 hout)]
        exact Bool.false_ne_true
      exact (if_neg (not_not.2 hst)).trans (if_neg hbeyond)
  case retrain =>
    intro s l dt hr u x hd ht hc hm
    rw [exec_retrainStart_runs hr, State.autoRetrain_due hd ht hc hm]
  case asked => exact fun s by_ l v hl hv => congrArg s.done ((State.hostWrite_lands hl _).trans (if_pos hv))
  case locks =>
    intro s l b dt hr ht hc hp hk hb
    rw [exec_prbsCheckerLock_runs hr, State.checkerLock_follows (by rwa [State.lane_tick]) ((s.flag_tick dt _).trans hc)
      (by rwa [State.get_tick]) ((s.flag_tick dt _).trans hk) (by rwa [State.get_tick]), State.cycle_tick]
  case errors => exact fun s l es dt hr => exec_prbsLockLoss_runs hr l dt es
  case error =>
    exact fun s l e dt hr hk => (exec_prbsLockLoss_runs hr l dt [e]).trans
      (congrArg s.done (State.bitError_locked ((s.flag_tick dt _).trans hk) e))
  case service =>
    exact fun s by_ l v hl hm => congrArg s.done ((State.hostWrite_lands hl _).trans (State.writePrbs_service hm v))
  case discarded =>
    exact fun s by_ l v hl hm => congrArg s.done ((State.hostWrite_lands hl _).trans (State.writePrbs_otherMode hm v))

end Sys2Proof.Machine
end

section
/-! The statements on the packets of camera frames (R295, R297, R302, R311, R312, R320), and on the settings pipeline and the sensor
buses (R298 to R300, R306 to R309). -/

namespace Sys2Proof.Machine

open Sys2Proof

/-! ## Headers and the frames of a sensor -/

section
variable {s : State} {p vc n : Nat}

@[simp] theorem State.camPortOn_tick (s : State) (k p : Nat) : (s.tick k).camPortOn p = s.camPortOn p := s.flag_tick k _

/-- A header that fails its check discards its packet; one corrected is counted (R297). -/
theorem State.withHeader_eq (s : State) (p : Nat) (ecc : EccResult) (f : State → State) :
    s.withHeader p ecc f =
      if ecc = .failed then s.eccFailed p else f (if ecc = .corrected then s.incSat ⟨CAM_PORT_ERR p, 24, 8⟩ else s) := by
  cases ecc <;> rfl

/-- An FS on a virtual channel without a sensor is UNEXPECTED (R302). -/
theorem State.frameStart_noSensor (hs : s.snsAt p vc = none) :
    s.frameStart p vc = (s.incSat ⟨CAM_PORT_ERR p, 0, 8⟩).raise 169 := by
  simp only [State.frameStart, hs]

/-- An FS ends a frame still received; then a free-running sensor begins its next frame, and any other the oldest one that waits,
without which the FS is UNEXPECTED (R302). -/
theorem State.frameStart_sensor (hs : s.snsAt p vc = some n) :
    s.frameStart p vc =
      let v := (s.receiving n).elim s fun f => s.endFrame n f true
      let w := v.newFrame n
      if 16 ≤ v.get (CAM_SNS_CFG_TRIG n) then
        (w.sensor n).frames.getLast?.elim w fun f => (w.frameBoundary n f).startFrame n f.number
      else ((v.sensor n).frames.find? fun (f : Frame) => !f.started).elim ((v.incSat ⟨CAM_PORT_ERR p, 0, 8⟩).raise 169) fun f =>
        v.startFrame n f.number := by
  simp only [State.frameStart, hs]
  cases s.receiving n
  all_goals
    refine if_congr Iff.rfl ?freeRunning ?triggered
    case freeRunning => split <;> simp only [*, Option.elim_none, Option.elim_some]
    case triggered => split <;> simp only [*, Option.elim_none, Option.elim_some]

end

/-! ## The commands of frame packets -/

section
variable {s u : State} {p : Fin 4} {n : Fin 16} {dt : Nat}

/-- An FS reaches a port that receives (R295, R297). -/
theorem exec_frameStart_received (hu : u = (s.tick dt).posNow) (hr : u.runs 10 = true) (hp : u.camPortOn p.val = true)
    (vc : Fin 16) (ecc : EccResult) :
    exec (.frameStart p vc ecc dt) s = s.done (u.withHeader p.val ecc fun t => t.frameStart p.val vc.val) := by
  subst hu
  exact congrArg s.done (if_pos (Bool.and_eq_true_iff.2 ⟨hr, hp⟩))

/-- A line reaches a port that receives after the lines the pipeline takes (R312). -/
theorem exec_frameLine_received {k : Nat} (hr : s.runs 10 = true) (hu : u = State.takeLines k (s.tick dt))
    (hp : u.camPortOn p.val = true) (vc : Fin 16) (ty : BitVec 6) (px : List (BitVec 12)) (ecc : EccResult) (ok : Bool) :
    exec (.frameLine p vc ty px ecc ok k dt) s =
      s.done (u.withHeader p.val ecc fun t => t.linePacket p.val vc.val ty px ok) := by
  subst hu
  exact congrArg s.done ((if_pos ((s.runs_tick dt 10).trans hr)).trans (if_pos hp))

/-- An FE whose header fails its check is discarded (R297). -/
theorem exec_frameEnd_failed (hr : s.runs 10 = true) (hp : s.camPortOn p.val = true) (vc : Fin 16) :
    exec (.frameEnd p vc .failed dt) s = s.done ((s.tick dt).eccFailed p.val) := by
  change execFrameEnd p vc .failed dt s = _
  simp only [execFrameEnd, State.runs_tick, hr, State.camPortOn_tick, hp, Bool.and_self, Bool.not_true, Bool.false_eq_true, if_false,
    State.withHeader_eq, if_true]

/-- An FE closes the frame that its sensor receives (R302). -/
theorem exec_frameEnd_receiving {ecc : EccResult} {vc : Fin 16} {k : Nat} {f : Frame} (hr : s.runs 10 = true)
    (hp : s.camPortOn p.val = true) (he : ecc ≠ .failed)
    (hu : u = if ecc = .corrected then (s.tick dt).incSat ⟨CAM_PORT_ERR p.val, 24, 8⟩ else s.tick dt)
    (hs : u.snsAt p.val vc.val = some k) (hf : u.receiving k = some f) :
    exec (.frameEnd p vc ecc dt) s = s.done (u.endFrame k f true) := by
  change execFrameEnd p vc ecc dt s = _
  simp only [execFrameEnd, State.runs_tick, hr, State.camPortOn_tick, hp, Bool.and_self, Bool.not_true, Bool.false_eq_true, if_false,
    State.withHeader_eq, if_neg he, ← hu, hs, hf]

/-- The oldest held frame whose FS does not come in time is LOST (R302). -/
theorem exec_fsTimeout_held {f : Frame} (hr : s.runs 10 = true)
    (hf : ((s.sensor n.val).frames.find? fun (f : Frame) => !f.started) = some f) (hb : f.bounded = true) :
    exec (.fsTimeout n dt) s =
      s.done (((s.tick dt).tickTo (f.at_ + 800 * max 1 (s.get (CAM_SNS_TIMING2_FS_TIMEOUT n.val)))).loseFrame n.val f) := by
  change execFsTimeout n dt s = _
  simp only [execFsTimeout, State.sensor_tick, hf, State.runs_tick, hr, hb, State.get_tick, Bool.and_self, if_true]

/-- A frame that has left the pipeline reaches its streams, the analysers and its record (R317 to R320). -/
theorem exec_frameRecord_ended {f g : Frame} (hr : s.runs 10 = true)
    (hf : ((s.sensor n.val).frames.find? fun (f : Frame) => f.admitted && f.ended) = some f)
    (hu : u = (List.range (f.got - f.entered)).foldl (fun t _ => t.enterLine n.val f.number) s)
    (hg : ((u.sensor n.val).frames.find? fun (g : Frame) => g.number = f.number) = some g) (e : Bool) :
    exec (.frameRecord n e) s = s.done (((u.streamEnds n.val g).feedFrame n.val g).writeRecord n.val g false false e) := by
  change execFrameRecord n e s = _
  simp only [execFrameRecord, hf, hr, if_true, ← hu, hg, Option.getD_some]

end

/-- Settles O43: a packet by its header's check, an FS by its sensor and the frame that waits, and each of the rest by its guard. -/
theorem framePacketsComplete : Obligations.FramePacketsComplete := by
  refine ⟨?start, ?line, ?fe, ?timeout, ?record⟩
  case start =>
    intro s p vc ecc dt u t hr hp
    rw [exec_frameStart_received (u := u) rfl hr hp, State.withHeader_eq]
    refine ⟨fun he => congrArg s.done (if_pos he), fun he hs => ?noSensor, fun n he hs => ?sensor⟩
    case noSensor => rw [if_neg he, State.frameStart_noSensor hs]
    case sensor =>
      rw [if_neg he, State.frameStart_sensor hs]
      refine ⟨fun ht hf => congrArg s.done ?unexpected, fun f ht hf => congrArg s.done ?held,
        fun f ht hf => congrArg s.done ?freeRunning⟩
      case unexpected => exact (if_neg (Nat.not_le.2 ht)).trans (by rw [hf]; rfl)
      case held => exact (if_neg (Nat.not_le.2 ht)).trans (by rw [hf]; rfl)
      case freeRunning => exact (if_pos ht).trans (by rw [hf]; rfl)
  case line =>
    intro s p vc ty px ecc ok k dt u t hr hp
    rw [exec_frameLine_received hr rfl hp, State.withHeader_eq]
  case fe =>
    intro s p vc ecc dt n f u t hr hp
    exact ⟨fun he => he ▸ exec_frameEnd_failed hr hp vc, fun he hs hf => exec_frameEnd_receiving hr hp he rfl hs hf⟩
  case timeout => exact fun s n f dt hr hf hb => exec_fsTimeout_held hr hf hb
  case record =>
    intro s n f g e hr hf u hg
    exact exec_frameRecord_ended hr hf rfl hg e

/-! ## The settings pipeline and the sensor buses -/

section
variable {s : State} {n : Nat} {r : SetReq} {l : List SetReq}

/-- The writes of a request begin on a free bus once its boundary has passed (R306). -/
theorem State.sendReq_due (hq : (s.sensor n).reqs = r :: l) (hs : r.sending = false)
    (hb : (r.e : Int) - s.setLat n - 1 ≤ s.latestFrame n) (hw : s.settingsBusy (s.get (CAM_SNS_BUS_BUSPORT n)) = false)
    (ha : s.accessOn (s.get (CAM_SNS_BUS_BUSPORT n)) = false) :
    s.sendReq n = (s.updReq n fun r => { r with sending := true }).sendWrite n := by
  simp only [State.sendReq, hq, List.head?_cons, hs, hb, hw, ha, decide_true, Bool.not_true, Bool.or_self, Bool.false_eq_true, if_false]

/-- The last write of a request fixes its E, and stages its values (R306). -/
theorem State.writesDone_last (hq : (s.sensor n).reqs = r :: l) (hs : r.sending = true) (hd : r.sent = false) (hw : r.writes = []) :
    s.writesDone n =
      let e := max r.e (s.comingFrame n + s.setLat n)
      let u := (s.updReq n fun r => { r with sent := true, e := e }).updSensor n fun x => { x with eLast := e }
      (if (e : Int) = r.f then u else u.raiseWith 162 (some n) (some (e % 2 ^ 32)) 0).stageReq n r := by
  simp only [State.writesDone, hq, List.head?_cons, hs, hd, hw, List.isEmpty_nil, Bool.not_true, Bool.or_self, Bool.false_eq_true,
    if_false]

/-- The values of a request are committed once the boundary before its E has passed (R306 to R308). -/
theorem State.commitReq_due (hq : (s.sensor n).reqs = r :: l) (hd : r.sent = true) (hb : (r.e : Int) - 1 ≤ s.latestFrame n) :
    s.commitReq n = ((s.updSensor n fun x => { x with unknown := none }).commitNow .cam n).endReq n := by
  simp only [State.commitReq, hq, List.head?_cons, hd, hb, decide_true, Bool.not_true, Bool.or_self, Bool.false_eq_true, if_false]

/-- An access is taken, or marked ERR while one is in progress (R300). -/
theorem State.busCommand_go {v : Word} (hv : bits v 31 1 = 1) :
    s.busCommand v =
      let a : BusAccess := ⟨bits v 24 4, bits v 30 1 = 1, [1, 2, 4, 4].getD (bits v 28 2) 4, bits v 0 16, 0, false⟩
      if s.flag CAM_BUS_STAT_BUSY then s.putFlag CAM_BUS_STAT_ERR true
      else (({ s with cam := { s.cam with access := some a } } : State).putFlag CAM_BUS_STAT_BUSY true).startAccess :=
  if_neg (by rw [hv]; exact one_ne_zero)

/-- A write of a request that the bus takes gives way to the next one; after three NACKs the request is over with a bus error (R309). -/
theorem State.settingsWrite_sending {w : Nat × Nat × Nat} {ws : List (Nat × Nat × Nat)} (hq : (s.sensor n).reqs = r :: l)
    (hs : r.sending = true) (hw : r.writes = w :: ws) (nacks : Nat) :
    s.settingsWrite n nacks =
      let u := s.retry nacks (writeOut n w)
      let from_ := u.comingFrame n + u.setLat n
      if nacks < 3 then ((u.updReq n fun r => { r with writes := ws }).sendWrite n).startAccess
      else (((u.updSensor n fun x =>
        { x with unknown := some ((x.unknown.map fun k => min k from_).getD from_) }).busError).endReq n).startAccess := by
  simp only [State.settingsWrite, hq, List.head?_cons, hw, hs, Bool.not_true, Bool.false_eq_true, if_false]

/-- The access of CAM_BUS_CMD ends with its data, or after three NACKs as a bus error (R298, R300). -/
theorem State.accessEnds_started {a : BusAccess} (ha : s.cam.access = some a) (hn : a.sensor = n) (hs : a.started = true)
    (nacks : Nat) (v : Word) :
    s.accessEnds n nacks v =
      let u := (({ s with cam := { s.cam with access := none } } : State).putFlag CAM_BUS_STAT_BUSY false).retry nacks a.out
      if 3 ≤ nacks then (u.putFlag CAM_BUS_STAT_ERR true).busError
      else if a.read then u.setReg CAM_BUS_DATA (BitVec.ofNat 32 (bits v 0 (8 * a.bytes)))
      else u := by
  simp only [State.accessEnds, ha, hn, hs, ne_eq, not_true_eq_false, decide_false, Bool.not_true, Bool.or_self, Bool.false_eq_true,
    if_false]

/-- Where CAM runs, a write of a request or the access of CAM_BUS_CMD ends. -/
theorem exec_busAccessDone_runs (hr : s.runs 10 = true) (n : Fin 16) (settings : Bool) (k : Fin 4) (v : Word) :
    exec (.busAccessDone n settings k v) s =
      s.done (if settings then s.settingsWrite n.val k.val else s.accessEnds n.val k.val v) :=
  congrArg s.done (if_neg (by rw [hr]; exact Bool.false_ne_true))

end

/-- Settles O44: each event is one operation of the settings pipeline or of the buses, and the operation's equation is the effect. -/
theorem settingsAndBusEventsComplete : Obligations.SettingsAndBusEventsComplete := by
  refine ⟨?send, ?last, ?commit, ?access, ?settings, ?ends, ?interrupt, ?join, ?discovered⟩
  case send =>
    exact fun s n r l hr hq hs hb hw ha => congrArg s.done ((if_pos hr).trans (State.sendReq_due hq hs hb hw ha))
  case last => exact fun s n r l hr hq hs hd hw => congrArg s.done ((if_pos hr).trans (State.writesDone_last hq hs hd hw))
  case commit => exact fun s n r l hr hq hd hb => congrArg s.done ((if_pos hr).trans (State.commitReq_due hq hd hb))
  case access => exact fun s by_ v hl hv => congrArg s.done ((State.hostWrite_lands hl _).trans (State.busCommand_go hv))
  case settings =>
    intro s n r l w ws k v hr hq hs hw u from_
    rw [exec_busAccessDone_runs hr, if_pos rfl, State.settingsWrite_sending hq hs hw]
    exact ⟨fun hk => congrArg s.done (if_pos hk), fun hk => congrArg s.done (if_neg (Nat.not_lt.2 hk.ge))⟩
  case ends =>
    intro s n k v a hr ha hn hs u
    have hthree : 3 ≤ k.val ↔ k.val = 3 := by omega
    rw [exec_busAccessDone_runs hr, if_neg Bool.false_ne_true, State.accessEnds_started ha hn hs]
    exact congrArg s.done (if_congr hthree rfl rfl)
  case interrupt => exact fun s n hr hi => congrArg s.done (if_pos (Bool.and_eq_true_iff.2 ⟨hr, hi⟩))
  case join => exact fun s b hr hd => congrArg s.done (if_pos (Bool.and_eq_true_iff.2 ⟨hr, hd⟩))
  case discovered =>
    exact fun s a j hr hd => congrArg s.done ((if_pos hr).trans (if_neg (Bool.eq_false_iff.1 hd)))

end Sys2Proof.Machine
end

section
/-! The statements on power (R355, R356, R359, R361, R362, R369 to R372, R446, R451): admission under the supply budget, rail
commands, temperatures, wear and the islands of Service. -/

namespace Sys2Proof.Machine

open Sys2Proof

/-! ## Admission and rail commands -/

/-- A vector without a set bit lists no number. -/
theorem bitList_zero (n : Nat) : bitList (0 : BitVec n) = [] :=
  List.filter_eq_nil_iff.2 fun _ _ => by simp

@[simp] theorem State.carrierOn_waitFor (s : State) (t : Timer) (k n : Nat) : (s.waitFor t k).carrierOn n = s.carrierOn n := by
  simp [State.carrierOn]

section
variable {s : State} {n : Nat} {l : List Nat}

/-- The claim of a carrier fits the budget where the claims in use and its own are no more (R359). -/
theorem State.claimFits_iff : s.claimFits n = true ↔
    s.get PWR_SUP_USED_VALUE + 10 * s.get (PWR_C_CLAIM_CLAIM_CA n) ≤ s.get PWR_SUP_BUDGET_VALUE := decide_eq_true_iff

/-- The rise of a carrier fits the slew where the rises under way and its own are no more (R359). -/
theorem State.slewFits_iff : s.slewFits n = true ↔
    s.rampSum + s.get (PWR_C_RAIL_RAMP_MA_MS n) ≤ s.get PWR_SUP_SLEW_VALUE := decide_eq_true_iff

/-- The check of the lowest-numbered waiting carrier (R359, R446). -/
theorem State.admission_waiting (hw : bitList s.pwr.waiting = n :: l) :
    s.admission = if s.flag SAF_STAT_START_OK = true then
      if (s.claimFits n && s.slewFits n) = true then s.admitNext n else s.supplyWaits else s := by
  simp only [State.admission, hw]
  cases s.flag SAF_STAT_START_OK <;> rfl

/-- With no carrier waiting, a changed setpoint that fits the slew is sent (R362). -/
theorem State.admission_setpoint (hw : s.pwr.waiting = 0) (hl : bitList s.pwr.setWait = n :: l) (hf : s.slewFits n = true) :
    s.admission = s.sendSetpoint n := by
  simp only [State.admission, hw, bitList_zero, hl, hf, if_true]

/-- The rail command of a carrier in use is repeated as last given (R356). -/
theorem State.repeatRail_on (hn : s.carrierOn n = true) :
    s.repeatRail n =
      let u := s.waitFor (.rail n) 80000000
      u.railCommand n (u.carrier n).enabled (u.carrier n).setMv :=
  (if_pos hn).trans (if_pos ((s.carrierOn_waitFor _ _ n).trans hn))

/-- The check of the supply, where AON runs. -/
theorem exec_supplyAdmit_runs (hr : s.runs 0 = true) :
    exec .supplyAdmit s = s.done ((s.every .admission 80000).admission).tryChange := congrArg s.done (if_pos hr)

end

/-! ## Temperatures (R369) -/

/-- A byte as a signed number is its two's complement. -/
theorem signed_toNat (b : Byte) : signed 8 b.toNat = b.toInt := by
  have := b.isLt
  rw [signed, BitVec.toInt_eq_toNat_cond]
  split <;> split <;> omega

/-- The low `w` bits of an integer are a number of `w` bits. -/
theorem unsigned_lt (w : Nat) (i : Int) : unsigned w i < 2 ^ w := by
  have hpos : (0 : Int) < (2 ^ w : Nat) := by exact_mod_cast Nat.two_pow_pos w
  have hlt := Int.emod_lt_of_pos i hpos
  rw [unsigned]
  omega

/-- A threshold that was not reached stays so below it. -/
theorem crosses_below {thr t : Int} (h : t < thr) : crosses false thr t = false := by
  simp [crosses, h]

/-- The hottest reading is one of the readings, and its row is one of their rows. -/
theorem hottest_mem {l : List Int} (hl : l ≠ []) : (hottest l).1 ∈ l ∧ (hottest l).2 < l.length := by
  refine List.foldlRecOn (motive := fun m : Int × Nat => m.1 ∈ l ∧ m.2 < l.length) _ _ ?first fun m hm q hq => ?next
  case first =>
    have hpos := List.length_pos_of_ne_nil hl
    rw [List.getD_eq_getElem _ _ hpos]
    exact ⟨List.getElem_mem hpos, hpos⟩
  case next =>
    have hmem : q.1 ∈ l ∧ q.2 < l.length := ⟨List.fst_mem_of_mem_zipIdx hq, List.snd_lt_of_mem_zipIdx hq⟩
    split
    · exact hmem
    · exact hm

/-- A state that shows the hottest island with its row, and the stack's reading (R369). -/
def State.showTemps (s : State) (h : Int × Nat) (k : Byte) : State :=
  ((s.put PWR_TEMP_LOGIC_C (unsigned 8 h.1)).put PWR_TEMP_HOT_ISLAND h.2).put PWR_TEMP_HBM_C k.toNat

section
variable {s : State} {h : Int × Nat} {k : Byte}

@[simp] theorem State.pwr_showTemps : (s.showTemps h k).pwr = s.pwr := rfl
@[simp] theorem State.saf_showTemps : (s.showTemps h k).saf = s.saf := rfl

theorem State.get_showTemps_other {f : Fld} (hf : f.addr ≠ PWR_TEMP) : (s.showTemps h k).get f = s.get f := by
  have hreg : (s.showTemps h k).reg f.addr = s.reg f.addr :=
    (State.reg_put_other _ _ _ hf).trans ((State.reg_put_other _ _ _ hf).trans (State.reg_put_other _ _ _ hf))
  rw [State.get, hreg, State.get]

theorem State.hbm_showTemps : (s.showTemps h k).get PWR_TEMP_HBM_C = k.toNat := by
  rw [State.showTemps, State.get_put_same _ _ _ (by decide)]
  exact Nat.mod_eq_of_lt k.isLt

theorem State.hotIsland_showTemps (hh : h.2 < 16) : (s.showTemps h k).get PWR_TEMP_HOT_ISLAND = h.2 := by
  rw [State.showTemps, State.get_put_other _ _ _ _ (by decide) (by simp [Fld.apart]), State.get_put_same _ _ _ (by decide)]
  exact Nat.mod_eq_of_lt hh

theorem State.logic_showTemps : (s.showTemps h k).get PWR_TEMP_LOGIC_C = unsigned 8 h.1 := by
  rw [State.showTemps, State.get_put_other _ _ _ _ (by decide) (by simp [Fld.apart]),
    State.get_put_other _ _ _ _ (by decide) (by simp [Fld.apart]), State.get_put_same _ _ _ (by decide)]
  exact Nat.mod_eq_of_lt (unsigned_lt 8 h.1)

end

/-- What PWR keeps of a reading: the thresholds reached, the stack's refresh rate and the minute's mean (R369, R370). -/
def State.sampled (s : State) (h k : Int) : Pwr :=
  { s.pwr with
    warnLogic := crosses s.pwr.warnLogic (s.get PWR_THERM_WARN) h
    stopLogic := crosses s.pwr.stopLogic (s.get PWR_THERM_STOP) h
    critLogic := crosses s.pwr.critLogic (s.get PWR_THERM_CRIT) h
    warnStack := crosses s.pwr.warnStack (s.get PWR_HBM_THERM_WARN) k
    stopStack := crosses s.pwr.stopStack (s.get PWR_HBM_THERM_STOP) k
    critStack := crosses s.pwr.critStack (s.get PWR_HBM_THERM_CRIT) k
    refresh := crosses s.pwr.refresh 85 k
    tempSum := s.pwr.tempSum + h
    tempCount := s.pwr.tempCount + 1 }

/-- A reading kept, and the STOP and CRIT thresholds reached shown in PWR_STAT (R369). -/
def State.showReached (s : State) (p : Pwr) : State :=
  (({ s with pwr := p } : State).putFlag PWR_STAT_THERM_STOP (p.stopLogic || p.stopStack)).putFlag PWR_STAT_THERM_CRIT
    (p.critLogic || p.critStack)

@[simp] theorem State.thermal_showReached (s : State) (p : Pwr) : (s.showReached p).thermal = s.thermal := by
  simp [State.thermal, State.showReached]

theorem State.get_showReached_other (s : State) (p : Pwr) {f : Fld} (hf : f.addr ≠ PWR_STAT) :
    (s.showReached p).get f = s.get f := by
  have hreg : (s.showReached p).reg f.addr = s.reg f.addr :=
    (State.reg_putFlag_other _ _ _ hf).trans (State.reg_putFlag_other _ _ _ hf)
  rw [State.get, hreg, State.get]

theorem State.thermStop_showReached (s : State) (p : Pwr) :
    (s.showReached p).flag PWR_STAT_THERM_STOP = (p.stopLogic || p.stopStack) := by
  rw [State.showReached, State.flag_putFlag_other _ _ _ _ (by decide) (by simp [Fld.apart]),
    State.flag_putFlag_same _ _ _ rfl (by decide)]

theorem State.thermCrit_showReached (s : State) (p : Pwr) :
    (s.showReached p).flag PWR_STAT_THERM_CRIT = (p.critLogic || p.critStack) :=
  State.flag_putFlag_same _ _ _ rfl (by decide)

/-- A reading of the sensors: what it shows, what is kept of it, what each threshold newly reached does, and the thermal causes of
Safe that it ends (R369). -/
theorem State.thermalRead_eq (s : State) (l : List Byte) (k : Byte) :
    s.thermalRead l k =
      let h := hottest ((l.take 12).map fun b => signed 8 b.toNat)
      let c := signed 8 k.toNat
      let x := (s.every .thermal 800000).showTemps h k
      let p := x.pwr
      let q := x.sampled h.1 c
      let v := (x.showReached q).thermalRises false (q.warnLogic && !p.warnLogic) (q.stopLogic && !p.stopLogic)
        (q.critLogic && !p.critLogic) 198
      let w := v.thermalRises true (q.warnStack && !p.warnStack) (q.stopStack && !p.stopStack) (q.critStack && !p.critStack) 199
      if w.thermal then w.setThermal (w.saf.thermalIsland && !decide (h.1 < (x.get PWR_THERM_STOP : Int) - 5))
        (w.saf.thermalStack && !decide (c < (x.get PWR_HBM_THERM_STOP : Int) - 5))
      else w := rfl

/-- No threshold newly reached does nothing. -/
theorem State.thermalRises_none (s : State) (stack : Bool) (v : Nat) : s.thermalRises stack false false false v = s := rfl

/-- Readings of islands and stack below every threshold, with none reached before, and no thermal cause of Safe (R369). -/
structure State.Cool (s : State) (h k : Int) : Prop where
  island : h < s.get PWR_THERM_WARN ∧ h < s.get PWR_THERM_STOP ∧ h < s.get PWR_THERM_CRIT
  stack : k < s.get PWR_HBM_THERM_WARN ∧ k < s.get PWR_HBM_THERM_STOP ∧ k < s.get PWR_HBM_THERM_CRIT
  islandBelow : s.pwr.warnLogic = false ∧ s.pwr.stopLogic = false ∧ s.pwr.critLogic = false
  stackBelow : s.pwr.warnStack = false ∧ s.pwr.stopStack = false ∧ s.pwr.critStack = false
  noCause : s.thermal = false

section
variable {s : State} {h k : Int}

/-- Showing a reading leaves the thresholds, and which of them were reached. -/
theorem State.Cool.shown (hc : s.Cool h k) (m : Int × Nat) (b : Byte) : ((s.every .thermal 800000).showTemps m b).Cool h k := by
  have hget {f : Fld} (hf : f.addr ≠ PWR_TEMP) : ((s.every .thermal 800000).showTemps m b).get f = s.get f :=
    (State.get_showTemps_other hf).trans (s.get_every _ _ f)
  obtain ⟨hi, hs, hib, hsb, hn⟩ := hc
  constructor
  case island => simpa only [hget (f := ⟨PWR_THERM, _, _⟩) (show PWR_THERM ≠ PWR_TEMP by decide)] using hi
  case stack => simpa only [hget (f := ⟨PWR_HBM_THERM, _, _⟩) (show PWR_HBM_THERM ≠ PWR_TEMP by decide)] using hs
  case islandBelow => simpa using hib
  case stackBelow => simpa using hsb
  case noCause => simpa [State.thermal] using hn

/-- Below every threshold none is reached. -/
theorem State.Cool.sampled (hc : s.Cool h k) :
    s.sampled h k =
      { s.pwr with refresh := crosses s.pwr.refresh 85 k, tempSum := s.pwr.tempSum + h, tempCount := s.pwr.tempCount + 1 } := by
  obtain ⟨⟨iw, is, ic⟩, ⟨kw, ks, kc⟩, ⟨ow, os, oc⟩, ⟨pw, ps, pc⟩, -⟩ := hc
  simp only [State.sampled, ow, os, oc, pw, ps, pc, crosses_below iw, crosses_below is, crosses_below ic, crosses_below kw,
    crosses_below ks, crosses_below kc]

/-- A reading below every threshold is shown and kept, and nothing else follows from it (R369). -/
theorem State.thermalRead_cool {l : List Byte} {b : Byte} {m : Int × Nat}
    (hm : m = hottest ((l.take 12).map fun x => signed 8 x.toNat)) (hc : s.Cool m.1 (signed 8 b.toNat)) :
    s.thermalRead l b =
      let x := (s.every .thermal 800000).showTemps m b
      x.showReached (x.sampled m.1 (signed 8 b.toNat)) := by
  have hx := hc.shown m b
  have hs := hx.sampled
  obtain ⟨-, -, ⟨ow, os, oc⟩, ⟨pw, ps, pc⟩, hn⟩ := hx
  rw [State.thermalRead_eq, ← hm]
  simp only [hs, ow, os, oc, pw, ps, pc, Bool.false_and, State.thermalRises_none, State.thermal_showReached, hn,
    Bool.false_eq_true, if_false]

/-- After a reading below every threshold the gate leaves the readings shown, and neither STOP nor CRIT (R369). -/
theorem State.Cool.shows_below {m : Int × Nat} {b : Byte} {c : Int} (hc : s.Cool m.1 c) (hm : m.2 < 16) {q : List Instr} :
    let x := (s.every .thermal 800000).showTemps m b
    let t : State := { (x.showReached (x.sampled m.1 c)).gateOutputs with pending := q }
    t.get PWR_TEMP_HBM_C = b.toNat ∧ t.get PWR_TEMP_LOGIC_C = unsigned 8 m.1 ∧ t.get PWR_TEMP_HOT_ISLAND = m.2
      ∧ t.flag PWR_STAT_THERM_STOP = false ∧ t.flag PWR_STAT_THERM_CRIT = false := by
  have hx := hc.shown m b
  have hs := hx.sampled
  obtain ⟨-, -, ⟨ow, os, oc⟩, ⟨pw, ps, pc⟩, -⟩ := hx
  intro x t
  have hshown {f : Fld} (hf : f.addr = PWR_TEMP) : t.get f = x.get f :=
    (State.get_gateOutputs _ f (by rw [hf]; decide)).trans (State.get_showReached_other _ _ (by rw [hf]; decide))
  refine ⟨(hshown rfl).trans State.hbm_showTemps, (hshown rfl).trans State.logic_showTemps,
    (hshown rfl).trans (State.hotIsland_showTemps hm), ?stop, ?crit⟩
  case stop =>
    refine (State.flag_gateOutputs _ PWR_STAT_THERM_STOP (by decide)).trans ((State.thermStop_showReached _ _).trans ?_)
    rw [hs, os, ps, Bool.or_self]
  case crit =>
    refine (State.flag_gateOutputs _ PWR_STAT_THERM_CRIT (by decide)).trans ((State.thermCrit_showReached _ _).trans ?_)
    rw [hs, oc, pc, Bool.or_self]

/-- Where AON runs, the sensors are read. -/
theorem exec_thermalRead_runs (hr : s.runs 0 = true) (l : List Byte) (b : Byte) :
    exec (.thermalRead l b) s = s.done (s.thermalRead l b) := congrArg s.done (if_pos hr)

end

/-- Settles O46: the check of the supply by what waits and what fits, a cool reading by its thresholds, and each of the rest by its
guard. -/
theorem powerEventsComplete : Obligations.PowerEventsComplete := by
  refine ⟨⟨?supply, ?again, ?claim⟩, ?read, ?cool, ?minute, ?mirror, ?islands⟩
  case supply =>
    intro s hr u
    rw [exec_supplyAdmit_runs hr]
    refine ⟨fun n l hw ho hc hs => ?admits, fun n l hw ho hu => ?waits, fun n l hw ho => ?closed, fun n l hw hl hs => ?setpoint⟩
    case admits =>
      have hfits := Bool.and_eq_true_iff.2 ⟨State.claimFits_iff.2 hc, State.slewFits_iff.2 hs⟩
      rw [State.admission_waiting hw, if_pos ho, if_pos hfits]
    case waits =>
      have hfits : ¬ (u.claimFits n && u.slewFits n) = true := by
        rw [Bool.and_eq_true, State.claimFits_iff, State.slewFits_iff]
        omega
      rw [State.admission_waiting hw, if_pos ho, if_neg hfits]
    case closed => rw [State.admission_waiting hw, if_neg (Bool.eq_false_iff.1 ho)]
    case setpoint => rw [State.admission_setpoint hw hl (State.slewFits_iff.2 hs)]
  case again => exact fun s n hn => congrArg s.done (State.repeatRail_on hn)
  case claim => exact fun s n hn => congrArg s.done (if_pos hn)
  case read => exact fun s l k hr => exec_thermalRead_runs hr l k
  case cool =>
    intro s l k hr hbelow hl hlen hn ow os oc pw ps pc kw ks kc
    obtain ⟨hmem, hrow⟩ := hottest_mem (l := l.map fun b => signed 8 b.toNat) (by simpa using hl)
    obtain ⟨b, hbl, hbm⟩ := List.mem_map.1 hmem
    have hcool : s.Cool (hottest (l.map fun b => signed 8 b.toNat)).1 (signed 8 k.toNat) := by
      rw [← hbm, signed_toNat, signed_toNat]
      exact ⟨hbelow b hbl, ⟨kw, ks, kc⟩, ⟨ow, os, oc⟩, ⟨pw, ps, pc⟩, hn⟩
    rw [List.length_map] at hrow
    refine completes_of_done ((exec_thermalRead_runs hr l k).trans (congrArg s.done
      (State.thermalRead_cool (by rw [List.take_of_length_le hlen]) hcool))) ?_
    exact hcool.shows_below (by omega)
  case minute => exact fun s rings core sram hr => congrArg s.done (if_pos hr)
  case mirror => exact fun s hr => ⟨congrArg s.done (if_pos hr), congrArg s.done (if_pos hr)⟩
  case islands => exact fun s by_ v hl => congrArg s.done (State.hostWrite_lands hl _)

end Sys2Proof.Machine
end

section
/-! The queue of waiting commands, fields after the gate, what a raise leaves to see (R459 to R462), arbiters and locks (R377 to R390). -/

namespace Sys2Proof.Machine

open Sys2Proof

/-! ## The queue of waiting commands -/

/-- Settles O1: the two cases of a step, a queue with a front command and an empty one. -/
theorem stepTakesFrontCommand : Obligations.StepTakesFrontCommand := by
  refine ⟨fun s c rest h => ?front, fun s h => ?idle⟩
  case front => rw [step, h]
  case idle => rw [step, h]

/-- A command leaves the queue as it found it, and `after` is the state it answers. -/
theorem exec_after (c : Instr) (s : State) : exec c s = .next (after c s) ∧ (after c s).pending = s.pending := by
  obtain ⟨t, ht, hp⟩ := everyCommandAnswersANextState c s
  have ha : after c s = t := by rw [after, ht]
  exact ⟨ha ▸ ht, ha ▸ hp⟩

/-- A step that answers a next state is the first of a run. -/
theorem run_succ_of_step (M : Host.Core) {s t : M.State} (h : M.step s = .next t) (k : Nat) : M.run (k + 1) s = M.run k t := by
  rw [Host.Core.run, h]

/-- A step with a command waiting runs it, and leaves those behind it waiting. -/
theorem core_run_cons {s : State} {c : Instr} {rest : List Instr} (h : s.pending = c :: rest) (k : Nat) :
    core.run (k + 1) s = core.run k (after c { s with pending := rest }) :=
  run_succ_of_step core ((stepTakesFrontCommand.1 s c rest h).trans (exec_after c _).1) k

/-- Settles O3, by induction over the commands at the front of the queue. -/
theorem queueRunsInOrder : Obligations.QueueRunsInOrder := by
  intro s l later
  induction l generalizing s with
  | nil => exact fun h => ⟨rfl, h⟩
  | cons c l ih =>
    intro h
    have hd : s.pending.drop 1 = l ++ later := by rw [h]; rfl
    have hq : (after c { s with pending := l ++ later }).pending = l ++ later := (exec_after c _).2
    rw [List.length_cons, core_run_cons h, runCommands, hd]
    exact ih _ hq

/-! ## Fields after the gate -/

/-- The gate at the end of a command leaves every field but those of SAF_STAT (R436). -/
theorem State.get_afterGate (s t : State) (f : Fld) (h : f.addr ≠ SAF_STAT) :
    ({ t.gateOutputs with pending := s.pending } : State).get f = t.get f := State.get_gateOutputs t f h

theorem State.flag_afterGate (s t : State) (f : Fld) (h : f.addr ≠ SAF_STAT) :
    ({ t.gateOutputs with pending := s.pending } : State).flag f = t.flag f := State.flag_gateOutputs t f h

/-! ## What a raise leaves to see (R459 to R462) -/

/-- A message writes the PBA bit of its vector alone. -/
theorem State.reg_sendMessage_of_ne (s : State) {v a : Nat} (h : a ≠ (pbaBit v).addr) : (s.sendMessage v).reg a = s.reg a := by
  unfold State.sendMessage
  simp only
  split
  case isTrue => rfl
  case isFalse =>
    split
    case isTrue => exact State.reg_putFlag_other _ _ _ h
    case isFalse => split <;> rfl

theorem State.reg_signalVector_of_ne (s : State) {v a : Nat} (h : a ≠ (pbaBit v).addr) : (s.signalVector v).reg a = s.reg a := by
  unfold State.signalVector
  split
  case isTrue => rfl
  case isFalse => exact s.reg_sendMessage_of_ne h

/-- A record writes EVT_LOG_STAT alone. -/
theorem State.reg_appendLog_of_ne (s : State) (r : EventRec) {a : Nat} (h : a ≠ EVT_LOG_STAT) : (s.appendLog r).reg a = s.reg a := by
  unfold State.appendLog
  simp only
  rw [State.reg_put_other _ _ _ h]
  split
  case isTrue => exact State.reg_put_other _ _ _ h
  case isFalse => rfl

theorem pendBit_apart {v w : Nat} (h : v ≠ w) : (pendBit v).apart (pendBit w) := by
  simp only [Fld.apart, pendBit, EVT_PEND]
  omega

theorem pendBit_fits (v : Nat) : (pendBit v).lo + (pendBit v).width ≤ 32 := by
  simp only [pendBit]
  omega

/-- A raise sets the EVT_PEND bit of its vector, and leaves every other that is set. -/
theorem State.flag_pendBit_raiseOne (s : State) {v w : Nat} (hw : w < 256) (h : w = v ∨ s.flag (pendBit w) = true) (detail : Nat)
    (data page : Word) : (s.raiseOne v detail data page).flag (pendBit w) = true := by
  have hpba : (pendBit w).addr ≠ (pbaBit v).addr := by
    simp only [pendBit, pbaBit, EVT_PEND]
    omega
  have hlog : (pendBit w).addr ≠ EVT_LOG_STAT := by
    simp only [pendBit, EVT_PEND, EVT_LOG_STAT]
    omega
  have hset : ((s.appendLog ⟨BitVec.ofNat 8 v, BitVec.ofNat 16 detail, data, s.nameOf page, s.now⟩).putFlag (pendBit v) true).flag
      (pendBit w) = true := by
    by_cases hv : w = v
    case pos =>
      subst hv
      exact State.flag_putFlag_same _ _ _ rfl (pendBit_fits w)
    case neg =>
      rw [State.flag_putFlag_other _ _ _ _ (pendBit_fits w) (pendBit_apart (Ne.symm hv)), State.flag, State.get,
        State.reg_appendLog_of_ne _ _ hlog]
      exact h.resolve_left hv
  rw [State.raiseOne, State.flag, State.get, State.reg_signalVector_of_ne _ hpba]
  exact hset

/-- A raise leaves the EVT_PEND bit of its vector set, whatever an overwrite then raises. -/
theorem State.flag_pendBit_raiseWith (s : State) {v : Nat} (hv : v < 256) (detail data : Option Nat) (page : Word) :
    (s.raiseWith v detail data page).flag (pendBit v) = true := by
  unfold State.raiseWith
  simp only
  split
  case isFalse => exact State.flag_pendBit_raiseOne _ hv (.inl rfl) _ _ _
  case isTrue =>
    refine State.flag_pendBit_raiseOne _ hv (.inr ?_) _ _ _
    rw [State.flag, State.get, State.reg_orDraw]
    exact State.flag_pendBit_raiseOne _ hv (.inl rfl) _ _ _

theorem State.flag_pendBit_raise (s : State) {v : Nat} (hv : v < 256) : (s.raise v).flag (pendBit v) = true :=
  s.flag_pendBit_raiseWith hv _ _ _

/-! ## Arbiters (R377 to R380, R382) -/

section
variable {s : State} {a : Nat}

/-- A cycle of an arbiter whose island runs: its arrivals, and a grant of each free path (R377). -/
theorem State.arbCycle_runs (hr : s.runs (arbIsland a) = true) (n : Nat) (l : List (Nat × Nat)) (f : BitVec 32) :
    s.arbCycle a n l f =
      let u := (s.arbTickTo a (s.arbNow a + n)).arbArrive a l f
      ((u.freePaths a).foldl (fun (t : State) p => t.grantPath a p) u).syncArbiter a := by
  rw [State.arbCycle, hr]
  rfl

/-- A window boundary of an arbiter whose island runs (R378, R382). -/
theorem State.windowBoundary_runs (hr : s.runs (arbIsland a) = true) (n : Nat) :
    s.windowBoundary a n =
      let u := s.arbTickTo a (max (s.arbNow a + n) ((s.arbiter a).windowAt + s.windowLength a))
      let w := (u.arbiter a).window
      ((u.latchBank (ARB_A_STB_SEQ a) 7 (BitVec.ofNat 32 w) 6 0 false).handOver .arb a (BitVec.ofNat 32 (w + 1))).newWindow a := by
  rw [State.windowBoundary, hr]
  rfl

/-- The cut of the tin hold on a path (R380). -/
theorem State.cutHold_tin {p : Nat} {h : ArbReq}
    (hf : ((s.arbiter a).holds.find? fun h => h.path = p && s.portClass a h.port = 2) = some h) :
    s.cutHold a p =
      let u := (s.arbTickTo a (h.held + s.tinHold a)).updArbiter a fun x =>
        { x with holds := x.holds.erase h, reqs := x.reqs ++ [{ h with held := 0 }] }
      let v := ((u.grantPath a p).syncArbiter a).liveAdd (ARB_A_STB_INFO a) (ARB_A_STB_TIN_CUT_COUNT a) 1
      if v.flag (ARB_PORT_CFG_CUT a h.port) then v else (v.putFlag (ARB_PORT_CFG_CUT a h.port) true).raise 243 := by
  rw [State.cutHold, hf]

end

/-- Settles O47: each event is the equation of its operation where the island runs, or the path holds a tin grant. -/
theorem arbiterEventsComplete : Obligations.ArbiterEventsComplete := by
  refine ⟨?grant, ?window, ?cut⟩
  case grant => exact fun s a n l f hr => congrArg s.done (State.arbCycle_runs hr n l f)
  case window => exact fun s a n hr => congrArg s.done (State.windowBoundary_runs hr n)
  case cut => exact fun s a p h hf => congrArg s.done (State.cutHold_tin hf)

/-! ## Locks (R385 to R387, R390) -/

/-- A lock command that lands, of an owner other than 0, acts on its host lock for its owner (R390). -/
theorem State.hostLock_lands {s : State} {by_ : By} {v : Word} (hl : s.Lands by_ ARB_HL_REQ) (ho : bits v 4 4 ≠ 0)
    (f : State → Nat → LockReq → State) : s.hostLock by_ v f = f s (16 + bits v 0 4) (hostReq (bits v 4 4)) := by
  rw [State.hostLock, State.hostWrite_lands hl, if_neg ho]

section
variable {s : State} {i : Nat} {r : LockReq}

/-- A request of one that waits already is REFUSED (R390). -/
theorem State.acquire_waiting (hw : s.lockWaits r = true) : s.acquire i r = s.lockResult r 6 := if_pos hw

/-- A request below or at a rank held is refused with LOCK_ORDER (R386). -/
theorem State.acquire_order (hw : s.lockWaits r = false) (ho : s.lockOrder i r = true) :
    s.acquire i r = ((s.incSat ARB_LOCK_STAT_ORDER).raise 241).lockResult r 3 := by
  simp [State.acquire, hw, ho]

/-- A free lock is granted (R385). -/
theorem State.acquire_free (hw : s.lockWaits r = false) (ho : s.lockOrder i r = false) (hh : (s.lock i).holder = none) :
    s.acquire i r = s.grantLock i r := by
  simp [State.acquire, hw, ho, hh]

/-- A held lock queues its requester (R385). -/
theorem State.acquire_held (hw : s.lockWaits r = false) (ho : s.lockOrder i r = false) (hh : (s.lock i).holder ≠ none) :
    s.acquire i r =
      (((s.updLock i fun l => { l with waiters := l.waiters ++ [r] }).syncLock i).lockResult r 0).mark (.lockWait r.id) := by
  simp [State.acquire, hw, ho, hh]

/-- A release of the holder serves the first waiter (R385). -/
theorem State.release_holder (hh : (s.lock i).holder = some r) :
    s.release i r = (((s.updLock i fun l => { l with holder := none }).syncLock i).lockResult r 0).serveLock i := if_pos hh

/-- A release of a waiter withdraws its wait (R390). -/
theorem State.release_waiter (hh : (s.lock i).holder ≠ some r) (hw : (s.lock i).waiters.contains r = true) :
    s.release i r = ((s.updLock i fun l => { l with waiters := l.waiters.erase r }).syncLock i).lockResult r 7 := by
  rw [State.release, if_neg hh, if_pos hw]

/-- Any other release is refused (R390). -/
theorem State.release_other (hh : (s.lock i).holder ≠ some r) (hw : (s.lock i).waiters.contains r = false) :
    s.release i r = s.lockResult r 5 := by
  rw [State.release, if_neg hh, if_neg (Bool.eq_false_iff.1 hw)]

theorem State.repaired_holder (hh : (s.lock i).holder = some r) :
    s.repaired i r = ((s.updLock i fun l => { l with broken := false }).syncLock i).lockResult r 8 := if_pos hh

theorem State.repaired_other (hh : (s.lock i).holder ≠ some r) : s.repaired i r = s.lockResult r 5 := if_neg hh

/-- A wait time-out of the first waiter (R387). -/
theorem exec_lockWaitTimeout {t : Nat} (hr : s.runs 5 = true) (hf : s.firstWaiter = some (r, t)) :
    exec .lockWaitTimeout s = s.done (s.every (.lockWait r.id) (max 1 (s.get ARB_CTL_WAIT_US) * 800)).lockAbort := by
  change execLockWaitTimeout s = _
  rw [execLockWaitTimeout, if_pos hr, State.lockTimeout, hf]

end

/-! ### The abort of a wait (R387) -/

/-- A fold that finds something in each step finds something in a list that is not empty. -/
theorem foldl_isSome_of_step {α β : Type} {f : Option α → β → Option α} (hf : ∀ o b, (f o b).isSome = true) {l : List β}
    (hl : l ≠ []) (o : Option α) : (l.foldl f o).isSome = true := by
  obtain ⟨l', b, rfl⟩ := (List.eq_nil_or_concat l).resolve_left hl
  rw [List.concat_eq_append, List.foldl_append]
  exact hf _ b

section
variable {s : State}

/-- Where someone waits, a first waiter is found. -/
theorem State.firstWaiter_isSome {r : LockReq} (hw : s.lockWaits r = true) : s.firstWaiter.isSome = true := by
  obtain ⟨l, hl, hr⟩ := List.any_eq_true.1 hw
  have hmem : r ∈ s.arb.locks.flatMap fun l => l.waiters := List.mem_flatMap.2 ⟨l, hl, List.contains_iff_mem.1 hr⟩
  refine foldl_isSome_of_step (fun o b => ?_) (List.ne_nil_of_mem hmem) none
  dsimp only
  repeat' split
  all_goals rfl

@[simp] theorem State.lock_every (t : Timer) (n i : Nat) : (s.every t n).lock i = s.lock i := by simp [State.lock]

@[simp] theorem State.lockWaits_every (t : Timer) (n : Nat) (r : LockReq) : (s.every t n).lockWaits r = s.lockWaits r := by
  simp [State.lockWaits]

/-- Showing a lock leaves the count of aborts. -/
theorem State.get_abort_syncLock (i : Nat) : (s.syncLock i).get ARB_LOCK_STAT_ABORT = s.get ARB_LOCK_STAT_ABORT := by
  have hf : ∀ lo w, Fld.apart ⟨ARB_LK_STAT i, lo, w⟩ ARB_LOCK_STAT_ABORT := fun lo w =>
    .inl (by simp only [ARB_LK_STAT, ARB_LOCK_STAT]; omega)
  have hh : ARB_LOCK_STAT_HELD.apart ARB_LOCK_STAT_ABORT := .inr (.inl (by decide))
  simp only [State.syncLock, State.putFlag]
  rw [State.get_put_other _ _ _ _ (by decide) hh, State.get_put_other _ _ _ _ (by decide) (hf _ _),
    State.get_put_other _ _ _ _ (by decide) (hf _ _), State.get_put_other _ _ _ _ (by decide) (hf _ _),
    State.get_put_other _ _ _ _ (by decide) (hf _ _), State.get_put_other _ _ _ _ (by decide) (hf _ _)]

/-- A result of an owner writes ARB_HL_OWN_o alone. -/
theorem State.reg_lockResult (r : LockReq) (n : Nat) {a : Nat} (h : a ≠ ARB_HL_OWN r.id) : (s.lockResult r n).reg a = s.reg a := by
  unfold State.lockResult State.syncOwner
  split
  case isTrue =>
    split
    case isTrue => exact State.reg_put_other _ _ _ h
    case isFalse =>
      simp only
      rw [State.reg_put_other _ _ _ h, State.reg_putFlag_other _ _ _ h, State.reg_put_other _ _ _ h, State.reg_put_other _ _ _ h]
  case isFalse => rfl

/-- Where the holder of a lock waits for another, the abort counts one more (R387). -/
theorem State.get_abort_lockAbort {i : Nat} {r : LockReq} (hi : i < 32) (hh : (s.lock i).holder = some r)
    (hw : s.lockWaits r = true) : s.lockAbort.get ARB_LOCK_STAT_ABORT = min 0xFF (s.get ARB_LOCK_STAT_ABORT + 1) := by
  unfold State.lockAbort
  extract_lets held
  have hmem : ((s.lock i).granted, r) ∈ held := List.mem_filterMap.2 ⟨i, List.mem_range.2 hi, by simp [hh, hw]⟩
  split
  case h_1 hnone =>
    have hsome := congrArg Option.isSome hnone
    rw [foldl_isSome_of_step _ (List.ne_nil_of_mem hmem)] at hsome
    · exact absurd hsome (by decide)
    · intro o x
      cases o with
      | none => rfl
      | some y => exact (apply_ite Option.isSome _ _ _).trans (ite_self _)
  case h_2 t q _ =>
    have hown : ARB_LOCK_STAT ≠ ARB_HL_OWN q.id := by
      simp only [ARB_LOCK_STAT, ARB_HL_OWN]
      omega
    extract_lets u
    have hu : u.get ARB_LOCK_STAT_ABORT = s.get ARB_LOCK_STAT_ABORT := by
      refine List.foldlRecOn (motive := fun (v : State) => v.get ARB_LOCK_STAT_ABORT = s.get ARB_LOCK_STAT_ABORT) _ _ rfl fun v hv j _ => ?_
      split
      case isTrue => exact (State.get_abort_syncLock j).trans hv
      case isFalse => exact hv
    rw [State.get, State.reg_lockResult q 4 hown]
    refine (State.get_raise _ 0 ARB_LOCK_STAT_ABORT (by decide) (by decide)).trans ?_
    rw [State.get_incSat _ _ (by decide), hu]
    rfl

end

/-- Settles O48: each command by the equation of its operation in that case, and the count of aborts by the abort. -/
theorem lockEventsComplete : Obligations.LockEventsComplete := by
  refine ⟨fun s by_ v hl ho => ?commands, fun s r t hr hf => exec_lockWaitTimeout hr hf, fun s i r hr hh hw => ?aborts⟩
  case commands =>
    have hexec : ∀ f, s.hostLock by_ v f = f s (16 + bits v 0 4) (hostReq (bits v 4 4)) := State.hostLock_lands hl ho
    refine ⟨?waiting, ?order, ?free, ?held, ?release, ?withdraw, ?notHeld, ?repair, ?notRepaired⟩
    case waiting => exact fun hw => congrArg s.done ((hexec _).trans (State.acquire_waiting hw))
    case order => exact fun hw h => congrArg s.done ((hexec _).trans (State.acquire_order hw h))
    case free => exact fun hw h hh => congrArg s.done ((hexec _).trans (State.acquire_free hw h hh))
    case held => exact fun hw h hh => congrArg s.done ((hexec _).trans (State.acquire_held hw h hh))
    case release => exact fun hh => congrArg s.done ((hexec _).trans (State.release_holder hh))
    case withdraw => exact fun hh hw => congrArg s.done ((hexec _).trans (State.release_waiter hh hw))
    case notHeld => exact fun hh hw => congrArg s.done ((hexec _).trans (State.release_other hh hw))
    case repair => exact fun hh => congrArg s.done ((hexec _).trans (State.repaired_holder hh))
    case notRepaired => exact fun hh => congrArg s.done ((hexec _).trans (State.repaired_other hh))
  case aborts =>
    obtain ⟨⟨q, t⟩, hf⟩ := Option.isSome_iff_exists.1 (State.firstWaiter_isSome hw)
    refine completes_of_done (exec_lockWaitTimeout hr hf) ?_
    rw [State.get_afterGate _ _ _ (by decide), State.get_abort_lockAbort i.isLt (by simpa using hh) (by simpa using hw), State.get_every]

/-! ### Requests by rank (R386) -/

/-- The result of a host owner reads in its ARB_HL_OWN_o. -/
theorem State.get_result_lockResult (s : State) {o n : Nat} (ho : o ≠ 0) (hn : n < 16) :
    (s.lockResult (hostReq o) n).get (ARB_HL_OWN_RESULT o) = n := by
  have hfit : (ARB_HL_OWN_RESULT o).lo + (ARB_HL_OWN_RESULT o).width ≤ 32 := by simp
  have hheld : (ARB_HL_OWN_HELD o).apart (ARB_HL_OWN_RESULT o) := .inr (.inr (by simp))
  have hwait : (ARB_HL_OWN_WAITING o).apart (ARB_HL_OWN_RESULT o) := .inr (.inr (by simp))
  have hawait : (ARB_HL_OWN_AWAIT o).apart (ARB_HL_OWN_RESULT o) := .inr (.inr (by simp))
  simp only [State.lockResult, State.syncOwner, hostReq, ho, if_true, if_false]
  rw [State.get_put_other _ _ _ _ hfit hawait, State.get_putFlag_other _ _ _ _ hfit hwait,
    State.get_put_other _ _ _ _ hfit hheld, State.get_put_same _ _ _ hfit]
  exact Nat.mod_eq_of_lt hn

/-- A request is refused by rank where the requester holds a lock of the same arbiter at or above its rank. -/
theorem State.lockOrder_iff (s : State) (i : Nat) (r : LockReq) : s.lockOrder i r = true ↔
    ∃ j < 32, lockArbiter j = lockArbiter i ∧ (s.lock j).holder = some r ∧ lockRank i ≤ lockRank j := by
  simp [State.lockOrder, and_assoc]

/-- A request that is refused neither as waiting nor by rank answers GRANTED, BROKEN or, waiting, 0. -/
theorem State.get_result_acquire {s : State} {i o : Nat} (ho : o ≠ 0) (hw : s.lockWaits (hostReq o) = false)
    (hord : s.lockOrder i (hostReq o) = false) : (s.acquire i (hostReq o)).get (ARB_HL_OWN_RESULT o) ≤ 2 := by
  by_cases hh : (s.lock i).holder = none
  case pos =>
    rw [State.acquire_free hw hord hh, State.grantLock]
    split <;> simp [State.get_result_lockResult _ ho]
  case neg =>
    rw [State.acquire_held hw hord hh, State.get_mark, State.get_result_lockResult _ ho (by decide)]
    decide

/-- Settles O13: a request by what its owner holds on the same arbiter, its RESULT as the gate leaves it. -/
theorem lockRanks : Obligations.LockRanks := by
  refine ⟨fun s by_ v j hl ho hw hh harb hrank => ?refused, fun s by_ v hl ho hw hall => ?taken⟩
  case refused =>
    have hord : s.lockOrder (16 + bits v 0 4) (hostReq (bits v 4 4)) = true := (s.lockOrder_iff _ _).2 ⟨j, j.isLt, harb, hh, hrank⟩
    refine completes_of_done (congrArg s.done ((State.hostLock_lands hl ho _).trans (State.acquire_order hw hord))) ?_
    have hown : ARB_HL_OWN (bits v 4 4) ≠ SAF_STAT ∧ (pendBit 241).addr ≠ ARB_HL_OWN (bits v 4 4) := by
      have := bits_lt v 4 4
      simp only [ARB_HL_OWN, SAF_STAT, pendBit, EVT_PEND]
      omega
    refine ⟨?result, ?vector, ?locks⟩
    case result => exact (State.get_afterGate _ _ _ hown.1).trans (State.get_result_lockResult _ ho (by decide))
    case vector =>
      rw [State.flag_afterGate _ _ _ (by decide), State.flag, State.get, State.reg_lockResult _ _ hown.2]
      exact State.flag_pendBit_raise _ (by decide)
    case locks => simp
  case taken =>
    have hord : s.lockOrder (16 + bits v 0 4) (hostReq (bits v 4 4)) = false := by
      refine Bool.eq_false_iff.2 fun h => ?_
      obtain ⟨j, hj, harb, hh, hrank⟩ := (s.lockOrder_iff _ _).1 h
      exact absurd (hall ⟨j, hj⟩ hh harb) (Nat.not_lt.2 hrank)
    refine completes_of_done (congrArg s.done (State.hostLock_lands hl ho _)) ?_
    have hown : ARB_HL_OWN (bits v 4 4) ≠ SAF_STAT := by
      have := bits_lt v 4 4
      simp only [ARB_HL_OWN, SAF_STAT]
      omega
    rw [State.get_afterGate _ _ _ hown]
    exact State.get_result_acquire ho hw hord

end Sys2Proof.Machine
end

section
/-! The barge channels (R393 to R407): commands and instructions. -/

namespace Sys2Proof.Machine

open Sys2Proof

/-! ## The state of a channel (R395, R396) -/

/-- A change of a channel is seen there, where the block has that channel. -/
theorem State.barge_updBarge (s : State) (n : Nat) (f : Barge → Barge) :
    (s.updBarge n f).barge n = f (s.barge n) ∨ (s.updBarge n f).barge n = s.barge n := by
  rcases Nat.lt_or_ge n s.brg.channels.length with h | h <;> simp [State.barge, State.updBarge, h]

section
variable {s : State} {n : Nat}

/-- A channel's state is what was entered. -/
theorem State.bargeState_setBarge {code : Nat} (hc : code < 8) : (s.setBarge n code).bargeState n = code := by
  have hfit : (BRG_CH_STAT_STATE n).lo + (BRG_CH_STAT_STATE n).width ≤ 32 := by simp
  have hrun : (BRG_CH_STAT_STATE n).addr ≠ BRG_RUNNING := by simp only [BRG_CH_STAT, BRG_RUNNING]; omega
  have herr : (BRG_CH_STAT_STATE n).addr ≠ BRG_ERRORS := by simp only [BRG_CH_STAT, BRG_ERRORS]; omega
  simp only [State.bargeState, State.setBarge]
  rw [State.get_put_other _ _ _ _ hfit (.inl herr.symm), State.get_put_other _ _ _ _ hfit (.inl hrun.symm),
    State.get_put_same _ _ _ hfit]
  exact Nat.mod_eq_of_lt hc

/-- Entering a state leaves the fields of CH_STAT below STATE. -/
theorem State.get_setBarge_below (code : Nat) {lo w : Nat} (h : lo + w ≤ 29) :
    (s.setBarge n code).get ⟨BRG_CH_STAT n, lo, w⟩ = s.get ⟨BRG_CH_STAT n, lo, w⟩ := by
  have hfit : lo + w ≤ 32 := by omega
  have hrun : BRG_RUNNING ≠ BRG_CH_STAT n := by simp only [BRG_CH_STAT, BRG_RUNNING]; omega
  have herr : BRG_ERRORS ≠ BRG_CH_STAT n := by simp only [BRG_CH_STAT, BRG_ERRORS]; omega
  simp only [State.setBarge]
  rw [State.get_put_other _ _ _ _ hfit (.inl herr), State.get_put_other _ _ _ _ hfit (.inl hrun),
    State.get_put_other _ _ _ _ hfit (.inr (.inr h))]

/-- What START and RESUME write alike: CAUSE and ERR clear, PC is the PC written, and RIGHTS those of the access (R394, R396). -/
def State.bargeEnters (s : State) (by_ : By) (n : Nat) (v : Word) : State :=
  let u := (s.put (BRG_CH_STAT_CAUSE n) 0).put (BRG_CH_STAT_PC n) (bits v 0 8)
  let w := ((u.setReg (BRG_CH_ERR_ADDR_LO n) 0).setReg (BRG_CH_ERR_ADDR_HI n) 0).setReg (BRG_CH_ERR_INFO n) 0
  w.putFlag (BRG_CH_STAT_RIGHTS n) (n < 8 || w.keeperRights by_)

/-- A channel that is not running starts above Standby, its loop stack empty on START (R396). -/
theorem State.bargeBegin_starts (hr : s.bargeRuns n = false) (hm : 3 < s.modeCode) (by_ : By) (v : Word) {resume : Bool}
    (hst : resume = true → s.bargeState n = 4 ∨ s.bargeState n = 5) :
    s.bargeBegin by_ n v resume =
      let u := s.bargeEnters by_ n v
      let w := if resume then u else u.put (BRG_CH_STAT_DEPTH n) 0
      (w.updBarge n fun b => ⟨false, none, b.due, w.cycle, []⟩).setBarge n 1 := by
  cases resume with
  | false => simp [State.bargeBegin, hr, hm, State.bargeEnters]
  | true => rcases hst rfl with h | h <;> simp [State.bargeBegin, hr, hm, h, State.bargeEnters]

/-- A channel that is running only sets CMD_REJ (R396). -/
theorem State.bargeBegin_running (hr : s.bargeRuns n = true) (by_ : By) (v : Word) (resume : Bool) :
    s.bargeBegin by_ n v resume = s.putFlag (BRG_CH_STAT_CMD_REJ n) true := by
  simp [State.bargeBegin, hr]

/-- A field of CH_STAT but RIGHTS is, after START and RESUME, as their CAUSE and PC leave it. -/
theorem State.get_bargeEnters (by_ : By) (v : Word) {lo w : Nat} (hfit : lo + w ≤ 32)
    (hr : (BRG_CH_STAT_RIGHTS n).apart ⟨BRG_CH_STAT n, lo, w⟩) :
    (s.bargeEnters by_ n v).get ⟨BRG_CH_STAT n, lo, w⟩ =
      ((s.put (BRG_CH_STAT_CAUSE n) 0).put (BRG_CH_STAT_PC n) (bits v 0 8)).get ⟨BRG_CH_STAT n, lo, w⟩ := by
  have hlo : BRG_CH_STAT n ≠ BRG_CH_ERR_ADDR_LO n := by simp only [BRG_CH_STAT, BRG_CH_ERR_ADDR_LO]; omega
  have hhi : BRG_CH_STAT n ≠ BRG_CH_ERR_ADDR_HI n := by simp only [BRG_CH_STAT, BRG_CH_ERR_ADDR_HI]; omega
  have hinfo : BRG_CH_STAT n ≠ BRG_CH_ERR_INFO n := by simp only [BRG_CH_STAT, BRG_CH_ERR_INFO]; omega
  simp only [State.bargeEnters]
  rw [State.get_putFlag_other _ _ _ _ hfit hr, State.get_setReg_other _ _ _ hinfo, State.get_setReg_other _ _ _ hhi,
    State.get_setReg_other _ _ _ hlo]

theorem State.pc_bargeEnters (by_ : By) (v : Word) : (s.bargeEnters by_ n v).bargePc n = bits v 0 8 := by
  have hfit : (BRG_CH_STAT_PC n).lo + (BRG_CH_STAT_PC n).width ≤ 32 := by simp
  rw [State.bargePc, State.get_bargeEnters by_ v hfit (by simp [Fld.apart]), State.get_put_same _ _ _ hfit]
  exact Nat.mod_eq_of_lt (bits_lt v 0 8)

theorem State.cause_bargeEnters (by_ : By) (v : Word) : (s.bargeEnters by_ n v).get (BRG_CH_STAT_CAUSE n) = 0 := by
  have hfit : (BRG_CH_STAT_CAUSE n).lo + (BRG_CH_STAT_CAUSE n).width ≤ 32 := by simp
  rw [State.get_bargeEnters by_ v hfit (by simp [Fld.apart]), State.get_put_other _ _ _ _ hfit (by simp [Fld.apart]),
    State.get_put_same _ _ _ hfit]
  rfl

theorem State.depth_bargeEnters (by_ : By) (v : Word) :
    (s.bargeEnters by_ n v).get (BRG_CH_STAT_DEPTH n) = s.get (BRG_CH_STAT_DEPTH n) := by
  have hfit : (BRG_CH_STAT_DEPTH n).lo + (BRG_CH_STAT_DEPTH n).width ≤ 32 := by simp
  rw [State.get_bargeEnters by_ v hfit (by simp [Fld.apart]), State.get_put_other _ _ _ _ hfit (by simp [Fld.apart]),
    State.get_put_other _ _ _ _ hfit (by simp [Fld.apart])]

end

section
variable {s : State} {by_ : By} {n : Nat} {v : Word}

/-- What START and RESUME leave in CH_STAT: RUN at the PC written, with CAUSE 0; START empties the loop stack (R396). -/
theorem State.chStat_bargeBegin (hr : s.bargeRuns n = false) (hm : 3 < s.modeCode) {resume : Bool}
    (hst : resume = true → s.bargeState n = 4 ∨ s.bargeState n = 5) :
    (s.bargeBegin by_ n v resume).bargeState n = 1 ∧ (s.bargeBegin by_ n v resume).bargePc n = bits v 0 8
      ∧ (s.bargeBegin by_ n v resume).get (BRG_CH_STAT_DEPTH n) = (if resume then s.get (BRG_CH_STAT_DEPTH n) else 0)
      ∧ (s.bargeBegin by_ n v resume).get (BRG_CH_STAT_CAUSE n) = 0 := by
  rw [State.bargeBegin_starts hr hm by_ v hst]
  extract_lets u w
  have hpc : w.bargePc n = bits v 0 8 := by
    cases resume with
    | true => exact State.pc_bargeEnters by_ v
    | false => exact (State.get_put_other _ _ _ _ (by simp) (by simp [Fld.apart])).trans (State.pc_bargeEnters by_ v)
  have hcause : w.get (BRG_CH_STAT_CAUSE n) = 0 := by
    cases resume with
    | true => exact State.cause_bargeEnters by_ v
    | false => exact (State.get_put_other _ _ _ _ (by simp) (by simp [Fld.apart])).trans (State.cause_bargeEnters by_ v)
  have hdepth : w.get (BRG_CH_STAT_DEPTH n) = if resume then s.get (BRG_CH_STAT_DEPTH n) else 0 := by
    cases resume with
    | true => exact State.depth_bargeEnters by_ v
    | false => exact State.get_put_same _ _ _ (by simp)
  exact ⟨State.bargeState_setBarge (by decide), (State.get_setBarge_below 1 (by simp)).trans hpc,
    (State.get_setBarge_below 1 (by simp)).trans hdepth, (State.get_setBarge_below 1 (by simp)).trans hcause⟩

end

/-- The gate leaves CH_STAT (R436). -/
theorem State.chStat_afterGate (s t : State) (n : Fin 32) (lo w : Nat) :
    ({ t.gateOutputs with pending := s.pending } : State).get ⟨BRG_CH_STAT n.val, lo, w⟩ = t.get ⟨BRG_CH_STAT n.val, lo, w⟩ := by
  have := n.isLt
  refine State.get_afterGate _ _ _ ?_
  simp only [BRG_CH_STAT, SAF_STAT]
  omega

section
variable {s : State} {by_ : By} {n : Fin 32} (hl : s.Lands by_ (BRG_CH_CTL n.val))
include hl

theorem exec_brgStart_lands (v : Word) : exec (.brgStart by_ n v) s = s.done (s.bargeBegin by_ n.val v false) :=
  congrArg s.done (State.hostWrite_lands hl _)

theorem exec_brgResume_lands (v : Word) : exec (.brgResume by_ n v) s = s.done (s.bargeBegin by_ n.val v true) :=
  congrArg s.done (State.hostWrite_lands hl _)

theorem exec_brgStop_lands (v : Word) : exec (.brgStop by_ n v) s = s.done (s.bargeStop n 1) :=
  congrArg s.done (State.hostWrite_lands hl _)

end

/-- Settles O49: each command by what it writes of CH_STAT, which the gate leaves, or by its equation. -/
theorem bargeCommandsComplete : Obligations.BargeCommandsComplete := by
  refine ⟨fun s by_ n v hl hr hm => ?start, fun s by_ n v hl hst hm => ?resume, fun s by_ n v hl hr => ?rejected,
    fun s by_ n v hl hr => ?stop, fun s by_ n v hl => congrArg s.done (State.hostWrite_lands hl _)⟩
  case start =>
    obtain ⟨hstate, hpc, hdepth, hcause⟩ := State.chStat_bargeBegin (by_ := by_) (v := v) (resume := false) hr hm (by simp)
    refine completes_of_done (exec_brgStart_lands hl v) ?_
    simp only [State.bargeState, State.bargePc, State.chStat_afterGate]
    exact ⟨hstate, hpc, hdepth, hcause⟩
  case resume =>
    have hr : s.bargeRuns n.val = false := by rcases hst with h | h <;> simp [State.bargeRuns, h]
    obtain ⟨hstate, hpc, hdepth, -⟩ := State.chStat_bargeBegin (by_ := by_) (v := v) (resume := true) hr hm fun _ => hst
    refine completes_of_done (exec_brgResume_lands hl v) ?_
    simp only [State.bargeState, State.bargePc, State.chStat_afterGate]
    exact ⟨hstate, hpc, hdepth⟩
  case rejected =>
    exact ⟨(exec_brgStart_lands hl v).trans (congrArg s.done (State.bargeBegin_running hr by_ v false)),
      (exec_brgResume_lands hl v).trans (congrArg s.done (State.bargeBegin_running hr by_ v true))⟩
  case stop => exact (exec_brgStop_lands hl v).trans (congrArg s.done (if_pos hr))

/-! ## Instructions that move no data (R397, R399, R401, R402) -/

section
variable {s : State} {n : Nat}

/-- An instruction that is not well formed is BAD_INSTR, whichever instruction the command stands for where its opcode is none
of R397. -/
theorem State.bargeStep_malformed {op : Nat} {f : State → State} (hr : s.runs 3 = true) (hst : s.bargeState n = 1)
    (hm : (s.barge n).moving = false) (hop : bits (s.bargeWord n (s.bargePc n) 0) 0 4 = op
      ∨ bits (s.bargeWord n (s.bargePc n) 0) 0 4 ∉ bargeOps)
    (hv : bargeValid (s.bargeWord n (s.bargePc n) 0) (s.bargeWord n (s.bargePc n) 1) (s.bargeWord n (s.bargePc n) 2)
      (s.bargeWord n (s.bargePc n) 3) = false) : s.bargeStep n op f = s.bargeError n 6 := by
  rcases hop with h | h <;> simp [State.bargeStep, hr, hst, hm, hv, h]

/-- LOOP pushes a level where one is free (R399). -/
theorem State.bargeLoop_pushes (h : s.get (BRG_CH_STAT_DEPTH n) < 4) :
    s.bargeLoop n =
      let d := s.get (BRG_CH_STAT_DEPTH n)
      let u := (s.put (BRG_CH_LOOP_START n d) (s.bargePc n)).put (BRG_CH_LOOP_IDX n d) 0
      (u.put (BRG_CH_STAT_DEPTH n) (d + 1)).bargeGo n (s.bargePc n + 1) := if_neg (Nat.not_le.2 h)

theorem State.bargeLoop_full (h : 4 ≤ s.get (BRG_CH_STAT_DEPTH n)) : s.bargeLoop n = s.bargeError n 6 := if_pos h

/-- ENDLOOP returns to its LOOP, or pops the level (R399). -/
theorem State.bargeEndloop_pushed (h : s.get (BRG_CH_STAT_DEPTH n) ≠ 0) :
    s.bargeEndloop n =
      let d := s.get (BRG_CH_STAT_DEPTH n) - 1
      let start := s.get (BRG_CH_LOOP_START n d)
      let count := bits (s.bargeWord n start 1) 0 24
      let i := s.get (BRG_CH_LOOP_IDX n d)
      if count = 0 ∨ i + 1 < count then (s.put (BRG_CH_LOOP_IDX n d) (i + 1)).bargeGo n (start + 1)
      else (s.put (BRG_CH_STAT_DEPTH n) d).bargeGo n (s.bargePc n + 1) := if_neg h

theorem State.bargeEndloop_empty (h : s.get (BRG_CH_STAT_DEPTH n) = 0) : s.bargeEndloop n = s.bargeError n 6 := if_pos h

/-- END ends the program outside every loop, with vector 244 where it asks (R399, R403). -/
theorem State.bargeEnd_outside (h : s.get (BRG_CH_STAT_DEPTH n) = 0) :
    s.bargeEnd n =
      let u := (s.setBarge n 3).updBarge n fun b => { b with stop := none }
      State.bargeDue (if (s.bargeWord n (s.bargePc n) 0).getLsbD 4 then u.raiseDetail 244 n else u) n := by
  rw [State.bargeEnd, if_neg (not_not_intro h), bits_one]
  cases (s.bargeWord n (s.bargePc n) 0).getLsbD 4 <;> rfl

theorem State.bargeEnd_inside (h : s.get (BRG_CH_STAT_DEPTH n) ≠ 0) : s.bargeEnd n = s.bargeError n 6 := if_pos h

end

section
variable {s : State} {n : Fin 32} (hr : s.runs 3 = true) (hst : s.bargeState n.val = 2)
include hr hst

/-- A channel in WAIT tests its condition (R402). -/
theorem exec_waitSatisfied_waiting (dt : Nat) : exec (.waitSatisfied n dt) s = s.done ((s.tick dt).testWait n) := by
  have hc : ((s.tick dt).runs 3 && decide ((s.tick dt).bargeState n.val = 2)) = true := by
    rw [State.runs_tick, hr, State.bargeState, State.get_tick]
    exact decide_eq_true hst
  exact congrArg s.done (if_pos hc)

/-- A channel in WAIT whose time has passed (R402). -/
theorem exec_waitTimeout_waiting (hw : s.get (BRG_CH_CFG_WAIT_MS n.val) ≠ 0) : exec (.waitTimeout n) s = s.done (s.waitExpires n) := by
  have hc : (s.runs 3 && decide (s.bargeState n.val = 2) && decide (s.get (BRG_CH_CFG_WAIT_MS n.val) ≠ 0)) = true := by
    simp [hr, hst, hw]
  exact congrArg s.done (if_pos hc)

end

/-- Settles O50: each instruction by its equation in the state a channel executes it. -/
theorem bargeControlInstructionsComplete : Obligations.BargeControlInstructionsComplete := by
  refine ⟨fun s n h => ?nop, fun s n h hd => ?loop, fun s n h hd => ?endloop, fun s n h hd => ?ends, fun s n h => ?wait,
    fun s n => ⟨fun h hd => ?full, fun h hd => ?empty, fun h hd => ?inside⟩, fun s n q hq => ?malformed,
    fun s n dt hr hst => ?satisfied, fun s n hr hst hw => ?expires⟩
  case nop => exact congrArg s.done (State.bargeStep_executes h)
  case loop => exact congrArg s.done ((State.bargeStep_executes h).trans (State.bargeLoop_pushes hd))
  case endloop => exact congrArg s.done ((State.bargeStep_executes h).trans (State.bargeEndloop_pushed hd))
  case ends => exact congrArg s.done ((State.bargeStep_executes h).trans (State.bargeEnd_outside hd))
  case wait => exact congrArg s.done (State.bargeStep_executes h)
  case full => exact congrArg s.done ((State.bargeStep_executes h).trans (State.bargeLoop_full hd))
  case empty => exact congrArg s.done ((State.bargeStep_executes h).trans (State.bargeEndloop_empty hd))
  case inside => exact congrArg s.done ((State.bargeStep_executes h).trans (State.bargeEnd_inside hd))
  case malformed =>
    intro w hr hst hm hop hv
    simp only [List.mem_cons, List.not_mem_nil, or_false] at hq
    rcases hq with rfl | rfl | rfl | rfl | rfl | rfl | rfl <;>
      exact congrArg s.done (State.bargeStep_malformed hr hst hm hop hv)
  case satisfied => exact exec_waitSatisfied_waiting hr hst dt
  case expires => exact exec_waitTimeout_waiting hr hst hw

/-! ## What a raise leaves of the outputs (R462) -/

section
variable {s : State} {o : Out} (ho : o ∈ s.outs)
include ho

theorem State.mem_outs_signalVector (v : Nat) : o ∈ (s.signalVector v).outs := by
  unfold State.signalVector State.sendMessage
  split
  case isTrue => exact ho
  case isFalse =>
    split
    case isTrue => exact ho
    case isFalse =>
      split
      case isTrue => exact ho
      case isFalse =>
        dsimp only
        split <;> exact List.mem_cons_of_mem _ ho

theorem State.mem_outs_raiseOne (v detail : Nat) (data page : Word) : o ∈ (s.raiseOne v detail data page).outs := by
  refine State.mem_outs_signalVector ?_ v
  rw [State.outs_putFlag]
  unfold State.appendLog
  dsimp only
  rw [State.outs_put]
  split <;> exact ho

theorem State.mem_outs_orDraw (w : Nat) (v : Option Nat) : o ∈ (s.orDraw w v).2.outs := by
  cases v <;> exact ho

/-- A raise brings out what it brings out beside what was brought out before. -/
theorem State.mem_outs_raiseWith (v : Nat) (detail data : Option Nat) (page : Word) : o ∈ (s.raiseWith v detail data page).outs := by
  have hone := State.mem_outs_raiseOne (State.mem_outs_orDraw (State.mem_outs_orDraw ho 16 detail) 32 data) v
  unfold State.raiseWith
  dsimp only
  split
  case isTrue => exact State.mem_outs_raiseOne (State.mem_outs_orDraw (hone _ _ page) 16 none) _ _ _ _
  case isFalse => exact hone _ _ page

end

/-! ## Going on in a program (R399, R404, R407) -/

section
variable {s : State} {n pc : Nat}

theorem State.get_updBarge (f : Barge → Barge) (g : Fld) : (s.updBarge n f).get g = s.get g := rfl

/-- An instruction of a channel that no hand-over and no halt waits for ends with the next one to execute. -/
theorem State.bargeGo_plain (hpc : pc ≤ 255) (hd : (s.barge n).due = none) (hs : (s.barge n).stop = none) :
    s.bargeGo n pc = ((s.put (BRG_CH_STAT_PC n) pc).setBarge n 1).updBarge n fun b => { b with due := none } := by
  have hdue : (((s.put (BRG_CH_STAT_PC n) pc).setBarge n 1).barge n).due = none := hd
  have hb : ((s.put (BRG_CH_STAT_PC n) pc).setBarge n 1).bargeDue n =
      ((s.put (BRG_CH_STAT_PC n) pc).setBarge n 1).updBarge n fun b => { b with due := none } := by
    rw [State.bargeDue, hdue]
  have hstop : ((((s.put (BRG_CH_STAT_PC n) pc).setBarge n 1).updBarge n fun b => { b with due := none }).barge n).stop = none := by
    rcases State.barge_updBarge ((s.put (BRG_CH_STAT_PC n) pc).setBarge n 1) n fun b => { b with due := none } with h | h <;>
      exact (congrArg Barge.stop h).trans hs
  rw [State.bargeGo, if_neg (Nat.not_lt.2 hpc), State.bargeBoundary, hb, hstop]

/-- The next instruction is then the one gone on to. -/
theorem State.bargePc_bargeGo (hpc : pc ≤ 255) (hd : (s.barge n).due = none) (hs : (s.barge n).stop = none) :
    (s.bargeGo n pc).bargePc n = pc := by
  rw [State.bargeGo_plain hpc hd hs]
  rw [State.bargePc, State.get_updBarge, State.get_setBarge_below 1 (by simp), State.get_put_same _ _ _ (by simp)]
  exact Nat.mod_eq_of_lt (show pc < 2 ^ 8 by omega)

/-- Going on brings out nothing. -/
theorem State.outs_bargeGo (hpc : pc ≤ 255) (hd : (s.barge n).due = none) (hs : (s.barge n).stop = none) :
    (s.bargeGo n pc).outs = s.outs := by
  rw [State.bargeGo_plain hpc hd hs]
  rfl

end

/-! ## MOVE and SIGNAL (R400, R401, R403, R405) -/

section
variable {s : State} {n : Fin 32}

/-- A MOVE whose addresses and length fit their targets begins (R401). -/
theorem State.bargeMove_aligned (h : ((s.moveOf n.val).source.aligned (s.moveOf n.val).src (s.moveOf n.val).len
    && (s.moveOf n.val).dest.aligned (s.moveOf n.val).dst (s.moveOf n.val).len) = true) :
    s.bargeMove n.val =
      let m := s.moveOf n.val
      let u := (s.put (BRG_CH_REMAIN_BYTES n.val) m.len).updBarge n.val fun b =>
        { b with moving := true, asks := (s.put (BRG_CH_REMAIN_BYTES n.val) m.len).moveRequests m }
      if m.srcChip then u else u.issueReads n.val (max 1 (min 64 (u.get (BRG_CH_CFG_OUTSTANDING n.val)))) := if_pos h

theorem State.bargeMove_misaligned (h : ((s.moveOf n.val).source.aligned (s.moveOf n.val).src (s.moveOf n.val).len
    && (s.moveOf n.val).dest.aligned (s.moveOf n.val).dst (s.moveOf n.val).len) = false) :
    s.bargeMove n.val = (s.put (BRG_CH_REMAIN_BYTES n.val) (s.moveOf n.val).len).moveError n.val 7 none 0 :=
  if_neg (Bool.eq_false_iff.1 h)

section
variable {f : Option Nat} (hr : s.runs 3 = true) (hst : s.bargeState n.val = 1) (hm : (s.barge n.val).moving = true)
  (hd : s.destReady (s.moveOf n.val) = true)
include hr hst hm hd

/-- A MOVE of which every beat passes (R401). -/
theorem State.moveEnds_passes (b : List Byte) (hf : s.firstFailure n (s.moveOf n.val) f = none)
    (hs : s.sourceReady (s.moveOf n.val) = true) : s.moveEnds n b f = s.movePasses n (s.moveOf n.val) b := by
  simp [State.moveEnds, hr, hst, hm, hd, hf, hs]

/-- A MOVE of which a beat fails (R405). -/
theorem State.moveEnds_fails (b : List Byte) {k cause : Nat} {side : Bool}
    (hf : s.firstFailure n (s.moveOf n.val) f = some (k, cause, side)) :
    s.moveEnds n b f = s.moveFails n (s.moveOf n.val) b k cause side := by
  simp [State.moveEnds, hr, hst, hm, hd, hf]

end

/-- A word lies in one beat (R401). -/
theorem beatsOf_word {a : Nat} (h : a % 4 = 0) : beatsOf a 4 = [(0, 4)] := by
  have hone : (a % 64 + 4 + 63) / 64 = 1 := by omega
  have hfirst : min (64 - a % 64) 4 = 4 := by omega
  simp [beatsOf, hone, hfirst]

/-- A SIGNAL to host memory is one write of its word. -/
theorem State.giveSignal_host {m : Move} {a : Nat} (hd : m.dest = .host a) (ha : a % 4 = 0) (v : Nat) :
    s.giveSignal n m (leBytes 4 v) = s.emit (.hostWrite a (leBytes 4 v)) := by
  have hl : (leBytes 4 v).length = 4 := rfl
  have ht : (leBytes 4 v).take 4 = leBytes 4 v := List.take_of_length_le hl.le
  rw [State.giveSignal, hd, if_neg (by simp [Target.island]), State.giveDest, hd]
  simp only [hl, Nat.add_zero, beatsOf_word ha, List.foldl_cons, List.foldl_nil, List.drop_zero, ht]

/-- What a change of a channel keeps of it. -/
theorem State.apply_barge_updBarge {α : Type} (s : State) (n : Nat) {f : Barge → Barge} (g : Barge → α) (hf : ∀ b, g (f b) = g b) :
    g ((s.updBarge n f).barge n) = g (s.barge n) := by
  rcases State.barge_updBarge s n f with h | h
  case inl => rw [h, hf]
  case inr => rw [h]

/-- The state a SIGNAL leaves that writes host memory, before its event. -/
def State.signalled (s : State) (n : Nat) (o : Out) : State :=
  ((s.updBarge n fun b => { b with moving := true }).emit o).updBarge n fun b => { b with moving := false }

theorem State.signalled_eq (s : State) (n : Nat) (o : Out) : s.signalled n o =
    ((s.updBarge n fun b => { b with moving := true }).emit o).updBarge n fun b => { b with moving := false } := rfl

theorem State.get_signalled (s : State) (n : Nat) (o : Out) (g : Fld) : (s.signalled n o).get g = s.get g := rfl

theorem State.due_signalled (s : State) (n : Nat) (o : Out) : ((s.signalled n o).barge n).due = (s.barge n).due :=
  Eq.trans (State.apply_barge_updBarge ((s.updBarge n fun b => { b with moving := true }).emit o) n
      (f := fun b => { b with moving := false }) Barge.due fun _ => rfl)
    (State.apply_barge_updBarge s n (f := fun b => { b with moving := true }) Barge.due fun _ => rfl)

theorem State.stop_signalled (s : State) (n : Nat) (o : Out) : ((s.signalled n o).barge n).stop = (s.barge n).stop :=
  Eq.trans (State.apply_barge_updBarge ((s.updBarge n fun b => { b with moving := true }).emit o) n
      (f := fun b => { b with moving := false }) Barge.stop fun _ => rfl)
    (State.apply_barge_updBarge s n (f := fun b => { b with moving := true }) Barge.stop fun _ => rfl)

/-- The write of the SIGNAL at the PC, to host memory and without a loop step (R400, R403). -/
def State.signalOut (s : State) (n : Nat) : Out :=
  let w := s.bargeWord n (s.bargePc n)
  .hostWrite (s.get (BRG_CH_HOST_HI_ADDR n) * 2 ^ 48 + bits (w 2) 0 16 * 2 ^ 32 + (w 1).toNat) (leBytes 4 (w 3).toNat)

/-- Vector 245, where the SIGNAL asks for it (R403). -/
def State.signalEvent (s : State) (n : Nat) (asks : Bool) (v : Word) : State :=
  if asks then s.raiseWith 245 (some n) (some v.toNat) 0 else s

theorem State.signalEvent_eq (s : State) (n : Nat) (asks : Bool) (v : Word) : s.signalEvent n asks v =
    if asks then s.raiseWith 245 (some n) (some v.toNat) 0 else s := rfl

section
variable (asks : Bool) (v : Word)

theorem State.brg_signalEvent : (s.signalEvent n.val asks v).brg = s.brg := by
  unfold State.signalEvent
  split
  case isTrue => exact State.brg_raiseWith ..
  case isFalse => rfl

theorem State.get_chStat_signalEvent (lo w : Nat) :
    (s.signalEvent n.val asks v).get ⟨BRG_CH_STAT n.val, lo, w⟩ = s.get ⟨BRG_CH_STAT n.val, lo, w⟩ := by
  have hout : outsideEvt (BRG_CH_STAT n.val) := .inr (by simp only [BRG_CH_STAT]; omega)
  unfold State.signalEvent
  split
  case isTrue => simp only [State.get, State.reg_raiseWith s _ _ _ (by decide : 245 < 256) hout]
  case isFalse => rfl

theorem State.mem_outs_signalEvent {o : Out} (ho : o ∈ s.outs) : o ∈ (s.signalEvent n.val asks v).outs := by
  unfold State.signalEvent
  split
  case isTrue => exact State.mem_outs_raiseWith ho ..
  case isFalse => exact ho

end

/-- A SIGNAL to host memory writes its word, raises vector 245 where it asks, and goes on (R403). -/
theorem State.bargeSignal_host (hst : s.bargeState n.val = 1) (hchip : (s.bargeWord n.val (s.bargePc n.val) 0).getLsbD 4 = false)
    (hidx : (s.bargeWord n.val (s.bargePc n.val) 0).getLsbD 6 = false) (hal : bits (s.bargeWord n.val (s.bargePc n.val) 1) 0 2 = 0) :
    s.bargeSignal n =
      ((s.signalled n.val (s.signalOut n.val)).signalEvent n.val ((s.bargeWord n.val (s.bargePc n.val) 0).getLsbD 5)
        (s.bargeWord n.val (s.bargePc n.val) 3)).bargeGo n.val (s.bargePc n.val + 1) := by
  have hlow : (s.bargeWord n.val (s.bargePc n.val) 1).toNat % 4 = 0 := by simpa [bits] using hal
  have haddr : ∀ x, ((s.bargeWord n.val (s.bargePc n.val) 1).toNat + x * 2 ^ 32) % 4 = 0 := by omega
  have hpc : ∀ (o : Out) (v : Word), ((s.signalled n.val o).signalEvent n.val ((s.bargeWord n.val (s.bargePc n.val) 0).getLsbD 5)
      v).bargePc n.val = s.bargePc n.val := fun o v =>
    (State.get_chStat_signalEvent ..).trans (State.get_signalled s n.val o (BRG_CH_STAT_PC n.val))
  have hstate : ∀ o, (s.signalled n.val o).bargeState n.val = 1 := fun o =>
    (State.get_signalled s n.val o (BRG_CH_STAT_STATE n.val)).trans hst
  simp only [State.bargeSignal, hchip, hidx, targetOf, Bool.not_false, if_true, Bool.false_eq_true, if_false, State.targetFails,
    haddr, ne_eq, not_true_eq_false]
  rw [State.giveSignal_host rfl (by omega)]
  simp only [← State.signalled_eq, ← State.signalEvent_eq, hstate, hpc, not_true_eq_false, if_false]
  simp only [BitVec.ofNat_eq_ofNat, BitVec.add_zero, State.signalOut, Nat.add_assoc, Nat.add_comm]

end

/-- Settles O51: each instruction by its equation; a SIGNAL to host memory by what its write, its event and its end leave. -/
theorem bargeDataInstructionsComplete : Obligations.BargeDataInstructionsComplete := by
  refine ⟨fun s n h ha => ?begins, fun s n h ha => ?misaligned, fun s n b h hr hst hm hf hs hd => ?passes,
    fun s n b h k cause side hr hst hm hf hd => ?fails, fun s n h => ?signal, ?host⟩
  case begins => exact congrArg s.done ((State.bargeStep_executes h).trans (State.bargeMove_aligned ha))
  case misaligned => exact congrArg s.done ((State.bargeStep_executes h).trans (State.bargeMove_misaligned ha))
  case passes => exact congrArg s.done (State.moveEnds_passes hr hst hm hd b hf hs)
  case fails => exact congrArg s.done (State.moveEnds_fails hr hst hm hd b hf)
  case signal => exact congrArg s.done (State.bargeStep_executes h)
  case host =>
    intro s n w h hchip hidx hal hpc hdue hstop
    obtain ⟨-, hst, -⟩ := id h
    refine completes_of_done (congrArg s.done ((State.bargeStep_executes h).trans (State.bargeSignal_host hst hchip hidx hal))) ?_
    have hbrg := State.brg_signalEvent (s := s.signalled n.val (s.signalOut n.val)) (n := n) ((w 0).getLsbD 5) (w 3)
    have hd := (congrArg (fun b : Brg => (b.channels.getD n.val ⟨false, none, none, 0, []⟩).due) hbrg).trans
      ((State.due_signalled s n.val _).trans hdue)
    have hs := (congrArg (fun b : Brg => (b.channels.getD n.val ⟨false, none, none, 0, []⟩).stop) hbrg).trans
      ((State.stop_signalled s n.val _).trans hstop)
    constructor
    case left =>
      refine State.outs_gate _ _ ?_
      rw [State.outs_bargeGo hpc hd hs]
      exact State.mem_outs_signalEvent _ _ (List.mem_cons_self ..)
    case right =>
      rw [State.bargePc, State.chStat_afterGate]
      exact State.bargePc_bargeGo hpc hd hs

end Sys2Proof.Machine
end

section
/-! Network time (R409 to R428). -/

namespace Sys2Proof.Machine

open Sys2Proof

/-! ## Masters, links and the servo beside a port's own state (R411, R418, R431) -/

/-- A change of a port is seen there, where the block has that port. -/
theorem State.tport_updTport (s : State) (p : Nat) (f : TimPort → TimPort) :
    (s.updTport p f).tport p = f (s.tport p) ∨ (s.updTport p f).tport p = TimPort.reset := by
  rcases Nat.lt_or_ge p s.tim.ports.length with h | h <;> simp [State.tport, State.updTport, h]

section
variable {s : State} {a : Nat}

theorem State.reg_setFreq (hf : a ≠ TIM_FREQ) (f : Int) : (s.setFreq f).reg a = s.reg a := by
  unfold State.setFreq
  exact State.reg_put_other _ _ _ hf

/-- The servo's state and rate are written to TIM_STAT and TIM_FREQ alone. -/
theorem State.reg_setServo (hf : a ≠ TIM_FREQ) (hs : a ≠ TIM_STAT) (ha : outsideEvt a) (st : Nat) :
    (s.setServo st).reg a = s.reg a := by
  unfold State.setServo
  dsimp only
  split
  case isTrue => rfl
  case isFalse =>
    rw [State.reg_raise _ _ (by decide) ha, State.reg_put_other _ _ _ hs]
    split
    case isTrue => exact State.reg_setFreq hf _
    case isFalse => rfl

theorem State.reg_syncTimStat (hs : a ≠ TIM_STAT) : s.syncTimStat.reg a = s.reg a :=
  (State.reg_put_other _ _ _ hs).trans (State.reg_putFlag_other _ _ _ hs)

theorem State.reg_syncServo (hf : a ≠ TIM_FREQ) (hs : a ≠ TIM_STAT) (ha : outsideEvt a) : s.syncServo.reg a = s.reg a := by
  unfold State.syncServo
  dsimp only
  have hset : ∀ st, (s.syncTimStat.setServo st).reg a = s.reg a := fun st =>
    (State.reg_setServo hf hs ha st).trans (State.reg_syncTimStat hs)
  split
  case isTrue => exact State.reg_syncTimStat hs
  case isFalse =>
    split
    case isTrue => exact hset 3
    case isFalse =>
      split
      case isTrue => exact hset 4
      case isFalse =>
        split
        case isTrue => exact hset 1
        case isFalse => exact State.reg_syncTimStat hs

end

/-- The servo leaves the ports. -/
theorem State.ports_setServo (s : State) (st : Nat) : (s.setServo st).tim.ports = s.tim.ports := by
  unfold State.setServo
  dsimp only
  split
  case isTrue => rfl
  case isFalse =>
    rw [State.tim_raise]
    split <;> rfl

theorem State.ports_syncServo (s : State) : s.syncServo.tim.ports = s.tim.ports := by
  have hset : ∀ st, (s.syncTimStat.setServo st).tim.ports = s.tim.ports := fun st => State.ports_setServo _ st
  unfold State.syncServo
  dsimp only
  split
  case isTrue => rfl
  case isFalse =>
    split
    case isTrue => exact hset 3
    case isFalse =>
      split
      case isTrue => exact hset 4
      case isFalse =>
        split
        case isTrue => exact hset 1
        case isFalse => rfl

/-- The PORT_STATE that a port shows (R431). -/
def State.portCode (s : State) (p : Nat) (fresh : Bool) : Nat :=
  if !s.clockPort p || !s.flag (TIM_P_CFG_EN p) then 3
  else if !s.flag (TIM_P_STAT_LINK p) then 2
  else if (s.tport p).best.isNone then 4
  else if s.get (TIM_P_STAT_PORT_STATE p) = 9 && !fresh then 9 else 8

theorem State.showPort_eq (s : State) (p : Nat) (fresh : Bool) :
    s.showPort p fresh =
      let u := s.putFlag (TIM_P_STAT_GM_VALID p) (s.tport p).best.isSome
      if s.get (TIM_P_STAT_PORT_STATE p) = s.portCode p fresh then u
      else (u.put (TIM_P_STAT_PORT_STATE p) (s.portCode p fresh)).raise 237 := rfl

/-- PORT_STATE and GM_VALID are shown, and nothing beside the registers of the block changes. -/
theorem State.tim_showPort (s : State) (p : Nat) (fresh : Bool) : (s.showPort p fresh).tim = s.tim := by
  rw [State.showPort_eq]
  dsimp only
  split
  case isTrue => rfl
  case isFalse => exact State.tim_raise _ _ _

/-- The flags of TIM_P_STAT that no message writes are read as before where a port's state is shown. -/
theorem State.flag_link_showPort (s : State) (p : Nat) (fresh : Bool) :
    (s.showPort p fresh).flag (TIM_P_STAT_LINK p) = s.flag (TIM_P_STAT_LINK p) := by
  have hgm : (s.putFlag (TIM_P_STAT_GM_VALID p) (s.tport p).best.isSome).flag (TIM_P_STAT_LINK p) = s.flag (TIM_P_STAT_LINK p) :=
    State.flag_putFlag_other _ _ _ _ (by simp) (by simp [Fld.apart])
  rw [State.showPort_eq]
  dsimp only
  split
  case isTrue => exact hgm
  case isFalse =>
    rw [State.flag_raise _ _ _ (by decide) (.inr (by simp only [TIM_P_STAT]; omega)), State.flag,
      State.get_put_other _ _ _ _ (by simp) (by simp [Fld.apart])]
    exact hgm

theorem State.flag_link_syncServo (s : State) (p : Nat) : s.syncServo.flag (TIM_P_STAT_LINK p) = s.flag (TIM_P_STAT_LINK p) := by
  have hreg : s.syncServo.reg (TIM_P_STAT p) = s.reg (TIM_P_STAT p) :=
    State.reg_syncServo (by simp only [TIM_P_STAT, TIM_FREQ]; omega) (by simp only [TIM_P_STAT, TIM_STAT]; omega)
      (.inr (by simp only [TIM_P_STAT]; omega))
  rw [State.flag, State.get, hreg]
  rfl

/-! ## A link that changes (R409, R418, R431) -/

/-- A port with no masters: it had one, or it had none. -/
theorem State.setMasters_nil (s : State) (p : Nat) :
    s.setMasters p [] =
      let fresh := decide (none ≠ (s.tport p).best.map fun (a : AnnounceSet) => a.sender)
      let u := s.updTport p fun q => { q with masters := [], best := none }
      let v := if fresh then
          (u.updTport p fun q => { q with path := false, series := [], last := none, sync := none, request := none }).putFlag
            (TIM_P_STAT_PATH_CHANGE p) false
        else u
      (v.showPort p fresh).syncServo := rfl

theorem State.tport_syncServo (s : State) (p : Nat) : s.syncServo.tport p = s.tport p := by
  rw [State.tport, State.ports_syncServo, State.tport]

theorem State.tport_showPort (s : State) (p : Nat) (fresh : Bool) (q : Nat) : (s.showPort p fresh).tport q = s.tport q := by
  rw [State.tport, State.tim_showPort, State.tport]

/-- A port without masters follows none. -/
def TimPort.Idle (q : TimPort) : Prop := q.masters = [] ∧ q.best = none

theorem State.idle_updTport {s : State} {p : Nat} {f : TimPort → TimPort} (hf : ∀ q, q.Idle → (f q).Idle) (h : (s.tport p).Idle) :
    ((s.updTport p f).tport p).Idle := by
  rcases State.tport_updTport s p f with k | k
  case inl => rw [k]; exact hf _ h
  case inr => rw [k]; exact ⟨rfl, rfl⟩

theorem State.idle_setMasters_nil (s : State) (p : Nat) : ((s.setMasters p []).tport p).Idle := by
  have hu : ((s.updTport p fun q => { q with masters := [], best := none }).tport p).Idle := by
    rcases State.tport_updTport s p fun q => { q with masters := [], best := none } with k | k <;> rw [k] <;> exact ⟨rfl, rfl⟩
  rw [State.setMasters_nil]
  dsimp only
  rw [State.tport_syncServo, State.tport_showPort]
  split
  case isTrue => exact State.idle_updTport (fun q h => h) hu
  case isFalse => exact hu

theorem State.flag_updTport (s : State) (p : Nat) (f : TimPort → TimPort) (g : Fld) : (s.updTport p f).flag g = s.flag g := rfl

theorem State.flag_link_setMasters_nil (s : State) (p : Nat) :
    (s.setMasters p []).flag (TIM_P_STAT_LINK p) = s.flag (TIM_P_STAT_LINK p) := by
  rw [State.setMasters_nil]
  dsimp only
  rw [State.flag_link_syncServo, State.flag_link_showPort]
  split
  case isTrue =>
    rw [State.flag_putFlag_other _ _ _ _ (by simp) (by simp [Fld.apart]), State.flag_updTport, State.flag_updTport]
  case isFalse => rw [State.flag_updTport]

/-- The port whose link has changed, before its masters are gone (R409). -/
def State.relinked (s : State) (p : Nat) (up : Bool) : State :=
  ((s.putFlag (TIM_P_STAT_LINK p) up).updTport p fun q =>
    { q with path := false, series := [], sync := none, request := none, dwells := [] }).putFlag (TIM_P_STAT_PATH_CHANGE p) false

/-- A link that changes: its port has no masters, and vector 237 is raised once (R418, R431). -/
theorem State.linkChange_changes {s : State} {p : Nat} {up : Bool} (hr : s.runs 11 = true) (hne : s.flag (TIM_P_STAT_LINK p) ≠ up) :
    s.linkChange p up =
      let v := (s.relinked p up).setMasters p []
      if v.get (TIM_P_STAT_PORT_STATE p) = s.get (TIM_P_STAT_PORT_STATE p) then v.raise 237 else v := by
  rw [State.linkChange, hr, decide_eq_false hne]
  rfl

theorem State.flag_link_relinked (s : State) (p : Nat) (up : Bool) : (s.relinked p up).flag (TIM_P_STAT_LINK p) = up := by
  rw [State.relinked, State.flag_putFlag_other _ _ _ _ (by simp) (by simp [Fld.apart]), State.flag_updTport]
  exact State.flag_putFlag_same _ _ _ rfl (by simp)

/-- What a link that changes leaves to see. -/
theorem State.linkChange_shows {s : State} {p : Nat} {up : Bool} (hr : s.runs 11 = true) (hne : s.flag (TIM_P_STAT_LINK p) ≠ up) :
    (s.linkChange p up).flag (TIM_P_STAT_LINK p) = up ∧ ((s.linkChange p up).tport p).Idle := by
  have hflag := (State.flag_link_setMasters_nil (s.relinked p up) p).trans (State.flag_link_relinked s p up)
  have hidle := State.idle_setMasters_nil (s.relinked p up) p
  rw [State.linkChange_changes hr hne]
  dsimp only
  split
  case isTrue =>
    rw [State.flag_raise _ _ _ (by decide) (.inr (by simp only [TIM_P_STAT]; omega)), State.tport, State.tim_raise]
    exact ⟨hflag, hidle⟩
  case isFalse => exact ⟨hflag, hidle⟩

/-! ## Messages taken (R411, R413, R414, R424) -/

section
variable {s : State} {p : Nat} {h : PtpHead} (hh : s.hears p h = true)
include hh

/-- An Announce joins the masters of the port under its sender (R411). -/
theorem State.announced_hears (hc : s.clockPort p = true) (a : AnnounceSet) (k : Int) :
    s.announced p h a k =
      let u := s.updTport p fun q => { q with heard := (h.sender, s.cycle, secondsLog k) :: q.heard.filter fun x => x.1 ≠ h.sender }
      u.setMasters p ((u.tport p).masters.filter (fun (c : AnnounceSet) => c.sender ≠ h.sender) ++ [{ a with sender := h.sender }]) := by
  rw [State.announced, hh, hc]
  rfl

section
variable {tx : Int} (ht : (s.tport p).request = some (h.seq, tx))
include ht

/-- The answer of the peer to the latest request (R413, R424). -/
theorem State.delayResp_peer (hp : s.flag (TIM_P_CFG_P2P p) = true) (remote k : Int) :
    s.delayResp p h remote k =
      (((s.rxStamp p).2.updTport p fun q => { q with request := none }).newDelay p (roundDiv ((s.rxStamp p).1 - tx - remote) 8192)) := by
  simp [State.delayResp, hh, ht, hp]

/-- The answer of the master to the latest request (R413, R424). -/
theorem State.delayResp_master {t1 t2 : Int} (hp : s.flag (TIM_P_CFG_P2P p) = false) (hs : (s.tport p).sync = some (t1, t2))
    (hc : s.clockPort p = true) (hb : s.fromBest p h = true) (remote k : Int) :
    s.delayResp p h remote k =
      ((s.updTport p fun q => { q with request := none, period := secondsLog k }).newDelay p
        (roundDiv (t2 - tx + remote - t1) 8192)) := by
  simp [State.delayResp, hh, ht, hp, hs, hc, hb]

end

/-- The state with the two stamps of a Sync kept (R413). -/
def State.syncStamped (s : State) (p : Nat) (sent : Int) : State :=
  let r := (s.incWrap (TIM_P_STAT_SYNC_RX p)).rxStamp p
  r.2.updTport p fun q => { q with sync := some (sent, r.1) }

/-- Master and chip apart at a Sync, in 2^-16 ns (R414). -/
def State.syncOffset (s : State) (p : Nat) (sent : Int) : Int :=
  let u := s.syncStamped p sent
  sent + u.getInt (TIM_P_MPD_DELAY p) * 4096 + u.getInt (TIM_P_ASYM_DELAY_ASYM p) * 4096
    - ((s.incWrap (TIM_P_STAT_SYNC_RX p)).rxStamp p).1

/-- The sample of a Sync shown at its port, and kept as the port's latest (R414). -/
def State.syncSampled (s : State) (p : Nat) (sent : Int) : State :=
  let c := s.syncOffset p sent
  let v := (s.syncStamped p sent).put (TIM_P_OFFSET_NS p) (satWord (roundDiv c 65536))
  v.updTport p fun q => { q with last := some (c, v.cycle) }

section
variable {k : Int} (hc : s.clockPort p = true) (hb : s.fromBest p h = true) (hlo : -7 ≤ k) (hhi : k ≤ 4) (sent : Int)
include hc hb hlo hhi

/-- A Sync of the best master (R413, R414). -/
theorem State.syncSample_taken :
    s.syncSample p h sent k =
      if !((s.syncStamped p sent).tport p).path then s.syncStamped p sent
      else
        let w := s.syncSampled p sent
        let x := if w.get (TIM_P_STAT_PORT_STATE p) = 9 then w else (w.put (TIM_P_STAT_PORT_STATE p) 9).raise 237
        if p ≠ x.servoPort then x
        else ((x.put TIM_OFFSET_NS (satWord (roundDiv (s.syncOffset p sent) 65536))).pairSample (s.syncOffset p sent)).judgeSample
          (s.syncOffset p sent) k := by
  have hguard : (!s.hears p h || !s.clockPort p || !s.fromBest p h || decide (k < -7) || decide (4 < k)) = false := by
    rw [hh, hc, hb, decide_eq_false (by omega), decide_eq_false (by omega)]
    rfl
  rw [State.syncSample, hguard]
  rfl

theorem State.syncSample_noPath (hp : ((s.syncStamped p sent).tport p).path = false) :
    s.syncSample p h sent k = s.syncStamped p sent := by
  rw [State.syncSample_taken hh hc hb hlo hhi, hp]
  rfl

section
variable (hp : ((s.syncStamped p sent).tport p).path = true) (hw : (s.syncSampled p sent).get (TIM_P_STAT_PORT_STATE p) = 9)
include hp hw

theorem State.syncSample_servo (hv : p = (s.syncSampled p sent).servoPort) :
    s.syncSample p h sent k =
      (((s.syncSampled p sent).put TIM_OFFSET_NS (satWord (roundDiv (s.syncOffset p sent) 65536))).pairSample (s.syncOffset p sent)).judgeSample
        (s.syncOffset p sent) k := by
  rw [State.syncSample_taken hh hc hb hlo hhi, hp]
  dsimp only
  rw [Bool.not_true, if_neg Bool.false_ne_true, if_pos hw, if_neg (not_not_intro hv)]

theorem State.syncSample_other (hv : p ≠ (s.syncSampled p sent).servoPort) : s.syncSample p h sent k = s.syncSampled p sent := by
  rw [State.syncSample_taken hh hc hb hlo hhi, hp]
  dsimp only
  rw [Bool.not_true, if_neg Bool.false_ne_true, if_pos hw, if_pos hv]

end

end

end

/-- Three intervals after the best master's latest Announce, every master whose time has passed is gone (R411). -/
theorem State.announceLost_best {s : State} {p : Nat} {a : AnnounceSet} (hr : s.runs 11 = true) (hb : (s.tport p).best = some a) :
    s.announceLost p =
      let u := s.tickTo ((s.tport p).deadline a.sender)
      u.setMasters p ((u.tport p).masters.filter fun (b : AnnounceSet) =>
        decide (b.sender ≠ a.sender) && decide (u.cycle < (u.tport p).deadline b.sender)) := by
  rw [State.announceLost, hb, hr]
  rfl

/-- Settles O52: each message by its equation, and a link that changes by what its writes leave. -/
theorem timeMessagesComplete : Obligations.TimeMessagesComplete := by
  refine ⟨fun s p h a k dt hh hc => ?announce, fun s p a hr hb => congrArg s.done (State.announceLost_best hr hb),
    fun s p h remote k tx dt hh ht hp => ?peer, fun s p h remote k tx t1 t2 dt hh ht hp hs hc hb => ?master,
    fun s p h sent k dt hh hc hb hlo hhi => ⟨fun hp => ?noPath, fun hp hw hv => ?servo, fun hp hw hv => ?other⟩,
    fun s p up hr hne => ?link⟩
  case announce =>
    have hcycle : s.cycle + dt = (s.tick dt).cycle := (State.cycle_tick s dt).symm
    rw [hcycle]
    exact congrArg s.done (State.announced_hears hh hc a k)
  case peer => exact congrArg s.done (State.delayResp_peer hh ht ((State.flag_tick s dt _).trans hp) remote k)
  case master => exact congrArg s.done (State.delayResp_master hh ht ((State.flag_tick s dt _).trans hp) hs hc hb remote k)
  case noPath => exact congrArg s.done (State.syncSample_noPath hh hc hb hlo hhi sent hp)
  case servo => exact congrArg s.done (State.syncSample_servo hh hc hb hlo hhi sent hp hw hv)
  case other => exact congrArg s.done (State.syncSample_other hh hc hb hlo hhi sent hp hw hv)
  case link =>
    obtain ⟨hflag, hmasters, hbest⟩ := State.linkChange_shows hr hne
    refine completes_of_done (s := s) rfl ⟨?_, ?_, ?_⟩
    · rw [State.flag_afterGate _ _ _ (by simp only [TIM_P_STAT, SAF_STAT]; omega)]
      exact hflag
    · exact (congrArg (fun t : Tim => (t.ports.getD p.val TimPort.reset).masters) (State.tim_gateOutputs _)).trans hmasters
    · exact (congrArg (fun t : Tim => (t.ports.getD p.val TimPort.reset).best) (State.tim_gateOutputs _)).trans hbest

/-! ## Messages answered and forwarded (R410, R411, R427, R428) -/

/-- A peer's request is answered in the peer-to-peer profile (R411). -/
theorem State.pdelayReq_peer {s : State} {p : Nat} {h : PtpHead} (hh : s.hears p h = true) (hp : s.peerPort p = true) (c : Int)
    (dt : Nat) :
    s.pdelayReq p h c dt =
      let a := s.rxStamp p
      let b := (a.2.tick dt).txStamp p
      b.2.emit (.ethernet p (s.vlanTag p) 1
        [h.transport.val, h.domain.toNat, h.seq.toNat, h.sender.toNat, unsigned 64 (c + b.1 - a.1)]) :=
  if_pos (by rw [hh, hp]; rfl)

section
variable {s : State} {p : Nat} (hr : s.runs 11 = true) (hup : s.portUp p = true)
include hr hup

/-- A request goes to the peer of a port that has one (R411). -/
theorem State.delayReqSend_peer (hp : s.peerPort p = true) :
    s.delayReqSend p = (s.every (.asked p) (s.tport p).period).sendRequest p 3 := by
  simp [State.delayReqSend, hr, hup, hp]

/-- A request goes to the master that an end-to-end port hears (R411). -/
theorem State.delayReqSend_master (hp : s.peerPort p = false) (he : s.flag (TIM_P_CFG_P2P p) = false) (hc : s.clockPort p = true)
    (hb : (s.tport p).best.isSome = true) :
    s.delayReqSend p = (s.every (.asked p) (s.tport p).period).sendRequest p 2 := by
  simp [State.delayReqSend, hr, hup, hp, he, hc, hb]

/-- An address query for the address a port has (R410). -/
theorem State.addressQuery_mine {vlan : Option (BitVec 12)} (hv : s.vlanOk p vlan = true) {mine asked : Nat} (ha : asked = mine)
    (sender : BitVec 48) (kind : Nat) :
    s.addressQuery p vlan sender mine asked kind = s.emit (.ethernet p (s.vlanTag p) kind [sender.toNat, asked, s.mac p]) :=
  if_pos (by rw [hr, hup, hv, decide_eq_true ha]; rfl)

/-- A message that the transparent clock forwards (R427). -/
theorem State.forward_passes {h : PtpHead} {kind : PtpKind} (hm : s.get TIM_CTL_MODE = 3) (huq : s.portUp (1 - p) = true)
    (hv : s.vlanOk p h.vlan = true) (hk : (kindPeer kind && s.flag (TIM_P_CFG_P2P p)) = false) (c : Int) (dt : Nat) :
    s.forward p h kind c dt =
      let q := 1 - p
      let a := s.rxStamp p
      let b := (a.2.tick (min dt 8000)).txStamp q
      let t := s.residence h (b.1 - a.1)
      let r := b.2.dwellOf p h kind t
      let w := r.2.incWrap (TIM_P_RES_FWD q)
      let mpd := if kindPath kind && s.flag (TIM_P_CFG_P2P p) then s.getInt (TIM_P_MPD_DELAY p) * 4096 else 0
      let x := if kindEvent kind then
          w.put (TIM_P_RES_RES_MAX q) (max (w.get (TIM_P_RES_RES_MAX q)) (min 65535 (t / 65536).toNat)) else w
      x.emit (.ethernet q (x.vlanTag q) 0
        [h.transport.val, h.domain.toNat, h.seq.toNat, h.sender.toNat, unsigned 64 (c + r.1 + mpd)]) := by
  have hguard : (!s.runs 11 || decide (s.get TIM_CTL_MODE ≠ 3) || !s.portUp p || !s.portUp (1 - p) || !s.vlanOk p h.vlan
      || (kindPeer kind && s.flag (TIM_P_CFG_P2P p))) = false := by
    rw [hr, hup, huq, hv, hk, decide_eq_false (not_not_intro hm)]
    rfl
  exact if_neg (Bool.eq_false_iff.1 hguard)

end

/-- A conversion within its window gives the time-stamp of its cycle (R428). -/
theorem State.convert_valid {s : State} (h : s.tim.since ≤ s.getPair TIM_CONV_LO TIM_CONV_HI)
    (hb : s.cycle ≤ s.getPair TIM_CONV_LO TIM_CONV_HI + 2 ^ 30) (hf : s.getPair TIM_CONV_LO TIM_CONV_HI ≤ s.cycle + 2 ^ 20) :
    s.convert = s.putStamp TIM_CONV_0 (stampOf (clockAt s.tim.history (s.getPair TIM_CONV_LO TIM_CONV_HI)) s.tim.epoch) true :=
  if_pos (by rw [decide_eq_true h, decide_eq_true hb, decide_eq_true hf]; rfl)

/-- A write of TIM_CONV_HI starts a conversion, and nothing of the ports changes. -/
theorem State.writeTim_conv (s : State) (v : Word) : s.writeTim [(TIM_CONV_HI, v)] = (s.writeWord TIM_CONV_HI v).convert := by
  have hports : ([(TIM_CONV_HI, v)].any fun x : Nat × Word =>
      decide (x.1 = TIM_CTL) || decide (x.1 = TIM_P_CFG 0) || decide (x.1 = TIM_P_CFG 1)) = false := by
    simp [TIM_CONV_HI, TIM_P_CFG]
  rw [State.writeTim]
  dsimp only
  rw [hports, List.foldl_cons, List.foldl_nil, if_pos rfl, if_neg Bool.false_ne_true]

/-- Settles O53: each answer by its equation. -/
theorem timeAnswersComplete : Obligations.TimeAnswersComplete := by
  refine ⟨fun s p h c dt hh hp => congrArg s.done (State.pdelayReq_peer hh hp c dt), fun s p hr hup hk => ?request,
    fun s p h kind c dt hr hm hup huq hv hk => ⟨fun he => ?general, fun he => ?event⟩,
    fun s p vlan sender target hr hup hv ht => congrArg s.done (State.addressQuery_mine hr hup hv ht sender 4),
    fun s p vlan sender a hr hup hv ha => congrArg s.done (State.addressQuery_mine hr hup hv ha sender 5),
    fun s by_ v hl hs hb hf => ?convert⟩
  case request =>
    rcases Bool.eq_false_or_eq_true (s.peerPort p.val) with hp | hp
    case inl =>
      rw [if_pos hp]
      exact congrArg s.done (State.delayReqSend_peer hr hup hp)
    case inr =>
      obtain ⟨he, hc, hb⟩ := hk.resolve_left (Bool.eq_false_iff.1 hp)
      rw [if_neg (Bool.eq_false_iff.1 hp)]
      exact congrArg s.done (State.delayReqSend_master hr hup hp he hc hb)
  case general =>
    refine congrArg s.done ((State.forward_passes hr hup hm huq hv hk c dt).trans ?_)
    dsimp only
    rw [if_neg (Bool.eq_false_iff.1 he)]
  case event =>
    refine congrArg s.done ((State.forward_passes hr hup hm huq hv hk c dt).trans ?_)
    dsimp only
    rw [if_pos he]
  case convert =>
    exact congrArg s.done ((State.hostWrite_lands hl _).trans ((State.writeTim_conv s v).trans (State.convert_valid hs hb hf)))

end Sys2Proof.Machine
end

section
/-! Functional safety (R434 to R451). -/

namespace Sys2Proof.Machine

open Sys2Proof

/-! ## Filtered levels and proof tests in progress (R441, R451) -/

/-- A proof test that is not the first in progress does not run. -/
theorem State.proofRuns_of_head_ne {s : State} {t : Nat} (h : s.saf.proof.head? ≠ some t) : s.proofRuns t = false := decide_eq_false h

/-- The inputs are shown in SAF_IN alone. -/
theorem State.get_syncIn (s : State) (f : Fld) (h : f.addr ≠ SAF_IN) : s.syncIn.get f = s.get f := by
  have hreg : s.syncIn.reg f.addr = s.reg f.addr := by
    rw [State.syncIn, State.reg_putFlag_other _ _ _ h, State.reg_putFlag_other _ _ _ h, State.reg_putFlag_other _ _ _ h,
      State.reg_putFlag_other _ _ _ h]
  simp only [State.get, hreg]

section
variable (s : State) (i : Nat) (high : Bool)

theorem State.get_setEstop (f : Fld) (h : f.addr ≠ SAF_IN) : (s.setEstop i high).get f = s.get f := by
  unfold State.setEstop
  dsimp only
  rw [State.get_syncIn _ _ h]
  split <;> split <;> rfl

theorem State.flag_setEstop (f : Fld) (h : f.addr ≠ SAF_IN) : (s.setEstop i high).flag f = s.flag f := by
  rw [State.flag, State.get_setEstop _ _ _ _ h]
  rfl

theorem State.proof_setEstop : (s.setEstop i high).saf.proof = s.saf.proof := by
  unfold State.setEstop State.syncIn
  dsimp only
  simp only [State.saf_putFlag]
  split <;> split <;> rfl

theorem State.bothLow_setEstop : (s.setEstop i high).saf.bothLow = s.saf.bothLow := by
  unfold State.setEstop State.syncIn
  dsimp only
  simp only [State.saf_putFlag]
  split <;> split <;> rfl

end

/-! ## Emergency stop (R441, R442) -/

section
variable {s : State} {i : Nat}

/-- A filtered low input outside proof test 2 is a condition of source 2 (R441). -/
theorem State.estopDemand_condition (hok : (if i = 0 then s.saf.okA else s.saf.okB) = true) (hm : s.modeCode ≠ 0)
    (hp : s.saf.proof.head? ≠ some 2) (hd : s.flag SAF_FAULT_ESTOP_DISC = false) :
    s.estopDemand i = ((s.setEstop i false).estopEvent).condition 2 0 0 := by
  have hdisc : (s.setEstop i false).flag SAF_FAULT_ESTOP_DISC = false := (State.flag_setEstop _ _ _ _ (by decide)).trans hd
  have hmode : (s.setEstop i false).modeCode ≠ 0 := by
    rw [State.modeCode, State.get_setEstop _ _ _ _ (by decide)]
    exact hm
  have hrun : (s.setEstop i false).proofRuns 2 = false := State.proofRuns_of_head_ne (by rwa [State.proof_setEstop])
  simp [State.estopDemand, hok, hdisc, hmode, hrun]

/-- An input high again outside proof test 2 (R441, R442). -/
theorem State.estopRelease_shown (hok : (if i = 0 then s.saf.okA else s.saf.okB) = false) (hm : s.modeCode ≠ 0)
    (hp : s.saf.proof.head? ≠ some 2) (hb : s.saf.bothLow = false) :
    s.estopRelease i = (((s.setEstop i true).estopEvent).syncCauses).syncOutputs := by
  have hlow : (s.setEstop i true).saf.bothLow = false := (State.bothLow_setEstop _ _ _).trans hb
  have hmode : (s.setEstop i true).modeCode ≠ 0 := by
    rw [State.modeCode, State.get_setEstop _ _ _ _ (by decide)]
    exact hm
  have hrun : (s.setEstop i true).estopEvent.proofRuns 2 = false := State.proofRuns_of_head_ne (by
    rwa [State.estopEvent, State.saf_raiseData, State.proof_setEstop])
  simp [State.estopRelease, hok, hlow, hmode, hrun]

theorem State.proof_syncOutputs (s : State) : s.syncOutputs.saf.proof = s.saf.proof := by
  unfold State.syncOutputs
  split
  case isTrue => rfl
  case isFalse => rw [State.saf_drive]

/-- Filtered inputs that differ for longer than DISC_MS, outside proof test 2 (R442). -/
theorem State.estopDiffer_faults (hm : s.modeCode ≠ 0) (hne : s.saf.okA ≠ s.saf.okB) (hd : s.flag SAF_FAULT_ESTOP_DISC = false)
    (hp : s.saf.proof.head? ≠ some 2) :
    s.estopDiffer =
      (((s.waitFor .differ (s.get SAF_P_ESTOP_DISC_MS * 800000 + 1)).putFlag SAF_FAULT_ESTOP_DISC true).raise 226).syncOutputs := by
  have hrun : (((s.waitFor .differ (s.discTime + 1)).putFlag SAF_FAULT_ESTOP_DISC true).raise 226).syncOutputs.proofRuns 2 = false :=
    State.proofRuns_of_head_ne (by rwa [State.proof_syncOutputs, State.saf_raise, State.saf_putFlag, State.saf_waitFor])
  have hguard : (decide (s.modeCode = 0) || decide (s.saf.okA = s.saf.okB) || s.flag SAF_FAULT_ESTOP_DISC) = false := by
    rw [decide_eq_false hm, decide_eq_false hne, hd]
    rfl
  rw [State.estopDiffer, hguard, if_neg Bool.false_ne_true]
  dsimp only
  rw [hrun]
  rfl

end

/-! ## Diagnostics (R437, R440) -/

/-- The compare with a count of disagreements in a row (R437). -/
def State.compared (s : State) (n : Nat) : State :=
  let u := s.every .compare 8000
  { u with saf := { u.saf with disagree := n } }

/-- The compare with its count judged: in proof test 3 the third disagreement is the test's own (R437, R451). -/
def State.compareJudged (s : State) (n : Nat) : State :=
  let v := s.compared (if n = 3 && (s.every .compare 8000).proofRuns 3 then 0 else n)
  if n ≠ 3 then v else if v.proofRuns 3 then v.found 13 v.turn 24000 3 else v.lockout SAF_FAULT_CROSS

section
variable {s : State}

theorem State.compare_eq (hm : s.modeCode ≠ 0) (agree a b : Bool) :
    s.compare agree a b =
      (((s.compareJudged (if agree then 0 else s.saf.disagree + 1)).readback_ 0 a).readback_ 1 b).syncOutputs := by
  rw [State.compare, if_neg hm, ← State.saf_every s .compare 8000]
  rfl

theorem State.compareJudged_of_ne {n : Nat} (hn : n ≠ 3) : s.compareJudged n = s.compared n := by
  rw [State.compareJudged, if_pos hn, decide_eq_false hn]
  rfl

/-- The third compare in a row that disagrees, outside proof test 3, is a lockout (R437). -/
theorem State.compareJudged_third (hp : s.saf.proof.head? ≠ some 3) : s.compareJudged 3 = (s.compared 3).lockout SAF_FAULT_CROSS := by
  have hproof : (s.every .compare 8000).saf.proof.head? ≠ some 3 := by rwa [State.saf_every]
  have hrun : (s.compared 3).proofRuns 3 = false := decide_eq_false hproof
  rw [State.compareJudged, State.proofRuns_of_head_ne hproof]
  exact (if_neg (not_not_intro rfl)).trans (if_neg (Bool.eq_false_iff.1 hrun))

end

section
variable {s : State} {x : Nat} {level : Bool}

/-- The state with a readback shown. -/
def State.readbackShown (s : State) (x : Nat) (level : Bool) : State :=
  s.putFlag (if x = 0 then SAF_IN_RB_A else SAF_IN_RB_B) level

theorem State.readback_follows (h : level = (s.readbackShown x level).commanded x) : s.readback_ x level = s.readbackShown x level :=
  if_neg fun hc => absurd h (of_decide_eq_true (p := level ≠ _) (Bool.and_eq_true_iff.1 hc).2)

theorem State.readback_early (h : (s.readbackShown x level).cycle < (s.readbackShown x level).since (.output x) + 8000) :
    s.readback_ x level = s.readbackShown x level :=
  if_neg fun hc => absurd (of_decide_eq_true (Bool.and_eq_true_iff.1 hc).1) (Nat.not_le.2 h)

/-- A readback that differs from its channel's command 10 µs or more after that changed is a lockout (R437). -/
theorem State.readback_differs (h : level ≠ (s.readbackShown x level).commanded x)
    (hl : (s.readbackShown x level).since (.output x) + 8000 ≤ (s.readbackShown x level).cycle) :
    s.readback_ x level = (s.readbackShown x level).lockout (if x = 0 then SAF_FAULT_OUT_A else SAF_FAULT_OUT_B) :=
  if_pos (Bool.and_eq_true_iff.2 ⟨decide_eq_true hl, decide_eq_true h⟩)

end

/-- Contactor feedback that is judged by its output (R440). -/
theorem State.edm_judged {s : State} (hm : s.modeCode ≠ 0) (he : s.flag SAF_P_EDM_EN = true) (x : Nat) (l : Bool) :
    s.edm x l =
      let u := (s.waitFor (.output x) (s.get SAF_P_ESTOP_EDM_MS * 800000)).showFeedback x l
      if u.closed x l = u.commanded x then u else u.lockout (if x = 0 then SAF_FAULT_EDM_A else SAF_FAULT_EDM_B) := by
  rw [State.edm, he, decide_eq_false hm]
  rfl

/-- Settles O54: each event by its equation. -/
theorem estopAndDiagnosticsComplete : Obligations.EstopAndDiagnosticsComplete := by
  refine ⟨fun s i hok hm hp hd => congrArg s.done (State.estopDemand_condition hok hm hp hd),
    fun s i hok hm hp hb => congrArg s.done (State.estopRelease_shown hok hm hp hb),
    fun s hm hne hd hp => congrArg s.done (State.estopDiffer_faults hm hne hd hp), fun s a b hm => ?agree, fun s a b hm hd => ?early,
    fun s a b hm hd hp => ?third, fun s x level => ⟨State.readback_follows, State.readback_early, State.readback_differs⟩,
    fun s c l hm he => ⟨fun h => ?closed, fun h => ?open_⟩⟩
  case agree =>
    refine congrArg s.done ((State.compare_eq hm true a b).trans ?_)
    rw [if_pos rfl, State.compareJudged_of_ne (by decide)]
    rfl
  case early =>
    refine congrArg s.done ((State.compare_eq hm false a b).trans ?_)
    rw [if_neg Bool.false_ne_true, State.compareJudged_of_ne (by omega)]
    rfl
  case third =>
    refine congrArg s.done ((State.compare_eq hm false a b).trans ?_)
    rw [if_neg Bool.false_ne_true, hd, State.compareJudged_third hp]
    rfl
  case closed => exact congrArg s.done ((State.edm_judged hm he c.val l).trans (if_pos h))
  case open_ => exact congrArg s.done ((State.edm_judged hm he c.val l).trans (if_neg h))

/-! ## Conditions of the island (R434, R443, R447, R449, R451, R471) -/

section
variable {s : State}

/-- A dangerous condition with a source sets its fault bit and is recorded (R434). -/
theorem State.dangerous_source {src : Nat} (h : src ≠ 0) (c d : Nat) :
    s.dangerous src c d = (s.markSource src).condition src c d := if_neg h

/-- A condition that is not the one proof test 5 feeds (R449). -/
theorem State.reported_dangerous {src : Nat} (h : src ≠ 3 ∨ s.saf.proof.head? ≠ some 5) (c d : Nat) :
    s.reported src c d = s.dangerous src c d := by
  have hc : (decide (src = 3) && s.proofRuns 5) = false := by
    rcases h with h | h
    case inl => rw [decide_eq_false h, Bool.false_and]
    case inr => rw [State.proofRuns_of_head_ne h, Bool.and_false]
  exact if_neg (Bool.eq_false_iff.1 hc)

/-- The watchdog where it is tested, outside proof test 4 (R434, R449, R471). -/
theorem State.watchdog_expires (hh : s.get DBG_STAT_HALTED = 0) (hm : ¬(s.modeCode = 1 ∧ s.sys.step ≤ 7))
    (hp : s.saf.proof.head? ≠ some 4) : s.watchdog = (s.putFlag SAF_FAULT_WATCHDOG true).condition 8 0 0 := by
  have hc : (decide (s.get DBG_STAT_HALTED ≠ 0) || (decide (s.modeCode = 1) && decide (s.sys.step ≤ 7))) = false := by
    rw [decide_eq_false (not_not_intro hh), ← Bool.decide_and, decide_eq_false hm]
    rfl
  have hrun : ¬ s.proofRuns 4 = true := Bool.eq_false_iff.1 (State.proofRuns_of_head_ne hp)
  exact (if_neg (Bool.eq_false_iff.1 hc)).trans ((if_neg hrun).trans (State.dangerous_source (by decide) 0 0))

/-- Telemetry of an enabled carrier, tested while both outputs are asserted after START_OK (R443). -/
theorem State.stale_tested {c d : Nat} (hok : s.flag SAF_STAT_START_OK = true) (ha : s.flag SAF_STAT_EN_A = true)
    (hb : s.flag SAF_STAT_EN_B = true) (hc : (s.carrier c).enabled = true) (hd : d < 26 ∨ d = 31) :
    s.stale c d =
      ((s.tickTo (s.staleFrom c (min d 26) + s.get SAF_P_WATCH_STALE_US * 800)).putFlag SAF_FAULT_TELEM_STALE true).condition 4 c d := by
  have hcond : (s.flag SAF_STAT_START_OK && s.flag SAF_STAT_EN_A && s.flag SAF_STAT_EN_B && (s.carrier c).enabled
      && (decide (d < 26) || decide (d = 31))) = true := by
    rw [hok, ha, hb, hc, ← Bool.decide_or, decide_eq_true hd]
    rfl
  exact (if_pos hcond).trans (State.dangerous_source (by decide) c d)

/-- The check of the parameter set (R447). -/
theorem State.paramCheck_due (hm : s.modeCode ≠ 0) (intact : Bool) :
    s.paramCheck intact =
      if intact then s.every .params 4000000 else (s.every .params 4000000).lockout SAF_FAULT_PARAM := if_neg hm

/-- One more hour, and PROOF_DUE with vector 230 at PROOF_H (R451). -/
theorem State.proofHour_counts (hm : s.modeCode ≠ 0) :
    s.proofHour =
      let u := (s.every .proofHour 2880000000000).incSat SAF_PROOF_HOURS_HOURS
      if u.get SAF_P_PROOF_PROOF_H ≤ u.get SAF_PROOF_HOURS_HOURS && !u.flag SAF_STAT_PROOF_DUE then
        (u.putFlag SAF_STAT_PROOF_DUE true).raise 230
      else u := if_neg hm

/-- A clock within limits ends its cause in Safe (R449). -/
theorem State.clockGood_safe {i : Nat} (hc : s.saf.clock.getLsbD i = true) (hm : s.modeCode = 2) :
    s.clockGood i =
      let u := s.tickTo (max (s.since (.island i)) (s.since .safe) + 800000)
      let v := ({ u with saf := { u.saf with clock := putBit u.saf.clock i false } } : State).syncCauses
      (v.gateIslands (v.clocked .safe)).syncOutputs := by
  rw [State.clockGood, hc, decide_eq_false (not_not_intro hm)]
  rfl

end

/-- Settles O55: each condition by its equation. -/
theorem safetyConditionsComplete : Obligations.SafetyConditionsComplete := by
  refine ⟨fun s src c d h1 hp => ?reported, fun s hh hm hp => congrArg s.done (State.watchdog_expires hh hm hp),
    fun s c d hok ha hb hc hd => congrArg s.done (State.stale_tested hok ha hb hc hd),
    fun s hm => congrArg s.done (State.paramCheck_due hm true), fun s hm => congrArg s.done (State.paramCheck_due hm false),
    fun s hm => ⟨fun h => ?counts, fun hd hh => ?due⟩, fun s i hc hm => congrArg s.done (State.clockGood_safe hc hm)⟩
  case reported =>
    exact congrArg s.done ((State.reported_dangerous hp c.val d.val).trans (State.dangerous_source (by omega) c.val d.val))
  case counts =>
    refine congrArg s.done ((State.proofHour_counts hm).trans (if_neg fun hc => ?_))
    obtain ⟨hle, hdue⟩ := Bool.and_eq_true_iff.1 hc
    rcases h with h | h
    case inl => simp [h] at hdue
    case inr => exact absurd (of_decide_eq_true hle) (Nat.not_le.2 h)
  case due =>
    refine congrArg s.done ((State.proofHour_counts hm).trans (if_pos ?_))
    rw [decide_eq_true hh, hd]
    rfl

/-! ## Stop and start test (R437, R440, R444 to R446) -/

section
variable {s : State}

/-- The grace period ends: the line in progress is cut, and both outputs go off (R444). -/
theorem State.graceEnds_stopping (h : s.saf.stopping = true) :
    s.graceEnds =
      let u := s.waitFor .grace (s.get SAF_P_TIMING_GRACE_US * 800)
      let v := if u.saf.reactFrom.isSome then u.putFlag SAF_LAST_CUT true else u
      v.finishStop := if_pos h

/-- Two seconds after the switch-off every claim is released (R444). -/
theorem State.safeWaitEnds_waiting (h : s.saf.waiting = true) :
    s.safeWaitEnds =
      ((List.range 16).foldl (fun (s : State) n => s.releaseClaim n) (s.waitFor .safeWait 1600000000)).tryChange := if_pos h

/-- The end of a phase without contactor monitoring: 5 ms of an asserted output or 10 µs of a low one, and its readback shown
(R446). -/
def State.phaseRead (s : State) (x : Nat) (high readback : Bool) : State :=
  (s.waitFor .phase (if high then 4000000 else 8000)).putFlag (if x = 0 then SAF_IN_RB_A else SAF_IN_RB_B) readback

/-- The channel a phase of the start test judges. -/
def State.phaseChannel (s : State) : Nat := if s.saf.test ≤ 2 then 0 else 1

section
variable (he : s.flag SAF_P_EDM_EN = false)
include he

/-- A phase with its output asserted (R446). -/
theorem State.testPhase_high (h : s.saf.test % 2 = 1) (readback feedback : Bool) :
    s.testPhase readback feedback =
      let u := s.phaseRead s.phaseChannel true readback
      if readback then if s.saf.test < 4 then u.phase (s.saf.test + 1) else u.testPasses else u.testFails s.phaseChannel true := by
  have ht : s.saf.test ≠ 0 := by omega
  cases readback <;> simp [State.testPhase, he, h, ht, State.phaseRead, State.phaseChannel]

/-- A phase with its output low (R446). -/
theorem State.testPhase_low (ht : s.saf.test ≠ 0) (h : s.saf.test % 2 = 0) (readback feedback : Bool) :
    s.testPhase readback feedback =
      let u := s.phaseRead s.phaseChannel false readback
      if readback then u.testFails s.phaseChannel true else if s.saf.test < 4 then u.phase (s.saf.test + 1) else u.testPasses := by
  cases readback <;> simp [State.testPhase, he, h, ht, State.phaseRead, State.phaseChannel]

end

/-- A start test that no proof test waits for fails alone (R451). -/
theorem State.testFails_unarmed (h : s.saf.proofArmed = false) (x : Nat) :
    s.testFails x true = (s.raise 228).lockout (if x = 0 then SAF_FAULT_OUT_A else SAF_FAULT_OUT_B) := by
  have ha : s.armedEnds false = s := if_neg (Bool.eq_false_iff.1 h)
  rw [State.testFails, ha]
  rfl

end

/-- Settles O56: the ends of the two waits by their equations, and each phase by its parity. -/
theorem safeStopAndStartTestComplete : Obligations.SafeStopAndStartTestComplete := by
  refine ⟨fun s h => congrArg s.done (State.graceEnds_stopping h), fun s h => congrArg s.done (State.safeWaitEnds_waiting h),
    fun s fb ht he => ?asserted, fun s fb ht he => ?low, fun s fb ht he => ?last, fun s fb ht he ha => ?fails⟩
  case asserted =>
    refine congrArg s.done ((State.testPhase_high he (by omega) true fb).trans ?_)
    dsimp only
    rcases ht with ht | ht
    case inl => simp [ht, State.phaseChannel, State.phaseRead, State.phase]
    case inr => simp [ht, State.phaseChannel, State.phaseRead, State.phase]
  case low =>
    refine congrArg s.done ((State.testPhase_low he (by omega) (by omega) false fb).trans ?_)
    simp [ht, State.phaseChannel, State.phaseRead, State.phase]
  case last =>
    refine congrArg s.done ((State.testPhase_low he (by omega) (by omega) false fb).trans ?_)
    simp [ht, State.phaseChannel, State.phaseRead, State.testPasses]
  case fails =>
    refine congrArg s.done ((State.testPhase_high he (by omega) false fb).trans ?_)
    dsimp only
    rw [if_neg Bool.false_ne_true, State.testFails_unarmed (by rwa [State.phaseRead, State.saf_putFlag, State.saf_waitFor])]
    rcases ht with ht | ht
    case inl => simp [ht, State.phaseChannel, State.phaseRead]
    case inr => simp [ht, State.phaseChannel, State.phaseRead]

end Sys2Proof.Machine
end

section
/-! Events, the host attachment and the debug port (R454 to R472). -/

namespace Sys2Proof.Machine

open Sys2Proof

/-! ## Test raises (R464) -/

/-- A record joins a log that is not full at its end (R460). -/
theorem State.log_appendLog_short {s : State} (h : s.evt.log.length < 4096) (r : EventRec) :
    (s.appendLog r).evt.log = s.evt.log ++ [r] := by
  have hfull : ¬ 4096 ≤ s.evt.log.length := Nat.not_le.2 h
  unfold State.appendLog
  dsimp only
  rw [State.evt_put, if_neg (by simpa using hfull), if_neg (by simpa using hfull)]

/-- A message and a mark of a hold-off leave the log. -/
theorem State.log_signalVector (s : State) (v : Nat) : (s.signalVector v).evt.log = s.evt.log := by
  unfold State.signalVector State.sendMessage
  split
  case isTrue => rfl
  case isFalse =>
    split
    case isTrue => rfl
    case isFalse =>
      split
      case isTrue => rfl
      case isFalse =>
        dsimp only
        split <;> rfl

/-- A raise with all its fields given appends their record, under the PAGE_ID its page's key stands for. -/
theorem State.log_raiseWith_short {s : State} (h : s.evt.log.length < 4096) (v d x : Nat) (page : Word) :
    (s.raiseWith v (some d) (some x) page).evt.log =
      s.evt.log ++ [⟨BitVec.ofNat 8 v, BitVec.ofNat 16 d, BitVec.ofNat 32 x, s.nameOf page, s.now⟩] := by
  have hfull : ¬ (4096 ≤ s.evt.log.length ∧ v ≠ 7) := fun hc => Nat.not_le.2 h hc.1
  unfold State.raiseWith
  dsimp only
  rw [if_neg (by simpa using hfull)]
  exact (State.log_signalVector _ _).trans (State.log_appendLog_short h _)

/-- A write of EVT_RAISE that raises a vector (R464). -/
theorem exec_evtRaise_raises {s : State} {by_ : By} {v : Word} (hl : s.Lands by_ EVT_RAISE) (hv : bits v 8 1 = 1) :
    exec (.evtRaise by_ v) s = s.done (s.raiseWith (bits v 0 8) (some 0xFFFF) (some 0) 0) :=
  congrArg s.done ((State.hostWrite_lands hl _).trans (if_pos hv))

/-- The chip after reset with every island clocked, Memory Space Enable set, and a page record under key 0 that goes by PAGE_ID 1. -/
def keyedZero : State :=
  { State.reset with
    running := 0xFFF
    evt := { State.reset.evt with config := [(4, 2)] }
    pnd := { State.reset.pnd with pages := [newPage 0 1 0 0 []] } }

/-- Refutes O12: a test raise belongs to no page, and its record's PAGE_ID is looked up under key 0 all the same, so it is 1, not 0,
in a state whose page record under key 0 goes by PAGE_ID 1. The statement is over every state; no key 0 is asked to be free. -/
theorem not_eventTestRules : ¬ Obligations.EventTestRules := by
  unfold Obligations.EventTestRules
  intro h
  have hl : keyedZero.Lands .keeper EVT_RAISE := by
    unfold State.Lands
    decide +kernel
  have hlen : keyedZero.evt.log.length < 4096 := by decide +kernel
  have hexec := exec_evtRaise_raises hl (v := 0x1FF#32) (by decide)
  obtain ⟨t, ht, -, -, hlog⟩ := h.2 keyedZero .keeper 0x1FF#32 hl (by decide)
  have hnext : { (keyedZero.raiseWith (bits 0x1FF#32 0 8) (some 0xFFFF) (some 0) 0).gateOutputs with pending := keyedZero.pending } = t :=
    Host.Outcome.next.inj (hexec.symm.trans ht)
  have hmodel : t.evt.log = keyedZero.evt.log ++
      [⟨BitVec.ofNat 8 (bits 0x1FF#32 0 8), 0xFFFF, 0, keyedZero.nameOf 0, keyedZero.now⟩] := by
    rw [← hnext]
    exact (congrArg Evt.log (State.evt_gateOutputs _)).trans (State.log_raiseWith_short hlen _ _ _ _)
  have hpage : keyedZero.nameOf 0 = 0 :=
    congrArg EventRec.page (List.head_eq_of_cons_eq (List.append_cancel_left (hmodel.symm.trans (hlog hlen))))
  exact absurd hpage (by decide +kernel)

/-! ## MSI-X (R461, R462) -/

section
variable {s : State}

/-- MSI-X Enable set sends what is pending (R461). -/
theorem State.enableMsix_enables (hr : s.runs 3 = true) (he : s.evt.msixEnable = false) :
    s.enableMsix =
      (List.range 256).foldl (fun (s : State) v => if s.flag (pendBit v) then s.sendMessage v else s)
        { s with evt := { s.evt with msixEnable := true } } := by
  rw [State.enableMsix, hr, he]
  rfl

/-- The mask of an entry is cleared (R461). -/
theorem State.unmaskMsix_entry (hr : s.runs 3 = true) (v : BitVec 8) :
    s.unmaskMsix (some v) =
      (s.setReg (msixControl v.toNat) (s.reg (msixControl v.toNat) &&& 0xFFFFFFFE#32)).sendHeld v.toNat := by
  rw [State.unmaskMsix, hr]
  rfl

/-- The Function Mask is cleared (R461). -/
theorem State.unmaskMsix_function (hr : s.runs 3 = true) :
    s.unmaskMsix none =
      (List.range 256).foldl (fun (s : State) v => s.sendHeld v) { s with evt := { s.evt with functionMask := false } } := by
  rw [State.unmaskMsix, hr]
  rfl

/-- A message held back goes out once nothing masks it (R461). -/
theorem State.sendHeld_held {v : Nat} (hp : s.flag (pbaBit v) = true) (he : s.evt.msixEnable = true) (hm : s.msixMasked v = false)
    (hk : s.flag (maskBit v) = false) : s.sendHeld v = (s.putFlag (pbaBit v) false).sendMessage v :=
  if_pos (by rw [hp, he, hm, hk]; rfl)

theorem State.sendHeld_none {v : Nat} (hp : s.flag (pbaBit v) = false) : s.sendHeld v = s :=
  if_neg (by rw [hp]; exact Bool.false_ne_true)

/-- An entry whose mask bit is cleared is masked by the function alone. -/
theorem State.msixMasked_cleared (v : Nat) (w : Word) :
    (s.setReg (msixControl v) (w &&& 0xFFFFFFFE#32)).msixMasked v = s.evt.functionMask := by
  rw [State.msixMasked, State.reg_setReg_same, bits_one]
  simp

/-- A message goes to its entry's address with its data, and starts no hold-off of length 0 (R461, R462). -/
theorem State.sendMessage_sends {v : Nat} (he : s.evt.msixEnable = true) (hk : s.flag (maskBit v) = false)
    (hm : s.msixMasked v = false) (hh : s.get (EVT_HOLD_HOLDOFF_US (v / 32)) = 0) :
    s.sendMessage v = s.emit (.msix v ((s.reg (msixControl v - 12)).toNat + (s.reg (msixControl v - 8)).toNat * 2 ^ 32)
      (s.reg (msixControl v - 4))) := by
  have hhigh : msixControl v - 12 + 4 * 1 = msixControl v - 8 := by
    simp only [msixControl]
    omega
  have hdata : msixControl v - 12 + 4 * 2 = msixControl v - 4 := by
    simp only [msixControl]
    omega
  rw [← hhigh, ← hdata, State.sendMessage, hk, he, hm]
  exact (if_neg (by decide)).trans ((if_neg Bool.false_ne_true).trans (if_pos (.inl hh)))

/-- A hold-off that had a raise ends in a message (R462). -/
theorem State.endHoldoff_held {v : Nat} {raised : Bool} {due : Nat}
    (h : (s.evt.holds.find? fun h => h.1 = v) = some (v, raised, due)) :
    s.endHoldoff v =
      let w := s.tickTo due
      let u : State := { w with evt := { w.evt with holds := w.evt.holds.filter fun h => h.1 ≠ v } }
      if raised then u.sendMessage v else u := by
  rw [State.endHoldoff, h]

/-- A read nobody answers returns all ones and is counted (R457). -/
theorem State.readTimeout_counted (hr : s.runs 3 = true) (hm : s.memEnabled = true) (crew : Bool) (off : Nat) :
    s.readTimeout (if crew then .crew else .keeper) off =
      (s.emit (.readData off 0xFFFFFFFF#32)).countAccess HST_ACC_ERR_2_TIMEOUT crew off := by
  cases crew <;> simp [State.readTimeout, State.reaches, isInner, isCrew, hr, hm]

/-! ## Configuration requests (R454 to R456, R458) -/

theorem State.configRequest_retry (hr : s.runs 3 = false) (f off : Nat) (w : Option (Word × BitVec 4)) :
    s.configRequest f off w = s.emit .configRetry := if_pos (by rw [hr]; rfl)

theorem State.configRequest_otherFunction (hr : s.runs 3 = true) {f : Nat} (hf : f ≠ 0) (off : Nat) (w : Option (Word × BitVec 4)) :
    s.configRequest f off w = s.emit (.configData none) :=
  (if_neg (by rw [hr]; exact Bool.false_ne_true)).trans (if_pos hf)

theorem State.configRequest_read (hr : s.runs 3 = true) (off : Nat) :
    s.configRequest 0 off none = s.draw.2.emit (.configData (some (s.configWord off (s.draw.1.setWidth 32)))) := by
  rw [State.configRequest, hr]
  rfl

theorem State.configRequest_write (hr : s.runs 3 = true) (off : Nat) (v : Word) (be : BitVec 4) :
    s.configRequest 0 off (some (v, be)) = (s.configWrite off v be).emit .configDone := by
  rw [State.configRequest, hr]
  rfl

/-- A word of which every bit is fixed reads as that, whatever was kept and whatever is free (R455). -/
theorem State.configWord_fixed {off : Nat} {w : Word} (h : configFixed off = (w, 0xFFFFFFFF#32)) (free : Word) :
    s.configWord off free = w := by
  have hones : ~~~(0xFFFFFFFF#32) = 0#32 := by decide
  have hall : w &&& 0xFFFFFFFF#32 = w := BitVec.and_allOnes
  rw [State.configWord, h]
  dsimp only
  rw [hones, hall, BitVec.and_zero, BitVec.and_zero, BitVec.or_zero, BitVec.or_zero]

/-- The command register as host software left it (R456). -/
theorem State.configKept_command : s.configKept 4 = (Sparse.find s.evt.config 4).getD 0 := by
  have hcap : ¬ 4 / 4 = Config.pcieCapability.val + 2 := by omega
  rw [State.configKept, if_neg hcap]

theorem State.configWord_command : s.configWord 4 0 = (Sparse.find s.evt.config 4).getD 0 &&& 0x546#32 := by
  have hmask : configMask 4 = 0x546#32 := rfl
  have hfixed : configFixed 4 = (0, 0) := rfl
  have hne : ¬ (0x546#32 : Word) = 0xC0000000#32 := by decide
  rw [State.configWord, hmask, hfixed, if_neg hne, State.configKept_command]
  simp [BitVec.and_assoc]

/-- A write of the low byte of the command register keeps its other bits (R456). -/
theorem State.configWrite_command (v : Word) :
    s.configWrite 4 v 1 = { s with evt := { s.evt with
      config := Sparse.insert s.evt.config 4 (((Sparse.find s.evt.config 4).getD 0 &&& 0x00000500#32) ||| (v &&& 0x46#32)) } } := by
  have hmask : configMask 4 = 0x546#32 := rfl
  have hbytes : 0x546#32 &&& enabledBytes 1 = 0x46#32 := rfl
  have hne : ¬ (0x546#32 : Word) = 0xC0000000#32 := by decide
  have hcap : (decide (4 = 4 * (Config.pcieCapability.val + 2)) && v.getLsbD 15 && (1 : BitVec 4).getLsbD 1) = false := by
    rw [decide_eq_false (by omega)]
    rfl
  have hword : (((Sparse.find s.evt.config 4).getD 0 &&& 0x546#32 &&& ~~~0x46#32) ||| (v &&& 0x46#32)) &&& 0x546#32
      = ((Sparse.find s.evt.config 4).getD 0 &&& 0x00000500#32) ||| (v &&& 0x46#32) := by
    rw [BitVec.and_or_distrib_right]
    simp [BitVec.and_assoc]
  rw [State.configWrite, show 4 / 4 * 4 = 4 from rfl, hmask, hbytes, hcap, State.configWord_command, hword]
  exact (if_neg hne).trans (if_neg Bool.false_ne_true)

/-- The word of Device Control is not the control word of MSI-X. -/
theorem configMask_deviceControl : configMask (4 * (Config.pcieCapability.val + 2)) ≠ 0xC0000000#32 := by
  have hdiv : 4 * (Config.pcieCapability.val + 2) / 4 = Config.pcieCapability.val + 2 := by omega
  unfold configMask
  rw [hdiv]
  split
  case h_9 =>
    rw [if_pos rfl]
    decide
  all_goals decide

/-- Initiate Function Level Reset makes a host-link reset (R458). -/
theorem State.configWrite_flr : s.configWrite (4 * (Config.pcieCapability.val + 2)) 0x8000#32 0xF#4 = s.linkReset := by
  have hat : 4 * (Config.pcieCapability.val + 2) / 4 * 4 = 4 * (Config.pcieCapability.val + 2) := by omega
  have hflr : (decide (4 * (Config.pcieCapability.val + 2) = 4 * (Config.pcieCapability.val + 2)) && (0x8000#32).getLsbD 15
      && (0xF#4).getLsbD 1) = true := by
    rw [decide_eq_true rfl]
    rfl
  rw [State.configWrite, hat]
  exact (if_neg configMask_deviceControl).trans (if_pos hflr)

end

section
variable {s : State}

theorem exec_evtMaskClear_lands {by_ : By} {g : Fin 8} (hl : s.Lands by_ (EVT_MASK g.val)) (v : Word) :
    exec (.evtMaskClear by_ g v) s = s.done (s.writeEventMask g.val v) := congrArg s.done (State.hostWrite_lands hl _)

end

/-- Settles O57: each event by its equation, and a configuration request by what it reads or writes. -/
theorem hostAttachmentEventsComplete : Obligations.HostAttachmentEventsComplete := by
  refine ⟨fun s by_ v hl hv => exec_evtRaise_raises hl hv, fun s by_ g v hl => exec_evtMaskClear_lands hl v,
    fun s hr he => congrArg s.done (State.enableMsix_enables hr he),
    fun s v hr => ⟨fun hp he hf hk => ?held, fun hp => ?none_⟩, fun s hr => congrArg s.done (State.unmaskMsix_function hr),
    fun s v he hk hm hh => State.sendMessage_sends he hk hm hh,
    fun s v raised due h => congrArg s.done (State.endHoldoff_held h),
    fun s crew off hr hm => congrArg s.done (State.readTimeout_counted hr hm crew off.toNat),
    fun s f off w hr hf => ?otherFunction, fun s f off w hr => congrArg s.done (State.configRequest_retry hr f.toNat off.toNat w),
    fun s off hr ho => ?identity, fun s v hr => ?command, fun s hr => ?reset⟩
  case held =>
    have hm := (State.msixMasked_cleared (s := s) v.toNat (s.reg (msixControl v.toNat))).trans hf
    exact congrArg s.done ((State.unmaskMsix_entry hr v).trans (State.sendHeld_held hp he hm hk))
  case none_ => exact congrArg s.done ((State.unmaskMsix_entry hr v).trans (State.sendHeld_none hp))
  case otherFunction =>
    have hf' : f.toNat ≠ 0 := fun h => hf (BitVec.eq_of_toNat_eq h)
    exact congrArg s.done (State.configRequest_otherFunction hr hf' off.toNat w)
  case identity =>
    have hfixed : configFixed off.toNat = (0x08481F7A#32, 0xFFFFFFFF#32) := by
      have hdiv : off.toNat / 4 = 0 := by omega
      rw [configFixed, hdiv]
      rfl
    refine congrArg s.done ((State.configRequest_read hr off.toNat).trans ?_)
    rw [State.configWord_fixed hfixed]
  case command =>
    refine congrArg s.done ((State.configRequest_write hr 4 v 1).trans ?_)
    rw [State.configWrite_command]
  case reset =>
    have hoff : (BitVec.ofNat 12 (4 * (Config.pcieCapability.val + 2))).toNat = 4 * (Config.pcieCapability.val + 2) := by
      have := Config.pcieCapability.isLt
      rw [BitVec.toNat_ofNat]
      omega
    refine congrArg s.done (?_ : s.configRequest 0 _ _ = _)
    rw [hoff, State.configRequest_write hr, State.configWrite_flr]

/-! ## Scan instructions (R465, R466) -/

section
variable {s : State} (h : s.dbg.scan = false)
include h

/-- Nothing is left where no scan instruction was in effect. -/
theorem State.leaveScan_none : s.leaveScan = s := if_neg (by rw [h]; exact Bool.false_ne_true)

theorem State.loadTap_noScan (i : TapInstr) : s.loadTap i = s.setTap i false := by rw [State.loadTap, State.leaveScan_none h]

/-- A scan instruction in a mode that allows it drives the boundary register, or none (R466). -/
theorem State.loadScan_allowed (hm : s.modeCode = 1 ∨ s.modeCode = 2 ∨ s.modeCode = 3) (i : TapInstr) :
    s.loadScan i = (s.setTap i true).emit (.balls (if i = .highz then none else some s.dbg.boundary)) := by
  have hc : (decide (s.modeCode = 1) || decide (s.modeCode = 2) || decide (s.modeCode = 3)) = true := by
    simpa [or_assoc] using hm
  rw [State.loadScan, h, State.leaveScan_none h]
  exact (if_neg Bool.false_ne_true).trans (if_pos hc)

/-- A scan instruction elsewhere acts as BYPASS (R466). -/
theorem State.loadScan_refused (hm : ¬(s.modeCode = 1 ∨ s.modeCode = 2 ∨ s.modeCode = 3)) (hr : s.runs 2 = true) (i : TapInstr) :
    s.loadScan i = (s.setTap .bypass false).putFlag DBG_STAT_SCAN_REFUSED true := by
  have hc : ¬ (decide (s.modeCode = 1) || decide (s.modeCode = 2) || decide (s.modeCode = 3)) = true := by
    simpa [or_assoc] using hm
  rw [State.loadScan, h, State.leaveScan_none h]
  exact (if_neg Bool.false_ne_true).trans ((if_neg hc).trans (if_pos hr))

end

/-- What an instruction that selects no scan leaves of the TAP. -/
theorem completes_setTap {c : Instr} {s : State} {i : TapInstr} (hc : exec c s = s.done (s.setTap i false)) :
    Completes c s fun t => t.dbg.tap = i ∧ t.dbg.capture = tapCapture i s.dbg.capture :=
  completes_of_done hc ⟨congrArg Dbg.tap (State.dbg_gateOutputs _), congrArg Dbg.capture (State.dbg_gateOutputs _)⟩

/-- Settles O59: each instruction by what it selects where none of the three was in effect. -/
theorem scanInstructionsComplete : Obligations.ScanInstructionsComplete := by
  refine ⟨fun s h => ⟨?reset, ?idcode, ?bypass⟩, fun s l h => ?sample, fun s h hm => ⟨?extest, ?clamp, ?highz⟩,
    fun s h hm hr => ⟨?extestRefused, ?clampRefused, ?highzRefused⟩⟩
  case reset => exact completes_setTap (i := .idcode) (congrArg s.done (State.loadTap_noScan h _))
  case idcode => exact completes_setTap (i := .idcode) (congrArg s.done (State.loadTap_noScan h _))
  case bypass => exact completes_setTap (i := .bypass) (congrArg s.done (State.loadTap_noScan h _))
  case sample =>
    refine congrArg s.done ?_
    rw [State.loadTap_noScan h]
    rfl
  case extest => exact congrArg s.done (State.loadScan_allowed h hm .extest)
  case clamp => exact congrArg s.done (State.loadScan_allowed h hm .clamp)
  case highz => exact congrArg s.done (State.loadScan_allowed h hm .highz)
  case extestRefused => exact congrArg s.done (State.loadScan_refused h hm hr .extest)
  case clampRefused => exact congrArg s.done (State.loadScan_refused h hm hr .clamp)
  case highzRefused => exact congrArg s.done (State.loadScan_refused h hm hr .highz)

/-! ## Levels and unlock (R468 to R470) -/

/-- Writing registers leaves those they are not. -/
theorem State.reg_foldl_setReg {α : Type} {l : List α} {f : α → Nat} {g : α → Word} {a : Nat} (h : ∀ w ∈ l, a ≠ f w) (s : State) :
    (l.foldl (fun s w => s.setReg (f w) (g w)) s).reg a = s.reg a := by
  induction l generalizing s with
  | nil => rfl
  | cons w l ih =>
    rw [List.foldl_cons, ih fun x hx => h x (List.mem_cons_of_mem _ hx)]
    exact State.reg_setReg_other _ _ (h w (List.mem_cons_self ..))

/-- A measurement leaves DBG_STAT. -/
theorem State.dbgStat_extend (s : State) (m : List Byte) : (s.extend 6 m).reg DBG_STAT = s.reg DBG_STAT := by
  unfold State.extend
  dsimp only
  rw [State.reg_putFlag_other _ _ _ (by decide), State.reg_foldl_setReg fun w hw => ?_]
  have := List.mem_range.1 hw
  simp only [DBG_STAT, SYS_MEAS]
  omega

section
variable (s : State)

/-- A change of level writes LEVEL, and no other field of DBG_STAT. -/
theorem State.get_level_setLevel (n : Nat) : (s.setLevel n).get DBG_STAT_LEVEL = n % 4 := by
  rw [State.setLevel, State.get_raiseData _ _ _ (by decide) (by decide)]
  exact State.get_put_same _ _ _ (by decide)

theorem State.flag_chalValid_setLevel (n : Nat) : (s.setLevel n).flag DBG_STAT_CHAL_VALID = s.flag DBG_STAT_CHAL_VALID := by
  rw [State.setLevel, State.flag, State.get_raiseData _ _ _ (by decide) (by decide),
    State.get_put_other _ _ _ _ (by decide) (by simp [Fld.apart])]
  rfl

theorem State.flag_chalValid_unlockFails : s.unlockFails.flag DBG_STAT_CHAL_VALID = s.flag DBG_STAT_CHAL_VALID := by
  have hfails : (s.incSat DBG_STAT_FAILS).flag DBG_STAT_CHAL_VALID = s.flag DBG_STAT_CHAL_VALID := by
    rw [State.flag, State.incSat, State.addSat, State.get_put_other _ _ _ _ (by decide) (by simp [Fld.apart])]
    rfl
  unfold State.unlockFails
  dsimp only
  split
  case isTrue => rw [State.flag_putFlag_other _ _ _ _ (by decide) (by simp [Fld.apart]), hfails]
  case isFalse => exact hfails

/-- A response that verifies, to a challenge that stands (R469). -/
def State.submitPasses (level keySel : Nat) : Bool :=
  s.flag DBG_STAT_CHAL_VALID && decide (s.cycle < s.since .challenge + 8000000000) && (level = 1 || level = 2)
    && Config.verifies (s.debugKeyDigest keySel) (sha384 (s.challengeBytes level keySel)) s.responseBytes

/-- The state a response that verifies leaves before its level is set (R469, R470). -/
def State.unlocked (level keySel : Nat) : State :=
  let u := (s.putFlag DBG_STAT_CHAL_VALID false).extend 6 (leBytes 1 level ++ leBytes 1 keySel ++ s.debugKeyDigest keySel)
  { u with sys := { u.sys with debugUnlocked := true } }

theorem State.submit_eq (level keySel : Nat) :
    s.submit level keySel =
      if s.submitPasses level keySel then (s.unlocked level keySel).setLevel level
      else (s.putFlag DBG_STAT_CHAL_VALID false).unlockFails := rfl

theorem State.flag_chalValid_unlocked (level keySel : Nat) : (s.unlocked level keySel).flag DBG_STAT_CHAL_VALID = false := by
  have hreg : (s.unlocked level keySel).reg DBG_STAT = (s.putFlag DBG_STAT_CHAL_VALID false).reg DBG_STAT := by
    have hregs : (s.unlocked level keySel).regs = ((s.putFlag DBG_STAT_CHAL_VALID false).extend 6
      (leBytes 1 level ++ leBytes 1 keySel ++ s.debugKeyDigest keySel)).regs := rfl
    rw [State.reg_congr hregs, State.dbgStat_extend]
  rw [State.flag, State.get, hreg]
  exact State.flag_putFlag_same _ _ _ rfl (by decide)

/-- A submission ends its challenge (R469). -/
theorem State.flag_chalValid_submit (level keySel : Nat) : (s.submit level keySel).flag DBG_STAT_CHAL_VALID = false := by
  rw [State.submit_eq]
  split
  case isTrue => rw [State.flag_chalValid_setLevel, State.flag_chalValid_unlocked]
  case isFalse =>
    rw [State.flag_chalValid_unlockFails]
    exact State.flag_putFlag_same _ _ _ rfl (by decide)

/-- A fresh challenge stands, unless the port is refusing (R469). -/
theorem State.flag_chalValid_newChallenge (h : s.flag DBG_STAT_REFUSING = false) :
    s.newChallenge.flag DBG_STAT_CHAL_VALID = true := by
  rw [State.newChallenge, if_neg (by rw [h]; exact Bool.false_ne_true), State.flag_mark]
  exact State.flag_putFlag_same _ _ _ rfl (by decide)

end

/-! ## Halting the control cores (R471, R472) -/

section
variable {s : State} {p : Nat} {pc : Word}

/-- A pair that stops shows it, with its PC and its cause. -/
theorem State.haltPair_shows (hp : p < 2) {cause : Nat} (hc : cause < 16) (index : Nat) :
    (s.haltPair p cause index pc).flag (haltedBit p) = true ∧ (s.haltPair p cause index pc).reg (DBG_CORE_PC p) = pc
      ∧ (s.haltPair p cause index pc).get (DBG_CORE_CAUSE_CAUSE p) = cause := by
  have hfit : (haltedBit p).lo + (haltedBit p).width ≤ 32 := by
    simp only [haltedBit]
    omega
  have hpc : outsideEvt (DBG_CORE_PC p) := .inr (by simp only [DBG_CORE_PC]; omega)
  have hstat : (haltedBit p).addr ≠ DBG_CORE_CAUSE p := by
    simp only [haltedBit, DBG_STAT, DBG_CORE_CAUSE]
    omega
  have hstatPc : (haltedBit p).addr ≠ DBG_CORE_PC p := by
    simp only [haltedBit, DBG_STAT, DBG_CORE_PC]
    omega
  have hne : DBG_CORE_PC p ≠ DBG_CORE_CAUSE p := by
    simp only [DBG_CORE_PC, DBG_CORE_CAUSE]
    omega
  refine ⟨?halted, ?pc, ?cause⟩
  case halted =>
    rw [State.haltPair, State.flag, State.get_raiseData _ _ _ (by decide) (.inr (by simp only [haltedBit, DBG_STAT]; omega)),
      State.get_put_other _ _ _ _ hfit (.inl hstat.symm), State.get_put_other _ _ _ _ hfit (.inl hstat.symm),
      State.get_setReg_other _ _ _ hstatPc]
    exact State.flag_putFlag_same _ _ _ rfl hfit
  case pc =>
    rw [State.haltPair, State.reg_raiseData _ _ (by decide) hpc, State.reg_put_other _ _ _ hne, State.reg_put_other _ _ _ hne]
    exact State.reg_setReg_same ..
  case cause =>
    rw [State.haltPair, State.get_raiseData _ _ _ (by decide) (.inr (by simp only [DBG_CORE_CAUSE]; omega)),
      State.get_put_other _ _ _ _ (by simp) (by simp [Fld.apart]), State.get_put_same _ _ _ (by simp)]
    exact Nat.mod_eq_of_lt hc

end

section
variable {s : State} {p : Nat}

/-- A hit where the level asks for one: the pair halts in the modes that allow it (R471, R472). -/
theorem State.debugHit_halts (hl : 2 ≤ s.get DBG_STAT_LEVEL) (hh : s.flag (haltedBit p) = false) (hm : s.mayHalt = true)
    (cause index : Nat) (pc : Word) : s.debugHit p cause index pc = s.haltPair p cause index pc := by
  have hc : (decide (s.get DBG_STAT_LEVEL < 2) || s.flag (haltedBit p)) = false := by
    rw [decide_eq_false (Nat.not_lt.2 hl), hh]
    rfl
  rw [State.debugHit, hc, hm]
  rfl

theorem State.breakpoint_reached {i : Nat} (hr : s.runs 2 = true) (he : s.flag (DBG_BP_EN p i) = true) :
    s.breakpoint p i = s.debugHit p 3 i (s.reg (DBG_BP p i) &&& 0xFFFFFFFC#32) := if_pos (by rw [hr, he]; rfl)

theorem State.watchpoint_inside {i : Nat} {w : Bool} {a : Word} (hr : s.runs 2 = true) (he : s.flag (DBG_WP_CFG_EN p i) = true)
    (hlo : (s.reg (DBG_WP_ADDR p i)).toNat ≤ a.toNat)
    (hhi : a.toNat ≤ (s.reg (DBG_WP_ADDR p i)).toNat + s.get (DBG_WP_CFG_LEN p i))
    (hk : s.flag (if w then DBG_WP_CFG_WRITE p i else DBG_WP_CFG_READ p i) = true) (pc : Word) :
    s.watchpoint p i w a pc = s.debugHit p 4 i pc := by
  cases w
  case false => exact if_pos (by rw [hr, he, decide_eq_true hlo, decide_eq_true hhi]; exact hk)
  case true => exact if_pos (by rw [hr, he, decide_eq_true hlo, decide_eq_true hhi]; exact hk)

theorem State.requestHalt_halts (hm : s.mayHalt = true) (hh : s.flag (haltedBit p) = false) (pc : Word) :
    s.requestHalt p pc = s.haltPair p 1 0 pc := by
  rw [State.requestHalt, hm, hh]
  rfl

theorem State.requestStep_steps (hm : s.mayHalt = true) (pc : Word) : s.requestStep p pc = s.haltPair p 2 0 pc := by
  rw [State.requestStep, hm]
  rfl

theorem State.resumePair_runs (hh : s.flag (haltedBit p) = true) :
    s.resumePair p = ((s.putFlag (haltedBit p) false).setReg (DBG_CORE_PC p) 0).tryChange := by
  rw [State.resumePair, hh]
  rfl

end

/-- A command that halts a pair shows it, with its PC and its cause. -/
theorem completes_haltPair {c : Instr} {s : State} {p : Fin 2} {pc : Word} {cause : Nat} (hcause : cause < 16) {index : Nat}
    (hc : exec c s = s.done (s.haltPair p.val cause index pc)) :
    Completes c s fun t => t.flag (haltedBit p.val) = true ∧ t.reg (DBG_CORE_PC p.val) = pc
      ∧ t.get (DBG_CORE_CAUSE_CAUSE p.val) = cause := by
  obtain ⟨hhalted, hpc, hshown⟩ := State.haltPair_shows (s := s) (pc := pc) p.isLt hcause index
  refine completes_of_done hc ⟨?halted, ?pc, ?cause⟩
  case halted => rw [State.flag_afterGate _ _ _ (by simp only [haltedBit]; decide), hhalted]
  case pc => rw [State.reg_afterGate _ _ (by simp only [DBG_CORE_PC, SAF_STAT]; omega), hpc]
  case cause => rw [State.get_afterGate _ _ _ (by simp only [DBG_CORE_CAUSE, SAF_STAT]; omega), hshown]

/-! ## Accesses by the debug port (R467, R468, R472) -/

section
variable {s : State} {v : Word}

/-- A read of core memory (R472). -/
theorem State.memCommand_read (hgo : v.getLsbD 31 = true) (hw : v.getLsbD 30 = false) (hs : v.getLsbD 29 = false) (word : Word)
    (mapped : Bool) :
    s.memCommand v word mapped =
      if mapped then (s.putRow DBG_MEM_CMD (v &&& 0x7FFFFFFF#32)).setReg DBG_MEM_DATA word
      else (s.putRow DBG_MEM_CMD (v &&& 0x7FFFFFFF#32)).memRefused := by
  rw [State.memCommand, hgo, hw, hs]
  cases mapped <;> rfl

/-- A write of core memory, from level 2 on (R472). -/
theorem State.memCommand_write (hgo : v.getLsbD 31 = true) (hw : v.getLsbD 30 = true) (hs : v.getLsbD 29 = false)
    (hl : 2 ≤ (s.putRow DBG_MEM_CMD (v &&& 0x7FFFFFFF#32)).get DBG_STAT_LEVEL) (word : Word) :
    s.memCommand v word true =
      let u := s.putRow DBG_MEM_CMD (v &&& 0x7FFFFFFF#32)
      u.emit (.coreWrite (bits v 28 1) (u.reg DBG_MEM_ADDR).toNat (u.reg DBG_MEM_DATA)) := by
  rw [State.memCommand, hgo, hw, hs]
  dsimp only
  rw [decide_eq_false (Nat.not_lt.2 hl)]
  rfl

end

/-- The offset an access of the debug port names (R467). -/
def debugOffset (dr : BitVec 64) : Nat := 0x400000 + 4 * bits (dr.setWidth 32) 2 20

theorem islandOf_debugOffset (dr : BitVec 64) : islandOf (debugOffset dr) = 2 := by
  have h : ∀ k, k ≤ 0x400000 → ¬ debugOffset dr < k := by
    intro k hk
    unfold debugOffset
    omega
  have hdec : debugOffset dr ≠ PND_DEC_STAT := by
    unfold debugOffset PND_DEC_STAT
    omega
  rw [islandOf, if_neg (h _ (by decide)), if_neg (h _ (by decide)), if_neg (h _ (by decide)), if_neg (h _ (by decide)), if_neg hdec,
    if_neg (h _ (by decide)), if_neg (h _ (by decide)), if_neg (h _ (by decide)), if_neg (h _ (by decide)), if_neg (h _ (by decide)),
    if_neg (h _ (by decide)), if_neg (h _ (by decide)), if_neg (h _ (by decide)), if_neg (h _ (by decide))]

/-- The state in which the access of an instruction DBG_ACCESS is made. -/
def State.accessing (s : State) : State := { s with dbg := { s.dbg with tap := .dbgAccess, scan := false } }

/-- What an access captures: its word, with the acknowledge and whether it was refused (R468). -/
def State.accessCaptured (s : State) (w : Word) (refused : Bool) : State :=
  { s with dbg := { s.dbg with capture := (w ++ BitVec.ofNat 32 (1 + 2 * bit refused) : BitVec 64) } }

section
variable {s : State} {dr : BitVec 64} (h : s.dbg.scan = false)
include h

theorem State.loadTap_dbgAccess : s.loadTap .dbgAccess = s.accessing := State.loadTap_noScan h _

theorem State.debugAccess_eq :
    s.debugAccess dr =
      let u := s.accessing
      let off := debugOffset dr
      let refused := u.runs 2 && (rowOf off).isSome && !u.debugReaches off (dr.getLsbD 1)
      if !dr.getLsbD 0 then u
      else if dr.getLsbD 1 then
        let t := u.busWrite .debug off ((dr >>> 32).setWidth 32) 0 (u.sameCycle off)
        t.draw.2.accessCaptured (t.draw.1.setWidth 32) refused
      else (u.hostRead .debug off).2.accessCaptured ((u.hostRead .debug off).1.getD 0) refused := by
  rw [State.debugAccess, State.loadTap_dbgAccess h]
  rfl

end

theorem State.debugReaches_accessing (s : State) (off : Nat) (w : Bool) : s.accessing.debugReaches off w = s.debugReaches off w := rfl

theorem State.runs_accessing (s : State) (i : Nat) : s.accessing.runs i = s.runs i := rfl

theorem State.lands_accessing {s : State} {off : Nat} (h : s.Lands .debug off) : s.accessing.Lands .debug off := h

section
variable {s : State} {dr : BitVec 64} (h : s.dbg.scan = false)
include h

theorem State.debugAccess_none (hgo : dr.getLsbD 0 = false) : s.debugAccess dr = s.accessing := by
  rw [State.debugAccess_eq h, hgo]
  rfl

section
variable (hgo : dr.getLsbD 0 = true)
include hgo

/-- A read at the register's level (R467). -/
theorem State.debugAccess_reads (hrd : dr.getLsbD 1 = false) (hrow : (rowOf (debugOffset dr)).isSome = true)
    (hr : s.runs (islandOf (debugOffset dr)) = true) (hd : s.debugReaches (debugOffset dr) false = true) :
    s.debugAccess dr =
      (s.accessing.readReg (debugOffset dr)).2.accessCaptured (s.accessing.readReg (debugOffset dr)).1 false := by
  have hread : s.accessing.hostRead .debug (debugOffset dr) =
      (some (s.accessing.readReg (debugOffset dr)).1, (s.accessing.readReg (debugOffset dr)).2) :=
    State.hostRead_reads rfl hrow rfl hr hd
  rw [State.debugAccess_eq h, hgo, hrd]
  dsimp only
  rw [hread, State.debugReaches_accessing, hd, Bool.not_true, Bool.and_false]
  rfl

/-- A write at the register's level (R467). -/
theorem State.debugAccess_writes (hwr : dr.getLsbD 1 = true) (hl : s.Lands .debug (debugOffset dr)) :
    s.debugAccess dr =
      let u := s.accessing
      let w := (u.writeAny .debug (debugOffset dr) ((dr >>> 32).setWidth 32) 0 (u.sameCycle (debugOffset dr))).draw
      w.2.accessCaptured (w.1.setWidth 32) false := by
  obtain ⟨-, -, -, -, -, hd⟩ := id hl
  have hwrite := State.hostWrite_lands (State.lands_accessing hl) fun u =>
    u.writeAny .debug (debugOffset dr) ((dr >>> 32).setWidth 32) 0 (s.accessing.sameCycle (debugOffset dr))
  rw [State.debugAccess_eq h, hgo, hwr]
  dsimp only
  rw [State.busWrite, hwrite, State.debugReaches_accessing, hd, Bool.not_true, Bool.and_false]
  rfl

/-- A read below the register's level is refused, and captures no word (R468). -/
theorem State.debugAccess_refused (hrd : dr.getLsbD 1 = false) (hrow : (rowOf (debugOffset dr)).isSome = true)
    (hr : s.runs 2 = true) (hd : s.debugReaches (debugOffset dr) false = false) :
    s.debugAccess dr = s.accessing.accessCaptured 0 true := by
  have hread : s.accessing.hostRead .debug (debugOffset dr) = (some 0, s.accessing) := by
    have hisland : s.accessing.runs (islandOf (debugOffset dr)) = true := by rw [islandOf_debugOffset, State.runs_accessing, hr]
    simp [State.hostRead, State.reaches, State.keeperRights, Option.isNone_eq_false_iff.2 hrow, hisland,
      State.debugReaches_accessing, hd]
  rw [State.debugAccess_eq h, hgo, hrd]
  dsimp only
  rw [hread, State.debugReaches_accessing, hd, State.runs_accessing, hr, hrow]
  rfl

end

end

/-! ## The statement on the debug port (R467 to R472) -/

section
variable {s : State} (hl : s.Lands .debug DBG_CTL)
include hl

theorem exec_dbgLock_lands : exec .dbgLock s = s.done s.lockDebug := congrArg s.done (State.hostWrite_lands hl _)

theorem exec_newChal_lands : exec .newChal s = s.done s.newChallenge := congrArg s.done (State.hostWrite_lands hl _)

theorem exec_submit_lands (level : BitVec 2) (key : Bool) : exec (.submit level key) s = s.done (s.submit level.toNat (bit key)) :=
  congrArg s.done (State.hostWrite_lands hl _)

/-- What a response to a challenge that stands leaves (R469, R470). -/
theorem completes_submit (level : BitVec 2) (key : Bool) (hv : s.flag DBG_STAT_CHAL_VALID = true)
    (ht : s.cycle < s.since .challenge + 8000000000) :
    let ok := Config.verifies (s.debugKeyDigest (bit key)) (sha384 (s.challengeBytes level.toNat (bit key))) s.responseBytes
    Completes (.submit level key) s fun t => t.flag DBG_STAT_CHAL_VALID = false
      ∧ (ok = true → level.toNat = 1 ∨ level.toNat = 2 → t.get DBG_STAT_LEVEL = level.toNat)
      ∧ (ok = false ∨ level.toNat = 0 ∨ level.toNat = 3 →
          exec (.submit level key) s = s.done (s.putFlag DBG_STAT_CHAL_VALID false).unlockFails) := by
  intro ok
  have hpasses : s.submitPasses level.toNat (bit key) = ((decide (level.toNat = 1) || decide (level.toNat = 2)) && ok) := by
    rw [State.submitPasses, hv, decide_eq_true ht, Bool.true_and, Bool.true_and]
  refine completes_of_done (exec_submit_lands hl level key) ⟨?valid, fun hok hlevel => ?passes, fun hfails => ?fails⟩
  case valid => rw [State.flag_afterGate _ _ _ (by decide), State.flag_chalValid_submit]
  case passes =>
    have hp : s.submitPasses level.toNat (bit key) = true := by
      rw [hpasses, hok, ← Bool.decide_or, decide_eq_true hlevel]
      rfl
    rw [State.get_afterGate _ _ _ (by decide), State.submit_eq, if_pos hp, State.get_level_setLevel]
    exact Nat.mod_eq_of_lt level.isLt
  case fails =>
    have hp : ¬ s.submitPasses level.toNat (bit key) = true := by
      rw [hpasses, Bool.and_eq_true, Bool.or_eq_true, decide_eq_true_iff, decide_eq_true_iff]
      rintro ⟨hlevel, hok⟩
      rcases hfails with hf | hf
      case inl => exact Bool.false_ne_true (hf.symm.trans hok)
      case inr => omega
    exact (exec_submit_lands hl level key).trans (congrArg s.done ((State.submit_eq ..).trans (if_neg hp)))

end

/-- Settles O60: each command by its equation, or by what it leaves of DBG_STAT and of the pair. -/
theorem debugCommandsComplete : Obligations.DebugCommandsComplete := by
  refine ⟨fun s hl hn => ?lock, fun s hl h0 => ?locked, fun s hl hf => ?challenge, fun s level key hl hv ht => ?submit,
    fun s hv => congrArg s.done (if_pos hv), fun s p pc hl hm hh => ?halt, fun s p pc hl hm => ?step, fun s p hl hh => ?resume,
    fun s p i hr he hlevel hh hm => ?breakpoint, fun s p i w a pc hr he hlo hhi hk hlevel hh hm => ?watchpoint,
    fun s v w hl hgo hw hs => ⟨?memRead, ?memRefused⟩, fun s v w hl hgo hw hs hlevel => ?memWrite,
    fun s dr h hgo => congrArg s.done (State.debugAccess_none h hgo), ?read, ?write, ?refused⟩
  case lock => exact (exec_dbgLock_lands hl).trans (congrArg s.done (if_neg hn))
  case locked => exact (exec_dbgLock_lands hl).trans (congrArg s.done (if_pos h0))
  case challenge =>
    refine completes_of_done (exec_newChal_lands hl) ?_
    rw [State.flag_afterGate _ _ _ (by decide), State.flag_chalValid_newChallenge s hf]
  case submit => exact completes_submit hl level key hv ht
  case halt =>
    exact completes_haltPair (by decide) (congrArg s.done ((State.hostWrite_lands hl _).trans (State.requestHalt_halts hm hh pc)))
  case step =>
    exact completes_haltPair (by decide) (congrArg s.done ((State.hostWrite_lands hl _).trans (State.requestStep_steps hm pc)))
  case resume =>
    exact congrArg s.done ((State.hostWrite_lands hl _).trans (congrArg State.fetchAll (State.resumePair_runs hh)))
  case breakpoint => exact congrArg s.done ((State.breakpoint_reached hr he).trans (State.debugHit_halts hlevel hh hm _ _ _))
  case watchpoint =>
    exact congrArg s.done ((State.watchpoint_inside hr he hlo hhi hk pc).trans (State.debugHit_halts hlevel hh hm _ _ _))
  case memRead => exact congrArg s.done ((State.hostWrite_lands hl _).trans (State.memCommand_read hgo hw hs w true))
  case memRefused => exact congrArg s.done ((State.hostWrite_lands hl _).trans (State.memCommand_read hgo hw hs w false))
  case memWrite => exact congrArg s.done ((State.hostWrite_lands hl _).trans (State.memCommand_write hgo hw hs hlevel w))
  case read =>
    intro s dr off u r h hgo hrd hrow hr hd
    exact congrArg s.done (State.debugAccess_reads h hgo hrd hrow hr hd)
  case write =>
    intro s dr off u w h hgo hwr hl
    exact congrArg s.done (State.debugAccess_writes h hgo hwr hl)
  case refused =>
    intro s dr off u h hgo hrd hrow hr hd
    exact congrArg s.done (State.debugAccess_refused h hgo hrd hrow hr hd)

end Sys2Proof.Machine
end
